-- ==== Sys2Proof/Word.lean ====
section
/-!
DEFINITION. Word.lean: the plain word types of the device and the two container types of its state.
A `Tab` is a table keyed by a number, kept as a list of pairs with rising keys; the operations on it stand in
`Sys2Proof/Machine/Tab.lean`.
-/
namespace Sys2Proof

/-- One byte. -/
abbrev Byte := BitVec 8
/-- A register of a register block (R10: 32 bits). -/
abbrev Word := BitVec 32
/-- An anvil x register (R240). -/
abbrev DWord := BitVec 64
/-- An anvil v register (R240). -/
abbrev VReg := BitVec 256
/-- A sequence of bytes, first byte first. -/
abbrev Bytes := List (BitVec 8)
/-- A table keyed by a number, keys rising. -/
abbrev Tab (α : Type) := List (Nat × α)

/-- An exact fraction. Times and rates of the discipline loop are kept exactly (R394). -/
structure Frac where
  /-- The numerator. -/
  num : Int
  /-- The denominator, 0 read as 1. -/
  den : Nat
  deriving DecidableEq, Repr

end Sys2Proof
end

