-- ==== Sys2Proof/Syntax.lean ====
section
/-!
DEFINITION. Syntax.lean: the commands of the device, one constructor for each row of spec/opcode_table.json, with the
row's operands. What the world decides (which satellites are seen, whether a tag verifies, what a machine solved) is an
operand (log entry 5).
-/
namespace Sys2Proof

/-- A class 1 datagram of a host as it arrives (R370, R378): the partition it names, the port, its sequence, what the
security block finds (log entry 6), and the command packet's request ID and body. -/
structure HostPkt where
  /-- The partition, 0 to 3. -/
  part : Nat
  /-- It came over the host SPI port (R383). -/
  spi : Bool
  /-- Its tag verifies under a key of the partition. -/
  tagOk : Bool
  /-- That key is the key of a session accepted and not yet taken over (R376). -/
  newKey : Bool
  /-- Its sequence (R370). -/
  seq : Nat
  /-- The request ID. -/
  req : Nat
  /-- The body. -/
  body : List (BitVec 8)
  deriving DecidableEq, Repr

/-- A class 0 datagram of a machine as it arrives (R370): its source node, sequence, the verdict on its tag, the key
slot the tag was checked under, the TB0 instant at which its last byte passed the port (R369) and its payload. -/
structure MachPkt where
  /-- The source node. -/
  node : Nat
  /-- Its sequence. -/
  seq : Nat
  /-- Its tag verifies. -/
  tagOk : Bool
  /-- The ingress stamp, TB0 time in ns. -/
  stamp : Nat
  /-- The payload. -/
  body : List (BitVec 8)
  deriving DecidableEq, Repr


/-- One observable of an epoch, as R35 and R40 define it: what a tracking channel measures. -/
structure Sig where
  /-- The port. -/
  port : Nat
  /-- The signal code of R30. -/
  code : Nat
  /-- The satellite, as byte 1 of R40. -/
  sat : Nat
  /-- GLONASS k + 8, or 0. -/
  glo : Nat
  /-- Elevation, 0.1 degree. -/
  elev : Nat
  /-- Azimuth, clockwise from north, 0.1 degree. -/
  az : Nat
  /-- Pseudorange, 2^-16 m. -/
  pr : Nat
  /-- Carrier phase, 2^-20 cycles. -/
  phase : Int
  /-- Doppler, 2^-8 Hz. -/
  doppler : Int
  /-- C/N0, 0.01 dB-Hz. -/
  cn0 : Nat
  /-- Half-cycle ambiguity resolved. -/
  half : Bool
  /-- Cycle slip since the previous epoch. -/
  slip : Bool
  /-- No valid carrier phase. -/
  codeOnly : Bool
  /-- Lock time, ms. -/
  lock : Nat
  deriving DecidableEq, Repr

/-- A double difference on the baseline of ports i and j: observed minus predicted (R43), in 2^-20 cycles, and the
signal's wavelength in micrometres. -/
structure DoubleDiff where
  /-- The lower port. -/
  i : Nat
  /-- The higher port. -/
  j : Nat
  /-- The signal code. -/
  code : Nat
  /-- The satellite. -/
  sat : Nat
  /-- Observed minus predicted, 2^-20 cycles. -/
  dd : Int
  /-- The wavelength, micrometres. -/
  lam : Nat
  deriving DecidableEq, Repr

/-- A single-point solution (R49, R393): how many satellites it uses, the position in 0.1 mm, the clock residual (GNSS
time minus TB0) in ps and the clock drift in 1e-15, GPS time of week in ms and week. -/
structure Fix where
  /-- Satellites used. -/
  sats : Nat
  /-- ECEF X, Y and Z, 0.1 mm. -/
  pos : Int × Int × Int
  /-- The clock residual, ps. -/
  resid : Int
  /-- The clock drift, 1e-15. -/
  drift : Int
  /-- GPS time of week, ms. -/
  tow : Nat
  /-- GPS week. -/
  week : Nat
  deriving DecidableEq, Repr

/-- What the engine measures and solves at an epoch. -/
structure EpochObs where
  /-- The observables of every signal found on every port. -/
  sigs : List Sig
  /-- The double differences of R43. -/
  dds : List DoubleDiff
  /-- The single-point solution, if there is one. -/
  fix : Option Fix
  /-- The survey's horizontal and vertical sigma so far, 0.1 mm (R50). -/
  sigma : Nat × Nat
  deriving DecidableEq, Repr


/-- What a measurement update finds for one entry of a frame (R85 to R87, R96): the satellite and signal, whether its
phase residual exceeds 4 sigma, its sky bin seen from the machine (elevation bin 0 to 17, azimuth bin 0 to 71) and its
normalised phase residual as a fraction. -/
structure SignalFit where
  /-- The signal code. -/
  code : Nat
  /-- The satellite. -/
  sat : Nat
  /-- Its phase residual exceeds 4 sigma. -/
  big : Bool
  /-- The elevation bin. -/
  eb : Nat
  /-- The azimuth bin. -/
  ab : Nat
  /-- The numerator of r. -/
  num : Nat
  /-- The denominator of r. -/
  den : Nat
  deriving DecidableEq, Repr

/-- What the filter's numerics give in one measurement update (log entry 5): common satellites, whether the code residual
RMS exceeds 10 sigma, the ratios (0.1) found by the successive searches of R87, the ambiguities that may be fixed, the
new state, and the signals used. -/
structure SolveOut where
  /-- The predicted range of each entry, by satellite and signal, in 2^-20 m (R78). -/
  hats : List (Nat × Int)
  /-- Satellites common to machine and base. -/
  common : Nat
  /-- Common satellites with valid phase. -/
  phased : Nat
  /-- The code residual RMS exceeds 10 times its sigma (R90). -/
  badFit : Bool
  /-- Ratios of the searches, in 0.1: all ambiguities, then after each drop. -/
  ratios : List Nat
  /-- The keys of the ambiguities in the order in which R87 drops them, the last kept longest. -/
  ambs : List Nat
  /-- The machine lies more than 10 km from the active reference ARP. -/
  far : Bool
  /-- East, north, up, mm. -/
  pos : List Int
  /-- Velocity, mm/s. -/
  vel : List Int
  /-- Sigma east, north, up in mm, and the three correlations times 127. -/
  cov : List Int
  /-- The signals used. -/
  sigs : List SignalFit
  deriving DecidableEq, Repr

/-- A signal as the base sees it: its key and its sky bin from the active reference ARP (R97). -/
structure BaseSky where
  /-- The signal code. -/
  code : Nat
  /-- The satellite. -/
  sat : Nat
  /-- The elevation bin. -/
  eb : Nat
  /-- The azimuth bin. -/
  ab : Nat
  deriving DecidableEq, Repr



/-- Where an anvil operation issues and under which guard (R220, R244): the anvil, its register set (0 static, 1 to 4 C0
to C3), PN and PG, and whether a bit of its word that the format reserves is set (R246). -/
structure Iss where
  /-- The anvil, 0 to 63. -/
  anvil : Nat
  /-- The register set. -/
  set : Nat
  /-- PN. -/
  pn : Bool
  /-- PG. -/
  pg : Nat
  /-- A reserved bit of the word is 1. -/
  rsv : Bool
  deriving DecidableEq, Repr


/-- A MAC frame as it arrives on a radio port, or as a relay forwards a child's (R347 to R349, R362). -/
structure Mpdu where
  /-- It needs no feature that R347 leaves unimplemented. -/
  feature : Bool
  /-- The destination: 0 none, 1 a short address, 2 an extended address. -/
  dst : Nat
  /-- The destination PAN ID. -/
  dstPan : Nat
  /-- The destination address. -/
  dstAddr : Nat
  /-- The source PAN ID. -/
  srcPan : Nat
  /-- The source's short address, 0xFFFF for an extended one. -/
  src : Nat
  /-- The source's extended address, where the frame carries one. -/
  eui : Nat
  /-- It is secured. -/
  secured : Bool
  /-- The key slot that its key index names. -/
  slot : Nat
  /-- Its frame counter. -/
  ctr : Nat
  /-- Its MIC verifies under that slot (log entry 6). -/
  mic : Bool
  /-- It asks for an acknowledgement. -/
  ackReq : Bool
  /-- Its frame version is 0b10. -/
  v2 : Bool
  /-- The payload, in clear. -/
  body : List (BitVec 8)
  deriving DecidableEq, Repr

/-- A frame received on a radio port (R345 to R350). -/
structure RxFrame where
  /-- The port. -/
  port : Nat
  /-- The TB0 instant of its SFD, ns. -/
  sfd : Nat
  /-- The TB0 instant of its end, ns. -/
  fin : Nat
  /-- Its FCS is valid. -/
  fcs : Bool
  /-- RSSI, s8 as its byte. -/
  rssi : Nat
  /-- LQI. -/
  lqi : Nat
  /-- The frame. -/
  mpdu : Mpdu
  /-- The child's frame that a relay envelope 0xA6 in its payload carries. -/
  child : Option Mpdu
  deriving DecidableEq, Repr


/-- What the signal chain gives for one phase at one sample (R410): the one-cycle means and rms values. -/
structure MeterSample where
  /-- P_s, µW. -/
  p : Int
  /-- Q_s, µvar. -/
  q : Int
  /-- S_s, µVA. -/
  s : Nat
  /-- I_rms, µA. -/
  irms : Nat
  /-- The magnitude of the current sample, µA. -/
  peak : Nat
  deriving DecidableEq, Repr


/-- A class 5 datagram of the pair peer as it arrives (R449, R457): the rank in its byte 12 (away is true), its
sequence, the verdict on its tag, and its payload. -/
structure PeerPkt where
  /-- The rank in byte 12: away. -/
  rank : Bool
  /-- Its sequence. -/
  seq : Nat
  /-- Its tag verifies under the pair key. -/
  tagOk : Bool
  /-- The payload. -/
  body : List (BitVec 8)
  deriving DecidableEq, Repr

/-- A state mirror as the standby holds it at the end of its datagrams (R458): whether every fragment up to LAST was
accepted, the number of datagrams accepted and the sequence of the last of them, the fields of the mirror's header, and
its sections, each with its type and its records. -/
structure MirrorIn where
  /-- Every fragment up to LAST is present. -/
  complete : Bool
  /-- Datagrams accepted. -/
  frags : Nat
  /-- The datagram sequence of the last of them. -/
  last : Nat
  /-- The mirror sequence. -/
  seq : Nat
  /-- SWEEP. -/
  sweep : Bool
  /-- SWEEP_END. -/
  sweepEnd : Bool
  /-- The sections. -/
  secs : List (Nat × List (List (BitVec 8)))
  deriving DecidableEq, Repr


/-- Where an update command comes from (R478): a partition's command packet, or a command of the service port with its
request ID and body. -/
inductive UpdFrom where
  /-- A partition. -/
  | host (h : HostPkt)
  /-- The service port. -/
  | svc (req : Nat) (body : List (BitVec 8))
  deriving DecidableEq, Repr

/-- What a start finds (R476, R497): the levels and the world around it. -/
structure StartIn where
  /-- SVC_BOOT. -/
  svcBoot : Bool
  /-- The rank strap: away. -/
  away : Bool
  /-- The nominal frequency that the count of REF_CLK_IN matches: 0 10 MHz, 1 20 MHz, 2 26 MHz. -/
  ref : Option Nat
  /-- VBAT held since the last start. -/
  vbat : Bool
  /-- The check word of the root key does not match (R426). -/
  rootBad : Bool
  /-- The kinds of the active set whose signatures and body hash verify. -/
  active : List Nat
  /-- The kinds of the known-good set that do. -/
  known : List Nat
  /-- The anvils that fail their self-test (R238). -/
  failing : List Nat
  deriving DecidableEq, Repr



/-- The commands. -/
inductive Instr where
  /-- REGISTER_WRITE (R9): A write to a register that has no row of its own sets its fields under the access codes
  of R11; a reserved encoding leaves the field unchanged and writes a fault record. Operands: the 40-bit
  physical address, the bits that the hardware sets in that cycle, and the word written, by the warden (R508). -/
  | registerWrite (addr set value : Nat)
  /-- MISALIGNED_ACCESS (R10): A register access that is not an aligned 32-bit access has no effect on a write,
  returns 0 on a read, and writes a fault record. Operands: the address, the access's bytes and whether it is a
  write. -/
  | misalignedAccess (addr len : Nat) (wr : Bool)
  /-- RC_READ (R11): A read of an RC register returns its value and then clears it, unless a hardware set falls in
  the same cycle. Operands: the 40-bit physical address, and the bits that the hardware sets in that cycle; read
  by the warden. -/
  | rcRead (addr set : Nat)
  /-- LOW_WORD_READ (R12): A read of the low word of a 64-bit register pair latches the high word for the next read.
  Operands: the 40-bit physical address of a register, read by the warden. -/
  | lowWordRead (addr : Nat)
  /-- HEAT_START (R15): A heat boundary on TB0 advances the heat counter and applies the changes, packets and state
  moves that the manual times to the heat boundary. Operands: bit p: the clock of FE p measures within its
  bounds (R27). -/
  | heatStart (feOk : Nat)
  /-- STROKE_START (R15): A stroke start frees and advances reservations, writes reserved predecessors, applies the
  pause, and sends the pair heartbeat. -/
  | strokeStart
  /-- FOLD_COMPLETE (R145): The fold ends, and queries and holds that waited on it are served. -/
  | foldComplete
  /-- TB0_VALID (R393): The first usable epoch solution sets TB0, makes it valid and locked, and starts admission
  and heat timing from the next heat start. Operands: the solution applied, and the TB0 time that makes its
  epoch's residual 0, at the present instant, ns; the integrity checks of slot 10, as INTERVAL_CLOSE's. -/
  | tb0Valid (f : Fix) (time : Nat) (tags : List Nat)
  /-- MEASUREMENT_EPOCH (R33): At an epoch instant, the GNSS engine measures on all enabled ports, checks the array
  and writes the epoch packet. Operands: what the engine measures and solves. -/
  | measurementEpoch (o : EpochObs)
  /-- SPOOF_ALARM_CLEAR (R45): SPOOF_MIN consecutive epochs below the threshold end the spoof alarm. -/
  | spoofAlarmClear
  /-- PORT_DISPLACED (R46): A port whose signals are MP for DISP_EPOCHS consecutive epochs is marked displaced and
  left out of the array check. Operands: the port. -/
  | portDisplaced (p : Nat)
  /-- SIGNAL_ACQUIRED (R32): An FFT acquisition unit finds an unassigned signal. Operands: the port, the signal code
  and the satellite. -/
  | signalAcquired (p code sat : Nat)
  /-- LOAD (R48): GNS_REF_CMD.LOAD makes the written reference position active at the next heat boundary and aborts
  a running survey. -/
  | load
  /-- REF_POSITION_CHECK (R49): A loaded or restored reference position is compared with the single-point solution
  once one exists. -/
  | refPositionCheck
  /-- SURVEY_START (R50): GNS_REF_CMD.SURVEY_START begins a self-survey of the origin. -/
  | surveyStart
  /-- SURVEY_ABORT (R51): GNS_REF_CMD.SURVEY_ABORT ends the survey as ABORTED before the commit point, or as LATE
  after it. -/
  | surveyAbort
  /-- SURVEY_COMMIT (R50): The survey reaches its duration or target and commits its result at the heat boundary.
  Operands: the survey's result, ECEF, 0.1 mm. -/
  | surveyCommit (x y z : Int)
  /-- CORR_PROFILE (R58): A correction profile is checked and accepted for the next heat boundary, or rejected. -/
  | corrProfile (h : HostPkt)
  /-- CORR_STATUS (R72): Returns the correction status record, and clears its counts when asked. -/
  | corrStatus (h : HostPkt)
  /-- CORRECTION_SET (R61): The stock schedule builds the heat's set of RTCM messages and sends it in signed
  envelopes on the data link. Operands: the integrity check of slot 11 (R434): 0 a match, 1 a mismatch that a
  re-read clears, 2 a lasting one. -/
  | correctionSet (tag : Nat)
  /-- RADIO_FRAGMENT (R62): A correction fragment starts on a radio port within the heat's fragment budget and
  airtime bound. Operands: the port, the TB0 instant of its start and its time on air in ns; the channel was
  found clear (R354); the integrity check of slot 11, as CORRECTION_SET's. -/
  | radioFragment (p start air : Nat) (clear : Bool) (tag : Nat)
  /-- BROADCAST_KEY_GENERATE (R69): The device generates the next broadcast key at least 60 s before it takes over. -/
  | broadcastKeyGenerate
  /-- BROADCAST_KEY_ROLL (R69): A new broadcast key takes over at its scheduled heat start. -/
  | broadcastKeyRoll
  /-- KEY_ANNOUNCEMENT (R70): A signed key announcement goes out after the set in its due heat. Operands: the time
  on air in ns on a radio port; the integrity check of the signing key's slot. -/
  | keyAnnouncement (air tag : Nat)
  /-- SOLVE_ENROL (R74): Enrols, changes or withdraws a machine for central solving, subject to the slot test of
  R75. -/
  | solveEnrol (h : HostPkt)
  /-- SOLVER_PROFILE (R99): Accepts or rejects a solver profile, and may reset filters or clear the atlas. -/
  | solverProfile (h : HostPkt)
  /-- SOLVER_STATUS (R100): Returns the solver status record, and clears its counts when asked. -/
  | solverStatus (h : HostPkt)
  /-- ATLAS_READ (R98): Returns the 1,296 bytes of one atlas cell. -/
  | atlasRead (h : HostPkt)
  /-- ATLAS_WRITE (R98): Writes one atlas cell at the end of the heat. -/
  | atlasWrite (h : HostPkt)
  /-- ATLAS_CLEAR (R98): Clears every atlas cell to 255 at the end of the heat. -/
  | atlasClear (h : HostPkt)
  /-- OBSERVATION_FRAME (R83): A machine observation frame is stamped, checked for acceptance and queued as on time
  or late. -/
  | observationFrame (m : MachPkt)
  /-- POSITION_REPORT (R373): A machine's position report is accepted for publication in the heat it belongs to. -/
  | positionReport (m : MachPkt)
  /-- CENTRAL_SOLVE (R85): One solve slot runs a machine's measurement update and ambiguity fixing. Operands: the
  machine, and what its filter's numerics give. -/
  | centralSolve (m : Nat) (o : SolveOut)
  /-- CATCH_UP_UPDATE (R84): A late frame is applied as a catch-up update in strokes 8 and 9. Operands: what the
  numerics give for the oldest late frame. -/
  | catchUpUpdate (o : SolveOut)
  /-- FILTER_RESET (R90): A machine's filter resets to none after PRED_LIMIT due heats without a measurement update.
  Operands: the machine. -/
  | filterReset (m : Nat)
  /-- POSITIONS_PUBLISHED (R93): The heat's solution records are written to the fleet table and the partitions'
  solution queues. -/
  | positionsPublished
  /-- ATLAS_EVIDENCE (R96): A heat's evidence values are blended into the atlas bins. Operands: the signals as the
  base sees them, and the base cell. -/
  | atlasEvidence (sky : List BaseSky) (cell : Option Nat)
  /-- MACHINE_ADMIT (R109): Admits a machine number as LISTED with the sender as owner. -/
  | machineAdmit (h : HostPkt)
  /-- MACHINE_RELEASE (R109): Sends a machine into LEAVING. -/
  | machineRelease (h : HostPkt)
  /-- OWNER_OFFER (R109): Opens a 10 s ownership transfer to a target partition. -/
  | ownerOffer (h : HostPkt)
  /-- OWNER_ACCEPT (R111): Completes an open transfer at the next heat boundary. -/
  | ownerAccept (h : HostPkt)
  /-- TRANSFER_EXPIRY (R109): An open transfer that no one accepts closes after 10 s. Operands: the machine. -/
  | transferExpiry (m : Nat)
  /-- READ_GRANT (R109): Replaces a machine's read-grant mask. -/
  | readGrant (h : HostPkt)
  /-- NODE_READ (R109): Returns a node record. -/
  | nodeRead (h : HostPkt)
  /-- MACHINE_READ (R109): Returns fleet-table bytes 0–335 of a machine. -/
  | machineRead (h : HostPkt)
  /-- NODE_ALLOW (R116): Posts an EUI-64 that may join a PAN under the listed policy. -/
  | nodeAllow (h : HostPkt)
  /-- FLEET_CFG (R119): Sets silent heats, node timeout and per-PAN join policy and sensor owner. -/
  | fleetCfg (h : HostPkt)
  /-- FLEET_STATUS (R120): Returns device-wide fleet and node counts. -/
  | fleetStatus (h : HostPkt)
  /-- HELLO (R113): A machine hello is checked under its admitted key slot and leads to binding or a PAN move. -/
  | hello (m : MachPkt)
  /-- SILENT (R105): An entry unheard for the silent heats turns SILENT, and its owner and readers get an event.
  Operands: the machine. -/
  | silent (m : Nat)
  /-- LEAVING_COMPLETE (R106): After three samples with allowance 0, a LEAVING entry becomes FREE and its short
  address is freed. Operands: the machine. -/
  | leavingComplete (m : Nat)
  /-- NODE_TIMEOUT (R116): A node unheard for the node timeout goes to leaving and is freed at the next heat
  boundary. Operands: the node number. -/
  | nodeTimeout (n : Nat)
  /-- QUARANTINE_EXPIRY (R102): A freed short address leaves quarantine after 3,600 s. Operands: the node number. -/
  | quarantineExpiry (n : Nat)
  /-- GRAPH_WRITE (R124): Writes a segment or junction record at the next heat boundary, refused IN_USE for
  structural changes under entries. -/
  | graphWrite (h : HostPkt)
  /-- GRAPH_CHECK (R379): A GRAPH_CHECK command packet runs the graph checks at the next heat boundary and returns
  the result. -/
  | graphCheck (h : HostPkt)
  /-- RSV_GRAPH_CHECK (R125): RSV_CTRL.GRAPH_CHECK runs the graph checks and sets GRAPH_OK or GRAPH_ERR. Operands:
  the word the warden writes to RSV_CTRL, with GRAPH_CHECK 1. -/
  | rsvGraphCheck (value : Nat)
  /-- RSV_DISABLE (R147): Changing RSV_CTRL.ENABLE from 1 to 0 frees every entry and makes store operations answer
  BUSY. Operands: the word the warden writes to RSV_CTRL, with ENABLE 0. -/
  | rsvDisable (value : Nat)
  /-- ROUTE_REQUEST (R139): Asks the stock planner for a route for an owned machine. -/
  | routeRequest (h : HostPkt)
  /-- ROUTE_COMMIT (R133): Commits a hold, freeing the machine's replaced committed entries in one store operation. -/
  | routeCommit (h : HostPkt)
  /-- ROUTE_ABANDON (R134): Aborts a hold before commit, or is answered LATE or NOT_FOUND. -/
  | routeAbandon (h : HostPkt)
  /-- ROUTE_PLAN (R140): The stock planner searches, holds and usually commits a route for a request of the previous
  heat, and answers it. -/
  | routePlan
  /-- HOLD_EXPIRY (R132): A hold expires at the start of the second heat after it was made, freeing its entries.
  Operands: the machine that holds. -/
  | holdExpiry (m : Nat)
  /-- OVERSTAY_REPLAN (R136): The planner re-plans an overstaying machine from the end of its current entry and
  reports the outcome. Operands: the machine. -/
  | overstayReplan (m : Nat)
  /-- PAUSE_SAT (R146): When the pause offset reaches the pause limit, all but each machine's current entry are
  freed. -/
  | pauseSat
  /-- TASK_POST (R149): Posts a task record and returns its task number. -/
  | taskPost (h : HostPkt)
  /-- TASK_CANCEL (R160): Cancels a task before its DONE report, or is answered LATE or NOT_FOUND. -/
  | taskCancel (h : HostPkt)
  /-- AUCTION_NOW (R155): Requests an auction in the following heat. -/
  | auctionNow (h : HostPkt)
  /-- ALLOT_PROFILE (R163): Sets the auction and energy-planner profile. -/
  | allotProfile (h : HostPkt)
  /-- DOCK_CFG (R164): Configures one dock. -/
  | dockCfg (h : HostPkt)
  /-- SITE_LOAD (R165): Supplies the site's non-dock load to the energy planner. -/
  | siteLoad (h : HostPkt)
  /-- TASK_REPORT (R153): A machine's task or battery report is applied at the following heat boundary. -/
  | taskReport (m : MachPkt)
  /-- AUCTION (R155): The auction offers OPEN tasks, collects bids and awards each task to the lowest cost. -/
  | auction
  /-- ENERGY_PLANNER (R166): The energy planner computes dock setpoints and sends changed ones. -/
  | energyPlanner
  /-- TASK_EXPIRY (R154): An OPEN task whose deadline heat has begun becomes EXPIRED. Operands: the task. -/
  | taskExpiry (t : Nat)
  /-- EXCLUSION_EXPIRY (R159): A machine's exclusion from a task after NO_ROUTE ends after 10 heats. Operands: the
  task and the machine. -/
  | exclusionExpiry (t m : Nat)
  /-- BATTERY_STALE (R153): A machine whose battery report is more than 300 heats old is marked BATTERY_STALE.
  Operands: the machine. -/
  | batteryStale (m : Nat)
  /-- SITE_LOAD_STALE (R165): A site-load value more than 50 heats old zeroes every setpoint and is reported. -/
  | siteLoadStale
  /-- GOVERNOR_SAMPLE (R168): At a governor sample, the governor computes every machine's allowance, sends the
  frames and sends the state mirror. Operands: the sample 0 to 4; the machines whose computation is not complete
  by the sample + 2 ms; state words that fail ECC: machine, state-memory offset, whether the retry fails too;
  whether the engine's frames are out by the sample + 2 ms; the completion time in 100 ns (log entry 5). -/
  | governorSample (k : Nat) (late : List Nat) (ecc : List (Nat × Nat × Bool)) (sent : Bool) (lat : Nat)
  /-- STALE (R178): A missed count that reaches STALE_LIMIT sets STALE and halts the machine. Operands: the machine. -/
  | stale (m : Nat)
  /-- FROZEN (R179): A freeze count that reaches FREEZE_COUNT sets FROZEN. Operands: the machine. -/
  | frozen (m : Nat)
  /-- REGION_CHANGE (R180): A candidate region held for 3 samples becomes the machine's current region. Operands:
  the machine. -/
  | regionChange (m : Nat)
  /-- MACH_FAULT (R191): Three consecutive misses fault a machine and name it to the stop sequencer. Operands: the
  machine. -/
  | machFault (m : Nat)
  /-- ENGINE_FAULT (R192): Three consecutive engine misses raise the governor stop source. -/
  | engineFault
  /-- ZONE_TTL (R189): A monitored zone without a ZONE_STATE for ZONE_TTL samples is read as occupied. Operands: the
  zone. -/
  | zoneTtl (z : Nat)
  /-- GOV_COEF (R183): Writes a record of the inactive coefficient bank. -/
  | govCoef (h : HostPkt)
  /-- GOV_SWAP (R184): Makes the inactive bank active at sample 0 of the next heat. -/
  | govSwap (h : HostPkt)
  /-- GOV_BANK_SWAP (R184): GOV_BANK.SWAP written by the warden makes the inactive bank active at the next sample. -/
  | govBankSwap
  /-- GOV_MACHINE (R188): Sets a machine's governor inputs. -/
  | govMachine (h : HostPkt)
  /-- GOV_OVERRIDE (R188): Sets a machine's host override. -/
  | govOverride (h : HostPkt)
  /-- GOV_READ (R188): Returns a machine's governor inputs and machine state. -/
  | govRead (h : HostPkt)
  /-- ZONE_STATE (R189): Posts a clearance zone's state for the next sample. -/
  | zoneState (h : HostPkt)
  /-- STOP_INPUT_CHANGE (R198): A level change on STOP_INA or STOP_INB starts its filter. Operands: the channel
  (STOP_INB when true) and the pin's new level. -/
  | stopInputChange (chB level : Bool)
  /-- CHANNEL_READING_CHANGE (R198): A stop channel's filtered reading changes after FILT_US, latching PIN when
  asserted. Operands: the channel (STOP_INB when true). -/
  | channelReadingChange (chB : Bool)
  /-- DISCREPANCY (R199): Readings that differ for more than 50 ms set DISC and write a fault record. -/
  | discrepancy
  /-- DISC_CLEAR (R199): Readings equal for 50 ms clear DISC. -/
  | discClear
  /-- STOP_CMD (R213): Latches a host stop for the fleet or adds machines to the stop list. -/
  | stopCmd (h : HostPkt)
  /-- RESUME_CMD (R213): Clears named stop causes for the fleet or machines, where the sender may clear them. -/
  | resumeCmd (h : HostPkt)
  /-- PERMIT_KEY (R202): Names the permit key slot and index for the next heat boundary. -/
  | permitKey (h : HostPkt)
  /-- PERMIT_LATCH (R200): The beacon payload is latched from the sequencer state, and QUIET may end in RUN here. -/
  | permitLatch
  /-- PERMIT_BEACON (R201): The permit beacon is sent on every enabled port, when the gate and sealed frames allow.
  Operands: bit p: port p found its channel clear in time (R354); the time on air in ns. -/
  | permitBeacon (clear air : Nat)
  /-- STOP_FRAME (R208): A STOPPING-phase stop frame is sent on the 10 ms grid. Operands: the port, the TB0 instant
  at which the frame's SHR begins and its time on air, ns. -/
  | stopFrame (p start air : Nat)
  /-- MIN_REPETITION_END (R208): MIN_REP_S after the first frame, STOPPING ends if no cause is latched. -/
  | minRepetitionEnd
  /-- SEAL_AHEAD (R204): The security block completes a stop frame sealed in advance. Operands: the port. -/
  | sealAhead (p : Nat)
  /-- MONITOR_CHECK (R216): At each port's deadline, the own-permit monitor judges whether the heat's permit or stop
  frame was decoded. Operands: bit p: the monitor decoded from port p what R216 asks for by its deadline. -/
  | monitorCheck (good : Nat)
  /-- CLAIM_REFRESH (R451): The stop sequencer refreshes CLAIM_OUT every 1 ms while the unit holds its claim. -/
  | claimRefresh
  /-- CLAIM_DROP (R451): CLAIM_OUT falls within 2 ms of the last refresh. -/
  | claimDrop
  /-- CLAIM_SAMPLE (R455): A ready unit without a claim samples PEER_CLAIM_IN and asserts its claim after enough low
  samples. Operands: `level` is PEER_CLAIM_IN as the sample reads it. -/
  | claimSample (level : Bool)
  /-- CLAIM_CONFLICT (R463): Both claims high for 1 ms latch PAIR. -/
  | claimConflict
  /-- HEARTBEAT (R457): A heartbeat from the bound peer is accepted, and a rank conflict is detected. Operands: the
  datagram. -/
  | heartbeat (p : PeerPkt)
  /-- HB_LOST (R457): Three strokes without an accepted heartbeat clear PEER_SEEN. -/
  | hbLost
  /-- STATE_MIRROR (R459): The standby applies a complete mirror or detects a gap. Operands: the mirror. -/
  | stateMirror (m : MirrorIn)
  /-- FORWARDED_COMMAND (R460): The holder applies a stop or resume forwarded by the standby on NET2. Operands: the
  datagram, and whether it is the holder's answer rather than the command. -/
  | forwardedCommand (p : PeerPkt) (reply : Bool)
  /-- REVERT_REQ (R464): After REVERT_HOLD with an unbroken mirror, the home unit requests a revert. -/
  | revertReq
  /-- RELEASE (R465): PAIR_CTRL.RELEASE releases the holder's claim after the next sample-4 mirror, when the peer is
  ready. -/
  | release
  /-- BLOCK_START (R296): A stroke block starts at its declared cycle, and audit marks are set on its input queues.
  Operands: the block ID. -/
  | blockStart (id : Nat)
  /-- OVERRUN (R300): A block reaches its declared count without ENDS and fails. Operands: the anvil. -/
  | overrun (a : Nat)
  /-- RERUN (R302): A failed block is re-run once in the reserve; its outcome is transient or lasting. Operands: the
  anvil. -/
  | rerun (a : Nat)
  /-- FAB_FENCE (R237): The warden writes an anvil's bit in FAB_FENCE_LO or FAB_FENCE_HI to fence it. Operands: the
  anvil whose bit the warden writes. -/
  | fabFence (a : Nat)
  /-- STAND_IN_REMAP (R303): At the first heat boundary at least 5 ms after a fence, the fenced anvil's blocks move
  to their stand-in. Operands: the fenced anvil. -/
  | standInRemap (a : Nat)
  /-- ADMIT (R298): FAB_ADM_CTRL.ADMIT starts the admission checks of the target rung's variant. Operands: the word
  the warden writes to FAB_ADM_CTRL, with ADMIT 1. -/
  | admitVariant (value : Nat)
  /-- VARIANT_START (R298): A variant that passed admission starts at the next heat boundary with its rung change. -/
  | variantStart
  /-- TONGS_REQUEST (R231): The tongs take a READ or WRITE request from a request queue, or reject it. Operands: the
  request queue, 0 to 7. -/
  | tongsRequest (q : Nat)
  /-- TONGS_ABORT (R233): An ABORT request ends a transfer before its commit point, or reports LATE or NOT_FOUND.
  Operands: the request queue; the transfer that runs there has written a byte. -/
  | tongsAbort (q : Nat) (begun : Bool)
  /-- TONGS_COMPLETION (R232): A transfer ends, and its completion record is posted once credit allows. Operands:
  the request queue; what ECC finds (R234, R229): 0 no error, 2 a clean re-read, 3 a lasting fault of LPDDR, 4 a
  lasting fault on the on-die side; the byte of the transfer at which a lasting fault lies. -/
  | tongsCompletion (q ecc row : Nat)
  /-- POWER_GATE_WINDOW (R236): At a window start, a hearth powers down its anvils' logic or skips the window.
  Operands: the hearth. -/
  | powerGateWindow (h : Nat)
  /-- POWER_GATE_END (R236): A hearth powers up and becomes usable at its window's end. Operands: the hearth. -/
  | powerGateEnd (h : Nat)
  /-- NOP (R248): The NOP word occupies its slot and does nothing. Operands: the slot, 0 S0 to 3 M; a bit of [27:0]
  that is 1 makes the word illegal. -/
  | nop (i : Iss) (slot : Nat)
  /-- ALU (R266): A register-register integer ALU operation. Operands: slot S1 rather than S0; the fields of format
  R. -/
  | alu (i : Iss) (s1 : Bool) (fn d a b : Nat)
  /-- ADDI (R253): Adds a sign-extended immediate. Operands: slot S1 rather than S0; the fields of format I. -/
  | addi (i : Iss) (s1 : Bool) (d a imm : Nat)
  /-- ANDI (R253): ANDs a sign-extended immediate. Operands: the fields of format I. -/
  | andi (i : Iss) (d a imm : Nat)
  /-- ORI (R253): ORs a sign-extended immediate. Operands: the fields of format I. -/
  | ori (i : Iss) (d a imm : Nat)
  /-- XORI (R253): XORs a sign-extended immediate. Operands: the fields of format I. -/
  | xori (i : Iss) (d a imm : Nat)
  /-- SHI (R248): Shifts by an immediate amount. Operands: the fields of format I. -/
  | shi (i : Iss) (d a imm : Nat)
  /-- CMP (R252): Compares two registers into a predicate. Operands: the fields of format P. -/
  | cmp (i : Iss) (pd mode a b cond : Nat)
  /-- CMPI (R252): Compares a register with an immediate into a predicate. Operands: the fields of format PI. -/
  | cmpi (i : Iss) (pd mode a cond imm : Nat)
  /-- PLOG (R248): Combines two predicates bitwise. Operands: the fields of format PL. -/
  | plog (i : Iss) (pd pa pb lop : Nat)
  /-- MOVQ (R253): Writes a 16-bit immediate into one quarter of a register. Operands: the quarter 0 to 3 and the
  fields of format W. -/
  | movq (i : Iss) (n d : Nat) (k : Bool) (imm : Nat)
  /-- BR (R254): Branches relative to the program counter. Operands: OFS as its 22 bits. -/
  | br (i : Iss) (ofs : Nat)
  /-- BRL (R254): Branches and writes the return address to x31. Operands: OFS as its 22 bits. -/
  | brl (i : Iss) (ofs : Nat)
  /-- JR (R254): Jumps to the address in a register. -/
  | jr (i : Iss) (a : Nat)
  /-- LOOP (R256): Starts a hardware loop with a count from a register. Operands: the fields of format L. -/
  | loop (i : Iss) (lc a len : Nat)
  /-- LOOPI (R256): Starts a hardware loop with an immediate count. Operands: the fields of format L. -/
  | loopi (i : Iss) (lc count len : Nat)
  /-- MFS (R255): Reads a status register. Operands: the fields of format X. -/
  | mfs (i : Iss) (d sreg : Nat)
  /-- MTS (R255): Writes a status register. Operands: the fields of format X. -/
  | mts (i : Iss) (a sreg : Nat)
  /-- PAD (R258): Adds N − 1 cycles to the static path. Operands: the field N - 1. -/
  | pad (i : Iss) (n : Nat)
  /-- ENDS (R261): Closes the stroke block, and the audit judges it. -/
  | ends (i : Iss)
  /-- MUL (R266): Integer multiply, divide or remainder. Operands: the fields of format R. -/
  | mul (i : Iss) (fn d a b : Nat)
  /-- FOP_D (R267): An FP64 arithmetic operation. Operands: the fields of format R. -/
  | fopD (i : Iss) (fn d a b : Nat)
  /-- FMA_D (R267): An FP64 fused multiply-add. Operands: the fields of format R4. -/
  | fmaD (i : Iss) (fn d a b c : Nat)
  /-- FCVT (R268): Converts between integer and floating-point formats. -/
  | fcvt (i : Iss) (fn d a b : Nat)
  /-- FCMP (R268): Compares two FP64 values into a predicate. Operands: the fields of format P. -/
  | fcmp (i : Iss) (pd mode a b cond : Nat)
  /-- FRND (R268): Rounds to an integral FP64 value. -/
  | frnd (i : Iss) (fn d a b : Nat)
  /-- TWOSUM (R269): Exact sum and error of two FP64 values. -/
  | twosum (i : Iss) (d a b : Nat)
  /-- TWOPROD (R269): Exact product and error of two FP64 values. -/
  | twoprod (i : Iss) (d a b : Nat)
  /-- CYCSPLIT (R269): Splits an FP64 value into whole cycles and a fraction. -/
  | cycsplit (i : Iss) (d a b : Nat)
  /-- VOP_I (R266): An INT32 vector operation. -/
  | vopI (i : Iss) (fn d a b : Nat)
  /-- VOP_S (R267): An FP32 vector operation. -/
  | vopS (i : Iss) (fn d a b : Nat)
  /-- VOP_D (R267): An FP64 vector operation. -/
  | vopD (i : Iss) (fn d a b : Nat)
  /-- VFMA_S (R267): An FP32 vector fused multiply-add. -/
  | vfmaS (i : Iss) (fn d a b c : Nat)
  /-- VFMA_D (R267): An FP64 vector fused multiply-add. -/
  | vfmaD (i : Iss) (fn d a b c : Nat)
  /-- VCMP_I (R252): An INT32 vector compare into a predicate. -/
  | vcmpI (i : Iss) (pd mode a b cond : Nat)
  /-- VCMP_S (R268): An FP32 vector compare into a predicate. -/
  | vcmpS (i : Iss) (pd mode a b cond : Nat)
  /-- VCMP_D (R268): An FP64 vector compare into a predicate. -/
  | vcmpD (i : Iss) (pd mode a b cond : Nat)
  /-- VCVT (R270): Converts vector lanes. -/
  | vcvt (i : Iss) (fn d a b : Nat)
  /-- VRED (R270): Reduces the guarded lanes into lane 0. -/
  | vred (i : Iss) (fn d a b : Nat)
  /-- VPERM (R270): Permutes vector lanes. -/
  | vperm (i : Iss) (fn d a b : Nat)
  /-- VBCAST (R270): Broadcasts a scalar to every guarded lane. -/
  | vbcast (i : Iss) (fn d a b : Nat)
  /-- VMOVX (R270): Moves one vector lane to a scalar register. -/
  | vmovx (i : Iss) (fn d a b : Nat)
  /-- VINS (R270): Inserts a scalar into one vector lane. -/
  | vins (i : Iss) (fn d a b : Nat)
  /-- ZRED_GAUSS (R271): An integer Gauss reduction step. -/
  | zredGauss (i : Iss) (d a b : Nat)
  /-- ZRED_SWAP (R272): The adjacent-pair swap test of decorrelation. -/
  | zredSwap (i : Iss) (d a b : Nat)
  /-- ZSRCH_INIT (R273): Starts one level of the zig-zag search. -/
  | zsrchInit (i : Iss) (d a b : Nat)
  /-- ZSRCH_STEP (R273): Takes the next candidate of one search level. -/
  | zsrchStep (i : Iss) (d a b : Nat)
  /-- SCALAR_LOAD (R274): LB to LD load from memory into an x register. Operands: OP 1 to 7 and the fields of format
  I; what ECC finds (R229): 0 no error, 1 one bit, 2 two bits and a clean re-read, 3 a lasting fault. -/
  | scalarLoad (i : Iss) (op d a imm ecc : Nat)
  /-- SCALAR_STORE (R274): SB to SD store from an x register. Operands: OP 8 to 11 and the fields of format S. -/
  | scalarStore (i : Iss) (op src a imm : Nat)
  /-- VLD (R274): Loads 32 bytes into a vector register. Operands: the fields of format I; what ECC finds, as
  SCALAR_LOAD's. -/
  | vld (i : Iss) (d a imm ecc : Nat)
  /-- VST (R274): Stores a vector register under its lane guards. Operands: the fields of format S. -/
  | vst (i : Iss) (src a imm : Nat)
  /-- RESULT_WRITEBACK (R263): An operation's result lands in its destination register after its latency. Operands:
  the anvil, whose cycle ends; what register-file parity finds in it (R237): 0 no error, 1 a clean re-read, 2 a
  lasting fault. -/
  | resultWriteback (a par : Nat)
  /-- QPUSH (R276): Appends granules to the open packet. Operands: the fields of format Q; D is the source. -/
  | qpush (i : Iss) (fn d a qn : Nat) (ind : Bool)
  /-- QSEAL (R276): Closes the open packet and makes it visible. Operands: the fields of format Q. -/
  | qseal (i : Iss) (fn d a qn : Nat) (ind : Bool)
  /-- QPOP (R277): Takes the next granules of the current packet. Operands: the fields of format Q; what parity
  finds in each granule (R326): 0 no error, 1 a clean re-read, 2 a lasting fault. -/
  | qpop (i : Iss) (fn d a qn : Nat) (ind : Bool) (par : List Nat)
  /-- QMARK (R318): Sets the read point. Operands: the fields of format Q. -/
  | qmark (i : Iss) (fn d a qn : Nat) (ind : Bool)
  /-- QRWND (R318): Returns to the read point. Operands: the fields of format Q. -/
  | qrwnd (i : Iss) (fn d a qn : Nat) (ind : Bool)
  /-- QREL (R319): Releases granules up to the current position. Operands: the fields of format Q. -/
  | qrel (i : Iss) (fn d a qn : Nat) (ind : Bool)
  /-- QSTAT (R276): Returns credits, fill or granules left. Operands: the fields of format Q. -/
  | qstat (i : Iss) (fn d a qn : Nat) (ind : Bool)
  /-- RSV_QUERY (R130): Checks a candidate entry against the conflict rule. Operands: the fields of format R. -/
  | rsvQuery (i : Iss) (d a b : Nat)
  /-- RSV_HOLD (R278): Adds one held entry to a machine's hold. Operands: the fields of format R. -/
  | rsvHold (i : Iss) (d a b : Nat)
  /-- RSV_COMMIT (R133): Commits a hold from the fabric. Operands: the fields of format R. -/
  | rsvCommit (i : Iss) (d a b : Nat)
  /-- RSV_ABANDON (R134): Abandons a hold from the fabric. Operands: the fields of format R. -/
  | rsvAbandon (i : Iss) (d a b : Nat)
  /-- GWR (R279): Writes one governor input field through the governor write buffer. Operands: the fields of format
  S. -/
  | gwr (i : Iss) (src a imm : Nat)
  /-- ANVIL_TASK_POST (R330): TASK POST creates a ready task from a descriptor image. Operands: the fields of format
  R. -/
  | anvilTaskPost (i : Iss) (d a b : Nat)
  /-- ANVIL_TASK_CANCEL (R341): TASK CANCEL cancels or aborts a task. Operands: the fields of format R. -/
  | anvilTaskCancel (i : Iss) (d a b : Nat)
  /-- TASK_END (R340): TASK END is the running task's commit point. Operands: the fields of format R. -/
  | taskEnd (i : Iss) (d a b : Nat)
  /-- TRIGGER_ENABLE (R337): Enabling a dispatcher trigger checks its queue and binds it to a template. Operands:
  the trigger and the word the warden writes to DSP_TRIG_Q[k]. -/
  | triggerEnable (k value : Nat)
  /-- TRIGGER_TASK (R337): A packet visible on a trigger queue creates one task once a descriptor is free. Operands:
  the trigger. -/
  | triggerTask (k : Nat)
  /-- NOT_BEFORE_WAKE (R333): A SUSPENDED task becomes READY at the start of its not-before stroke. Operands: the
  descriptor. -/
  | notBeforeWake (n : Nat)
  /-- TASK_DISPATCH (R335): The bellows places a ready task into a free context. Operands: the hearth. -/
  | taskDispatch (h : Nat)
  /-- COMPLETION_RECORD (R342): A task's completion record is written once credit allows, and the descriptor becomes
  FREE. -/
  | completionRecord
  /-- QUEUE_ENABLE (R310): Writing QUE_CFG[n].ENABLE enables a queue or refuses it. Operands: the queue and the word
  written to QUE_CFG[n], with ENABLE 1. -/
  | queueEnable (n value : Nat)
  /-- QUEUE_DISABLE (R327): Writing 0 to QUE_CFG[n].ENABLE acts as a forced flush and disables the queue. Operands:
  the queue and the word written to QUE_CFG[n], with ENABLE 0. -/
  | queueDisable (n value : Nat)
  /-- QUE_FLUSH (R321): The warden requests a flush of a queue, forced or not. Operands: the fields of the word the
  warden writes to QUE_FLUSH. -/
  | queFlush (n : Nat) (go force : Bool)
  /-- FLUSH_EFFECT (R322): A flush takes effect at the next packet boundary that the consumer sees. Operands: the
  queue. -/
  | flushEffect (n : Nat)
  /-- FLUSH_SETTLE (R322): The books settle once no packet is open. Operands: the queue. -/
  | flushSettle (n : Nat)
  /-- HAND_OVER (R315): A hand-over of the banks begins. Operands: the queue. -/
  | handOver (n : Nat)
  /-- HAND_OVER_COMPLETE (R315): The returned bank becomes the writing bank with G credits. Operands: the queue. -/
  | handOverComplete (n : Nat)
  /-- MAC_ENABLE (R346): MAC_CTRL.ENABLE starts the port, refused while the region disables the radio. Operands: the
  port and the word the warden writes to MAC_CTRL, with ENABLE 1. -/
  | macEnable (p value : Nat)
  /-- IND_FLUSH (R358): MAC_CTRL.IND_FLUSH discards every held frame and reports it FLUSHED. Operands: the port and
  the word the warden writes to MAC_CTRL, with IND_FLUSH 1. -/
  | indFlush (p value : Nat)
  /-- NODE_SEND (R355): Stores a frame for a sleepy node, or sends it directly. -/
  | nodeSend (h : HostPkt)
  /-- DATA_FRAME (R360): A received data frame is accepted under R348 and R349 and delivered to its node queue or to
  FDP ingress. Operands: the frame; for a frame that carries a fleet datagram, its sequence and the verdict on
  its tag. -/
  | dataFrame (f : RxFrame) (seq : Nat) (tagOk : Bool)
  /-- ACKNOWLEDGEMENT (R350): An acknowledgement is sent 1 ms after an accepted frame that needs one. Operands: the
  port and the time on air, ns. -/
  | acknowledgement (p air : Nat)
  /-- DATA_REQUEST (R357): A node's poll is acknowledged with its frame-pending bit. Operands: the poll, and the
  times on air of its acknowledgement and of the first held frame, ns. -/
  | dataRequest (f : RxFrame) (ackAir heldAir : Nat)
  /-- INDIRECT_DATA (R357): The first held frame is sent within 5 ms of the acknowledgement. Operands: the port, the
  TB0 instant of the SHR and the time on air, ns. -/
  | indirectData (p start air : Nat)
  /-- FRAME_EXPIRY (R358): A held frame expires after its persistence and is reported EXPIRED. Operands: the port
  and the place of the frame in its store, oldest first. -/
  | frameExpiry (p k : Nat)
  /-- CSMA_CA (R353): A frame attempts channel access and is sent, retried or dropped. Operands: the port, the TB0
  instant of the attempt, the time on air in ns; the channel was found clear. -/
  | csmaCa (p start air : Nat) (clear : Bool)
  /-- ASSOCIATION_REQUEST (R116): An association request is answered under the join policy and capacity. Operands:
  the request; its receiver is off when idle; the key slot that the warden records for the node. -/
  | associationRequest (f : RxFrame) (sleepy : Bool) (slot : Option Nat)
  /-- DISASSOCIATION (R116): A disassociating node goes to leaving and is freed. -/
  | disassociation (f : RxFrame)
  /-- RELAY_REPORT (R362): A relay's 0xA5 report ends the device's copy of a forwarded frame. -/
  | relayReport (f : RxFrame)
  /-- NODE_RESYNC (R364): A node without frames for two wake periods goes to resyncing and counts failures.
  Operands: the node number. -/
  | nodeResync (n : Nat)
  /-- MARKER_ERROR (R345): An I/Q marker error sets TRX_FAULT and stops the port. Operands: the port. -/
  | markerError (p : Nat)
  /-- MARKER_LOCK (R345): 32 matching words lock the port again. Operands: the port. -/
  | markerLock (p : Nat)
  /-- TRANSCEIVER_PLL_UNLOCK (R346): RF_IRQ signals a transceiver PLL unlock and sets TRX_FAULT. Operands: the port. -/
  | transceiverPllUnlock (p : Nat)
  /-- LINK_CHANGE (R368): A NET port's link goes up or down. Operands: the NET port, and whether its link is up now. -/
  | linkChange (k : Nat) (up : Bool)
  /-- SESSION_OPEN (R375): Opens a partition session and answers with SESSION_ACCEPT. Operands: ENC is set: the open
  came inside the session; otherwise its tag is checked under the host key. -/
  | sessionOpen (h : HostPkt) (enc : Bool)
  /-- SESSION_TAKEOVER (R376): The first datagram accepted under a new session key closes the old session. Operands:
  the first datagram under the waiting session's key: its class, its subqueue and, in class 1, its command code;
  the body is that of the command, in class 4 the payload. -/
  | sessionTakeover (h : HostPkt) (cls sub code : Nat)
  /-- SESSION_CLOSE (R376): Closes the partition's session. -/
  | sessionClose (h : HostPkt)
  /-- SESSION_TIMEOUT (R376): A session with no accepted datagram for 30 s closes. Operands: the partition. -/
  | sessionTimeout (p : Nat)
  /-- PING (R376): Keeps the session alive. -/
  | ping (h : HostPkt)
  /-- REG_READ (R382): Reads registers through the partition window. -/
  | regRead (h : HostPkt)
  /-- REG_WRITE (R382): Writes registers through the partition window. -/
  | regWrite (h : HostPkt)
  /-- MCAST_KEY (R374): Names the multicast key for the next heat boundary. -/
  | mcastKey (h : HostPkt)
  /-- KERNEL_DATA (R377): A class 4 datagram becomes a packet on a host-to-kernel queue. Operands: a class 4
  datagram, whose payload is the body, and its subqueue. -/
  | kernelData (h : HostPkt) (sub : Nat)
  /-- HOST_EGRESS (R377): A device-to-host packet leaves as a datagram to the open session and is released.
  Operands: the partition and its queue, 0 to 15. -/
  | hostEgress (p i : Nat)
  /-- SPI_WRITE_DATAGRAM (R383): The host writes a datagram over the host SPI port. Operands: a datagram as
  SESSION_TAKEOVER's, and its flag ENC; the ingress buffer still holds a datagram. -/
  | spiWriteDatagram (h : HostPkt) (enc : Bool) (cls sub code : Nat) (busy : Bool)
  /-- SPI_READ_DATAGRAM (R383): The host reads a waiting egress datagram over SPI. -/
  | spiReadDatagram
  /-- SPI_STATUS (R383): Returns the SPI port's egress and ingress status. Operands: the ingress buffer still holds
  a datagram. -/
  | spiStatus (busy : Bool)
  /-- COMPARE_FIRE (R401): A compare unit fires, pulses its pin or interrupts, and advances or disarms. Operands:
  the unit. -/
  | compareFire (k : Nat)
  /-- COMPARE_TARGET_WRITE (R401): Writing a compare target arms it, firing at once with LATE when behind the
  counter. Operands: the unit and the target written. -/
  | compareTargetWrite (k target : Nat)
  /-- CAPTURE (R403): A capture unit latches its base and the heat counter at its source edge. Operands: the unit,
  at its source's edge. -/
  | capture (k : Nat)
  /-- TIM_SNAP (R391): TIM_SNAP.GO latches all eight counters and the heat counter. Operands: the writer: 0 the
  warden, 1 to 4 a partition window. -/
  | timSnap (win : Nat)
  /-- TIM_ADJ (R389): Steps a NONE base or shifts a FOLLOW base's offset. Operands: the base and the value written,
  ns. -/
  | timAdj (b : Nat) (step : Int)
  /-- MASTER_CHANGE (R388): A write to MASTER puts the base in holdover until it joins its new master at the next
  heat boundary. Operands: the base and the MASTER code written. -/
  | masterChange (b m : Nat)
  /-- HOLDOVER_ENTRY (R396): TB0 enters holdover on timeout, spoof alarm or a disabled engine. -/
  | holdoverEntry
  /-- REJOIN (R397): After 10 s clear, TB0 begins to slew out its residual. -/
  | rejoin
  /-- TB0_LOCKED (R397): Ten consecutive epochs within LOCK_NS lock TB0 again. -/
  | tb0Locked
  /-- PTP_MESSAGE (R399): TB1 sends or receives a PTP event or general message. Operands: received rather than sent;
  the grandmaster identity and the port; the servo's offset from it, ns; an event message. -/
  | ptpMessage (rx : Bool) (gm : Nat) (port : Nat) (offset : Int) (event : Bool)
  /-- PTP_ANNOUNCE_TIMEOUT (R400): Three Announce intervals without an Announce put TB1 in holdover. -/
  | ptpAnnounceTimeout
  /-- METER_SAMPLE (R412): A decimated sample is accumulated into each phase's and feed's accumulators. Operands:
  the feed and its phases L1 to L3. -/
  | meterSample (f : Nat) (ph : List MeterSample)
  /-- CH_FAULT (R408): A modulator input held for 1 ms is faulted. Operands: the MOD_D input and its level; it has
  held it for 1 ms, rather than toggled again. -/
  | chFault (n : Nat) (level : Bool) (held : Bool)
  /-- RANGE_SWITCH (R416): A feed switches between fine and coarse range and blanks for 32 samples. Operands: the
  feed. -/
  | rangeSwitch (f : Nat)
  /-- INTERVAL_CLOSE (R418): At a close, the block writes, signs and pushes one interval record per enabled feed.
  Operands: the integrity check of slot 10 (R434) at each record's signing: 0 a match, 1 a mismatch that a re-
  read clears, 2 a lasting one. -/
  | intervalClose (tags : List Nat)
  /-- POWER_SUMMARY (R423): Every second, the block pushes per-phase mean power to Q69. -/
  | powerSummary
  /-- METERING_START (R422): A start of the metering domain restores the accumulators and writes GAP records once
  TB6 is valid. Operands: the check word in VBAT SRAM is valid; the flash save is valid; the integrity checks of
  slot 10, as INTERVAL_CLOSE's. -/
  | meteringStart (vbat flash : Bool) (tags : List Nat)
  /-- METER_READ (R424): Returns interval records by sequence. -/
  | meterRead (h : HostPkt)
  /-- METER_PUBKEY (R424): Returns the meter public key. -/
  | meterPubkey (h : HostPkt)
  /-- METER_NOW (R424): Returns a feed's accumulators from one sample. -/
  | meterNow (h : HostPkt)
  /-- PFAIL_N (R491): A falling edge on PFAIL_N sets PFAIL and starts the metering save. -/
  | pfailN
  /-- KEY_LOAD (R436): Checks a blob and loads its key into a slot. Operands: the GCM tag of the blob verifies. -/
  | keyLoad (h : HostPkt) (tagOk : Bool)
  /-- KEY_UNLOAD (R435): Clears a slot. -/
  | keyUnload (h : HostPkt)
  /-- KEY_GENERATE (R435): Generates a key, loads it and returns its blob. -/
  | keyGenerate (h : HostPkt)
  /-- KEY_IMPORT (R435): Imports key material, loads it and returns its blob. -/
  | keyImport (h : HostPkt)
  /-- KEY_INVALIDATE (R438): Increments a parent's generation and cascades to its registers. -/
  | keyInvalidate (h : HostPkt)
  /-- KEY_STATUS (R435): Returns the state of the partition's slots. -/
  | keyStatus (h : HostPkt)
  /-- CLEAR_ALL (R446): KEY_CTRL.CLEAR_ALL clears every slot. -/
  | clearAll
  /-- TAMPER_EVENT (R442): A tamper source fires and starts the tamper response. Operands: the sources that fire in
  one CD0 cycle with their detail bytes; the sources active now; a keyed operation was in flight; VIN is
  present. -/
  | tamperEvent (fired : List (Nat × Nat)) (active : Nat) (op : Bool) (vin : Bool)
  /-- RTC_SET (R443): TMP_RTC_SET sets the VBAT RTC seconds and zeroes the fraction at the next CD0 edge. Operands:
  the seconds the warden writes to TMP_RTC_SET. -/
  | rtcSet (secs : Nat)
  /-- START (R476): The boot ROM selects the OTP generation, copies staged sets, checks a set and hands over to the
  warden. Operands: what the start finds (log entry 5). -/
  | start (x : StartIn)
  /-- START_OK (R476): UPD_CTRL.START_OK records a good start and arms the watchdog. -/
  | startOk
  /-- RESET_N (R490): RESET_N low holds the device in reset. Operands: the level RESET_N takes. -/
  | resetN (level : Bool)
  /-- POWER_ON (R490): VIN within range and the regulators in regulation release the device to start. -/
  | powerOn
  /-- VIN_LOSS (R535): VIN below 1.60 V for 2 µs drops PWR_OK_OUT and resets the device. -/
  | vinLoss
  /-- SYS_RESET (R513): Writing 0xA5A5 to SYS_RESET resets the device. Operands: the word the warden writes to
  SYS_RESET. -/
  | sysReset (value : Nat)
  /-- SYS_WDOG (R545): Writing 0x5A5A serves the watchdog. Operands: the word the warden writes to SYS_WDOG. -/
  | sysWdog (value : Nat)
  /-- WATCHDOG_EXPIRY (R545): 2,000 ms without a service writes a WDOG fault record and resets the device. -/
  | watchdogExpiry
  /-- UPD_CLAIM (R478): Takes the staging lock and erases the staging area. -/
  | updClaim (u : UpdFrom)
  /-- UPD_DATA (R478): Appends bytes to a staged image. -/
  | updData (u : UpdFrom)
  /-- UPD_COMMIT (R479): Checks the candidate set and commits it by writing STAGED. Operands: the kinds of the
  candidate set whose signatures and body hash verify (log entry 6). -/
  | updCommit (u : UpdFrom) (good : List Nat)
  /-- UPD_ABORT (R480): Aborts staging before the commit point, or is answered LATE. -/
  | updAbort (u : UpdFrom)
  /-- UPD_STATUS (R478): Returns the staging state. -/
  | updStatus (u : UpdFrom)
  /-- LOCK_IDLE (R478): 60 s without an update command releases the lock and discards the staging area. -/
  | lockIdle
  /-- SVC_CHALLENGE (R483): Returns a one-time nonce. Operands: the request ID and the body. -/
  | svcChallenge (req : Nat) (body : List (BitVec 8))
  /-- SVC_AUTH (R483): Opens a service session with the signed rights. Operands: the key matches its OTP hash and
  the signature verifies (log entry 6). -/
  | svcAuth (req : Nat) (body : List (BitVec 8)) (ok : Bool)
  /-- SVC_SET_BAUD (R482): Changes the service port rate after the response. -/
  | svcSetBaud (req : Nat) (body : List (BitVec 8))
  /-- SVC_WRITE_RECOVERY (R483): Writes a whole checked set to the recovery copy. Operands: the images by kind,
  header and body (log entry 20), and the kinds whose signatures and body hash verify (log entry 6). -/
  | svcWriteRecovery (req : Nat) (imgs : List (Nat × List (BitVec 8))) (good : List Nat)
  /-- SVC_RESTORE (R483): Copies the recovery copy to staging and commits it. Operands: the kinds of the candidate
  set whose signatures and body hash verify (log entry 6). -/
  | svcRestore (req : Nat) (body : List (BitVec 8)) (good : List Nat)
  /-- SVC_OTP_WRITE (R469): Writes the lowest unwritten OTP generation. Operands: the 64 bytes, and whether the
  cells took the bits. -/
  | svcOtpWrite (req : Nat) (body : List (BitVec 8)) (ok : Bool)
  /-- SVC_PROVISION (R445): Provisions a root key and partition records and ends the cinder state. Operands: the
  partition records: present, and the rights (log entry 20). -/
  | svcProvision (req : Nat) (parts : List (Bool × Nat))
  /-- SVC_PAIR_BIND (R449): Binds the pair and stores the pair key. Operands: the peer's unit ID (log entry 20), and
  whether the units agreed a pair key over NET2. -/
  | svcPairBind (req : Nat) (id : List (BitVec 8)) (ok : Bool)
  /-- SVC_STOP (R213): Issues a stop on the service port, latching SVC. -/
  | svcStop (req : Nat) (body : List (BitVec 8))
  /-- SVC_RESUME (R213): Issues a resume on the service port. -/
  | svcResume (req : Nat) (body : List (BitVec 8))
  /-- SVC_CLAIM_RELEASE (R454): Ends the claim refresh of a paired unit in the cinder state. -/
  | svcClaimRelease (req : Nat) (body : List (BitVec 8))
  /-- SVC_LOG_CLEAR (R483): Clears the tamper log. -/
  | svcLogClear (req : Nat) (body : List (BitVec 8))
  /-- SVC_DEBUG_UNLOCK (R485): Runs the tamper response and opens debug. Operands: the body carries an owner
  signature that verifies (log entry 6). -/
  | svcDebugUnlock (req : Nat) (ownerOk : Bool)
  /-- SVC_RESET (R483): Resets the device after the response. -/
  | svcReset (req : Nat) (body : List (BitVec 8))
  /-- SVC_CONFIG_WRITE (R544): Replaces the block configuration record. -/
  | svcConfigWrite (req : Nat) (body : List (BitVec 8))
  /-- SVC_CONFIG_READ (R544): Returns the block configuration record. -/
  | svcConfigRead (req : Nat) (body : List (BitVec 8))
  /-- SVC_EN (R483): SVC_EN rising enables the service port; falling closes the session. Operands: the level SVC_EN
  takes. -/
  | svcEn (level : Bool)
  /-- SVC_SESSION_TIMEOUT (R483): A service session closes after 60 s without a command. -/
  | svcSessionTimeout
  /-- STATE_REQUEST (R493): A write of PWR_STATE.TARGET requests a device state. Operands: the word the warden
  writes to PWR_STATE. -/
  | stateRequest (value : Nat)
  /-- STATE_CHANGE (R493): The requested state change takes effect at the heat boundary, powering domains down or
  up. -/
  | stateChange
  /-- WAKE_IN (R494): WAKE_IN high wakes the device from IDLE, DOZE or HIBERNATE. Operands: the level WAKE_IN takes. -/
  | wakeIn (level : Bool)
  /-- RTC_ALARM (R494): The RTC reaching PWR_ALARM wakes the device from HIBERNATE. -/
  | rtcAlarm
  /-- PLL_UNLOCK (R498): A PLL losing lock writes a fault record and resets the device. Operands: the bit of
  CLK_STAT.LOCK, 3 to 9. -/
  | pllUnlock (pll : Nat)
  /-- MARGIN_READING (R500): Each margin monitor measures its slack once per second. Operands: each monitor's number
  and slack in ps (log entry 5). -/
  | marginReading (l : List (Nat × Int))
  /-- TREND (R501): The daily trend predicts slack per rung and the reference drift. -/
  | trend
  /-- TREND_NOW (R501): AGE_CTRL.TREND_NOW runs the trend at once. -/
  | trendNow
  /-- TRIM_STEP (R502): The running rung's trim rises by 5 mV, and slack is re-predicted after SETTLE_S heats. -/
  | trimStep
  /-- TRIM_CLEAR (R502): AGE_CTRL.TRIM_CLEAR returns the trim of non-running rungs to 0. -/
  | trimClear
  /-- ERR_PICK (R520): Writing a sequence to ERR_PICK latches that record into the picker. Operands: the reader (0
  the warden, 1 to 4 a partition window) and the sequence number. -/
  | errPick (win seq : Nat)
  /-- ERR_CLEAR (R516): ERR_CTRL.CLEAR empties the slag log. -/
  | errClear
  /-- DATAGRAM_REJECTED (R372): An ingress datagram that fails the format, tag or replay test, or carries an unknown
  class 0 payload type, is discarded and counted in NET_RX_DROP or NET_DUP, with TAG_FAIL set on a tag failure.
  Operands: the NET port, or 3 for the host SPI port; 0 the format fails, 1 the tag, 2 the replay test; a class
  0 datagram whose payload type decides. -/
  | datagramRejected (port : Nat) (why : Nat) (k : Option MachPkt)
  /-- UNKNOWN_COMMAND (R378): A command packet whose code is unknown, or whose body length is wrong, is answered
  REJECTED. Operands: the command code. -/
  | unknownCommand (h : HostPkt) (code : Nat)
  /-- NEIGHBOUR_DISCOVERY (R367): The warden answers an ARP or IPv6 neighbour discovery request received on a NET
  port. Operands: the NET port; IPv6 neighbour discovery rather than ARP; the address asked for; the asker's
  addresses. -/
  | neighbourDiscovery (port : Nat) (v6 : Bool) (target : Nat) (asker : List (BitVec 8))
  /-- ACKNOWLEDGEMENT_RECEIVED (R357): A node's acknowledgement of a frame the device sent ends that frame's
  delivery, releasing the held frame and reporting DELIVERED. Operands: the port, the node's short address and
  the TB0 instant at which its acknowledgement ended, ns. -/
  | acknowledgementReceived (p short fin : Nat)
  /-- ILLEGAL_BUNDLE (R247): A bundle with a reserved OP or field, or one that breaks R245, R261 or R257, issues
  nothing and raises the ILLEGAL exception. Operands: the slot that holds the reserved OP or field. -/
  | illegalBundle (i : Iss) (slot : Nat)
  /-- ADMISSION_COMPLETE (R298): The admission checks of a variant end within 40 ms, either passing or setting
  ADM_FAIL with a fault record. -/
  | admissionComplete
  /-- HAURA_FRAME_DISCARD (R482): A service-port frame with a failed check is discarded unanswered and counted in
  SVC_CRC_ERR. -/
  | hauraFrameDiscard
  /-- JTAG_INSTRUCTION (R485): A JTAG instruction is served as BYPASS or IDCODE, or as SAMPLE/PRELOAD, EXTEST or
  debug access only under an open debug authorisation. Operands: 0 BYPASS, 1 IDCODE, 2 SAMPLE/PRELOAD, 3 EXTEST,
  4 debug access. -/
  | jtagInstruction (ins : Nat)
  deriving DecidableEq, Repr

end Sys2Proof
end

