-- ==== Sys2Proof/Decode.lean ====
section
/-!
DEFINITION. Decode.lean: the command that a word spells by the bits of spec/opcode_table.json. The table gives bits to none
of its rows, so no word spells a command (log entry 1).
-/
namespace Sys2Proof

/-- The command that a word of `nbits` bits spells by the opcode table: none, since no row has bits. -/
def decodeTableWord (_nbits _w : Nat) : Option Instr := none

end Sys2Proof
end

