-- ==== Sys2Proof/Config.lean ====
section
/-!
DEFINITION. Config.lean: the free values: what the spec leaves open, what a cipher or a random source gives, and what
kernels that the spec does not define compute. None has a body, so nothing can be proved of its value (log entry 7).
-/
namespace Sys2Proof.Config

/-- The free value of a draw. `Device.freeIx` counts the draws. -/
opaque free : Nat → Nat

/-- The bytes of a message of a published standard whose layout this spec does not give (R61: RTCM messages). The
arguments are the kind of message and its content. -/
opaque message : Nat → List (BitVec 8) → List (BitVec 8)

/-- Whether tininess is detected after rounding: IEEE 754-2019 leaves it to the implementation (R267). -/
opaque tinyAfter : Bool

/-- Whether an FMA of an infinity, a zero and a quiet NaN sets NV: IEEE 754-2019 leaves it to the implementation
(R267). -/
opaque fmaNanInvalid : Bool

/-- The factory delay ratio of a margin monitor at a rung's set point, in 2^-16: OTP factory data (R501). -/
opaque delayRatio : Nat → Nat → Nat

end Sys2Proof.Config
end

