-- ==== Sys2Proof/Machine/Bits.lean ====
section
/-!
DEFINITION. Machine/Bits.lean: bit fields, two's complement, byte order (R7: multi-byte fields are little-endian),
holding counters and exact fractions.
-/
namespace Sys2Proof

/-- Bits `lo` to `lo + w - 1` of a number. -/
def bitsOf (x lo w : Nat) : Nat := x / 2 ^ lo % 2 ^ w

/-- One bit of a number. -/
def bitOf (x i : Nat) : Bool := x / 2 ^ i % 2 = 1

/-- A Boolean as a bit. -/
def b2n (b : Bool) : Nat := if b then 1 else 0

/-- The number with bits `lo` to `lo + w - 1` replaced by `v`. -/
def setBits (x lo w v : Nat) : Nat :=
  x % 2 ^ lo + (v % 2 ^ w) * 2 ^ lo + x / 2 ^ (lo + w) * 2 ^ (lo + w)

/-- A `w`-bit pattern read as two's complement. -/
def toSigned (w x : Nat) : Int :=
  let y := x % 2 ^ w
  if y < 2 ^ (w - 1) then (y : Int) else (y : Int) - ((2 ^ w : Nat) : Int)

/-- The `w`-bit two's complement pattern of an integer. -/
def ofSigned (w : Nat) (i : Int) : Nat := (i % ((2 ^ w : Nat) : Int)).toNat

/-- An integer narrowed to a signed range of `w` bits, holding at its ends. -/
def satSigned (w : Nat) (i : Int) : Int :=
  let m : Int := ((2 ^ (w - 1) : Nat) : Int)
  if i < -m then -m else if m - 1 < i then m - 1 else i

/-- Whether a number's bit `i` is set, over a mask. -/
def countBits : Nat → Nat → Nat
  | 0, _ => 0
  | n + 1, x => x % 2 + countBits n (x / 2)

/-- The listed numbers below `n` whose bit of `x` is set, rising. -/
def setBitsOf (n x : Nat) : List Nat := (List.range n).filter fun i => bitOf x i

/-- A counter that holds at its top. -/
def holdAt (top x : Nat) : Nat := if top < x then top else x

/-- The signed 32-bit difference of two counters (R16, R392). -/
def diff32 (a b : Nat) : Int := toSigned 32 (a + 2 ^ 32 - b % 2 ^ 32)

/-- A little-endian number read from bytes (R7). -/
def leNat : Bytes → Nat
  | [] => 0
  | b :: t => b.toNat + 256 * leNat t

/-- `n` bytes of a number, little-endian (R7). -/
def leBytes : Nat → Nat → Bytes
  | 0, _ => []
  | n + 1, x => BitVec.ofNat 8 x :: leBytes n (x / 256)

/-- `n` bytes at an offset. -/
def sliceB (b : Bytes) (off n : Nat) : Bytes := (b.drop off).take n

/-- The unsigned little-endian field of `n` bytes at an offset. -/
def uAt (b : Bytes) (off n : Nat) : Nat := leNat (sliceB b off n)

/-- The signed little-endian field of `n` bytes at an offset. -/
def sAt (b : Bytes) (off n : Nat) : Int := toSigned (8 * n) (uAt b off n)

/-- `n` zero bytes. -/
def zeros (n : Nat) : Bytes := List.replicate n 0

/-- The bytes cut or filled with zeros to a length. -/
def padTo (n : Nat) (b : Bytes) : Bytes := (b ++ zeros (n - b.length)).take n

/-- Whether every byte is 0. -/
def allZero (b : Bytes) : Bool := b.all fun x => x = 0

/-- Replaces the bytes at an offset by others. -/
def putB (b : Bytes) (off : Nat) (v : Bytes) : Bytes :=
  b.take off ++ v ++ b.drop (off + v.length)

/-- Division rounding up. -/
def ceilDiv (a b : Nat) : Nat := (a + b - 1) / b

/-- A quotient of integers rounded to the nearest, halves away from 0. -/
def roundDiv (a : Int) (b : Nat) : Int :=
  if b = 0 then 0
  else if 0 ≤ a then ((2 * a + b) / (2 * b : Nat) : Int) else -((2 * (-a) + b) / (2 * b : Nat) : Int)

/-- The integer square root, rounded down, by bisection over `n` bits. -/
def isqrtGo : Nat → Nat → Nat → Nat
  | 0, r, _ => r
  | n + 1, r, x => if (r + 2 ^ n) * (r + 2 ^ n) ≤ x then isqrtGo n (r + 2 ^ n) x else isqrtGo n r x

/-- The integer square root, rounded down, of a number below 2^256. -/
def isqrt (x : Nat) : Nat := isqrtGo 128 0 x

/-- The denominator of a fraction, 0 read as 1. -/
def Frac.d (q : Frac) : Nat := if q.den = 0 then 1 else q.den

/-- A fraction in lowest terms. -/
def Frac.norm (n : Int) (d : Nat) : Frac :=
  let g := Nat.gcd n.natAbs d
  if g = 0 then ⟨n, d⟩ else ⟨n / (g : Int), d / g⟩

/-- The sum of two fractions. -/
def Frac.add (a b : Frac) : Frac := Frac.norm (a.num * b.d + b.num * a.d) (a.d * b.d)
/-- The difference of two fractions. -/
def Frac.sub (a b : Frac) : Frac := Frac.norm (a.num * b.d - b.num * a.d) (a.d * b.d)
/-- The product of two fractions. -/
def Frac.mul (a b : Frac) : Frac := Frac.norm (a.num * b.num) (a.d * b.d)
/-- Whether one fraction is less than or equal to another. -/
def Frac.le (a b : Frac) : Bool := a.num * b.d ≤ b.num * a.d
/-- The nearest integer to a fraction, halves away from 0. -/
def Frac.round (a : Frac) : Int := roundDiv a.num a.d
/-- A fraction limited to the span of `±m`. -/
def Frac.clamp (m a : Frac) : Frac :=
  if Frac.le a ⟨-m.num, m.den⟩ then ⟨-m.num, m.den⟩ else if Frac.le m a then m else a

/-- One bit of CRC-32 (IEEE 802.3), least significant bit first. -/
def crcBit (c : Nat) : Nat := if c % 2 = 1 then (c / 2) ^^^ 0xEDB88320 else c / 2

/-- One byte of CRC-32. -/
def crcByte (c : Nat) (b : Byte) : Nat := crcBit (crcBit (crcBit (crcBit (crcBit (crcBit (crcBit (crcBit (c ^^^ b.toNat))))))))

/-- CRC-32 (IEEE 802.3) of some bytes. -/
def crc32 (b : Bytes) : Nat := (b.foldl crcByte 0xFFFFFFFF) ^^^ 0xFFFFFFFF

end Sys2Proof
end

