-- ==== Sys2Proof/Machine/State.lean ====
section
/-!
DEFINITION. Machine/State.lean: what the device holds (plain data), why a step can stop, and the device after reset.
Every field cites the rule of spec/ that names it.
-/
namespace Sys2Proof.Machine

/-! ## Registers -/

/-- The register blocks of R523, by name. The four radio ports have one block each. -/
inductive Blk where
  | sys | pwr | clk | age | otp | upd | key | tmp | tim | que | dsp | fab | gns | rsv | gov | stp
  | mac0 | mac1 | mac2 | mac3 | net | mtr | pair | hst | err | svc | dbg
  deriving DecidableEq, Repr

/-- A register: its block and its offset in the block (R512). -/
structure Reg where
  /-- The block. -/
  blk : Blk
  /-- The byte offset. -/
  off : Nat
  deriving DecidableEq, Repr

/-- The stored word of every register, block by block. An offset that is not listed reads the reset value of the
register tables (`Machine/RegTable.lean`). -/
structure RegFile where
  /-- 0x00 SYS (R513). -/
  sys : Tab Word
  /-- 0x01 PWR (R505). -/
  pwr : Tab Word
  /-- 0x02 CLK (R506). -/
  clk : Tab Word
  /-- 0x03 AGE (R507). -/
  age : Tab Word
  /-- 0x04 OTP (R487). -/
  otp : Tab Word
  /-- 0x05 UPD (R486). -/
  upd : Tab Word
  /-- 0x06 KEY (R446). -/
  key : Tab Word
  /-- 0x07 TMP (R447). -/
  tmp : Tab Word
  /-- 0x08 TIM (R405). -/
  tim : Tab Word
  /-- 0x09 QUE (R327). -/
  que : Tab Word
  /-- 0x0A DSP (R344). -/
  dsp : Tab Word
  /-- 0x0B FAB (R239, R307). -/
  fab : Tab Word
  /-- 0x0C GNS (R52). -/
  gns : Tab Word
  /-- 0x0D RSV (R147). -/
  rsv : Tab Word
  /-- 0x0E GOV (R194). -/
  gov : Tab Word
  /-- 0x0F STP (R218). -/
  stp : Tab Word
  /-- 0x10 MAC0 (R366). -/
  mac0 : Tab Word
  /-- 0x11 MAC1 (R366). -/
  mac1 : Tab Word
  /-- 0x12 MAC2 (R366). -/
  mac2 : Tab Word
  /-- 0x13 MAC3 (R366). -/
  mac3 : Tab Word
  /-- 0x14 NET (R384). -/
  net : Tab Word
  /-- 0x15 MTR (R425). -/
  mtr : Tab Word
  /-- 0x16 PAIR (R467). -/
  pair : Tab Word
  /-- 0x17 HST (R385). -/
  hst : Tab Word
  /-- 0x18 ERR (R524). -/
  err : Tab Word
  /-- 0x19 SVC (R488). -/
  svc : Tab Word
  /-- 0x1A DBG (R488). -/
  dbg : Tab Word
  deriving DecidableEq, Repr

/-! ## The slag log -/

/-- A fault record of R517. -/
structure FaultRec where
  /-- Bytes 0-3. -/
  seq : Nat
  /-- Bytes 4-7, the heat counter. -/
  heat : Nat
  /-- Bytes 8-11, TB0 nanoseconds. -/
  ns : Nat
  /-- Byte 12, the block. -/
  block : Nat
  /-- Byte 13, the outcome. -/
  outcome : Nat
  /-- Bytes 14-15, the code. -/
  code : Nat
  /-- Bytes 16-17, the unit. -/
  unit : Nat
  /-- Bytes 18-19, the repeat count. -/
  rep : Nat
  /-- Bytes 20-31, the context. -/
  ctx : Bytes
  deriving DecidableEq, Repr

/-- A picker of R520: the latched words and the status bits. -/
structure Picker where
  /-- ERR_PICK, the sequence written. -/
  seq : Nat
  /-- ERR_PICK_STAT. -/
  stat : Nat
  /-- The latched record, if VALID. -/
  data : Option FaultRec
  deriving DecidableEq, Repr

/-- The slag log of R516: ring slots, the newest sequence, the sequence at the last clear, and the five pickers
(0 the warden, 1 to 4 the partition windows). -/
structure ErrLog where
  /-- The ring, by slot 0 to 255. -/
  ring : Tab FaultRec
  /-- ERR_SEQ. -/
  seq : Nat
  /-- The pickers. -/
  picks : Tab Picker
  deriving DecidableEq, Repr

/-! ## Signals that leave the device -/

/-- Where a signal leaves the device. -/
inductive Chan where
  | netHost | netMachine | netMulticast | netPeer | netPtp | netArp | radio | spi | svc | jtag | pin | irq
  deriving DecidableEq, Repr

/-- One thing the device sent: the channel, the port, partition, machine or pin it went to, what kind of frame it is
(a payload type, a frame code or a pin level) and its bytes. -/
structure Wire where
  /-- The channel. -/
  chan : Chan
  /-- The port, partition, machine or pin. -/
  unit : Nat
  /-- The kind of frame, or a pin's level. -/
  kind : Nat
  /-- The bytes. -/
  data : Bytes
  deriving DecidableEq, Repr

/-! ## Time (chapter 18) -/

/-- One time base (R386). -/
structure Base where
  /-- The counter in units of 2^-32 ns. For TB0 it is not reduced, so that it holds TB0 time (R390). -/
  acc : Nat
  /-- TIM_RATE, in 2^-32. -/
  rate : Int
  /-- TIM_OFS, ns. -/
  ofs : Int
  /-- TIM_BCFG.MASTER: 0 NONE, 1 GNSS, 2 PTP, 3 FOLLOW. -/
  master : Nat
  /-- The master that the base joins at the next heat boundary (R388). -/
  joining : Option Nat
  /-- HOLD. -/
  hold : Bool
  /-- SLEWING. -/
  slewing : Bool
  /-- The always-on time of entry into holdover, ns. -/
  holdAt : Nat
  /-- E0 of R398, ps. -/
  e0 : Nat
  /-- The variance of f of R398, dimensionless. -/
  varF : Frac
  /-- TIM_HOLD_EST, ns. -/
  est : Nat
  /-- Whether E passed LIMIT_US in this holdover. -/
  limited : Bool
  deriving DecidableEq, Repr

/-- What the discipline loop remembers of one epoch (R396 to R398). -/
structure Epoch where
  /-- Always-on time, ns. -/
  at_ : Nat
  /-- TIM_RATE[0] after the epoch. -/
  rate : Int
  /-- The frequency state after the epoch. -/
  f : Frac
  /-- The residual, ps. -/
  x : Int
  /-- The duty of REF_TUNE after the epoch. -/
  duty : Nat
  deriving DecidableEq, Repr

/-- A snapshot set of R391. -/
structure Snap where
  /-- TIM_SNAP_HEAT. -/
  heat : Nat
  /-- TIM_SNAP_NS, base 0 first. -/
  ns : List Nat
  deriving DecidableEq, Repr

/-- The time block. -/
structure Time where
  /-- TB0 to TB7. -/
  bases : Tab Base
  /-- Nominal always-on time since power-on, in units of 2^-32 ns. -/
  up : Nat
  /-- TB0 valid (R393). -/
  valid : Bool
  /-- Heats have begun (R18). -/
  heats : Bool
  /-- The heat last begun, counted from the TB0 epoch; before the first heat, the one in which TB0 became valid. -/
  begun : Nat
  /-- The stroke of the heat in progress, 0 to 9. -/
  stroke : Nat
  /-- The frequency state f of R393 and R394. -/
  f : Frac
  /-- The last 60 s of epochs, newest first. -/
  epochs : List Epoch
  /-- The hold rate of R396. -/
  holdRate : Int
  /-- Always-on time at which the last epoch with at least 4 admitted satellites arrived, ns. -/
  lastGood : Nat
  /-- Always-on time since which no condition of R396 has held, ns. -/
  clearAt : Option Nat
  /-- Consecutive epochs within LOCK_NS while slewing (R397). -/
  inLock : Nat
  /-- The snapshot sets: 0 the warden, 1 to 4 the partition windows (R391). -/
  snaps : Tab Snap
  /-- The duty REF_TUNE carries (R395). -/
  duty : Nat
  /-- TB1's grandmaster identity, 0 none (R400). -/
  gm : Nat
  /-- TB1's PTP port (R399). -/
  ptpPort : Nat
  /-- Consecutive Sync intervals of TB1 within LOCK_NS (R400). -/
  ptpLock : Nat
  deriving DecidableEq, Repr

/-! ## Queues (chapter 14) -/

/-- A packet in a queue: its first granule's number, its bytes (whole granules) and its poisoned granules. -/
structure Packet where
  /-- The number of its first granule, counted since the queue was enabled. -/
  start : Nat
  /-- Its bytes, a multiple of 16. -/
  data : Bytes
  /-- Its granules that carry poison (R281). -/
  bad : List Nat
  deriving DecidableEq, Repr

/-- The packet a producer has open. -/
structure OpenPacket where
  /-- The bytes pushed so far. -/
  data : Bytes
  /-- Its poisoned granules. -/
  bad : List Nat
  /-- A push found too few credits (R313). -/
  failed : Bool
  /-- A flush took effect while it was open (R322). -/
  dropped : Bool
  /-- The context that opened it, of the fabric contexts (R316). -/
  owner : Nat
  deriving DecidableEq, Repr

/-- One hardware queue (R310 to R324). Granules are numbered from 0 since the queue was enabled. -/
structure Queue where
  /-- ENABLE. -/
  on : Bool
  /-- Granules of a bank. -/
  g : Nat
  /-- The writing bank, 0 or 1. -/
  wbank : Nat
  /-- The number of the first granule of the writing bank. -/
  wStart : Nat
  /-- The number of the first granule of the other bank, while it drains. -/
  dStart : Nat
  /-- The number the next granule pushed takes. -/
  fin : Nat
  /-- The number of the oldest unreleased granule. -/
  rel : Nat
  /-- The current position (R317). -/
  pos : Nat
  /-- The read point (R318). -/
  mark : Option Nat
  /-- The audit mark (R301). -/
  audit : Option Nat
  /-- The open packet. -/
  opn : Option OpenPacket
  /-- Visible packets with an unreleased granule, oldest first. -/
  pkts : List Packet
  /-- Sealed packets held invisible under R301, oldest first. -/
  held : List Packet
  /-- A hand-over is in progress (R315). -/
  handing : Bool
  /-- A flush waits to take effect (R321). -/
  flush : Bool
  /-- A flush took effect and waits for the books to settle (R322). -/
  settle : Bool
  /-- QUE_DROP. -/
  drops : Nat
  /-- The context that owns the current packet, of the fabric contexts (R316). -/
  owner : Option Nat
  /-- Granules of the two banks, counted from the start of bank 0, in which a lasting parity error stands (R326). -/
  parity : List Nat
  /-- Packets that became visible since the queue was enabled. -/
  vis : Nat
  deriving DecidableEq, Repr

/-! ## The GNSS engine (chapter 2) -/

/-- A position, ECEF X, Y, Z in 0.1 mm (R48). -/
structure Ecef where
  /-- X. -/
  x : Int
  /-- Y. -/
  y : Int
  /-- Z. -/
  z : Int
  deriving DecidableEq, Repr

/-- The GNSS engine. -/
structure Gnss where
  /-- The words of GNS_CTRL, GNS_FE_CFG and GNS_FE_IF in effect (R52), by offset. -/
  eff : Tab Word
  /-- Signals found: port, signal code, satellite (R32). -/
  found : List (Nat × Nat × Nat)
  /-- Signals with a tracking channel (R31). -/
  chans : List (Nat × Nat × Nat)
  /-- The integers held: by baseline, signal and satellite (R43). -/
  ints : Tab Int
  /-- Signals that were MP on the active reference port at the last epoch (R44). -/
  mpRef : List (Nat × Nat)
  /-- The spoof alarm (R45). -/
  alarm : Bool
  /-- Consecutive epochs below the threshold of the alarm. -/
  quiet : Nat
  /-- Consecutive epochs with 75 % of a port's signals MP (R46). -/
  disp : Tab Nat
  /-- The active reference port. -/
  ref : Nat
  /-- The active reference position. -/
  pos : Ecef
  /-- GNS_REF_STAT.STATE. -/
  refState : Nat
  /-- A LOAD waits for the heat boundary (R48). -/
  load : Option Ecef
  /-- A comparison waits for a solution (R49). -/
  check : Bool
  /-- The position and STATE that the warden stores (R49). -/
  stored : Option (Ecef × Nat)
  /-- The last single-point solution with at least 5 satellites. -/
  fix : Option Ecef
  /-- A survey runs. -/
  survey : Bool
  /-- STATE before the survey. -/
  before : Nat
  /-- Survey time counted, ms. -/
  counted : Nat
  /-- GNS_REF_STAT.LAST. -/
  last : Nat
  /-- ABORT_LATE. -/
  late : Bool
  /-- The first TB0 instant at which the next epoch may fall, ns. -/
  nextEp : Nat
  /-- The engine's copy of the base cell of the shadow atlas: the weights that are not 255, by bin (R97). -/
  sky : Tab Nat
  deriving DecidableEq, Repr



/-! ## Correction output (chapter 3) -/

/-- A radio set that is being sent (R61, R62). -/
structure RadioSet where
  /-- The heat whose set it is, counted from the TB0 epoch. -/
  heat : Nat
  /-- Its payload. -/
  data : Bytes
  /-- The station ID. -/
  station : Nat
  /-- Payload bytes of a fragment. -/
  size : Nat
  /-- Fragments a heat, per port. -/
  perHeat : Nat
  /-- Its WITHHELD flag. -/
  withheld : Bool
  /-- By port of its mask: the next fragment, the heat in which the port last sent one, and how many it sent in it. -/
  ports : Tab (Nat × Nat × Nat)
  deriving DecidableEq, Repr

/-- Correction output. -/
structure Corr where
  /-- The correction profile in effect, 96 bytes, which the warden stores (R57, R59). -/
  prof : Option Bytes
  /-- The profiles accepted in this heat, by partition (R58). -/
  next : Tab Bytes
  /-- The issue of data, station (R56). -/
  iod : Nat
  /-- What the issue of data was last counted for: the position, the port, the profile's height and descriptors. -/
  seen : Option (Ecef × Nat × Bytes)
  /-- The heat in which the ARP message is due by R56, counted from the TB0 epoch. -/
  arpHeat : Option Nat
  /-- The last epoch at a heat start: its heat counted from the TB0 epoch, the clock residual in ps and the records that
  R41 admits (32 bytes each). -/
  base : Option (Nat × Int × List Bytes)
  /-- Messages that fell due since the last radio set: 5 ARP, 6 1033, 7 1230. -/
  due : List Nat
  /-- The heat whose set was built last. -/
  built : Option Nat
  /-- The radio set in progress. -/
  radio : Option RadioSet
  /-- The current broadcast key's ID, 0 while there is none (R69). -/
  kid : Nat
  /-- The first heat of the current broadcast key. -/
  kFirst : Nat
  /-- The first heat of the next broadcast key, once it is generated. -/
  nextFirst : Option Nat
  /-- Sets sent, link (R72). -/
  linkSets : Nat
  /-- Sets sent, radio. -/
  radioSets : Nat
  /-- Radio fragments dropped. -/
  dropped : Nat
  /-- Heats withheld. -/
  withheld : Nat
  /-- Tag failures. -/
  tagFails : Nat
  /-- The last set was withheld. -/
  lastHeld : Bool
  deriving DecidableEq, Repr



/-! ## The central solver and the shadow atlas (chapter 4) -/

/-- A machine's filter (R85). -/
structure Filter where
  /-- The fix state of R88. -/
  fix : Nat
  /-- East, north, up, mm, at the epoch of the last measurement update. -/
  pos : List Int
  /-- Velocity east, north, up, mm/s. -/
  vel : List Int
  /-- Sigma east, north, up, mm, and the correlations EN, EU, NU times 127. -/
  cov : List Int
  /-- Fixed ambiguities of the last measurement update. -/
  nfix : Nat
  /-- Signals used in it. -/
  used : Nat
  /-- Its epoch: the heat, counted from the TB0 epoch. -/
  upd : Option Nat
  /-- The last accepted frame: its heat, counted from the TB0 epoch. -/
  frame : Option Nat
  /-- LCNT of each satellite and signal of that frame (R82). -/
  lcnt : Tab Nat
  /-- The ambiguities held as fixed, by satellite and signal (R87). -/
  held : List Nat
  /-- The ranges and phases recovered from that frame, by satellite and signal, in 2^-20 m (R79). -/
  obs : List (Nat × Int × Option Int)
  /-- Five common satellites with valid phase have been seen (R88). -/
  seen5 : Bool
  /-- Consecutive due heats without a measurement update (R90). -/
  misses : Nat
  /-- Consecutive frames that failed the post-fit test (R90). -/
  bad : Nat
  /-- The next record carries FILTER_RESET. -/
  reset : Bool
  /-- Records carry DEMOTED (R76). -/
  demoted : Bool
  deriving DecidableEq, Repr

/-- One evidence value's origin (R96): the machine, its cell, the satellite and signal, the bin and the normalised
residual as a fraction; a restarted signal counts 0. -/
structure Evidence where
  /-- The machine. -/
  mach : Nat
  /-- The cell, if the position lies in the grid. -/
  cell : Option Nat
  /-- The satellite and signal. -/
  key : Nat
  /-- The bin of R94. -/
  bin : Nat
  /-- The numerator of r. -/
  num : Nat
  /-- The denominator of r. -/
  den : Nat
  /-- The signal restarted under R82. -/
  restart : Bool
  deriving DecidableEq, Repr

/-- The solver. -/
structure Solver where
  /-- The solver profile in effect, 64 bytes, which the warden stores (R99). -/
  prof : Option Bytes
  /-- Profiles accepted in this heat, by partition. -/
  next : Tab Bytes
  /-- S, the solve slots per heat of the running variant (R73). -/
  slots : Nat
  /-- The filters, by machine. -/
  filters : Tab Filter
  /-- On-time frames of the heat that wait, by machine (R83). -/
  frames : Tab Bytes
  /-- Machines and heats (counted from the TB0 epoch) of the frames accepted for the present epoch. -/
  taken : List (Nat × Nat)
  /-- Late frames that wait for a catch-up update, in order of arrival (R84). -/
  late : List (Nat × Bytes)
  /-- Catch-up updates applied in the heat. -/
  caught : Nat
  /-- Position reports accepted for the heat, by machine (R373). -/
  reports : Tab Bytes
  /-- Machines solved in the heat: BASE_WITHHELD, by machine. -/
  solved : Tab Bool
  /-- The heat whose positions were published last. -/
  published : Option Nat
  /-- The active reference port of the previous heat, and whether it changed for this one (R89). -/
  refPort : Nat
  /-- The active reference port changed this heat. -/
  refMoved : Bool
  /-- The atlas: the weights that are not 255, by cell times 1,296 plus bin (R94, R95). -/
  atlas : Tab Nat
  /-- The base cell, as the last heat's evidence named it (R97). -/
  baseCell : Option Nat
  /-- Evidence that waits, with the heat it comes from (R96). -/
  evid : List Evidence
  /-- The heat of the waiting evidence. -/
  evidHeat : Nat
  /-- Counts of R100: fixed, float, single and predicted of the last heat. -/
  last : List Nat
  /-- Frames discarded under R83. -/
  discarded : Nat
  /-- Late frames applied. -/
  lateDone : Nat
  /-- Late frames discarded. -/
  lateLost : Nat
  /-- Post-fit rejections. -/
  postfit : Nat
  /-- Heats with no base epoch. -/
  noBase : Nat
  /-- Machines demoted. -/
  demotions : Nat
  /-- Atlas evidence dropped. -/
  evidLost : Nat
  deriving DecidableEq, Repr


/-! ## Keys and tamper (chapter 20) -/

/-- A key slot (R432, KEY_SLOT). The key itself is not held: nothing the device shows depends on its value but what a
cipher computes from it (log entry 6). -/
structure KeySlot where
  /-- 0 empty, 1 loaded, 2 quarantined. -/
  st : Nat
  /-- 0 ENCRYPT, 1 DECRYPT, 2 WRAP, 3 DERIVE. -/
  attr : Nat
  /-- The algorithm code of R431. -/
  alg : Nat
  /-- 0 to 3 H0 to H3, 4 the device. -/
  owner : Nat
  /-- Twin slot (R433). -/
  twin : Bool
  /-- The parent. -/
  parent : Nat
  /-- The parent's generation when the key was recorded. -/
  gen : Nat
  /-- The parent register that the key is, or 0xFF. -/
  own : Nat
  deriving DecidableEq, Repr

/-- A parent register (R429). -/
structure ParentReg where
  /-- The parent under which it was taken. -/
  parent : Nat
  /-- The domain under which it was taken, 0 to 7. -/
  domain : Nat
  deriving DecidableEq, Repr

/-- The security block. -/
structure Keys where
  /-- ROOT_OK: the root check word matches the root key (R426). -/
  rootOk : Bool
  /-- How many root keys were drawn: what derived keys differ by (log entry 6). -/
  root : Nat
  /-- The slots. -/
  slots : Tab KeySlot
  /-- The generation counters of the parents (R429). -/
  gens : Tab Nat
  /-- The parent registers taken, 8 to 63 (R429). -/
  regs : Tab ParentReg
  deriving DecidableEq, Repr

/-- An entry of the tamper log (R443). -/
structure TamperRec where
  /-- Byte 0. -/
  source : Nat
  /-- Byte 1. -/
  devState : Nat
  /-- Byte 2. -/
  detail : Nat
  /-- Byte 3. -/
  flags : Nat
  /-- Bytes 4-9, the RTC in units of 1/32,768 s. -/
  rtc : Nat
  /-- Bytes 12-15. -/
  heat : Nat
  /-- Bytes 16-19. -/
  ns : Nat
  /-- Bytes 20-23. -/
  number : Nat
  deriving DecidableEq, Repr

/-- The tamper block (PD0). -/
structure Tamper where
  /-- TMP_STAT.CINDER. -/
  cinder : Bool
  /-- The log, newest first, at most 16 entries. -/
  log : List TamperRec
  /-- TMP_LOG_CNT. -/
  count : Nat
  /-- The sources active now, bit c (TMP_STAT.ACTIVE). -/
  active : Nat
  /-- TMP_STAT.RTC_VALID. -/
  rtcValid : Bool
  /-- The RTC, in units of 1/32,768 s, at the always-on time `rtcUp`. -/
  rtc : Nat
  /-- The always-on time of `rtc`, ns. -/
  rtcUp : Nat
  deriving DecidableEq, Repr


/-! ## The data link and the host partitions (chapter 17) -/

/-- The replay test of one key (R372). -/
structure Replay where
  /-- The highest sequence accepted. -/
  high : Nat
  /-- The 64 sequences below it that were accepted, bit i for `high - 1 - i`. -/
  map : Nat
  deriving DecidableEq, Repr

/-- A host session (R375, R376). -/
structure Session where
  /-- A session is open. -/
  open_ : Bool
  /-- It is on the host SPI port. -/
  spi : Bool
  /-- HST_SESS_HEAT. -/
  heat : Nat
  /-- The always-on time of the last datagram accepted, ns. -/
  lastRx : Nat
  /-- A session that was accepted and waits for its first datagram: whether it is on SPI. -/
  waiting : Option Bool
  deriving DecidableEq, Repr

/-- A command packet that was taken from a partition's command queue and not yet answered (R378). -/
structure Cmd where
  /-- The partition that sent it. -/
  part : Nat
  /-- The code of R379. -/
  code : Nat
  /-- The request ID. -/
  req : Nat
  /-- The body. -/
  body : Bytes
  /-- The heat counter of its arrival. -/
  heat : Nat
  deriving DecidableEq, Repr

/-- A partition record (R118). -/
structure Partition where
  /-- A record is present. -/
  prov : Bool
  /-- The rights: bit 0 stop, 1 plan, 2 meter-read, 3 update. -/
  rights : Nat
  deriving DecidableEq, Repr

/-- A key that multicast or permits use: its partition, slot and index (R202, R374). -/
structure NamedKey where
  /-- The partition that named it. -/
  part : Nat
  /-- The slot. -/
  slot : Nat
  /-- The key index, 1 to 255. -/
  index : Nat
  deriving DecidableEq, Repr

/-- The data link and the partitions. -/
structure Hosts where
  /-- The sessions, by partition. -/
  sess : Tab Session
  /-- The replay tests, by key. -/
  replay : Tab Replay
  /-- The egress sequence of each key (R371). -/
  seqs : Tab Nat
  /-- The partition records. -/
  parts : Tab Partition
  /-- Commands taken that wait for their time, in order of arrival. -/
  waiting : List Cmd
  /-- Granules of queue 1 that are reserved for responses owed, by partition (R378). -/
  owed : Tab Nat
  /-- HST_CMDS: commands answered DONE, and otherwise, by partition. -/
  done : Tab (Nat × Nat)
  /-- The multicast key in effect (R374). -/
  mkey : Option NamedKey
  /-- The multicast key named for the next heat boundary. -/
  mkeyNext : Option NamedKey
  /-- Each window's own view of the RC registers: window, block and offset to the highest value since its last read
  (R381). -/
  views : Tab Word
  /-- SPI egress datagrams that wait (R383). -/
  spiOut : List Bytes
  /-- The links of NET0 to NET2. -/
  link : Tab Bool
  deriving DecidableEq, Repr


/-! ## The fleet (chapter 5). A record is its fields by byte offset in the layout that the spec gives it. -/

/-- A hello or an association that waits for the heat boundary (R113, R115). -/
structure Join where
  /-- The machine. -/
  mach : Nat
  /-- The PAN named. -/
  pan : Nat
  /-- It is a hello, to be answered. -/
  hello : Bool
  deriving DecidableEq, Repr

/-- An ownership transfer that is open (R109). -/
structure Transfer where
  /-- The target partition. -/
  target : Nat
  /-- The always-on time of the offer, ns. -/
  at_ : Nat
  deriving DecidableEq, Repr

/-- The fleet table, the node table and what surrounds them. -/
structure Fleet where
  /-- The fleet table: machine to its record of R104. -/
  tab : Tab (Tab Nat)
  /-- The node table: node number to its record of R108. -/
  nodes : Tab (Tab Nat)
  /-- Short addresses in quarantine: node number to the always-on time of freeing, ns (R102). -/
  quar : Tab Nat
  /-- Silent heats, node timeout in hours, then per PAN join policy and sensor owner (R119). -/
  cfg : List Nat
  /-- A FLEET_CFG was accepted. -/
  cfgSet : Bool
  /-- FLEET_CFGs accepted for the next heat boundary, by partition. -/
  cfgNext : Tab (List Nat)
  /-- EUI-64s that may join a PAN: PAN and EUI-64 (R116). -/
  allow : List (Nat × Nat)
  /-- Open transfers, by machine. -/
  offers : Tab Transfer
  /-- DISCOVERED events since the last clear (R120). -/
  disc : Nat
  /-- A DISCOVERED event went out in this heat (R113). -/
  discNow : Bool
  /-- Joins that wait for the heat boundary, in order of arrival. -/
  joins : List Join
  /-- Governor samples with a sent allowance of 0 that a LEAVING entry has seen (R106). -/
  leave : Tab Nat
  /-- Machines whose SILENT entry was heard again. -/
  heard : List Nat
  /-- Nodes in the state leaving, freed at the next heat boundary. -/
  goners : List Nat
  /-- The egress sequence mirrored, by machine key slot (R450). -/
  mirSeq : Tab Nat
  deriving DecidableEq, Repr



/-! ## The track graph and the reservation store (chapter 6) -/

/-- A reservation entry (R127); its links are what the chains give. -/
structure RsvEntry where
  /-- The segment. -/
  seg : Nat
  /-- The machine. -/
  mach : Nat
  /-- The class: 0 PASS, 1 FOLLOW, 2 DWELL. -/
  cls : Nat
  /-- Enter, 24 bits. -/
  enter : Nat
  /-- Exit, 24 bits. -/
  exit : Nat
  /-- DIR: to-from. -/
  back : Bool
  /-- STATE held rather than committed. -/
  held : Bool
  deriving DecidableEq, Repr

/-- A hold (R131, R132). -/
structure Hold where
  /-- The hold ID. -/
  id : Nat
  /-- The splice point. -/
  splice : Nat
  /-- The splice entry's index, if the machine had committed entries. -/
  onto : Option Nat
  /-- The heat in which it was made, counted from the TB0 epoch. -/
  made : Nat
  /-- Its entries, in route order. -/
  ix : List Nat
  deriving DecidableEq, Repr

/-- A route request of the task allotment (R140): the machine, its owner, the destination and the task. -/
structure RouteReq where
  /-- The machine. -/
  mach : Nat
  /-- The destination junction. -/
  dest : Nat
  /-- The task it serves. -/
  task : Nat
  /-- The heat in which it was placed. -/
  heat : Nat
  deriving DecidableEq, Repr

/-- An operation of the fabric that waits for the end of the fold (R145): the anvil and its register set, the destination,
the function code and the operands. -/
structure RsvWait where
  /-- The anvil. -/
  anvil : Nat
  /-- The register set. -/
  set : Nat
  /-- The destination register. -/
  dst : Nat
  /-- FN. -/
  fn : Nat
  /-- The candidate entry. -/
  word : Nat
  /-- x[B]. -/
  xb : Nat
  deriving DecidableEq, Repr

/-- The graph and the store. GRAPH_OK, PAUSED, FOLDING, the pause base and offset stand in their registers (R147). -/
structure Rsv where
  /-- Segment records: fields by offset (R122). -/
  segs : Tab (Tab Nat)
  /-- Junction records (R123). -/
  juncs : Tab (Tab Nat)
  /-- The non-free entries, by index. -/
  ents : Tab RsvEntry
  /-- The holds, by machine. -/
  holds : Tab Hold
  /-- The last hold ID given. -/
  lastId : Nat
  /-- The last hold committed, by machine (R134). -/
  done : Tab Nat
  /-- The current entry, by machine (R142). -/
  cur : Tab Nat
  /-- Machines whose last planning ended NO_ROUTE (R142). -/
  blocked : List Nat
  /-- Machines that overstay and wait for their re-plan (R136). -/
  overs : List Nat
  /-- Route requests of the task allotment. -/
  reqs : List RouteReq
  /-- Fabric operations that wait for the fold. -/
  waits : List RsvWait
  /-- Entries visited in this heat. -/
  visits : Nat
  /-- The pause offset has stopped growing (R146). -/
  sat : Bool
  deriving DecidableEq, Repr


/-! ## Tasks and charging (chapter 7) -/

/-- A task (R148, R150). -/
structure Task where
  /-- Byte 0 of R148: kind and host type. -/
  kind : Nat
  /-- Priority. -/
  prio : Nat
  /-- The machine it is pinned to. -/
  pin : Option Nat
  /-- Start junction. -/
  start : Nat
  /-- End junction. -/
  fin : Nat
  /-- Work duration, heats. -/
  work : Nat
  /-- Capability mask. -/
  mask : Nat
  /-- Earliest start, 0 none. -/
  earliest : Nat
  /-- Deadline, 0 none. -/
  deadline : Nat
  /-- Energy estimate, Wh. -/
  energy : Nat
  /-- Host tag. -/
  tag : Nat
  /-- The state of R150. -/
  st : Nat
  /-- The posting partition. -/
  part : Nat
  /-- The machine it is given to, 0xFFFF none. -/
  mach : Nat
  /-- Attempts. -/
  tries : Nat
  /-- The machines excluded under R159, with the heat (counted from the TB0 epoch) in which the exclusion ends, if it
  does. -/
  excl : List (Nat × Option Nat)
  deriving DecidableEq, Repr

/-- Task allotment and the energy planner. -/
structure Allot where
  /-- The profile of R163, 32 bytes, which the warden stores. -/
  prof : Option Bytes
  /-- Profiles accepted in this heat, by partition. -/
  next : Tab Bytes
  /-- The docks (R164): fields of the DOCK_CFG body by offset. -/
  docks : Tab (Tab Nat)
  /-- The tasks that are not FREE, by number. -/
  tasks : Tab Task
  /-- Task reports that wait for the heat boundary, in arrival order (R154): the machine and the payload. -/
  reports : List (Nat × Bytes)
  /-- An auction is due in this heat, besides its period (R155). -/
  dueNow : Bool
  /-- An auction is due in the next heat. -/
  dueNext : Bool
  /-- The heat of the last auction, counted from the TB0 epoch. -/
  ran : Option Nat
  /-- The heat of the last planning run of the energy planner. -/
  planned : Option Nat
  /-- The last SITE_LOAD value, 0.1 kW, and the heat in which it was applied (R165). -/
  load : Option (Nat × Nat)
  /-- SITE_LOAD_STALE was reported for the present value. -/
  staleSaid : Bool
  deriving DecidableEq, Repr


/-! ## The speed governor (chapter 8) -/

/-- The state of a machine in the governor (R187), beside the fields of R186 in its fleet-table entry. -/
structure GovMach where
  /-- The integrators, loops 0 to 6, 2^-8 mm/s. -/
  integ : List Int
  /-- The last proposals, loops 0 to 7. -/
  prop : List Nat
  /-- The last errors, loops 0 to 7. -/
  err : List Int
  /-- The heat of the last fresh record taken (R177). -/
  seen : Option Nat
  /-- The region restarts at the next sample (R180, R188). -/
  restart : Bool
  deriving DecidableEq, Repr

/-- A clearance zone (R189). -/
structure Zone where
  /-- 0 unmonitored, 1 clear, 2 occupied. -/
  st : Nat
  /-- The nearest person's east, mm. -/
  e : Int
  /-- The nearest person's north, mm. -/
  n : Int
  /-- Samples since the last ZONE_STATE. -/
  since : Nat
  /-- It was reported as read occupied. -/
  said : Bool
  deriving DecidableEq, Repr

/-- A ZONE_STATE that waits for its sample. -/
structure ZonePost where
  /-- The partition. -/
  part : Nat
  /-- The zone. -/
  zone : Nat
  /-- Its state. -/
  st : Nat
  /-- East. -/
  e : Int
  /-- North. -/
  n : Int
  /-- TB0 time of its arrival, ns. -/
  at_ : Nat
  deriving DecidableEq, Repr

/-- The governor. The active bank and the pending swap stand in GOV_STAT. -/
structure Gov where
  /-- Coefficient records (R182): fields by offset, by bank × 4096 + profile × 256 + region × 16 + target. -/
  coef : Tab (Tab Nat)
  /-- Machine state. -/
  mach : Tab GovMach
  /-- Zone states. -/
  zones : Tab Zone
  /-- ZONE_STATEs that wait. -/
  posts : List ZonePost
  /-- Machines with a state word whose error lasts (R190). -/
  bad : List Nat
  /-- The last sample: its heat, counted from the TB0 epoch, and its number. -/
  last : Option (Nat × Nat)
  deriving DecidableEq, Repr


/-! ## The fleet stop (chapter 9) -/

/-- An entry of the stop list (R211). -/
structure StopEntry where
  /-- The machine. -/
  mach : Nat
  /-- The causes it holds: bits 0 to 3 H0 to H3, 4 GOV, 5 SVC. -/
  causes : Nat
  deriving DecidableEq, Repr

/-- A frame sealed in advance (R204). -/
structure SealedFrame where
  /-- Its counter, of the reserved range. -/
  ctr : Nat
  /-- The heat of sealing. -/
  heat : Nat
  /-- The permit key index it was sealed under. -/
  index : Nat
  /-- It was used, and waits for its replacement. -/
  spent : Bool
  deriving DecidableEq, Repr

/-- What a permit beacon carries (R201). -/
structure Beacon where
  /-- The heat. -/
  heat : Nat
  /-- STOP. -/
  stop : Bool
  /-- QUIET. -/
  quiet : Bool
  /-- STP_LATCH. -/
  causes : Nat
  /-- The machines of the stop list. -/
  list : List Nat
  deriving DecidableEq, Repr

/-- The stop sequencer. -/
structure Stop where
  /-- STP_LATCH (R195). -/
  latch : Nat
  /-- STP_STAT.PHASE: 0 RUN, 1 STOPPING, 2 QUIET, 3 LATCHED. -/
  phase : Nat
  /-- TB0 time at which the running STOPPING or QUIET phase began, ns. -/
  phaseTb : Nat
  /-- The always-on time of the same instant, ns. -/
  phaseUp : Nat
  /-- The level of the pins STOP_INA and STOP_INB: high is asserted (R198). -/
  raw : Tab Bool
  /-- The always-on time of each pin's last change, ns. -/
  rawAt : Tab Nat
  /-- The filtered readings, channel A then B. -/
  ch : Tab Bool
  /-- The always-on time since which the readings differ (or agree), ns (R199). -/
  diffAt : Nat
  /-- STP_STAT.DISC. -/
  disc : Bool
  /-- The stop list, at most 16 entries (R211). -/
  list : List StopEntry
  /-- The next live frame counter of each port (R203). -/
  fc : Tab Nat
  /-- The reserved counters used under the permit key, by port (R203). -/
  used : Tab Nat
  /-- The sealed frames of each port, next to be sent first (R204). -/
  ahead : Tab (List SealedFrame)
  /-- The permit key in effect (R202). -/
  key : Option NamedKey
  /-- The permit key named for the next heat boundary. -/
  keyNext : Option NamedKey
  /-- The start of the first frame of the stop on each port, TB0 time in ns (R208). -/
  first : Tab Nat
  /-- The always-on time of the first frame, ns. -/
  firstUp : Option Nat
  /-- The 10 ms steps after the first frame at which a port has sent, by port (R208). -/
  grid : Tab Nat
  /-- The beacon payload latched in the heat (R200). -/
  payload : Option Beacon
  /-- The beacon of the heat was sent. -/
  sent : Bool
  /-- The beacon of the heat was aborted or replaced, or its latch fell in STOPPING (R216). -/
  byStopTest : Bool
  /-- Consecutive heats with a monitor miss (R216). -/
  misses : Nat
  /-- A RUN permit was latched since reset (R197). -/
  ran : Bool
  /-- The governor completed an on-time sample since GOV was latched (R195). -/
  govOk : Bool
  /-- The governor's ENGINE_FAULT was set since the last resume (R453). -/
  engineFault : Bool
  /-- The time on air of the last frame of each port ends here, TB0 time in ns. -/
  airUntil : Tab Nat
  deriving DecidableEq, Repr

/-! ## The pair (chapter 21) -/

/-- The tables as the last mirror left them: what the next one differs from (R458). -/
structure MirrorSnap where
  /-- The fleet table. -/
  tab : Tab (Tab Nat)
  /-- The reservation entries, by index. -/
  ents : Tab RsvEntry
  /-- The node records. -/
  nodes : Tab (Tab Nat)
  /-- The tasks. -/
  tasks : Tab Task
  /-- The segments. -/
  segs : Tab (Tab Nat)
  /-- The junctions. -/
  juncs : Tab (Tab Nat)
  /-- The coefficient records. -/
  coef : Tab (Tab Nat)
  /-- The key ID and the first heat of the current broadcast key, and the first heat of the next. -/
  key : Nat × Nat × Option Nat
  deriving DecidableEq, Repr

/-- The pair logic. -/
structure Pair where
  /-- The strap PAIR_RANK: away. -/
  away : Bool
  /-- CLAIM_OUT. -/
  claim : Bool
  /-- PEER_CLAIM_IN as last read. -/
  peerClaim : Bool
  /-- The always-on time of the last refresh, ns (R451). -/
  refreshAt : Nat
  /-- Consecutive low samples of PEER_CLAIM_IN (R455). -/
  lows : Nat
  /-- The instant of the last sample of PEER_CLAIM_IN, ns of TB0 (R455). -/
  sampledAt : Option Nat
  /-- The away unit waits for its confirming sample (R455). -/
  confirm : Bool
  /-- The always-on time since which both claims are high, ns (R463). -/
  bothAt : Option Nat
  /-- The pair key is loaded and the peer's identity recorded (R449). -/
  bound : Bool
  /-- PEER_SEEN. -/
  seen : Bool
  /-- Stroke starts since the last accepted heartbeat, holding at 4. -/
  quiet : Nat
  /-- The peer's last flags: READY. -/
  peerReady : Bool
  /-- The peer's last flags: MIRROR_OK. -/
  peerMirror : Bool
  /-- The peer's last flags: REVERT_REQ. -/
  peerRevert : Bool
  /-- The peer's last applied mirror sequence. -/
  peerSeq : Nat
  /-- The last heartbeat carried this unit's own rank (R463). -/
  rankClash : Bool
  /-- The last mirror sequence sent or applied. -/
  seq : Nat
  /-- MIRROR_OK. -/
  mirrorOk : Bool
  /-- The always-on time since which MIRROR_OK holds without a break, ns (R464). -/
  okAt : Nat
  /-- The mirror that carries SWEEP_END was applied and no gap has arisen since its sweep began (R459). -/
  swept : Bool
  /-- No gap has arisen since the sweep that is arriving began. -/
  sweeping : Bool
  /-- Mirrors left in the sweep that the holder is adding (R459). -/
  sweepOut : Nat
  /-- REVERT_REQ. -/
  revertReq : Bool
  /-- RELEASING. -/
  releasing : Bool
  /-- The mirror of sample 4 was sent while releasing (R464). -/
  lastMirror : Bool
  /-- The refresh was ended by SVC_CLAIM_RELEASE (R454). -/
  released : Bool
  /-- The always-on time at which the peer's claim fell, ns (R462). -/
  fellAt : Nat
  /-- The gap of a takeover is being measured. -/
  gapOpen : Bool
  /-- The mirrored latch set (R458, section 0x05). -/
  mLatch : Nat
  /-- The mirrored phase. -/
  mPhase : Nat
  /-- The mirrored phase's start: heat counter and TB0 nanoseconds. -/
  mPhaseAt : Nat × Nat
  /-- The mirrored live counters. -/
  mFc : List Nat
  /-- The mirrored egress sequence of the multicast key. -/
  mMcast : Nat
  /-- A mirror was applied, or the unit held the claim: the mirrored values stand. -/
  mirrored : Bool
  /-- The mirrored previous allowances, by machine (R460). -/
  mAllow : Tab Nat
  /-- A mirror was applied since the last sample. -/
  got : Bool
  /-- The last complete mirror: its sequence, and whether a sweep goes on after it. -/
  rcvd : Option (Nat × Bool)
  /-- Configuration commands accepted since the previous mirror: partition, code, body (R458, section 0x07). -/
  cfgs : List (Nat × Nat × Bytes)
  /-- The tables as last mirrored. -/
  snap : MirrorSnap
  /-- The next cell of the atlas sweep. -/
  cell : Nat
  /-- TB0 time at which the gate last opened by a takeover, ns (R461). -/
  opened : Option Nat
  deriving DecidableEq, Repr


/-! ## The fabric (chapters 10 to 13) -/

/-- A word of an x register with its poison tag (R240, R281). -/
structure XWord where
  /-- The 64 bits. -/
  v : DWord
  /-- The tag. -/
  bad : Bool
  deriving DecidableEq, Repr

/-- A v register with the poison tags of its quarters, bit k for quarter k (R240, R281). -/
structure VWord where
  /-- The 256 bits. -/
  v : VReg
  /-- The tags. -/
  bad : Nat
  deriving DecidableEq, Repr

/-- An active hardware loop (R256). -/
structure HwLoop where
  /-- The counter, 0 to 3. -/
  lc : Nat
  /-- Iterations left. -/
  n : Nat
  /-- The address of the body's first bundle. -/
  first : Nat
  /-- The address of its last bundle, LEND. -/
  last : Nat
  deriving DecidableEq, Repr

/-- A result that has not landed (R263). -/
structure Pend where
  /-- 0 an x register, 1 a v register, 2 a predicate. -/
  kind : Nat
  /-- The register. -/
  reg : Nat
  /-- The value. -/
  val : Nat
  /-- Its poison tags. -/
  bad : Nat
  /-- The 32-bit lanes, or predicate bits, that it writes. -/
  mask : Nat
  /-- The cycle at whose end it lands; none while an engine has not answered. -/
  due : Option Nat
  deriving DecidableEq, Repr

/-- A register set (R220, R240): the static set, or a context. -/
structure RSet where
  /-- x1 to x31. -/
  x : Tab XWord
  /-- v0 to v31. -/
  v : Tab VWord
  /-- p1 to p7. -/
  p : Tab Nat
  /-- The active loops, innermost first. -/
  loops : List HwLoop
  /-- LEND: the address of the last bundle that each counter was set up with (R255). -/
  lend : Tab Nat
  /-- FPCSR (R255). -/
  fpcsr : Nat
  /-- The program counter, a crucible byte offset. -/
  pc : Nat
  /-- Results that have not landed, oldest first. -/
  pend : List Pend
  /-- The cycle before which the set is not ready (R226). -/
  ready : Nat
  /-- The task that a context holds: its descriptor. -/
  task : Option Nat
  deriving DecidableEq, Repr

/-- The bundle that is issuing in the cycle (R243 to R247): what its slots have given so far. -/
structure Bundle where
  /-- The register set: 0 static, 1 to 4 C0 to C3. -/
  set : Nat
  /-- The next slot: 0 S0, 1 S1, 2 V, 3 M. -/
  slot : Nat
  /-- The exception to be recorded: kind (0 FETCH, 1 ILLEGAL, 2 POISON, 3 ACCESS) and slot. -/
  exc : Option (Nat × Nat)
  /-- The set is not ready: the bundle does not issue (R264). -/
  wait : Bool
  /-- The x, v and p destinations named: kind and register (R245). -/
  dests : List (Nat × Nat)
  /-- Results. -/
  new : List Pend
  /-- FPCSR flags raised. -/
  flags : Nat
  /-- A taken branch's target. -/
  jump : Option Nat
  /-- A taken BR, which costs a cycle (R258). -/
  extra : Bool
  /-- A loop to start: counter, count, length. -/
  loop : Option (Nat × Nat × Nat)
  /-- A value for FPCSR. -/
  mts : Option Nat
  /-- An unsuppressed ENDS. -/
  ends : Bool
  /-- Cycles that PAD adds. -/
  pad : Nat
  /-- Stall cycles (R226). -/
  stall : Nat
  /-- A queue operation passed the block's declarations and was not performed (R300). -/
  excess : Bool
  deriving DecidableEq, Repr

/-- A stroke block that runs (R300). -/
structure BlockRun where
  /-- The block ID. -/
  id : Nat
  /-- The anvil's cycle at which it started. -/
  start : Nat
  /-- Its declared cycles. -/
  declared : Nat
  /-- It is a re-run. -/
  again : Bool
  /-- The kind of the failure that it re-runs. -/
  first : Nat
  /-- The crucible offset it runs from. -/
  base : Nat
  /-- Packets and granules used so far, by queue times 2 plus direction (1 output). -/
  used : Tab (Nat × Nat)
  /-- The releases that R301 defers: queue and position. -/
  rel : List (Nat × Nat)
  deriving DecidableEq, Repr

/-- A failed block that waits for its re-run (R302). -/
structure FailedBlock where
  /-- The block ID. -/
  id : Nat
  /-- The kind of failure, 1 to 4. -/
  kind : Nat
  /-- The stroke. -/
  stroke : Nat
  deriving DecidableEq, Repr

/-- A write in a governor write buffer (R279). -/
structure GovWrite where
  /-- The machine. -/
  mach : Nat
  /-- The field code. -/
  fld : Nat
  /-- The value. -/
  val : Nat
  deriving DecidableEq, Repr

/-- An anvil. -/
structure Anvil where
  /-- The register sets: 0 static, 1 to 4 C0 to C3. -/
  sets : Tab RSet
  /-- CD2 cycles counted. -/
  now : Nat
  /-- `now` at the start of the stroke. -/
  stroke0 : Nat
  /-- The bundle that is issuing. -/
  bund : Option Bundle
  /-- The stroke block that runs. -/
  run : Option BlockRun
  /-- Failed blocks that wait for their re-run. -/
  fails : List FailedBlock
  /-- The cycle since stroke start at which the last re-run of the stroke ended. -/
  reEnd : Nat
  /-- Blocks that started in this heat. -/
  started : List Nat
  /-- The governor write buffer, oldest first. -/
  gwr : List GovWrite
  /-- Bundles issued in this heat. -/
  busy : Nat
  /-- Re-runs in this heat. -/
  reruns : Nat
  /-- Failures in this heat. -/
  failures : Nat
  deriving DecidableEq, Repr

/-- A tongs request (R230). -/
structure TReq where
  /-- 0 READ, 1 WRITE, 2 ABORT, 3 reserved. -/
  op : Nat
  /-- The completion queue. -/
  cq : Nat
  /-- The tag. -/
  tag : Nat
  /-- Row length. -/
  len : Nat
  /-- LPDDR address. -/
  lp : Nat
  /-- On-die address. -/
  die : Nat
  /-- Rows. -/
  rows : Nat
  /-- LPDDR stride. -/
  stride : Nat
  /-- Its reserved bits are 0. -/
  clean : Bool
  deriving DecidableEq, Repr

/-- A request queue of the tongs. -/
structure TQueue where
  /-- The transfer that runs. -/
  run : Option TReq
  /-- Completion records that wait for credit: queue and record. -/
  recs : List (Nat × Bytes)
  /-- The first granules of packets that were served ahead of their turn: aborts, and requests that were aborted. -/
  served : List Nat
  deriving DecidableEq, Repr

/-- An admission that runs or waits for the heat boundary (R298). -/
structure Admission where
  /-- The rungs to try, in order. -/
  tries : List Nat
  /-- A step-down under R304. -/
  down : Bool
  /-- The rung whose variant passed. -/
  rung : Option Nat
  /-- The overlay's variant passed too. -/
  ovl : Bool
  /-- The heat in which the checks ended, counted from the TB0 epoch. -/
  heat : Nat
  deriving DecidableEq, Repr

/-- The fabric. -/
structure Fab where
  /-- The body of the stock schedule image that was loaded (R286). -/
  stock : Option Bytes
  /-- The body of the overlay. -/
  overlay : Option Bytes
  /-- The stock schedule version, as the header's version field. -/
  ver : Nat
  /-- The anvils, by number. -/
  anvils : Tab Anvil
  /-- Blocks that do not run where the contract places them: 1 on the stand-in, 2 shed, 3 dropped (R303). -/
  remap : Tab Nat
  /-- Fenced anvils whose remap is due: the anvil and the always-on time of the fence, ns. -/
  fences : List (Nat × Nat)
  /-- The admission that runs or waits. -/
  adm : Option Admission
  /-- The request queues of the tongs, 0 to 7. -/
  tongs : Tab TQueue
  /-- Retired 4 KiB pages of LPDDR. -/
  pages : List Nat
  /-- Memory lines on spares or in place that read as poison until written: 64-byte line numbers. -/
  lines : List Nat
  /-- Bytes the tongs moved in this heat. -/
  bytes : Nat
  /-- Static stall cycles in this heat. -/
  stalls : Nat
  /-- Blocks passed in this heat. -/
  passes : Nat
  /-- Power-gate windows gated and skipped in this heat. -/
  gated : Nat
  /-- Windows skipped in this heat. -/
  skipped : Nat
  deriving DecidableEq, Repr

/-! ## Memory (R223, R228, R508) -/

/-- The byte memories: on-die memory and LPDDR, but for the fleet table, the graph, the node table and the atlas, which
stand in their own fields. -/
structure Mem where
  /-- The bytes that are not 0, by address, addresses strictly rising (log entry 8). -/
  bytes : List Host.Cell
  /-- The 64-bit words that carry poison, by word number, strictly rising (R282). -/
  bad : List Nat
  deriving DecidableEq, Repr

/-! ## The dispatcher (chapter 15) -/

/-- A task descriptor (R329). -/
structure Desc where
  /-- 0 FREE, 1 READY, 2 RUNNING, 3 SUSPENDED. -/
  st : Nat
  /-- Byte 1: HEARTH_ONLY, NOT_BEFORE, CANCEL_PEND. -/
  flags : Nat
  /-- Byte 2: home anvil, 64 none. -/
  home : Nat
  /-- The hearth that an anvil without home posted from. -/
  hearth : Nat
  /-- The completion queue. -/
  cq : Nat
  /-- Entry. -/
  entry : Nat
  /-- Argument. -/
  arg : Nat
  /-- Tag. -/
  tag : Nat
  /-- Not-before heat. -/
  nbHeat : Nat
  /-- Not-before stroke. -/
  nbStroke : Nat
  /-- Byte 25: trigger index and TRIGGERED. -/
  trig : Nat
  /-- The ready stamp, TB0 ns. -/
  stamp : Nat
  /-- The anvil and context it holds or held. -/
  at_ : Option (Nat × Nat)
  /-- It ended: status and result word; its record is not written. -/
  ended : Option (Nat × Nat)
  deriving DecidableEq, Repr

/-- What a ready list counted in the heat (R343). -/
structure ListStat where
  /-- Greatest depth. -/
  depth : Nat
  /-- Longest wait, ns. -/
  wmax : Nat
  /-- Sum of waits, ns. -/
  wsum : Nat
  /-- Waits. -/
  wn : Nat
  /-- The histogram, bins 0 to 15. -/
  hist : List Nat
  deriving DecidableEq, Repr

/-- The dispatcher. -/
structure Dsp where
  /-- Descriptors that are not FREE. -/
  desc : Tab Desc
  /-- The number of descriptors that were never taken: those from here up are FREE in order. -/
  fresh : Nat
  /-- Freed descriptors, in the order of freeing. -/
  freed : List Nat
  /-- The ready lists of R343, 0 to 72. -/
  lists : Tab (List Nat)
  /-- Ended tasks whose records wait, in order of completion. -/
  recs : List Nat
  /-- The anvil that last ran a task of a trigger (R332). -/
  lastOf : Tab Nat
  /-- The order of placements: the placement number of each anvil's last one. -/
  placed : Tab Nat
  /-- Placements so far. -/
  count : Nat
  /-- Packets of each trigger's queue for which a task was created, counted as the queue's `vis`. -/
  made : Tab Nat
  /-- Counts of the heat, by list. -/
  stats : Tab ListStat
  /-- Always-on time at which each context began to hold its task, by anvil × 4 + context, ns. -/
  since : Tab Nat
  /-- Time for which each anvil's contexts held tasks in the heat, ns. -/
  load : Tab Nat
  deriving DecidableEq, Repr


/-! ## The radio MAC (chapter 16) -/

/-- A frame on air (R351). -/
structure Air where
  /-- Its priority, 1 to 6. -/
  prio : Nat
  /-- TB0 time at which it ends, ns. -/
  fin : Nat
  deriving DecidableEq, Repr

/-- A frame held for a sleepy node, or the device's copy of one forwarded to a relay (R356, R362). -/
structure Held where
  /-- The short address. -/
  short : Nat
  /-- The always-on time at which it expires, ns. -/
  expiry : Nat
  /-- The host tag. -/
  tag : Nat
  /-- The partition that sent it. -/
  part : Nat
  /-- The payload. -/
  data : Bytes
  /-- The sequence of its relay envelope, if it was forwarded to a relay (R362). -/
  relay : Option Nat
  /-- It is on air now. -/
  onAir : Bool
  deriving DecidableEq, Repr

/-- A direct frame that waits for channel access or for its acknowledgement (R353). -/
structure Direct where
  /-- The short address, 0xFFFF before one is known. -/
  short : Nat
  /-- The extended address, for a frame to an address without a record. -/
  eui : Nat
  /-- A MAC command rather than a data frame. -/
  cmd : Bool
  /-- The host tag. -/
  tag : Nat
  /-- The partition whose NODE_SEND it ends, if it came from one. -/
  part : Option Nat
  /-- The MAC payload. -/
  data : Bytes
  /-- Channel assessments that found the channel busy (R353). -/
  backoffs : Nat
  /-- Transmissions repeated (R353). -/
  retries : Nat
  /-- The TB0 time at which its transmission ended, while it waits for an acknowledgement. -/
  sent : Option Nat
  deriving DecidableEq, Repr

/-- An accepted frame that waits for its acknowledgement (R350). -/
structure AckDue where
  /-- The short address that sent it, 0xFFFF for an extended address. -/
  short : Nat
  /-- The extended address. -/
  eui : Nat
  /-- The end of the frame, TB0 time in ns. -/
  fin : Nat
  /-- It was a data request. -/
  poll : Bool
  /-- The frame-pending bit, as found at the frame's end. -/
  pending : Bool
  /-- The first held frame expired since (R358). -/
  gone : Bool
  /-- The acknowledgement is secured: the frame was secured and of version 0b10. -/
  secured : Bool
  deriving DecidableEq, Repr

/-- A poll whose acknowledgement carried frame-pending 1 (R357). -/
structure Poll where
  /-- The short address. -/
  short : Nat
  /-- The end of the acknowledgement, TB0 time in ns. -/
  ended : Nat
  /-- The first held frame expired since the poll (R358). -/
  gone : Bool
  deriving DecidableEq, Repr

/-- One radio port. -/
structure Mac where
  /-- The markers are in lock (R345). -/
  locked : Bool
  /-- The transceiver interface is faulted (R345, R346). -/
  fault : Bool
  /-- The frame on air. -/
  air : Option Air
  /-- The indirect store, in the order of sending (R356). -/
  store : List Held
  /-- The highest number of frames held since reset. -/
  peak : Nat
  /-- The relays' windows: short address to period, offset and length (R361). -/
  relays : Tab (Nat × Nat × Nat)
  /-- The last relay envelope sequence. -/
  relaySeq : Nat
  /-- Direct frames that wait. -/
  direct : List Direct
  /-- The poll that was acknowledged with frame-pending 1. -/
  polled : Option Poll
  /-- The end of the heat's permit beacon, TB0 time in ns (R352). -/
  resvEnd : Nat
  /-- The accepted frames that wait for their acknowledgement. -/
  acks : List AckDue
  deriving DecidableEq, Repr



/-! ## Energy metering (chapter 19) -/

/-- One phase of a feed. -/
structure MeterPhase where
  /-- The eight accumulators of R412 with their 32 fraction bits, in 2^-32 µWh. -/
  acc : List Nat
  /-- The side of the last active energy accumulated: import when true (R414). -/
  side : Option Bool
  /-- P_s of the last 8,000 samples, µW, newest first (R415). -/
  window : List Int
  /-- The values held for a blank: P_s, Q_s, µW, and S_s, µVA (R416). -/
  held : Int × Int × Nat
  /-- The sum of P_s over the present second, µW (R423). -/
  sum : Int
  /-- It is below the no-load threshold (R415). -/
  noLoad : Bool
  deriving DecidableEq, Repr

/-- One feed. -/
structure MeterFeed where
  /-- L1 to L3. -/
  phases : List MeterPhase
  /-- The feed accumulators at the last close, 2^-32 µWh (R413). -/
  closed : List Nat
  /-- RANGE_SEL: fine (R416). -/
  fine : Bool
  /-- Samples of the blank that are left (R416). -/
  blank : Nat
  /-- A range switch that is due: to fine when true. -/
  due : Option Bool
  /-- Samples in a row with the highest I_rms below 8 % of the coarse full scale (R416). -/
  low : Nat
  /-- The highest I_rms of the last 8,000 samples, µA, newest first (R416). -/
  irms : List Nat
  /-- Samples taken in the present second. -/
  count : Nat
  /-- Reversals in the open interval (R414). -/
  reversals : Nat
  /-- Range switches in the open interval. -/
  switches : Nat
  /-- The flags that the open interval collected (R419, bytes 2-3). -/
  flags : Nat
  deriving DecidableEq, Repr

/-- The metering block. -/
structure Meter where
  /-- The domain runs. -/
  on : Bool
  /-- The feeds. -/
  feeds : Tab MeterFeed
  /-- MOD_D inputs that hold one level (R408). -/
  faults : List Nat
  /-- The interval length in effect, minutes, and MTR_ALIGN in effect (R417). -/
  len : Nat
  /-- MTR_ALIGN in effect, s. -/
  align : Int
  /-- TB6 seconds of the last close. -/
  lastClose : Option Nat
  /-- The open interval is shorter than its length or began before TB6 was valid (R417). -/
  partial_ : Bool
  /-- The flash save: its stamp in TB6 seconds, and the feeds (R421). -/
  saved : Option (Nat × Tab MeterFeed)
  /-- RTC seconds of the last accumulated sample (R422). -/
  lastRtc : Nat
  /-- A start whose GAP records wait for TB6: its always-on time, the last save, whether VBAT kept the accumulators and
  whether the loss is bounded (R422). -/
  gap : Option (Nat × Nat × Bool × Bool)
  /-- RETAINED at the last start. -/
  retained : Bool
  /-- The TB6 second of the last power summary. -/
  lastSum : Nat
  deriving DecidableEq, Repr


/-! ## Boot, update and the service port (chapter 22) -/

/-- A service session (R483). -/
structure SvcSession where
  /-- Its rights: bit 0 update, 1 provision, 2 debug, 3 stop, 4 log. -/
  rights : Nat
  /-- It was signed with the vendor key. -/
  vendor : Bool
  /-- The always-on time of its last command, ns. -/
  last : Nat
  deriving DecidableEq, Repr

/-- OTP, the boot flash, staging and the service port. -/
structure Boot where
  /-- The OTP generations written, generation 0 first, each with whether it was written right (R468, R469). -/
  otp : List (Bytes × Bool)
  /-- The active generation, as the last start selected it. -/
  gen : Nat
  /-- The boot record's sequence (R472). -/
  seq : Nat
  /-- Failed starts, 0 to 3. -/
  failed : Nat
  /-- ACTIVE_BAD. -/
  activeBad : Bool
  /-- KG_BAD. -/
  kgBad : Bool
  /-- KG_PRESENT. -/
  kgPresent : Bool
  /-- STAGED. -/
  staged : Bool
  /-- LAST_GOOD is the known-good set. -/
  lastKg : Bool
  /-- Copy state. -/
  copy : Nat
  /-- The active set: images by kind, header and body. -/
  active : Tab Bytes
  /-- The known-good set. -/
  known : Tab Bytes
  /-- The staging area: the bytes staged, by kind. -/
  stage : Tab Bytes
  /-- The candidate set of the commit that waits (R479). -/
  cand : Tab Bytes
  /-- The recovery copy. -/
  recov : Tab Bytes
  /-- The set that runs is the known-good set. -/
  runKg : Bool
  /-- Recovery ROM mode (R484). -/
  recovery : Bool
  /-- The warden runs (R476, step 7). -/
  warden : Bool
  /-- The block configuration record (R544). -/
  cfg : Option Bytes
  /-- The bound peer's unit ID, 12 bytes, with the pair key blob (R449). -/
  peer : Option Bytes
  /-- Holder of the staging lock: 0 none, 1 to 4 H0 to H3, 5 service (R478). -/
  holder : Nat
  /-- The always-on time of the holder's last update command, ns. -/
  holderAt : Nat
  /-- The source whose commit waits, 0 none. -/
  committer : Nat
  /-- A commit asked for a restart at the next heat boundary (R479). -/
  restart : Bool
  /-- SVC_EN. -/
  svcEn : Bool
  /-- SVC_BOOT at reset. -/
  svcBoot : Bool
  /-- The service session. -/
  sess : Option SvcSession
  /-- A nonce waits for its SVC_AUTH. -/
  nonce : Bool
  /-- The baud code: 0 115,200, 1 921,600, 2 3,000,000. -/
  baud : Nat
  /-- DBG_STAT.OPEN. -/
  dbgOpen : Bool
  deriving DecidableEq, Repr


/-! ## Power and ageing (chapter 23) -/

/-- Power, the start and the watchdog. -/
structure Power where
  /-- VIN is absent. -/
  off : Bool
  /-- RESET_N is low. -/
  held : Bool
  /-- A start has run since the last reset. -/
  started : Bool
  /-- Between reset and START_OK (R476). -/
  starting : Bool
  /-- The watchdog is armed (R545). -/
  armed : Bool
  /-- The always-on time of its last service, ns. -/
  served : Nat
  /-- WAKE_IN. -/
  wakeIn : Bool
  /-- The heat of the last request of a state, counted from the TB0 epoch (R493). -/
  reqHeat : Nat
  deriving DecidableEq, Repr

/-- A margin monitor (R500). -/
structure Monitor where
  /-- The last reading, ps. -/
  last : Int
  /-- Hourly minima, newest first: the hour, counted from power-on, and the minimum. -/
  hours : List (Nat × Int)
  /-- Daily minima, newest first: the day, counted from power-on, and the minimum. -/
  days : List (Nat × Int)
  /-- The last prediction, ps. -/
  pred : Int
  deriving DecidableEq, Repr

/-- The sums over one day of epochs in lock from which the reference drift is fitted (R504). -/
structure DriftDay where
  /-- The day of TB0. -/
  day : Nat
  /-- Epochs in lock. -/
  n : Nat
  /-- Milliseconds of lock. -/
  ms : Nat
  /-- The sum of their heats within the day. -/
  st : Nat
  /-- The sum of the squares of these. -/
  stt : Nat
  /-- The sum of the frequency states. -/
  sf : Frac
  /-- The sum of the products of heat and frequency state. -/
  stf : Frac
  deriving DecidableEq, Repr

/-- The AGE block's history (R500) and its trend and trim. -/
structure Age where
  /-- The monitors, by number. -/
  mons : Tab Monitor
  /-- The monitors as the last trend saved them in flash. -/
  saved : Tab Monitor
  /-- Days of epochs in lock, newest first. -/
  drift : List DriftDay
  /-- The heat of the last trend, counted from the TB0 epoch. -/
  ran : Option Nat
  /-- A trend is due at once: an hourly minimum fell below ALARM_PS. -/
  alarm : Bool
  /-- A trim step is due at the next stroke start (R502). -/
  trimDue : Bool
  /-- A trim step settles: its heat, and each monitor's reading before it. -/
  settle : Option (Nat × Tab Int)
  deriving DecidableEq, Repr


/-! ## The device -/

/-- The device: everything but the queue of commands. -/
structure Device where
  /-- The registers. -/
  regs : RegFile
  /-- Time bases (chapter 18). -/
  tim : Time
  /-- The GNSS engine (chapter 2). -/
  gns : Gnss
  /-- Correction output (chapter 3). -/
  cor : Corr
  /-- The central solver (chapter 4). -/
  slv : Solver
  /-- The slag log (R516). -/
  log : ErrLog
  /-- The queues, by number (R310). -/
  que : Tab Queue
  /-- The security block (chapter 20). -/
  keys : Keys
  /-- The tamper block (chapter 20). -/
  tmp : Tamper
  /-- The data link and the partitions (chapter 17). -/
  hst : Hosts
  /-- The stop sequencer (chapter 9). -/
  stp : Stop
  /-- The pair logic (chapter 21). -/
  pair : Pair
  /-- The fleet table and the node table (chapter 5). -/
  flt : Fleet
  /-- The track graph and the reservation store (chapter 6). -/
  rsv : Rsv
  /-- Tasks and the energy planner (chapter 7). -/
  alo : Allot
  /-- The governor (chapter 8). -/
  gov : Gov
  /-- The fabric (chapters 10 to 13). -/
  fab : Fab
  /-- Memory. -/
  mem : Mem
  /-- The dispatcher (chapter 15). -/
  dsp : Dsp
  /-- The radio ports (chapter 16). -/
  mac : Tab Mac
  /-- Energy metering (chapter 19). -/
  mtr : Meter
  /-- OTP, the boot flash, staging and the service port (chapter 22). -/
  boot : Boot
  /-- Power (chapter 23). -/
  pwr : Power
  /-- Margin monitors, trend and trim (chapter 23). -/
  age : Age
  /-- The level of each output pin (R532). -/
  pins : Tab Nat
  /-- What the device sent, newest last. -/
  out : List Wire
  /-- The data a register read returned last. -/
  bus : Word
  /-- Low-word reads that latched a high word: block number and offset of the high word, to the word latched (R12). -/
  hiLatch : Tab Word
  /-- Low words written that wait for their high word (R12). -/
  loHeld : Tab Word
  /-- How many free values were drawn (the model's own field, log entry 7). -/
  freeIx : Nat
  deriving DecidableEq, Repr

/-- The state: the commands that wait, first in, first out, and the device. -/
structure State where
  /-- The commands that wait (the model's own field, log entry 1). -/
  pending : List Instr
  /-- The device. -/
  dev : Device
  deriving DecidableEq, Repr

/-- Why a step can stop. -/
inductive Fault where
  /-- Raised by JTAG_INSTRUCTION alone: debug access under an open debug authorisation, whose effect the spec does not
  give (R485). Safe: the device would go on. -/
  | debugAccess
  deriving DecidableEq, Repr

/-- Why a command has no meaning. -/
inductive Refusal where
  /-- Raised by the arms of `exec` that are not modelled yet, by name. Safe: the device would go on. -/
  | notModelled (mnemonic : String)
  deriving DecidableEq, Repr

/-! ## Reset -/

/-- No register listed: every register reads its reset value. -/
def RegFile.reset : RegFile :=
  ⟨[], [], [], [], [], [], [], [], [], [], [], [], [], [], [], [], [], [], [], [], [], [], [], [], [], [], []⟩

/-- The time block after reset: TB0 not valid (R18), no base listed (R386 gives their masters). -/
def Time.reset : Time :=
  { bases := [], up := 0, valid := false, heats := false, begun := 0, stroke := 0, f := ⟨0, 1⟩,
    epochs := [], holdRate := 0, lastGood := 0, clearAt := none, inLock := 0, snaps := [], duty := 0,
    gm := 0, ptpPort := 0, ptpLock := 0 }

/-- The GNSS engine after reset: no reference position (R49: a stored one is restored at start-up). -/
def Gnss.reset : Gnss :=
  { eff := [], found := [], chans := [], ints := [], mpRef := [], alarm := false, quiet := 0, disp := [], ref := 0,
    pos := ⟨0, 0, 0⟩, refState := 0, load := none, check := false, stored := none, fix := none, survey := false,
    before := 0, counted := 0, last := 0, late := false, nextEp := 0, sky := [] }

/-- Correction output after reset: no profile, the count of R56 at 0. -/
def Corr.reset : Corr :=
  { prof := none, next := [], iod := 0, seen := none, arpHeat := none, base := none, due := [], built := none,
    radio := none, kid := 0, kFirst := 0, nextFirst := none, linkSets := 0, radioSets := 0, dropped := 0, withheld := 0,
    tagFails := 0, lastHeld := false }

/-- The solver after reset: no profile, an atlas of 255, the slots of rung 0 (R73). -/
def Solver.reset : Solver :=
  { prof := none, next := [], slots := 1024, filters := [], frames := [], taken := [], late := [], caught := 0,
    reports := [], solved := [], published := none, refPort := 0, refMoved := false, atlas := [], baseCell := none, evid := [],
    evidHeat := 0, last := [0, 0, 0, 0], discarded := 0, lateDone := 0, lateLost := 0, postfit := 0, noBase := 0,
    demotions := 0, evidLost := 0 }

/-- The store after reset: no graph, every entry free. -/
def Rsv.reset : Rsv :=
  { segs := [], juncs := [], ents := [], holds := [], lastId := 0, done := [], cur := [], blocked := [], overs := [],
    reqs := [], waits := [], visits := 0, sat := false }

/-- The security block after reset: no root key (R426), no slot loaded (R434). -/
def Keys.reset : Keys := { rootOk := false, root := 0, slots := [], gens := [], regs := [] }

/-- The tamper block as it leaves the factory: no cinder state, an empty log (R442). -/
def Tamper.reset : Tamper :=
  { cinder := false, log := [], count := 0, active := 0, rtcValid := false, rtc := 0, rtcUp := 0 }

/-- No session, no partition record. -/
def Hosts.reset : Hosts :=
  { sess := [], replay := [], seqs := [], parts := [], waiting := [], owed := [], done := [], mkey := none,
    mkeyNext := none, views := [], spiOut := [], link := [] }

/-- The stop sequencer after reset: LATCHED with BOOT latched (R195); STOP_STAT's channels read 0 (R218). -/
def Stop.reset : Stop :=
  { latch := 0x100, phase := 3, phaseTb := 0, phaseUp := 0, raw := [], rawAt := [], ch := [], diffAt := 0,
    disc := false, list := [], fc := [], used := [], ahead := [], key := none, keyNext := none, first := [],
    firstUp := none, grid := [], payload := none, sent := false, byStopTest := false, misses := 0, ran := false,
    govOk := false, engineFault := false, airUntil := [] }

/-- The pair logic after reset: home rank, no claim. -/
def Pair.reset : Pair :=
  { away := false, claim := false, peerClaim := false, refreshAt := 0, lows := 0, sampledAt := none,
    confirm := false, bothAt := none, bound := false, seen := false, quiet := 0, peerReady := false, peerMirror := false, peerRevert := false,
    peerSeq := 0, rankClash := false, seq := 0, mirrorOk := false, okAt := 0, swept := false, sweeping := false,
    sweepOut := 0, revertReq := false, releasing := false, lastMirror := false, released := false, fellAt := 0,
    gapOpen := false, mLatch := 0, mPhase := 0, mPhaseAt := (0, 0), mFc := [], mMcast := 0, mirrored := false,
    mAllow := [], got := false, rcvd := none, cfgs := [], snap := ⟨[], [], [], [], [], [], [], (0, 0, none)⟩, cell := 0,
    opened := none }

/-- No machine admitted, no node; the defaults of FLEET_CFG, every PAN closed (R119). -/
def Fleet.reset : Fleet :=
  { tab := [], nodes := [], quar := [], cfg := [30, 72, 2, 2, 2, 2], cfgSet := false, cfgNext := [], allow := [],
    offers := [], disc := 0, discNow := false, joins := [], leave := [], heard := [], goners := [],
    mirSeq := [] }

/-- No task, no profile, no dock. -/
def Allot.reset : Allot :=
  { prof := none, next := [], docks := [], tasks := [], reports := [], dueNow := false, dueNext := false, ran := none,
    planned := none, load := none, staleSaid := false }

/-- The governor after reset: no coefficient, no zone, no sample. -/
def Gov.reset : Gov := { coef := [], mach := [], zones := [], posts := [], bad := [], last := none }

/-- The fabric after reset: no image, no anvil touched. -/
def Fab.reset : Fab :=
  { stock := none, overlay := none, ver := 0, anvils := [], remap := [], fences := [], adm := none, tongs := []
    pages := [], lines := [], bytes := 0, stalls := 0, passes := 0, gated := 0, skipped := 0 }

/-- Every descriptor is FREE. -/
def Dsp.reset : Dsp :=
  { desc := [], fresh := 0, freed := [], lists := [], recs := [], lastOf := [], placed := [], count := 0, made := []
    stats := [], since := [], load := [] }

/-- The metering block after reset: no accumulator listed, 15-minute intervals (R425). -/
def Meter.reset : Meter :=
  { on := false, feeds := [], faults := [], len := 15, align := 0, lastClose := none, partial_ := true, saved := none,
    lastRtc := 0, gap := none, retained := false, lastSum := 0 }

/-- The factory record of OTP that the model names: every field 0 (log entry 30). Its CRC-32 is that of 60 zero bytes. -/
def otpFactory : Bytes := List.replicate 60 0 ++ [0x08#8, 0x89#8, 0x12#8, 0x04#8]

/-- The boot flash is empty and the service port idle (log entry 30). -/
def Boot.reset : Boot :=
  { otp := [(otpFactory, true)], gen := 0, seq := 0, failed := 0, activeBad := false, kgBad := false, kgPresent := false,
    staged := false, lastKg := false, copy := 0, active := [], known := [], stage := [], cand := [], recov := [],
    runKg := false, recovery := false, warden := false, cfg := none, peer := none, holder := 0, holderAt := 0,
    committer := 0, restart := false, svcEn := false, svcBoot := false, sess := none, nonce := false, baud := 0,
    dbgOpen := false }

/-- Power after reset: supplied, not yet started. -/
def Power.reset : Power :=
  { off := false, held := false, started := false, starting := true, armed := false, served := 0, wakeIn := false,
    reqHeat := 0 }

/-- No reading. -/
def Age.reset : Age :=
  { mons := [], saved := [], drift := [], ran := none, alarm := false, trimDue := false, settle := none }

/-- The device after reset. -/
def Device.reset : Device :=
  { regs := RegFile.reset, tim := Time.reset, gns := Gnss.reset, cor := Corr.reset, slv := Solver.reset, log := ⟨[], 0, []⟩, que := [], keys := Keys.reset,
    tmp := Tamper.reset, hst := Hosts.reset, stp := Stop.reset, pair := Pair.reset, flt := Fleet.reset, rsv := Rsv.reset, alo := Allot.reset, gov := Gov.reset, fab := Fab.reset, mem := ⟨[], []⟩, dsp := Dsp.reset, mac := [], mtr := Meter.reset, boot := Boot.reset, pwr := Power.reset, age := Age.reset, pins := [(5, 1)],
    out := [], bus := 0, hiLatch := [],
    loHeld := [], freeIx := 0 }

/-- The machine right after reset: no command waits. -/
def State.reset : State := { pending := [], dev := Device.reset }

end Sys2Proof.Machine
end

