-- ==== Sys2Proof/Machine/RegNames.lean ====
section
/-!
DEFINITION. Machine/RegNames.lean: the registers by the names of R523, written from the register tables of spec/.
-/
namespace Sys2Proof.Machine

/-- The block of radio port `p` (R366: register block 0x10 + p). -/
def macBlk (p : Nat) : Blk :=
  if p = 0 then .mac0 else if p = 1 then .mac1 else if p = 2 then .mac2 else .mac3

/-- R52. -/
def GNS_CTRL : Reg := ⟨.gns, 0x0⟩
/-- R52. -/
def GNS_STAT : Reg := ⟨.gns, 0x4⟩
/-- R52. -/
def GNS_SIG_EN : Reg := ⟨.gns, 0x8⟩
/-- R52. -/
def GNS_MASK : Reg := ⟨.gns, 0xC⟩
/-- R52. -/
def GNS_FE_CFG (p : Nat) : Reg := ⟨.gns, 0x10 + 4 * p⟩
/-- R52. -/
def GNS_REF_X_LO : Reg := ⟨.gns, 0x20⟩
/-- R52. -/
def GNS_REF_X_HI : Reg := ⟨.gns, 0x24⟩
/-- R52. -/
def GNS_REF_Y_LO : Reg := ⟨.gns, 0x28⟩
/-- R52. -/
def GNS_REF_Y_HI : Reg := ⟨.gns, 0x2C⟩
/-- R52. -/
def GNS_REF_Z_LO : Reg := ⟨.gns, 0x30⟩
/-- R52. -/
def GNS_REF_Z_HI : Reg := ⟨.gns, 0x34⟩
/-- R52. -/
def GNS_REF_CMD : Reg := ⟨.gns, 0x38⟩
/-- R52. -/
def GNS_REF_STAT : Reg := ⟨.gns, 0x3C⟩
/-- R52. -/
def GNS_SURVEY_CFG : Reg := ⟨.gns, 0x40⟩
/-- R52. -/
def GNS_SURVEY_SIGMA : Reg := ⟨.gns, 0x44⟩
/-- R52. -/
def GNS_ARRAY_E (p : Nat) : Reg := ⟨.gns, 0x70 + 16 * (p - 1)⟩
/-- R52. -/
def GNS_ARRAY_N (p : Nat) : Reg := ⟨.gns, 0x74 + 16 * (p - 1)⟩
/-- R52. -/
def GNS_ARRAY_U (p : Nat) : Reg := ⟨.gns, 0x78 + 16 * (p - 1)⟩
/-- R52. -/
def GNS_INT_CFG : Reg := ⟨.gns, 0xA0⟩
/-- R52. -/
def GNS_INT_STAT : Reg := ⟨.gns, 0xA4⟩
/-- R52. -/
def GNS_INT_EN : Reg := ⟨.gns, 0xA8⟩
/-- R52. -/
def GNS_DROP_CNT : Reg := ⟨.gns, 0xAC⟩
/-- R52. -/
def GNS_FE_IF (i : Nat) : Reg := ⟨.gns, 0x100 + 4 * i⟩
/-- R147. -/
def RSV_CTRL : Reg := ⟨.rsv, 0x0⟩
/-- R147. -/
def RSV_STAT : Reg := ⟨.rsv, 0x4⟩
/-- R147. -/
def RSV_EPOCH : Reg := ⟨.rsv, 0x8⟩
/-- R147. -/
def RSV_NOW : Reg := ⟨.rsv, 0xC⟩
/-- R147. -/
def RSV_COUNT : Reg := ⟨.rsv, 0x10⟩
/-- R147. -/
def RSV_HELD : Reg := ⟨.rsv, 0x14⟩
/-- R147. -/
def RSV_PEAK : Reg := ⟨.rsv, 0x18⟩
/-- R147. -/
def RSV_PAUSE_BASE : Reg := ⟨.rsv, 0x1C⟩
/-- R147. -/
def RSV_PAUSE_OFS : Reg := ⟨.rsv, 0x20⟩
/-- R147. -/
def RSV_CFG : Reg := ⟨.rsv, 0x24⟩
/-- R147. -/
def RSV_INT_STAT : Reg := ⟨.rsv, 0x28⟩
/-- R147. -/
def RSV_INT_EN : Reg := ⟨.rsv, 0x2C⟩
/-- R147. -/
def RSV_VISITS : Reg := ⟨.rsv, 0x30⟩
/-- R147. -/
def RSV_GRAPH_ERR : Reg := ⟨.rsv, 0x34⟩
/-- R194. -/
def GOV_CTRL : Reg := ⟨.gov, 0x0⟩
/-- R194. -/
def GOV_STAT : Reg := ⟨.gov, 0x4⟩
/-- R194. -/
def GOV_CFG : Reg := ⟨.gov, 0x8⟩
/-- R194. -/
def GOV_BANK : Reg := ⟨.gov, 0xC⟩
/-- R194. -/
def GOV_LAST_HEAT : Reg := ⟨.gov, 0x10⟩
/-- R194. -/
def GOV_LAT : Reg := ⟨.gov, 0x14⟩
/-- R194. -/
def GOV_LAT_MAX : Reg := ⟨.gov, 0x18⟩
/-- R194. -/
def GOV_MISS_CNT : Reg := ⟨.gov, 0x1C⟩
/-- R194. -/
def GOV_STALE_NOW : Reg := ⟨.gov, 0x20⟩
/-- R194. -/
def GOV_SATSWAP_CNT : Reg := ⟨.gov, 0x24⟩
/-- R194. -/
def GOV_INT_STAT : Reg := ⟨.gov, 0x28⟩
/-- R194. -/
def GOV_INT_EN : Reg := ⟨.gov, 0x2C⟩
/-- R194. -/
def GOV_FAULT_MACH : Reg := ⟨.gov, 0x30⟩
/-- R218. -/
def STP_CTRL : Reg := ⟨.stp, 0x0⟩
/-- R218. -/
def STP_CFG : Reg := ⟨.stp, 0x4⟩
/-- R218. -/
def STP_STAT : Reg := ⟨.stp, 0x8⟩
/-- R218. -/
def STP_LATCH : Reg := ⟨.stp, 0xC⟩
/-- R218. -/
def STP_SEALED : Reg := ⟨.stp, 0x10⟩
/-- R218. -/
def STP_ARISE_HEAT : Reg := ⟨.stp, 0x14⟩
/-- R218. -/
def STP_ARISE_NS : Reg := ⟨.stp, 0x18⟩
/-- R218. -/
def STP_LAT : Reg := ⟨.stp, 0x1C⟩
/-- R218. -/
def STP_LAT_MAX : Reg := ⟨.stp, 0x20⟩
/-- R218. -/
def STP_INT_STAT : Reg := ⟨.stp, 0x24⟩
/-- R218. -/
def STP_INT_EN : Reg := ⟨.stp, 0x28⟩
/-- R218. -/
def STP_OUI : Reg := ⟨.stp, 0x2C⟩
/-- R218. -/
def STP_LIST (k : Nat) : Reg := ⟨.stp, 0x30 + 4 * k⟩
/-- R218. -/
def STP_FC (p : Nat) : Reg := ⟨.stp, 0x50 + 4 * p⟩
/-- R239. -/
def FAB_CTRL : Reg := ⟨.fab, 0x0⟩
/-- R239. -/
def FAB_STAT : Reg := ⟨.fab, 0x4⟩
/-- R239. -/
def FAB_FENCE_LO : Reg := ⟨.fab, 0x8⟩
/-- R239. -/
def FAB_FENCE_HI : Reg := ⟨.fab, 0xC⟩
/-- R239. -/
def FAB_FENCE_CAUSE : Reg := ⟨.fab, 0x10⟩
/-- R239. -/
def FAB_ECC_CORR : Reg := ⟨.fab, 0x14⟩
/-- R239. -/
def FAB_TRANSIENT : Reg := ⟨.fab, 0x18⟩
/-- R239. -/
def FAB_LASTING : Reg := ⟨.fab, 0x1C⟩
/-- R239. -/
def FAB_STALL : Reg := ⟨.fab, 0x20⟩
/-- R239. -/
def FAB_PG : Reg := ⟨.fab, 0x24⟩
/-- R239. -/
def FAB_TONGS_STAT : Reg := ⟨.fab, 0x28⟩
/-- R239. -/
def FAB_TONGS_BYTES : Reg := ⟨.fab, 0x2C⟩
/-- R239. -/
def FAB_INT_STAT : Reg := ⟨.fab, 0x30⟩
/-- R239. -/
def FAB_INT_EN : Reg := ⟨.fab, 0x34⟩
/-- R239. -/
def FAB_SPARE (k : Nat) : Reg := ⟨.fab, 0x40 + 4 * k⟩
/-- R239. -/
def FAB_BUSY (a : Nat) : Reg := ⟨.fab, 0x100 + 4 * a⟩
/-- R307. -/
def FAB_ADM_CTRL : Reg := ⟨.fab, 0x400⟩
/-- R307. -/
def FAB_ADM_STAT : Reg := ⟨.fab, 0x404⟩
/-- R307. -/
def FAB_ADM_HEAT : Reg := ⟨.fab, 0x408⟩
/-- R307. -/
def FAB_ADM_VARIANTS : Reg := ⟨.fab, 0x40C⟩
/-- R307. -/
def FAB_MARGIN_REQ : Reg := ⟨.fab, 0x410⟩
/-- R307. -/
def FAB_AUD_PASS : Reg := ⟨.fab, 0x414⟩
/-- R307. -/
def FAB_AUD_TRANSIENT : Reg := ⟨.fab, 0x418⟩
/-- R307. -/
def FAB_AUD_LASTING : Reg := ⟨.fab, 0x41C⟩
/-- R307. -/
def FAB_AUD_UNRETRIED : Reg := ⟨.fab, 0x420⟩
/-- R307. -/
def FAB_AUD_STARVE : Reg := ⟨.fab, 0x424⟩
/-- R307. -/
def FAB_AUD_LAST : Reg := ⟨.fab, 0x428⟩
/-- R307. -/
def FAB_REMAP : Reg := ⟨.fab, 0x42C⟩
/-- R307. -/
def FAB_AUD_INT_STAT : Reg := ⟨.fab, 0x430⟩
/-- R307. -/
def FAB_AUD_INT_EN : Reg := ⟨.fab, 0x434⟩
/-- R307. -/
def FAB_RERUN (a : Nat) : Reg := ⟨.fab, 0x500 + 4 * a⟩
/-- R327. -/
def QUE_STAT : Reg := ⟨.que, 0x0⟩
/-- R327. -/
def QUE_FLUSH : Reg := ⟨.que, 0x4⟩
/-- R327. -/
def QUE_INT_STAT : Reg := ⟨.que, 0x8⟩
/-- R327. -/
def QUE_INT_EN : Reg := ⟨.que, 0xC⟩
/-- R327. -/
def QUE_TRANSIENT : Reg := ⟨.que, 0x10⟩
/-- R327. -/
def QUE_LASTING : Reg := ⟨.que, 0x14⟩
/-- R327. -/
def QUE_SPARE : Reg := ⟨.que, 0x18⟩
/-- R327. -/
def QUE_CFG_ERR : Reg := ⟨.que, 0x1C⟩
/-- R327. -/
def QUE_LVL_STAT (k : Nat) : Reg := ⟨.que, 0x20 + 4 * k⟩
/-- R327. -/
def QUE_LVL_EN (k : Nat) : Reg := ⟨.que, 0x40 + 4 * k⟩
/-- R327. -/
def QUE_CFG (n : Nat) : Reg := ⟨.que, 0x400 + 4 * n⟩
/-- R327. -/
def QUE_BASE (n : Nat) : Reg := ⟨.que, 0x800 + 4 * n⟩
/-- R327. -/
def QUE_LEVEL (n : Nat) : Reg := ⟨.que, 0xC00 + 4 * n⟩
/-- R327. -/
def QUE_BOOK_A (n : Nat) : Reg := ⟨.que, 0x1000 + 4 * n⟩
/-- R327. -/
def QUE_BOOK_B (n : Nat) : Reg := ⟨.que, 0x1400 + 4 * n⟩
/-- R327. -/
def QUE_STATE (n : Nat) : Reg := ⟨.que, 0x1800 + 4 * n⟩
/-- R327. -/
def QUE_DROP (n : Nat) : Reg := ⟨.que, 0x1C00 + 4 * n⟩
/-- R344. -/
def DSP_CTRL : Reg := ⟨.dsp, 0x0⟩
/-- R344. -/
def DSP_CFG : Reg := ⟨.dsp, 0x4⟩
/-- R344. -/
def DSP_BP_CFG : Reg := ⟨.dsp, 0x8⟩
/-- R344. -/
def DSP_BOOK_A : Reg := ⟨.dsp, 0xC⟩
/-- R344. -/
def DSP_BOOK_B : Reg := ⟨.dsp, 0x10⟩
/-- R344. -/
def DSP_STAT : Reg := ⟨.dsp, 0x14⟩
/-- R344. -/
def DSP_INT_STAT : Reg := ⟨.dsp, 0x18⟩
/-- R344. -/
def DSP_INT_EN : Reg := ⟨.dsp, 0x1C⟩
/-- R344. -/
def DSP_POST_FAIL : Reg := ⟨.dsp, 0x20⟩
/-- R344. -/
def DSP_CANCELLED : Reg := ⟨.dsp, 0x24⟩
/-- R344. -/
def DSP_FAULTED : Reg := ⟨.dsp, 0x28⟩
/-- R344. -/
def DSP_TRIG_Q (k : Nat) : Reg := ⟨.dsp, 0x40 + 8 * k⟩
/-- R344. -/
def DSP_TRIG_ADDR (k : Nat) : Reg := ⟨.dsp, 0x44 + 8 * k⟩
/-- R344. -/
def DSP_DEPTH (l : Nat) : Reg := ⟨.dsp, 0x100 + 4 * l⟩
/-- R344. -/
def DSP_WMAX (l : Nat) : Reg := ⟨.dsp, 0x300 + 4 * l⟩
/-- R344. -/
def DSP_WMEAN (l : Nat) : Reg := ⟨.dsp, 0x500 + 4 * l⟩
/-- R344. -/
def DSP_LOAD (a : Nat) : Reg := ⟨.dsp, 0x700 + 4 * a⟩
/-- R344. -/
def DSP_HIST (l i : Nat) : Reg := ⟨.dsp, 0x1000 + 64 * l + 4 * i⟩
/-- R366. -/
def MAC_CTRL (m : Nat) : Reg := ⟨macBlk m, 0x0⟩
/-- R366. -/
def MAC_STAT (m : Nat) : Reg := ⟨macBlk m, 0x4⟩
/-- R366. -/
def MAC_PHY (m : Nat) : Reg := ⟨macBlk m, 0x8⟩
/-- R366. -/
def MAC_CHAN (m : Nat) : Reg := ⟨macBlk m, 0xC⟩
/-- R366. -/
def MAC_PAN (m : Nat) : Reg := ⟨macBlk m, 0x10⟩
/-- R366. -/
def MAC_EUI_LO (m : Nat) : Reg := ⟨macBlk m, 0x14⟩
/-- R366. -/
def MAC_EUI_HI (m : Nat) : Reg := ⟨macBlk m, 0x18⟩
/-- R366. -/
def MAC_REGION (m : Nat) : Reg := ⟨macBlk m, 0x1C⟩
/-- R366. -/
def MAC_CSMA (m : Nat) : Reg := ⟨macBlk m, 0x20⟩
/-- R366. -/
def MAC_GUARD (m : Nat) : Reg := ⟨macBlk m, 0x24⟩
/-- R366. -/
def MAC_IND_BASE (m : Nat) : Reg := ⟨macBlk m, 0x28⟩
/-- R366. -/
def MAC_IND_USED (m : Nat) : Reg := ⟨macBlk m, 0x2C⟩
/-- R366. -/
def MAC_CHILDREN (m : Nat) : Reg := ⟨macBlk m, 0x30⟩
/-- R366. -/
def MAC_RX_OK (m : Nat) : Reg := ⟨macBlk m, 0x34⟩
/-- R366. -/
def MAC_RX_DROP (m : Nat) : Reg := ⟨macBlk m, 0x38⟩
/-- R366. -/
def MAC_ACK_SKIP (m : Nat) : Reg := ⟨macBlk m, 0x3C⟩
/-- R366. -/
def MAC_EXPIRED (m : Nat) : Reg := ⟨macBlk m, 0x40⟩
/-- R366. -/
def MAC_INT_STAT (m : Nat) : Reg := ⟨macBlk m, 0x44⟩
/-- R366. -/
def MAC_INT_EN (m : Nat) : Reg := ⟨macBlk m, 0x48⟩
/-- R366. -/
def MAC_PEND (m k : Nat) : Reg := ⟨macBlk m, 0x100 + 4 * k⟩
/-- R384. -/
def NET_CTRL : Reg := ⟨.net, 0x0⟩
/-- R384. -/
def NET_STAT : Reg := ⟨.net, 0x4⟩
/-- R384. -/
def NET_VLAN : Reg := ⟨.net, 0x8⟩
/-- R384. -/
def NET_PORT : Reg := ⟨.net, 0xC⟩
/-- R384. -/
def NET_IPV4 : Reg := ⟨.net, 0x10⟩
/-- R384. -/
def NET_IPV6 (k : Nat) : Reg := ⟨.net, 0x14 + 4 * k⟩
/-- R384. -/
def NET_MCAST_V4 : Reg := ⟨.net, 0x24⟩
/-- R384. -/
def NET_CORR_V4 : Reg := ⟨.net, 0x28⟩
/-- R384. -/
def NET_RX_OK : Reg := ⟨.net, 0x2C⟩
/-- R384. -/
def NET_RX_DROP : Reg := ⟨.net, 0x30⟩
/-- R384. -/
def NET_DUP : Reg := ⟨.net, 0x34⟩
/-- R384. -/
def NET_TX : Reg := ⟨.net, 0x38⟩
/-- R384. -/
def NET_INT_STAT : Reg := ⟨.net, 0x3C⟩
/-- R384. -/
def NET_INT_EN : Reg := ⟨.net, 0x40⟩
/-- R385. -/
def HST_SPI_CFG : Reg := ⟨.hst, 0x0⟩
/-- R385. -/
def HST_PART (p : Nat) : Reg := ⟨.hst, 0x10 + 16 * p⟩
/-- R385. -/
def HST_SESS_HEAT (p : Nat) : Reg := ⟨.hst, 0x14 + 16 * p⟩
/-- R385. -/
def HST_CMDS (p : Nat) : Reg := ⟨.hst, 0x18 + 16 * p⟩
/-- R385. -/
def HST_INT_STAT : Reg := ⟨.hst, 0x50⟩
/-- R385. -/
def HST_INT_EN : Reg := ⟨.hst, 0x54⟩
/-- R405. -/
def TIM_CTRL : Reg := ⟨.tim, 0x0⟩
/-- R405. -/
def TIM_STAT : Reg := ⟨.tim, 0x4⟩
/-- R405. -/
def TIM_RESID : Reg := ⟨.tim, 0x8⟩
/-- R405. -/
def TIM_SNAP : Reg := ⟨.tim, 0x10⟩
/-- R405. -/
def TIM_SNAP_HEAT : Reg := ⟨.tim, 0x14⟩
/-- R405. -/
def TIM_SNAP_NS (b : Nat) : Reg := ⟨.tim, 0x20 + 4 * b⟩
/-- R405. -/
def TIM_DISC_CFG : Reg := ⟨.tim, 0x40⟩
/-- R405. -/
def TIM_HOLD_CFG : Reg := ⟨.tim, 0x44⟩
/-- R405. -/
def TIM_TUNE : Reg := ⟨.tim, 0x48⟩
/-- R405. -/
def TIM_PTP_CFG : Reg := ⟨.tim, 0x4C⟩
/-- R405. -/
def TIM_INT_STAT : Reg := ⟨.tim, 0x50⟩
/-- R405. -/
def TIM_INT_EN : Reg := ⟨.tim, 0x54⟩
/-- R405. -/
def TIM_NS (b : Nat) : Reg := ⟨.tim, 0x100 + 32 * b⟩
/-- R405. -/
def TIM_RATE (b : Nat) : Reg := ⟨.tim, 0x104 + 32 * b⟩
/-- R405. -/
def TIM_ADJ (b : Nat) : Reg := ⟨.tim, 0x108 + 32 * b⟩
/-- R405. -/
def TIM_OFS (b : Nat) : Reg := ⟨.tim, 0x10C + 32 * b⟩
/-- R405. -/
def TIM_BCFG (b : Nat) : Reg := ⟨.tim, 0x110 + 32 * b⟩
/-- R405. -/
def TIM_BSTAT (b : Nat) : Reg := ⟨.tim, 0x114 + 32 * b⟩
/-- R405. -/
def TIM_HOLD_EST (b : Nat) : Reg := ⟨.tim, 0x118 + 32 * b⟩
/-- R405. -/
def TIM_HOLD_S (b : Nat) : Reg := ⟨.tim, 0x11C + 32 * b⟩
/-- R405. -/
def TIM_CMP_CFG (k : Nat) : Reg := ⟨.tim, 0x400 + 16 * k⟩
/-- R405. -/
def TIM_CMP_TGT (k : Nat) : Reg := ⟨.tim, 0x404 + 16 * k⟩
/-- R405. -/
def TIM_CMP_PER (k : Nat) : Reg := ⟨.tim, 0x408 + 16 * k⟩
/-- R405. -/
def TIM_CAP_CFG (k : Nat) : Reg := ⟨.tim, 0x600 + 16 * k⟩
/-- R405. -/
def TIM_CAP_VAL (k : Nat) : Reg := ⟨.tim, 0x604 + 16 * k⟩
/-- R405. -/
def TIM_CAP_HEAT (k : Nat) : Reg := ⟨.tim, 0x608 + 16 * k⟩
/-- R405. -/
def TIM_CAP_STAT (k : Nat) : Reg := ⟨.tim, 0x60C + 16 * k⟩
/-- R425. -/
def MTR_CTRL : Reg := ⟨.mtr, 0x0⟩
/-- R425. -/
def MTR_STAT : Reg := ⟨.mtr, 0x4⟩
/-- R425. -/
def MTR_INTERVAL : Reg := ⟨.mtr, 0x8⟩
/-- R425. -/
def MTR_ALIGN : Reg := ⟨.mtr, 0xC⟩
/-- R425. -/
def MTR_RING_BASE : Reg := ⟨.mtr, 0x10⟩
/-- R425. -/
def MTR_RING_LEN : Reg := ⟨.mtr, 0x14⟩
/-- R425. -/
def MTR_SEQ : Reg := ⟨.mtr, 0x18⟩
/-- R425. -/
def MTR_SAVE_S : Reg := ⟨.mtr, 0x1C⟩
/-- R425. -/
def MTR_INT_STAT : Reg := ⟨.mtr, 0x20⟩
/-- R425. -/
def MTR_INT_EN : Reg := ⟨.mtr, 0x24⟩
/-- R425. -/
def MTR_BUS_CFG (b : Nat) : Reg := ⟨.mtr, 0x40 + 4 * b⟩
/-- R425. -/
def MTR_FEED_CFG (f : Nat) : Reg := ⟨.mtr, 0x100 + 32 * f⟩
/-- R425. -/
def MTR_FEED_NOM (f : Nat) : Reg := ⟨.mtr, 0x104 + 32 * f⟩
/-- R425. -/
def MTR_FEED_STAT (f : Nat) : Reg := ⟨.mtr, 0x108 + 32 * f⟩
/-- R425. -/
def MTR_P1S (f ph : Nat) : Reg := ⟨.mtr, 0x10C + 32 * f + 4 * ph⟩
/-- R425. -/
def MTR_PMAX (f : Nat) : Reg := ⟨.mtr, 0x118 + 32 * f⟩
/-- R425. -/
def MTR_CH_FS (c : Nat) : Reg := ⟨.mtr, 0x400 + 16 * c⟩
/-- R425. -/
def MTR_CH_FSF (c : Nat) : Reg := ⟨.mtr, 0x404 + 16 * c⟩
/-- R425. -/
def MTR_CH_PH (c : Nat) : Reg := ⟨.mtr, 0x408 + 16 * c⟩
/-- R425. -/
def MTR_ACC_LO (f s k : Nat) : Reg := ⟨.mtr, 0x800 + 256 * f + 64 * s + 8 * k⟩
/-- R425. -/
def MTR_ACC_HI (f s k : Nat) : Reg := ⟨.mtr, 0x804 + 256 * f + 64 * s + 8 * k⟩
/-- R446. -/
def KEY_CTRL : Reg := ⟨.key, 0x0⟩
/-- R446. -/
def KEY_STAT : Reg := ⟨.key, 0x4⟩
/-- R446. -/
def KEY_TRANSIENT : Reg := ⟨.key, 0x8⟩
/-- R446. -/
def KEY_LASTING : Reg := ⟨.key, 0xC⟩
/-- R446. -/
def KEY_INT_STAT : Reg := ⟨.key, 0x10⟩
/-- R446. -/
def KEY_INT_EN : Reg := ⟨.key, 0x14⟩
/-- R446. -/
def KEY_SLOT (s : Nat) : Reg := ⟨.key, 0x100 + 4 * s⟩
/-- R446. -/
def KEY_GEN (k : Nat) : Reg := ⟨.key, 0x400 + 4 * k⟩
/-- R447. -/
def TMP_CTRL : Reg := ⟨.tmp, 0x0⟩
/-- R447. -/
def TMP_CFG : Reg := ⟨.tmp, 0x4⟩
/-- R447. -/
def TMP_STAT : Reg := ⟨.tmp, 0x8⟩
/-- R447. -/
def TMP_LOG_CNT : Reg := ⟨.tmp, 0xC⟩
/-- R447. -/
def TMP_RTC_S : Reg := ⟨.tmp, 0x10⟩
/-- R447. -/
def TMP_RTC_SUB : Reg := ⟨.tmp, 0x14⟩
/-- R447. -/
def TMP_RTC_SET : Reg := ⟨.tmp, 0x18⟩
/-- R447. -/
def TMP_TEMP : Reg := ⟨.tmp, 0x1C⟩
/-- R447. -/
def TMP_INT_STAT : Reg := ⟨.tmp, 0x20⟩
/-- R447. -/
def TMP_INT_EN : Reg := ⟨.tmp, 0x24⟩
/-- R447. -/
def TMP_LOG (i w : Nat) : Reg := ⟨.tmp, 0x100 + 32 * i + 4 * w⟩
/-- R467. -/
def PAIR_CTRL : Reg := ⟨.pair, 0x0⟩
/-- R467. -/
def PAIR_CFG : Reg := ⟨.pair, 0x4⟩
/-- R467. -/
def PAIR_STAT : Reg := ⟨.pair, 0x8⟩
/-- R467. -/
def PAIR_PEER_ID0 : Reg := ⟨.pair, 0xC⟩
/-- R467. -/
def PAIR_PEER_ID1 : Reg := ⟨.pair, 0x10⟩
/-- R467. -/
def PAIR_PEER_ID2 : Reg := ⟨.pair, 0x14⟩
/-- R467. -/
def PAIR_MIRROR_SEQ : Reg := ⟨.pair, 0x18⟩
/-- R467. -/
def PAIR_GAP : Reg := ⟨.pair, 0x1C⟩
/-- R467. -/
def PAIR_TAKEOVERS : Reg := ⟨.pair, 0x20⟩
/-- R467. -/
def PAIR_HB_LOST : Reg := ⟨.pair, 0x24⟩
/-- R467. -/
def PAIR_INT_STAT : Reg := ⟨.pair, 0x28⟩
/-- R467. -/
def PAIR_INT_EN : Reg := ⟨.pair, 0x2C⟩
/-- R486. -/
def UPD_CTRL : Reg := ⟨.upd, 0x0⟩
/-- R486. -/
def UPD_STAT : Reg := ⟨.upd, 0x4⟩
/-- R486. -/
def UPD_IDLE : Reg := ⟨.upd, 0x8⟩
/-- R486. -/
def UPD_VER (k : Nat) : Reg := ⟨.upd, 0x10 + 4 * k⟩
/-- R486. -/
def UPD_INT_STAT : Reg := ⟨.upd, 0x40⟩
/-- R486. -/
def UPD_INT_EN : Reg := ⟨.upd, 0x44⟩
/-- R487. -/
def OTP_STAT : Reg := ⟨.otp, 0x0⟩
/-- R487. -/
def OTP_UNIT_ID0 : Reg := ⟨.otp, 0x4⟩
/-- R487. -/
def OTP_UNIT_ID1 : Reg := ⟨.otp, 0x8⟩
/-- R487. -/
def OTP_UNIT_ID2 : Reg := ⟨.otp, 0xC⟩
/-- R487. -/
def OTP_FAMILY : Reg := ⟨.otp, 0x10⟩
/-- R487. -/
def OTP_STEPPING : Reg := ⟨.otp, 0x14⟩
/-- R487. -/
def OTP_REC (w : Nat) : Reg := ⟨.otp, 0x40 + 4 * w⟩
/-- R488. -/
def SVC_STAT : Reg := ⟨.svc, 0x0⟩
/-- R488. -/
def SVC_FRAMES : Reg := ⟨.svc, 0x4⟩
/-- R488. -/
def SVC_CRC_ERR : Reg := ⟨.svc, 0x8⟩
/-- R488. -/
def SVC_INT_STAT : Reg := ⟨.svc, 0xC⟩
/-- R488. -/
def SVC_INT_EN : Reg := ⟨.svc, 0x10⟩
/-- R488. -/
def DBG_STAT : Reg := ⟨.dbg, 0x0⟩
/-- R488. -/
def DBG_IDCODE : Reg := ⟨.dbg, 0x4⟩
/-- R488. -/
def DBG_UNLOCKS : Reg := ⟨.dbg, 0x8⟩
/-- R505. -/
def PWR_STATE : Reg := ⟨.pwr, 0x0⟩
/-- R505. -/
def PWR_DOM : Reg := ⟨.pwr, 0x4⟩
/-- R505. -/
def PWR_WAKE : Reg := ⟨.pwr, 0x8⟩
/-- R505. -/
def PWR_ALARM : Reg := ⟨.pwr, 0xC⟩
/-- R505. -/
def PWR_VCORE : Reg := ⟨.pwr, 0x10⟩
/-- R505. -/
def PWR_CAUSE : Reg := ⟨.pwr, 0x14⟩
/-- R505. -/
def PWR_INT_STAT : Reg := ⟨.pwr, 0x18⟩
/-- R505. -/
def PWR_INT_EN : Reg := ⟨.pwr, 0x1C⟩
/-- R506. -/
def CLK_STAT : Reg := ⟨.clk, 0x0⟩
/-- R506. -/
def CLK_INT_STAT : Reg := ⟨.clk, 0x4⟩
/-- R506. -/
def CLK_INT_EN : Reg := ⟨.clk, 0x8⟩
/-- R507. -/
def AGE_CTRL : Reg := ⟨.age, 0x0⟩
/-- R507. -/
def AGE_CFG : Reg := ⟨.age, 0x4⟩
/-- R507. -/
def AGE_TREND_AT : Reg := ⟨.age, 0x8⟩
/-- R507. -/
def AGE_STAT : Reg := ⟨.age, 0xC⟩
/-- R507. -/
def AGE_PRED (r : Nat) : Reg := ⟨.age, 0x10 + 4 * r⟩
/-- R507. -/
def AGE_TRIM (r : Nat) : Reg := ⟨.age, 0x20 + 4 * r⟩
/-- R507. -/
def AGE_REF_DRIFT : Reg := ⟨.age, 0x30⟩
/-- R507. -/
def AGE_INT_STAT : Reg := ⟨.age, 0x34⟩
/-- R507. -/
def AGE_INT_EN : Reg := ⟨.age, 0x38⟩
/-- R507. -/
def AGE_SLACK (m : Nat) : Reg := ⟨.age, 0x100 + 4 * m⟩
/-- R513. -/
def SYS_ID : Reg := ⟨.sys, 0x0⟩
/-- R513. -/
def SYS_STAT : Reg := ⟨.sys, 0x4⟩
/-- R513. -/
def SYS_RESET : Reg := ⟨.sys, 0x8⟩
/-- R513. -/
def SYS_SCRATCH (k : Nat) : Reg := ⟨.sys, 0x10 + 4 * k⟩
/-- R513. -/
def SYS_WDOG : Reg := ⟨.sys, 0x20⟩
/-- R513. -/
def SYS_WDOG_STAT : Reg := ⟨.sys, 0x24⟩
/-- R524. -/
def ERR_CTRL : Reg := ⟨.err, 0x0⟩
/-- R524. -/
def ERR_STAT : Reg := ⟨.err, 0x4⟩
/-- R524. -/
def ERR_SEQ : Reg := ⟨.err, 0x8⟩
/-- R524. -/
def ERR_TRANSIENT : Reg := ⟨.err, 0xC⟩
/-- R524. -/
def ERR_LASTING : Reg := ⟨.err, 0x10⟩
/-- R524. -/
def ERR_OVERWRITE : Reg := ⟨.err, 0x14⟩
/-- R524. -/
def ERR_INT_STAT : Reg := ⟨.err, 0x18⟩
/-- R524. -/
def ERR_INT_EN : Reg := ⟨.err, 0x1C⟩
/-- R524. -/
def ERR_PICK : Reg := ⟨.err, 0x20⟩
/-- R524. -/
def ERR_PICK_STAT : Reg := ⟨.err, 0x24⟩
/-- R524. -/
def ERR_PICK_DATA (w : Nat) : Reg := ⟨.err, 0x40 + 4 * w⟩
/-- R524. -/
def ERR_RING (i w : Nat) : Reg := ⟨.err, 0x2000 + 32 * i + 4 * w⟩

end Sys2Proof.Machine
end

