-- ==== Sys2Proof/Machine/RegTable.lean ====
section
/-!
DEFINITION. Machine/RegTable.lean: the register tables of spec/ as data: for each register its offset, how it repeats,
its reset value, and its fields with their access codes (R11) and allowed values (R9).
-/
namespace Sys2Proof.Machine

/-- The access codes of R11. -/
inductive Acc where
  | rw | ro | wo | w1c | w1s | rc | rwl
  deriving DecidableEq, Repr

/-- A field of a register: its lowest bit, its width, its access code and the ranges of values that are not reserved
(none listed: every value). -/
structure FieldRow where
  /-- The lowest bit. -/
  lo : Nat
  /-- The width. -/
  w : Nat
  /-- The access code. -/
  acc : Acc
  /-- The allowed ranges, both ends included. -/
  ok : List (Nat × Nat)
  deriving DecidableEq, Repr

/-- A row of a register table: the offset of its first register, the stride and count of each index, the reset value
and the fields. -/
structure RegRow where
  /-- The offset of the first. -/
  base : Nat
  /-- Stride and count of each index, outermost first. -/
  dims : List (Nat × Nat)
  /-- The reset value the spec gives, or 0 where it gives none (log entry 3). -/
  reset : Nat
  /-- The fields; bits of no field are reserved (R8). -/
  fields : List FieldRow
  deriving DecidableEq, Repr

/-- Rows of block GNS, part 0. -/
def gnsRows0 : List RegRow := [
  -- GNS_CTRL
  ⟨0x0, [], 0x60, [⟨0, 1, .rw, []⟩, ⟨1, 4, .rw, []⟩, ⟨5, 3, .rw, [(0, 4)]⟩, ⟨8, 2, .rw, []⟩, ⟨10, 1, .rw, []⟩]⟩,
  -- GNS_STAT
  ⟨0x4, [], 0x0, [⟨0, 2, .ro, []⟩, ⟨2, 2, .ro, []⟩, ⟨4, 1, .ro, []⟩, ⟨5, 11, .ro, []⟩, ⟨16, 7, .ro, []⟩]⟩,
  -- GNS_SIG_EN
  ⟨0x8, [], 0xFFFFF, [⟨0, 32, .rw, []⟩]⟩,
  -- GNS_MASK
  ⟨0xC, [], 0x5, [⟨0, 7, .rw, [(0, 90)]⟩]⟩,
  -- GNS_FE_CFG
  ⟨0x10, [(4, 4)], 0xF64, [⟨0, 7, .rw, [(20, 100)]⟩, ⟨8, 4, .rw, []⟩, ⟨12, 4, .rw, []⟩, ⟨16, 1, .ro, []⟩]⟩,
  -- GNS_REF_X_LO
  ⟨0x20, [], 0x0, [⟨0, 32, .rw, []⟩]⟩,
  -- GNS_REF_X_HI
  ⟨0x24, [], 0x0, [⟨0, 32, .rw, []⟩]⟩,
  -- GNS_REF_Y_LO
  ⟨0x28, [], 0x0, [⟨0, 32, .rw, []⟩]⟩,
  -- GNS_REF_Y_HI
  ⟨0x2C, [], 0x0, [⟨0, 32, .rw, []⟩]⟩,
  -- GNS_REF_Z_LO
  ⟨0x30, [], 0x0, [⟨0, 32, .rw, []⟩]⟩,
  -- GNS_REF_Z_HI
  ⟨0x34, [], 0x0, [⟨0, 32, .rw, []⟩]⟩,
  -- GNS_REF_CMD
  ⟨0x38, [], 0x0, [⟨0, 1, .wo, []⟩, ⟨1, 1, .wo, []⟩, ⟨2, 1, .wo, []⟩]⟩]
/-- Rows of block GNS, part 1. -/
def gnsRows1 : List RegRow := [
  -- GNS_REF_STAT
  ⟨0x3C, [], 0x0, [⟨0, 3, .ro, []⟩, ⟨3, 2, .ro, []⟩, ⟨5, 1, .ro, []⟩, ⟨7, 13, .ro, []⟩]⟩,
  -- GNS_SURVEY_CFG
  ⟨0x40, [], 0x18, [⟨0, 7, .rw, [(1, 72)]⟩, ⟨8, 16, .rw, []⟩]⟩,
  -- GNS_SURVEY_SIGMA
  ⟨0x44, [], 0xFFFFFFFF, [⟨0, 16, .ro, []⟩, ⟨16, 16, .ro, []⟩]⟩,
  -- GNS_ARRAY_E
  ⟨0x70, [(16, 3)], 0x0, [⟨0, 32, .rw, []⟩]⟩,
  -- GNS_ARRAY_N
  ⟨0x74, [(16, 3)], 0x0, [⟨0, 32, .rw, []⟩]⟩,
  -- GNS_ARRAY_U
  ⟨0x78, [(16, 3)], 0x0, [⟨0, 32, .rw, []⟩]⟩,
  -- GNS_INT_CFG
  ⟨0xA0, [], 0xAA40F, [⟨0, 8, .rw, [(1, 255)]⟩, ⟨8, 4, .rw, [(2, 15)]⟩, ⟨12, 4, .rw, [(1, 15)]⟩, ⟨16, 7, .rw, [(1, 127)]⟩]⟩,
  -- GNS_INT_STAT
  ⟨0xA4, [], 0x0, [⟨0, 1, .w1c, []⟩, ⟨1, 1, .w1c, []⟩, ⟨2, 4, .w1c, []⟩, ⟨6, 1, .w1c, []⟩, ⟨7, 1, .w1c, []⟩, ⟨8, 1, .w1c, []⟩, ⟨9, 1, .w1c, []⟩, ⟨10, 1, .w1c, []⟩, ⟨11, 1, .w1c, []⟩]⟩,
  -- GNS_INT_EN
  ⟨0xA8, [], 0x0, [⟨0, 32, .rw, []⟩]⟩,
  -- GNS_DROP_CNT
  ⟨0xAC, [], 0x0, [⟨0, 32, .ro, []⟩]⟩,
  -- GNS_FE_IF
  ⟨0x100, [(4, 16)], 0x0, [⟨0, 32, .rw, []⟩]⟩]
/-- The rows of block GNS. -/
def gnsRows : List RegRow := gnsRows0 ++ gnsRows1
/-- Rows of block RSV, part 0. -/
def rsvRows0 : List RegRow := [
  -- RSV_CTRL
  ⟨0x0, [], 0x0, [⟨0, 1, .rw, []⟩, ⟨1, 1, .wo, []⟩, ⟨2, 1, .w1s, []⟩]⟩,
  -- RSV_STAT
  ⟨0x4, [], 0x0, [⟨0, 1, .ro, []⟩, ⟨1, 1, .ro, []⟩, ⟨2, 1, .ro, []⟩]⟩,
  -- RSV_EPOCH
  ⟨0x8, [], 0x0, [⟨0, 32, .rwl, []⟩]⟩,
  -- RSV_NOW
  ⟨0xC, [], 0x0, [⟨0, 24, .ro, []⟩]⟩,
  -- RSV_COUNT
  ⟨0x10, [], 0x0, [⟨0, 21, .ro, []⟩]⟩,
  -- RSV_HELD
  ⟨0x14, [], 0x0, [⟨0, 21, .ro, []⟩]⟩,
  -- RSV_PEAK
  ⟨0x18, [], 0x0, [⟨0, 21, .rc, []⟩]⟩,
  -- RSV_PAUSE_BASE
  ⟨0x1C, [], 0x0, [⟨0, 24, .ro, []⟩]⟩,
  -- RSV_PAUSE_OFS
  ⟨0x20, [], 0x0, [⟨0, 24, .ro, []⟩]⟩,
  -- RSV_CFG
  ⟨0x24, [], 0x3C, [⟨0, 8, .rwl, [(1, 255)]⟩]⟩,
  -- RSV_INT_STAT
  ⟨0x28, [], 0x0, [⟨0, 1, .w1c, []⟩, ⟨1, 1, .w1c, []⟩, ⟨2, 1, .w1c, []⟩, ⟨3, 1, .w1c, []⟩, ⟨4, 1, .w1c, []⟩, ⟨5, 1, .w1c, []⟩]⟩,
  -- RSV_INT_EN
  ⟨0x2C, [], 0x0, [⟨0, 32, .rw, []⟩]⟩]
/-- Rows of block RSV, part 1. -/
def rsvRows1 : List RegRow := [
  -- RSV_VISITS
  ⟨0x30, [], 0x0, [⟨0, 32, .ro, []⟩]⟩,
  -- RSV_GRAPH_ERR
  ⟨0x34, [], 0xFFFF, [⟨0, 16, .ro, []⟩]⟩]
/-- The rows of block RSV. -/
def rsvRows : List RegRow := rsvRows0 ++ rsvRows1
/-- Rows of block GOV, part 0. -/
def govRows0 : List RegRow := [
  -- GOV_CTRL
  ⟨0x0, [], 0x0, [⟨0, 1, .rw, []⟩, ⟨1, 1, .w1s, []⟩]⟩,
  -- GOV_STAT
  ⟨0x4, [], 0x0, [⟨0, 1, .ro, []⟩, ⟨1, 1, .ro, []⟩, ⟨2, 3, .ro, []⟩, ⟨5, 1, .ro, []⟩, ⟨6, 2, .ro, []⟩]⟩,
  -- GOV_CFG
  ⟨0x8, [], 0x190A05, [⟨0, 8, .rwl, [(4, 50)]⟩, ⟨8, 8, .rwl, [(2, 50)]⟩, ⟨16, 8, .rwl, [(5, 250)]⟩]⟩,
  -- GOV_BANK
  ⟨0xC, [], 0x0, [⟨0, 1, .w1s, []⟩]⟩,
  -- GOV_LAST_HEAT
  ⟨0x10, [], 0x0, [⟨0, 32, .ro, []⟩]⟩,
  -- GOV_LAT
  ⟨0x14, [], 0x0, [⟨0, 16, .ro, []⟩]⟩,
  -- GOV_LAT_MAX
  ⟨0x18, [], 0x0, [⟨0, 16, .rc, []⟩]⟩,
  -- GOV_MISS_CNT
  ⟨0x1C, [], 0x0, [⟨0, 32, .ro, []⟩]⟩,
  -- GOV_STALE_NOW
  ⟨0x20, [], 0x0, [⟨0, 13, .ro, []⟩]⟩,
  -- GOV_SATSWAP_CNT
  ⟨0x24, [], 0x0, [⟨0, 32, .ro, []⟩]⟩,
  -- GOV_INT_STAT
  ⟨0x28, [], 0x0, [⟨0, 1, .w1c, []⟩, ⟨1, 1, .w1c, []⟩, ⟨2, 1, .w1c, []⟩, ⟨3, 1, .w1c, []⟩, ⟨4, 1, .w1c, []⟩, ⟨5, 1, .w1c, []⟩, ⟨6, 1, .w1c, []⟩]⟩,
  -- GOV_INT_EN
  ⟨0x2C, [], 0x0, [⟨0, 32, .rw, []⟩]⟩]
/-- Rows of block GOV, part 1. -/
def govRows1 : List RegRow := [
  -- GOV_FAULT_MACH
  ⟨0x30, [], 0xFFFF, [⟨0, 12, .ro, []⟩, ⟨12, 4, .ro, []⟩]⟩]
/-- The rows of block GOV. -/
def govRows : List RegRow := govRows0 ++ govRows1
/-- Rows of block STP, part 0. -/
def stpRows0 : List RegRow := [
  -- STP_CTRL
  ⟨0x0, [], 0xF, [⟨0, 4, .rwl, []⟩, ⟨4, 1, .w1s, []⟩]⟩,
  -- STP_CFG
  ⟨0x4, [], 0xC64, [⟨0, 10, .rwl, [(10, 1000)]⟩, ⟨10, 5, .rwl, [(3, 30)]⟩]⟩,
  -- STP_STAT
  ⟨0x8, [], 0x7, [⟨0, 2, .ro, []⟩, ⟨2, 1, .ro, []⟩, ⟨3, 1, .ro, []⟩, ⟨4, 1, .ro, []⟩, ⟨5, 1, .ro, []⟩, ⟨6, 1, .ro, []⟩, ⟨7, 1, .ro, []⟩, ⟨8, 5, .ro, []⟩, ⟨13, 2, .ro, []⟩]⟩,
  -- STP_LATCH
  ⟨0xC, [], 0x100, [⟨0, 32, .ro, []⟩]⟩,
  -- STP_SEALED
  ⟨0x10, [], 0x0, [⟨0, 32, .ro, []⟩]⟩,
  -- STP_ARISE_HEAT
  ⟨0x14, [], 0x0, [⟨0, 32, .ro, []⟩]⟩,
  -- STP_ARISE_NS
  ⟨0x18, [], 0x0, [⟨0, 32, .ro, []⟩]⟩,
  -- STP_LAT
  ⟨0x1C, [], 0x0, [⟨0, 16, .ro, []⟩]⟩,
  -- STP_LAT_MAX
  ⟨0x20, [], 0x0, [⟨0, 16, .rc, []⟩]⟩,
  -- STP_INT_STAT
  ⟨0x24, [], 0x0, [⟨0, 1, .w1c, []⟩, ⟨1, 1, .w1c, []⟩, ⟨2, 1, .w1c, []⟩, ⟨3, 1, .w1c, []⟩, ⟨4, 1, .w1c, []⟩, ⟨5, 1, .w1c, []⟩, ⟨6, 1, .w1c, []⟩, ⟨7, 1, .w1c, []⟩]⟩,
  -- STP_INT_EN
  ⟨0x28, [], 0x0, [⟨0, 32, .rw, []⟩]⟩,
  -- STP_OUI
  ⟨0x2C, [], 0xA84F1C, [⟨0, 24, .ro, []⟩]⟩]
/-- Rows of block STP, part 1. -/
def stpRows1 : List RegRow := [
  -- STP_LIST
  ⟨0x30, [(4, 8)], 0x0, [⟨0, 12, .ro, []⟩, ⟨12, 3, .ro, []⟩, ⟨15, 1, .ro, []⟩, ⟨16, 12, .ro, []⟩, ⟨28, 3, .ro, []⟩, ⟨31, 1, .ro, []⟩]⟩,
  -- STP_FC
  ⟨0x50, [(4, 4)], 0x0, [⟨0, 32, .ro, []⟩]⟩]
/-- The rows of block STP. -/
def stpRows : List RegRow := stpRows0 ++ stpRows1
/-- Rows of block FAB, part 0. -/
def fabRows0 : List RegRow := [
  -- FAB_CTRL
  ⟨0x0, [], 0xFF00, [⟨0, 1, .rw, []⟩, ⟨1, 1, .w1s, []⟩, ⟨8, 8, .rwl, []⟩]⟩,
  -- FAB_STAT
  ⟨0x4, [], 0x0, [⟨0, 2, .ro, []⟩, ⟨2, 1, .ro, []⟩, ⟨8, 8, .ro, []⟩, ⟨16, 8, .ro, []⟩]⟩,
  -- FAB_FENCE_LO
  ⟨0x8, [], 0x0, [⟨0, 32, .w1s, []⟩]⟩,
  -- FAB_FENCE_HI
  ⟨0xC, [], 0x0, [⟨0, 32, .w1s, []⟩]⟩,
  -- FAB_FENCE_CAUSE
  ⟨0x10, [], 0x0, [⟨0, 6, .ro, []⟩, ⟨8, 3, .ro, []⟩]⟩,
  -- FAB_ECC_CORR
  ⟨0x14, [], 0x0, [⟨0, 32, .ro, []⟩]⟩,
  -- FAB_TRANSIENT
  ⟨0x18, [], 0x0, [⟨0, 32, .ro, []⟩]⟩,
  -- FAB_LASTING
  ⟨0x1C, [], 0x0, [⟨0, 32, .ro, []⟩]⟩,
  -- FAB_STALL
  ⟨0x20, [], 0x0, [⟨0, 32, .ro, []⟩]⟩,
  -- FAB_PG
  ⟨0x24, [], 0x0, [⟨0, 8, .ro, []⟩, ⟨8, 8, .ro, []⟩]⟩,
  -- FAB_TONGS_STAT
  ⟨0x28, [], 0x0, [⟨0, 9, .ro, []⟩, ⟨16, 7, .ro, []⟩]⟩,
  -- FAB_TONGS_BYTES
  ⟨0x2C, [], 0x0, [⟨0, 32, .ro, []⟩]⟩]
/-- Rows of block FAB, part 1. -/
def fabRows1 : List RegRow := [
  -- FAB_INT_STAT
  ⟨0x30, [], 0x0, [⟨0, 1, .w1c, []⟩, ⟨1, 1, .w1c, []⟩, ⟨2, 1, .w1c, []⟩, ⟨3, 1, .w1c, []⟩, ⟨4, 1, .w1c, []⟩, ⟨5, 1, .w1c, []⟩, ⟨6, 1, .w1c, []⟩]⟩,
  -- FAB_INT_EN
  ⟨0x34, [], 0x0, [⟨0, 32, .rw, []⟩]⟩,
  -- FAB_SPARE
  ⟨0x40, [(4, 9)], 0x0, [⟨0, 9, .ro, []⟩]⟩,
  -- FAB_BUSY
  ⟨0x100, [(4, 64)], 0x0, [⟨0, 17, .ro, []⟩]⟩,
  -- FAB_ADM_CTRL
  ⟨0x400, [], 0x0, [⟨0, 2, .rwl, []⟩, ⟨2, 1, .wo, []⟩, ⟨3, 1, .w1s, []⟩]⟩,
  -- FAB_ADM_STAT
  ⟨0x404, [], 0xFFFF0000, [⟨0, 2, .ro, []⟩, ⟨2, 1, .ro, []⟩, ⟨4, 2, .ro, []⟩, ⟨8, 4, .ro, []⟩, ⟨16, 16, .ro, []⟩]⟩,
  -- FAB_ADM_HEAT
  ⟨0x408, [], 0x0, [⟨0, 32, .ro, []⟩]⟩,
  -- FAB_ADM_VARIANTS
  ⟨0x40C, [], 0x0, [⟨0, 4, .ro, []⟩, ⟨4, 4, .ro, []⟩, ⟨8, 4, .ro, []⟩]⟩,
  -- FAB_MARGIN_REQ
  ⟨0x410, [], 0x0, [⟨0, 16, .ro, []⟩]⟩,
  -- FAB_AUD_PASS
  ⟨0x414, [], 0x0, [⟨0, 32, .ro, []⟩]⟩,
  -- FAB_AUD_TRANSIENT
  ⟨0x418, [], 0x0, [⟨0, 32, .ro, []⟩]⟩,
  -- FAB_AUD_LASTING
  ⟨0x41C, [], 0x0, [⟨0, 32, .ro, []⟩]⟩]
/-- Rows of block FAB, part 2. -/
def fabRows2 : List RegRow := [
  -- FAB_AUD_UNRETRIED
  ⟨0x420, [], 0x0, [⟨0, 32, .ro, []⟩]⟩,
  -- FAB_AUD_STARVE
  ⟨0x424, [], 0x0, [⟨0, 32, .ro, []⟩]⟩,
  -- FAB_AUD_LAST
  ⟨0x428, [], 0x0, [⟨0, 16, .ro, []⟩, ⟨16, 3, .ro, []⟩, ⟨19, 1, .ro, []⟩, ⟨20, 4, .ro, []⟩, ⟨24, 6, .ro, []⟩]⟩,
  -- FAB_REMAP
  ⟨0x42C, [], 0x0, [⟨0, 9, .ro, []⟩, ⟨16, 9, .ro, []⟩]⟩,
  -- FAB_AUD_INT_STAT
  ⟨0x430, [], 0x0, [⟨0, 1, .w1c, []⟩, ⟨1, 1, .w1c, []⟩, ⟨2, 1, .w1c, []⟩, ⟨3, 1, .w1c, []⟩, ⟨4, 1, .w1c, []⟩, ⟨5, 1, .w1c, []⟩, ⟨6, 1, .w1c, []⟩, ⟨7, 1, .w1c, []⟩, ⟨8, 1, .w1c, []⟩]⟩,
  -- FAB_AUD_INT_EN
  ⟨0x434, [], 0x0, [⟨0, 32, .rw, []⟩]⟩,
  -- FAB_RERUN
  ⟨0x500, [(4, 64)], 0x0, [⟨0, 8, .ro, []⟩, ⟨8, 8, .ro, []⟩]⟩]
/-- The rows of block FAB. -/
def fabRows : List RegRow := fabRows0 ++ fabRows1 ++ fabRows2
/-- Rows of block QUE, part 0. -/
def queRows0 : List RegRow := [
  -- QUE_STAT
  ⟨0x0, [], 0x0, [⟨0, 19, .ro, []⟩, ⟨19, 9, .ro, []⟩, ⟨28, 1, .ro, []⟩]⟩,
  -- QUE_FLUSH
  ⟨0x4, [], 0x0, [⟨0, 8, .wo, []⟩, ⟨8, 1, .wo, []⟩, ⟨9, 1, .wo, []⟩]⟩,
  -- QUE_INT_STAT
  ⟨0x8, [], 0x0, [⟨0, 1, .w1c, []⟩, ⟨1, 1, .w1c, []⟩, ⟨2, 1, .w1c, []⟩, ⟨3, 1, .w1c, []⟩, ⟨4, 1, .w1c, []⟩, ⟨5, 1, .w1c, []⟩, ⟨6, 1, .w1c, []⟩, ⟨7, 1, .w1c, []⟩]⟩,
  -- QUE_INT_EN
  ⟨0xC, [], 0x0, [⟨0, 32, .rw, []⟩]⟩,
  -- QUE_TRANSIENT
  ⟨0x10, [], 0x0, [⟨0, 32, .ro, []⟩]⟩,
  -- QUE_LASTING
  ⟨0x14, [], 0x0, [⟨0, 32, .ro, []⟩]⟩,
  -- QUE_SPARE
  ⟨0x18, [], 0x0, [⟨0, 7, .ro, []⟩]⟩,
  -- QUE_CFG_ERR
  ⟨0x1C, [], 0x0, [⟨0, 8, .ro, []⟩, ⟨8, 1, .ro, []⟩]⟩,
  -- QUE_LVL_STAT
  ⟨0x20, [(4, 8)], 0x0, [⟨0, 32, .w1c, []⟩]⟩,
  -- QUE_LVL_EN
  ⟨0x40, [(4, 8)], 0x0, [⟨0, 32, .rw, []⟩]⟩,
  -- QUE_CFG
  ⟨0x400, [(4, 256)], 0x0, [⟨0, 1, .rw, []⟩, ⟨1, 4, .rw, [(0, 8)]⟩, ⟨8, 8, .rw, []⟩, ⟨16, 8, .rw, []⟩, ⟨24, 1, .rw, []⟩, ⟨25, 4, .ro, []⟩]⟩,
  -- QUE_BASE
  ⟨0x800, [(4, 256)], 0x0, [⟨0, 18, .rw, []⟩]⟩]
/-- Rows of block QUE, part 1. -/
def queRows1 : List RegRow := [
  -- QUE_LEVEL
  ⟨0xC00, [(4, 256)], 0x0, [⟨0, 14, .rw, []⟩]⟩,
  -- QUE_BOOK_A
  ⟨0x1000, [(4, 256)], 0x0, [⟨0, 14, .ro, []⟩, ⟨16, 14, .ro, []⟩]⟩,
  -- QUE_BOOK_B
  ⟨0x1400, [(4, 256)], 0x0, [⟨0, 14, .ro, []⟩, ⟨16, 14, .ro, []⟩]⟩,
  -- QUE_STATE
  ⟨0x1800, [(4, 256)], 0x0, [⟨0, 1, .ro, []⟩, ⟨1, 1, .ro, []⟩, ⟨2, 1, .ro, []⟩, ⟨3, 1, .ro, []⟩, ⟨4, 1, .ro, []⟩, ⟨5, 1, .ro, []⟩, ⟨6, 1, .ro, []⟩, ⟨16, 14, .ro, []⟩]⟩,
  -- QUE_DROP
  ⟨0x1C00, [(4, 256)], 0x0, [⟨0, 32, .ro, []⟩]⟩]
/-- The rows of block QUE. -/
def queRows : List RegRow := queRows0 ++ queRows1
/-- Rows of block DSP, part 0. -/
def dspRows0 : List RegRow := [
  -- DSP_CTRL
  ⟨0x0, [], 0x0, [⟨0, 1, .rw, []⟩, ⟨1, 1, .w1s, []⟩]⟩,
  -- DSP_CFG
  ⟨0x4, [], 0x1808, [⟨0, 8, .rwl, [(1, 255)]⟩, ⟨8, 8, .rwl, [(1, 255)]⟩]⟩,
  -- DSP_BP_CFG
  ⟨0x8, [], 0x100040, [⟨0, 13, .rwl, [(1, 4096)]⟩, ⟨16, 13, .rwl, []⟩]⟩,
  -- DSP_BOOK_A
  ⟨0xC, [], 0x1000, [⟨0, 13, .ro, []⟩, ⟨16, 13, .ro, []⟩]⟩,
  -- DSP_BOOK_B
  ⟨0x10, [], 0x0, [⟨0, 13, .ro, []⟩, ⟨16, 13, .ro, []⟩]⟩,
  -- DSP_STAT
  ⟨0x14, [], 0x0, [⟨0, 9, .ro, []⟩, ⟨9, 1, .ro, []⟩]⟩,
  -- DSP_INT_STAT
  ⟨0x18, [], 0x0, [⟨0, 1, .w1c, []⟩, ⟨1, 1, .w1c, []⟩, ⟨2, 1, .w1c, []⟩, ⟨3, 1, .w1c, []⟩, ⟨4, 1, .w1c, []⟩]⟩,
  -- DSP_INT_EN
  ⟨0x1C, [], 0x0, [⟨0, 32, .rw, []⟩]⟩,
  -- DSP_POST_FAIL
  ⟨0x20, [], 0x0, [⟨0, 32, .ro, []⟩]⟩,
  -- DSP_CANCELLED
  ⟨0x24, [], 0x0, [⟨0, 32, .ro, []⟩]⟩,
  -- DSP_FAULTED
  ⟨0x28, [], 0x0, [⟨0, 32, .ro, []⟩]⟩,
  -- DSP_TRIG_Q
  ⟨0x40, [(8, 16)], 0x0, [⟨0, 8, .rw, []⟩, ⟨8, 6, .rw, []⟩, ⟨14, 1, .rw, []⟩]⟩]
/-- Rows of block DSP, part 1. -/
def dspRows1 : List RegRow := [
  -- DSP_TRIG_ADDR
  ⟨0x44, [(8, 16)], 0x0, [⟨0, 32, .rw, []⟩]⟩,
  -- DSP_DEPTH
  ⟨0x100, [(4, 73)], 0x0, [⟨0, 13, .ro, []⟩, ⟨16, 13, .ro, []⟩]⟩,
  -- DSP_WMAX
  ⟨0x300, [(4, 73)], 0x0, [⟨0, 32, .ro, []⟩]⟩,
  -- DSP_WMEAN
  ⟨0x500, [(4, 73)], 0x0, [⟨0, 32, .ro, []⟩]⟩,
  -- DSP_LOAD
  ⟨0x700, [(4, 64)], 0x0, [⟨0, 19, .ro, []⟩]⟩,
  -- DSP_HIST
  ⟨0x1000, [(64, 73), (4, 16)], 0x0, [⟨0, 32, .ro, []⟩]⟩]
/-- The rows of block DSP. -/
def dspRows : List RegRow := dspRows0 ++ dspRows1
/-- Rows of block MAC, part 0. -/
def macRows0 : List RegRow := [
  -- MAC_CTRL
  ⟨0x0, [], 0x0, [⟨0, 1, .rw, []⟩, ⟨1, 1, .w1s, []⟩, ⟨2, 1, .wo, []⟩]⟩,
  -- MAC_STAT
  ⟨0x4, [], 0x0, [⟨0, 1, .ro, []⟩, ⟨1, 1, .ro, []⟩, ⟨2, 1, .ro, []⟩, ⟨3, 1, .ro, []⟩]⟩,
  -- MAC_PHY
  ⟨0x8, [], 0x2002, [⟨0, 2, .rwl, [(0, 2)]⟩, ⟨2, 1, .rwl, []⟩, ⟨3, 1, .rwl, []⟩, ⟨4, 2, .rwl, []⟩, ⟨6, 3, .rwl, [(0, 6)]⟩, ⟨9, 1, .rwl, []⟩, ⟨10, 6, .rwl, [(4, 63)]⟩]⟩,
  -- MAC_CHAN
  ⟨0xC, [], 0x0, [⟨0, 16, .rwl, []⟩]⟩,
  -- MAC_PAN
  ⟨0x10, [], 0x0, [⟨0, 16, .rwl, [(0, 65534)]⟩]⟩,
  -- MAC_EUI_LO
  ⟨0x14, [], 0x0, [⟨0, 32, .ro, []⟩]⟩,
  -- MAC_EUI_HI
  ⟨0x18, [], 0x0, [⟨0, 32, .ro, []⟩]⟩,
  -- MAC_REGION
  ⟨0x1C, [], 0x0, [⟨0, 4, .ro, []⟩, ⟨4, 1, .ro, []⟩]⟩,
  -- MAC_CSMA
  ⟨0x20, [], 0xAB1C53, [⟨0, 4, .rwl, []⟩, ⟨4, 4, .rwl, [(3, 8)]⟩, ⟨8, 3, .rwl, [(0, 5)]⟩, ⟨11, 3, .rwl, []⟩, ⟨16, 8, .rwl, []⟩]⟩,
  -- MAC_GUARD
  ⟨0x24, [], 0x3E8, [⟨0, 16, .rwl, [(100, 10000)]⟩]⟩,
  -- MAC_IND_BASE
  ⟨0x28, [], 0x1010000, [⟨0, 32, .rwl, []⟩]⟩,
  -- MAC_IND_USED
  ⟨0x2C, [], 0x0, [⟨0, 15, .ro, []⟩, ⟨16, 15, .ro, []⟩]⟩]
/-- Rows of block MAC, part 1. -/
def macRows1 : List RegRow := [
  -- MAC_CHILDREN
  ⟨0x30, [], 0x0, [⟨0, 14, .ro, []⟩, ⟨16, 11, .ro, []⟩]⟩,
  -- MAC_RX_OK
  ⟨0x34, [], 0x0, [⟨0, 32, .ro, []⟩]⟩,
  -- MAC_RX_DROP
  ⟨0x38, [], 0x0, [⟨0, 32, .ro, []⟩]⟩,
  -- MAC_ACK_SKIP
  ⟨0x3C, [], 0x0, [⟨0, 32, .ro, []⟩]⟩,
  -- MAC_EXPIRED
  ⟨0x40, [], 0x0, [⟨0, 32, .ro, []⟩]⟩,
  -- MAC_INT_STAT
  ⟨0x44, [], 0x0, [⟨0, 1, .w1c, []⟩, ⟨1, 1, .w1c, []⟩, ⟨2, 1, .w1c, []⟩, ⟨3, 1, .w1c, []⟩, ⟨4, 1, .w1c, []⟩, ⟨5, 1, .w1c, []⟩]⟩,
  -- MAC_INT_EN
  ⟨0x48, [], 0x0, [⟨0, 32, .rw, []⟩]⟩,
  -- MAC_PEND
  ⟨0x100, [(4, 2048)], 0x0, [⟨0, 32, .ro, []⟩]⟩]
/-- The rows of block MAC. -/
def macRows : List RegRow := macRows0 ++ macRows1
/-- Rows of block NET, part 0. -/
def netRows0 : List RegRow := [
  -- NET_CTRL
  ⟨0x0, [], 0x0, [⟨0, 1, .rw, []⟩, ⟨1, 3, .rwl, []⟩, ⟨4, 1, .rwl, []⟩, ⟨5, 1, .rwl, []⟩, ⟨6, 1, .w1s, []⟩]⟩,
  -- NET_STAT
  ⟨0x4, [], 0x0, [⟨0, 3, .ro, []⟩]⟩,
  -- NET_VLAN
  ⟨0x8, [], 0x0, [⟨0, 12, .rwl, []⟩, ⟨12, 3, .rwl, []⟩]⟩,
  -- NET_PORT
  ⟨0xC, [], 0x99F2, [⟨0, 16, .rwl, []⟩]⟩,
  -- NET_IPV4
  ⟨0x10, [], 0x0, [⟨0, 32, .rwl, []⟩]⟩,
  -- NET_IPV6
  ⟨0x14, [(4, 4)], 0x0, [⟨0, 32, .rwl, []⟩]⟩,
  -- NET_MCAST_V4
  ⟨0x24, [], 0xEFC20000, [⟨0, 32, .rwl, []⟩]⟩,
  -- NET_CORR_V4
  ⟨0x28, [], 0xEFC20100, [⟨0, 32, .rwl, []⟩]⟩,
  -- NET_RX_OK
  ⟨0x2C, [], 0x0, [⟨0, 32, .ro, []⟩]⟩,
  -- NET_RX_DROP
  ⟨0x30, [], 0x0, [⟨0, 32, .ro, []⟩]⟩,
  -- NET_DUP
  ⟨0x34, [], 0x0, [⟨0, 32, .ro, []⟩]⟩,
  -- NET_TX
  ⟨0x38, [], 0x0, [⟨0, 32, .ro, []⟩]⟩]
/-- Rows of block NET, part 1. -/
def netRows1 : List RegRow := [
  -- NET_INT_STAT
  ⟨0x3C, [], 0x0, [⟨0, 3, .w1c, []⟩, ⟨3, 1, .w1c, []⟩, ⟨4, 1, .w1c, []⟩, ⟨5, 1, .w1c, []⟩, ⟨6, 1, .w1c, []⟩]⟩,
  -- NET_INT_EN
  ⟨0x40, [], 0x0, [⟨0, 32, .rw, []⟩]⟩]
/-- The rows of block NET. -/
def netRows : List RegRow := netRows0 ++ netRows1
/-- Rows of block HST, part 0. -/
def hstRows0 : List RegRow := [
  -- HST_SPI_CFG
  ⟨0x0, [], 0x0, [⟨0, 1, .rwl, []⟩, ⟨1, 2, .rwl, []⟩, ⟨3, 1, .w1s, []⟩]⟩,
  -- HST_PART
  ⟨0x10, [(16, 4)], 0x0, [⟨0, 1, .ro, []⟩, ⟨1, 1, .ro, []⟩, ⟨2, 1, .ro, []⟩, ⟨4, 4, .ro, []⟩]⟩,
  -- HST_SESS_HEAT
  ⟨0x14, [(16, 4)], 0x0, [⟨0, 32, .ro, []⟩]⟩,
  -- HST_CMDS
  ⟨0x18, [(16, 4)], 0x0, [⟨0, 16, .ro, []⟩, ⟨16, 16, .ro, []⟩]⟩,
  -- HST_INT_STAT
  ⟨0x50, [], 0x0, [⟨0, 4, .w1c, []⟩, ⟨4, 4, .w1c, []⟩, ⟨8, 1, .w1c, []⟩]⟩,
  -- HST_INT_EN
  ⟨0x54, [], 0x0, [⟨0, 32, .rw, []⟩]⟩]
/-- The rows of block HST. -/
def hstRows : List RegRow := hstRows0
/-- Rows of block TIM, part 0. -/
def timRows0 : List RegRow := [
  -- TIM_CTRL
  ⟨0x0, [], 0x0, [⟨0, 1, .w1s, []⟩]⟩,
  -- TIM_STAT
  ⟨0x4, [], 0x0, [⟨0, 8, .ro, []⟩, ⟨8, 8, .ro, []⟩, ⟨16, 2, .ro, []⟩]⟩,
  -- TIM_RESID
  ⟨0x8, [], 0x0, [⟨0, 32, .ro, []⟩]⟩,
  -- TIM_SNAP
  ⟨0x10, [], 0x0, [⟨0, 1, .wo, []⟩]⟩,
  -- TIM_SNAP_HEAT
  ⟨0x14, [], 0x0, [⟨0, 32, .ro, []⟩]⟩,
  -- TIM_SNAP_NS
  ⟨0x20, [(4, 8)], 0x0, [⟨0, 32, .ro, []⟩]⟩,
  -- TIM_DISC_CFG
  ⟨0x40, [], 0x102864, [⟨0, 10, .rwl, [(1, 1000)]⟩, ⟨10, 10, .rwl, [(1, 800)]⟩, ⟨20, 6, .rwl, [(1, 60)]⟩]⟩,
  -- TIM_HOLD_CFG
  ⟨0x44, [], 0xA0A32, [⟨0, 8, .rwl, [(10, 255)]⟩, ⟨8, 8, .rwl, [(1, 255)]⟩, ⟨16, 16, .rwl, [(1, 65535)]⟩]⟩,
  -- TIM_TUNE
  ⟨0x48, [], 0x8000, [⟨0, 16, .rwl, []⟩, ⟨16, 1, .rwl, []⟩, ⟨17, 15, .rwl, []⟩]⟩,
  -- TIM_PTP_CFG
  ⟨0x4C, [], 0x32000, [⟨0, 2, .rwl, [(0, 2)]⟩, ⟨2, 1, .rwl, []⟩, ⟨3, 1, .rwl, []⟩, ⟨4, 7, .rwl, []⟩, ⟨11, 10, .rwl, [(1, 1000)]⟩]⟩,
  -- TIM_INT_STAT
  ⟨0x50, [], 0x0, [⟨0, 1, .w1c, []⟩, ⟨1, 1, .w1c, []⟩, ⟨2, 1, .w1c, []⟩, ⟨3, 1, .w1c, []⟩, ⟨4, 1, .w1c, []⟩, ⟨5, 1, .w1c, []⟩, ⟨6, 1, .w1c, []⟩]⟩,
  -- TIM_INT_EN
  ⟨0x54, [], 0x0, [⟨0, 32, .rw, []⟩]⟩]
/-- Rows of block TIM, part 1. -/
def timRows1 : List RegRow := [
  -- TIM_NS
  ⟨0x100, [(32, 8)], 0x0, [⟨0, 32, .ro, []⟩]⟩,
  -- TIM_RATE
  ⟨0x104, [(32, 8)], 0x0, [⟨0, 32, .rw, []⟩]⟩,
  -- TIM_ADJ
  ⟨0x108, [(32, 8)], 0x0, [⟨0, 32, .wo, []⟩]⟩,
  -- TIM_OFS
  ⟨0x10C, [(32, 8)], 0x0, [⟨0, 32, .rw, []⟩]⟩,
  -- TIM_BCFG
  ⟨0x110, [(32, 8)], 0x0, [⟨0, 2, .rw, []⟩]⟩,
  -- TIM_BSTAT
  ⟨0x114, [(32, 8)], 0x0, [⟨0, 1, .ro, []⟩, ⟨1, 1, .ro, []⟩, ⟨2, 1, .ro, []⟩]⟩,
  -- TIM_HOLD_EST
  ⟨0x118, [(32, 8)], 0x0, [⟨0, 32, .ro, []⟩]⟩,
  -- TIM_HOLD_S
  ⟨0x11C, [(32, 8)], 0x0, [⟨0, 32, .ro, []⟩]⟩,
  -- TIM_CMP_CFG
  ⟨0x400, [(16, 32)], 0x100, [⟨0, 3, .rw, []⟩, ⟨3, 1, .rw, []⟩, ⟨4, 1, .rw, []⟩, ⟨5, 1, .rw, []⟩, ⟨6, 2, .rw, []⟩, ⟨8, 8, .rw, [(1, 255)]⟩, ⟨16, 1, .w1c, []⟩, ⟨17, 1, .w1c, []⟩]⟩,
  -- TIM_CMP_TGT
  ⟨0x404, [(16, 32)], 0x0, [⟨0, 32, .rw, []⟩]⟩,
  -- TIM_CMP_PER
  ⟨0x408, [(16, 32)], 0x0, [⟨0, 32, .rw, []⟩]⟩,
  -- TIM_CAP_CFG
  ⟨0x600, [(16, 16)], 0x0, [⟨0, 3, .rw, []⟩, ⟨3, 3, .rw, [(0, 4)]⟩, ⟨6, 1, .rw, []⟩, ⟨7, 1, .rw, []⟩, ⟨8, 1, .rw, []⟩]⟩]
/-- Rows of block TIM, part 2. -/
def timRows2 : List RegRow := [
  -- TIM_CAP_VAL
  ⟨0x604, [(16, 16)], 0x0, [⟨0, 32, .ro, []⟩]⟩,
  -- TIM_CAP_HEAT
  ⟨0x608, [(16, 16)], 0x0, [⟨0, 32, .ro, []⟩]⟩,
  -- TIM_CAP_STAT
  ⟨0x60C, [(16, 16)], 0x0, [⟨0, 1, .w1c, []⟩, ⟨1, 1, .w1c, []⟩]⟩]
/-- The rows of block TIM. -/
def timRows : List RegRow := timRows0 ++ timRows1 ++ timRows2
/-- Rows of block MTR, part 0. -/
def mtrRows0 : List RegRow := [
  -- MTR_CTRL
  ⟨0x0, [], 0x0, [⟨0, 1, .rw, []⟩, ⟨1, 1, .w1s, []⟩]⟩,
  -- MTR_STAT
  ⟨0x4, [], 0x0, [⟨0, 1, .ro, []⟩, ⟨1, 1, .ro, []⟩, ⟨2, 1, .ro, []⟩, ⟨3, 1, .ro, []⟩]⟩,
  -- MTR_INTERVAL
  ⟨0x8, [], 0xF, [⟨0, 6, .rwl, [(1, 6), (10, 10), (12, 12), (15, 15), (20, 20), (30, 30), (60, 60)]⟩]⟩,
  -- MTR_ALIGN
  ⟨0xC, [], 0x0, [⟨0, 32, .rwl, []⟩]⟩,
  -- MTR_RING_BASE
  ⟨0x10, [], 0x1020000, [⟨0, 32, .rwl, []⟩]⟩,
  -- MTR_RING_LEN
  ⟨0x14, [], 0x4000, [⟨0, 17, .rwl, [(64, 65536)]⟩]⟩,
  -- MTR_SEQ
  ⟨0x18, [], 0x0, [⟨0, 32, .ro, []⟩]⟩,
  -- MTR_SAVE_S
  ⟨0x1C, [], 0x0, [⟨0, 32, .ro, []⟩]⟩,
  -- MTR_INT_STAT
  ⟨0x20, [], 0x0, [⟨0, 1, .w1c, []⟩, ⟨1, 1, .w1c, []⟩, ⟨2, 1, .w1c, []⟩, ⟨3, 1, .w1c, []⟩, ⟨4, 1, .w1c, []⟩, ⟨5, 1, .w1c, []⟩]⟩,
  -- MTR_INT_EN
  ⟨0x24, [], 0x0, [⟨0, 32, .rw, []⟩]⟩,
  -- MTR_BUS_CFG
  ⟨0x40, [(4, 4)], 0x800, [⟨0, 12, .rwl, [(1250, 2500)]⟩, ⟨12, 1, .rwl, []⟩, ⟨13, 1, .rwl, []⟩]⟩,
  -- MTR_FEED_CFG
  ⟨0x100, [(32, 8)], 0xA10, [⟨0, 1, .rwl, []⟩, ⟨1, 2, .rwl, []⟩, ⟨3, 1, .rwl, []⟩, ⟨4, 1, .rwl, []⟩, ⟨5, 1, .rwl, []⟩, ⟨8, 8, .rwl, [(1, 255)]⟩]⟩]
/-- Rows of block MTR, part 1. -/
def mtrRows1 : List RegRow := [
  -- MTR_FEED_NOM
  ⟨0x104, [(32, 8)], 0x0, [⟨0, 32, .rwl, []⟩]⟩,
  -- MTR_FEED_STAT
  ⟨0x108, [(32, 8)], 0x0, [⟨0, 1, .ro, []⟩, ⟨1, 1, .ro, []⟩, ⟨2, 3, .ro, []⟩, ⟨5, 3, .ro, []⟩, ⟨8, 8, .ro, []⟩]⟩,
  -- MTR_P1S
  ⟨0x10C, [(32, 8), (4, 3)], 0x0, [⟨0, 32, .ro, []⟩]⟩,
  -- MTR_PMAX
  ⟨0x118, [(32, 8)], 0x0, [⟨0, 32, .ro, []⟩]⟩,
  -- MTR_CH_FS
  ⟨0x400, [(16, 36)], 0x0, [⟨0, 32, .rwl, []⟩]⟩,
  -- MTR_CH_FSF
  ⟨0x404, [(16, 36)], 0x0, [⟨0, 32, .rwl, []⟩]⟩,
  -- MTR_CH_PH
  ⟨0x408, [(16, 36)], 0x0, [⟨0, 16, .rwl, []⟩, ⟨16, 16, .rwl, []⟩]⟩,
  -- MTR_ACC_LO
  ⟨0x800, [(256, 8), (64, 4), (8, 8)], 0x0, [⟨0, 32, .ro, []⟩]⟩,
  -- MTR_ACC_HI
  ⟨0x804, [(256, 8), (64, 4), (8, 8)], 0x0, [⟨0, 32, .ro, []⟩]⟩]
/-- The rows of block MTR. -/
def mtrRows : List RegRow := mtrRows0 ++ mtrRows1
/-- Rows of block KEY, part 0. -/
def keyRows0 : List RegRow := [
  -- KEY_CTRL
  ⟨0x0, [], 0x0, [⟨0, 1, .wo, []⟩]⟩,
  -- KEY_STAT
  ⟨0x4, [], 0x0, [⟨0, 1, .ro, []⟩, ⟨1, 1, .ro, []⟩, ⟨2, 8, .ro, []⟩, ⟨10, 8, .ro, []⟩]⟩,
  -- KEY_TRANSIENT
  ⟨0x8, [], 0x0, [⟨0, 32, .ro, []⟩]⟩,
  -- KEY_LASTING
  ⟨0xC, [], 0x0, [⟨0, 32, .ro, []⟩]⟩,
  -- KEY_INT_STAT
  ⟨0x10, [], 0x0, [⟨0, 1, .w1c, []⟩, ⟨1, 1, .w1c, []⟩, ⟨2, 1, .w1c, []⟩, ⟨3, 1, .w1c, []⟩, ⟨4, 1, .w1c, []⟩]⟩,
  -- KEY_INT_EN
  ⟨0x14, [], 0x0, [⟨0, 32, .rw, []⟩]⟩,
  -- KEY_SLOT
  ⟨0x100, [(4, 128)], 0x0, [⟨0, 2, .ro, []⟩, ⟨2, 2, .ro, []⟩, ⟨4, 4, .ro, []⟩, ⟨8, 3, .ro, []⟩, ⟨11, 1, .ro, []⟩, ⟨12, 6, .ro, []⟩]⟩,
  -- KEY_GEN
  ⟨0x400, [(4, 32)], 0x0, [⟨0, 16, .ro, []⟩, ⟨16, 16, .ro, []⟩]⟩]
/-- The rows of block KEY. -/
def keyRows : List RegRow := keyRows0
/-- Rows of block TMP, part 0. -/
def tmpRows0 : List RegRow := [
  -- TMP_CTRL
  ⟨0x0, [], 0x0, [⟨0, 1, .w1s, []⟩]⟩,
  -- TMP_CFG
  ⟨0x4, [], 0x2040000, [⟨0, 4, .rwl, []⟩, ⟨4, 4, .rwl, []⟩, ⟨8, 4, .rwl, []⟩, ⟨12, 4, .rwl, []⟩, ⟨16, 4, .rwl, [(1, 15)]⟩, ⟨20, 8, .rwl, [(1, 255)]⟩]⟩,
  -- TMP_STAT
  ⟨0x8, [], 0x0, [⟨0, 1, .ro, []⟩, ⟨1, 1, .ro, []⟩, ⟨2, 11, .ro, []⟩]⟩,
  -- TMP_LOG_CNT
  ⟨0xC, [], 0x0, [⟨0, 32, .ro, []⟩]⟩,
  -- TMP_RTC_S
  ⟨0x10, [], 0x0, [⟨0, 32, .ro, []⟩]⟩,
  -- TMP_RTC_SUB
  ⟨0x14, [], 0x0, [⟨0, 15, .ro, []⟩]⟩,
  -- TMP_RTC_SET
  ⟨0x18, [], 0x0, [⟨0, 32, .wo, []⟩]⟩,
  -- TMP_TEMP
  ⟨0x1C, [], 0x0, [⟨0, 8, .ro, []⟩]⟩,
  -- TMP_INT_STAT
  ⟨0x20, [], 0x0, [⟨0, 1, .w1c, []⟩, ⟨1, 1, .w1c, []⟩]⟩,
  -- TMP_INT_EN
  ⟨0x24, [], 0x0, [⟨0, 32, .rw, []⟩]⟩,
  -- TMP_LOG
  ⟨0x100, [(32, 16), (4, 8)], 0x0, [⟨0, 32, .ro, []⟩]⟩]
/-- The rows of block TMP. -/
def tmpRows : List RegRow := tmpRows0
/-- Rows of block PAIR, part 0. -/
def pairRows0 : List RegRow := [
  -- PAIR_CTRL
  ⟨0x0, [], 0x2, [⟨0, 1, .rw, []⟩, ⟨1, 1, .rwl, []⟩, ⟨2, 1, .wo, []⟩, ⟨3, 1, .w1s, []⟩]⟩,
  -- PAIR_CFG
  ⟨0x4, [], 0x1E, [⟨0, 10, .rwl, [(10, 600)]⟩]⟩,
  -- PAIR_STAT
  ⟨0x8, [], 0x0, [⟨0, 1, .ro, []⟩, ⟨1, 1, .ro, []⟩, ⟨2, 1, .ro, []⟩, ⟨3, 1, .ro, []⟩, ⟨4, 1, .ro, []⟩, ⟨5, 1, .ro, []⟩, ⟨6, 1, .ro, []⟩, ⟨7, 1, .ro, []⟩, ⟨8, 1, .ro, []⟩]⟩,
  -- PAIR_PEER_ID0
  ⟨0xC, [], 0x0, [⟨0, 32, .ro, []⟩]⟩,
  -- PAIR_PEER_ID1
  ⟨0x10, [], 0x0, [⟨0, 32, .ro, []⟩]⟩,
  -- PAIR_PEER_ID2
  ⟨0x14, [], 0x0, [⟨0, 32, .ro, []⟩]⟩,
  -- PAIR_MIRROR_SEQ
  ⟨0x18, [], 0x0, [⟨0, 32, .ro, []⟩]⟩,
  -- PAIR_GAP
  ⟨0x1C, [], 0x0, [⟨0, 17, .ro, []⟩]⟩,
  -- PAIR_TAKEOVERS
  ⟨0x20, [], 0x0, [⟨0, 32, .ro, []⟩]⟩,
  -- PAIR_HB_LOST
  ⟨0x24, [], 0x0, [⟨0, 32, .ro, []⟩]⟩,
  -- PAIR_INT_STAT
  ⟨0x28, [], 0x0, [⟨0, 1, .w1c, []⟩, ⟨1, 1, .w1c, []⟩, ⟨2, 1, .w1c, []⟩, ⟨3, 1, .w1c, []⟩, ⟨4, 1, .w1c, []⟩, ⟨5, 1, .w1c, []⟩, ⟨6, 1, .w1c, []⟩, ⟨7, 1, .w1c, []⟩]⟩,
  -- PAIR_INT_EN
  ⟨0x2C, [], 0x0, [⟨0, 32, .rw, []⟩]⟩]
/-- The rows of block PAIR. -/
def pairRows : List RegRow := pairRows0
/-- Rows of block UPD, part 0. -/
def updRows0 : List RegRow := [
  -- UPD_CTRL
  ⟨0x0, [], 0x0, [⟨0, 1, .w1s, []⟩]⟩,
  -- UPD_STAT
  ⟨0x4, [], 0x0, [⟨0, 1, .ro, []⟩, ⟨1, 1, .ro, []⟩, ⟨2, 1, .ro, []⟩, ⟨3, 1, .ro, []⟩, ⟨4, 1, .ro, []⟩, ⟨5, 2, .ro, []⟩, ⟨7, 3, .ro, []⟩]⟩,
  -- UPD_IDLE
  ⟨0x8, [], 0x0, [⟨0, 6, .ro, []⟩]⟩,
  -- UPD_VER
  ⟨0x10, [(4, 5)], 0x0, [⟨0, 32, .ro, []⟩]⟩,
  -- UPD_INT_STAT
  ⟨0x40, [], 0x0, [⟨0, 1, .w1c, []⟩, ⟨1, 1, .w1c, []⟩, ⟨2, 1, .w1c, []⟩, ⟨3, 1, .w1c, []⟩, ⟨4, 1, .w1c, []⟩]⟩,
  -- UPD_INT_EN
  ⟨0x44, [], 0x0, [⟨0, 32, .rw, []⟩]⟩]
/-- The rows of block UPD. -/
def updRows : List RegRow := updRows0
/-- Rows of block OTP, part 0. -/
def otpRows0 : List RegRow := [
  -- OTP_STAT
  ⟨0x0, [], 0x0, [⟨0, 2, .ro, []⟩, ⟨2, 4, .ro, []⟩, ⟨6, 2, .ro, []⟩, ⟨8, 1, .ro, []⟩, ⟨9, 1, .ro, []⟩, ⟨10, 1, .ro, []⟩, ⟨11, 1, .ro, []⟩, ⟨12, 4, .ro, []⟩]⟩,
  -- OTP_UNIT_ID0
  ⟨0x4, [], 0x0, [⟨0, 32, .ro, []⟩]⟩,
  -- OTP_UNIT_ID1
  ⟨0x8, [], 0x0, [⟨0, 32, .ro, []⟩]⟩,
  -- OTP_UNIT_ID2
  ⟨0xC, [], 0x0, [⟨0, 32, .ro, []⟩]⟩,
  -- OTP_FAMILY
  ⟨0x10, [], 0x0, [⟨0, 32, .ro, []⟩]⟩,
  -- OTP_STEPPING
  ⟨0x14, [], 0x0, [⟨0, 16, .ro, []⟩]⟩,
  -- OTP_REC
  ⟨0x40, [(4, 16)], 0x0, [⟨0, 32, .ro, []⟩]⟩]
/-- The rows of block OTP. -/
def otpRows : List RegRow := otpRows0
/-- Rows of block SVC, part 0. -/
def svcRows0 : List RegRow := [
  -- SVC_STAT
  ⟨0x0, [], 0x0, [⟨0, 1, .ro, []⟩, ⟨1, 1, .ro, []⟩, ⟨2, 1, .ro, []⟩, ⟨3, 5, .ro, []⟩, ⟨8, 1, .ro, []⟩, ⟨9, 2, .ro, []⟩, ⟨11, 1, .ro, []⟩]⟩,
  -- SVC_FRAMES
  ⟨0x4, [], 0x0, [⟨0, 32, .ro, []⟩]⟩,
  -- SVC_CRC_ERR
  ⟨0x8, [], 0x0, [⟨0, 32, .ro, []⟩]⟩,
  -- SVC_INT_STAT
  ⟨0xC, [], 0x0, [⟨0, 1, .w1c, []⟩, ⟨1, 1, .w1c, []⟩, ⟨2, 1, .w1c, []⟩, ⟨3, 1, .w1c, []⟩]⟩,
  -- SVC_INT_EN
  ⟨0x10, [], 0x0, [⟨0, 32, .rw, []⟩]⟩]
/-- The rows of block SVC. -/
def svcRows : List RegRow := svcRows0
/-- Rows of block DBG, part 0. -/
def dbgRows0 : List RegRow := [
  -- DBG_STAT
  ⟨0x0, [], 0x0, [⟨0, 1, .ro, []⟩, ⟨1, 1, .ro, []⟩]⟩,
  -- DBG_IDCODE
  ⟨0x4, [], 0x0, [⟨0, 32, .ro, []⟩]⟩,
  -- DBG_UNLOCKS
  ⟨0x8, [], 0x0, [⟨0, 32, .ro, []⟩]⟩]
/-- The rows of block DBG. -/
def dbgRows : List RegRow := dbgRows0
/-- Rows of block PWR, part 0. -/
def pwrRows0 : List RegRow := [
  -- PWR_STATE
  ⟨0x0, [], 0x0, [⟨0, 3, .rw, [(0, 3)]⟩, ⟨4, 3, .ro, []⟩, ⟨7, 1, .ro, []⟩]⟩,
  -- PWR_DOM
  ⟨0x4, [], 0x3FFFF, [⟨0, 32, .ro, []⟩]⟩,
  -- PWR_WAKE
  ⟨0x8, [], 0x0, [⟨0, 1, .rw, []⟩, ⟨1, 1, .rw, []⟩]⟩,
  -- PWR_ALARM
  ⟨0xC, [], 0x0, [⟨0, 32, .rw, []⟩]⟩,
  -- PWR_VCORE
  ⟨0x10, [], 0x2F8, [⟨0, 10, .ro, []⟩]⟩,
  -- PWR_CAUSE
  ⟨0x14, [], 0x0, [⟨0, 3, .ro, []⟩]⟩,
  -- PWR_INT_STAT
  ⟨0x18, [], 0x0, [⟨0, 1, .w1c, []⟩, ⟨1, 1, .w1c, []⟩, ⟨2, 1, .w1c, []⟩]⟩,
  -- PWR_INT_EN
  ⟨0x1C, [], 0x0, [⟨0, 32, .rw, []⟩]⟩]
/-- The rows of block PWR. -/
def pwrRows : List RegRow := pwrRows0
/-- Rows of block CLK, part 0. -/
def clkRows0 : List RegRow := [
  -- CLK_STAT
  ⟨0x0, [], 0x0, [⟨0, 2, .ro, []⟩, ⟨2, 1, .ro, []⟩, ⟨3, 7, .ro, []⟩]⟩,
  -- CLK_INT_STAT
  ⟨0x4, [], 0x0, [⟨0, 1, .w1c, []⟩]⟩,
  -- CLK_INT_EN
  ⟨0x8, [], 0x0, [⟨0, 32, .rw, []⟩]⟩]
/-- The rows of block CLK. -/
def clkRows : List RegRow := clkRows0
/-- Rows of block AGE, part 0. -/
def ageRows0 : List RegRow := [
  -- AGE_CTRL
  ⟨0x0, [], 0x1, [⟨0, 1, .rw, []⟩, ⟨1, 1, .wo, []⟩, ⟨2, 1, .wo, []⟩, ⟨3, 1, .w1s, []⟩]⟩,
  -- AGE_CFG
  ⟨0x4, [], 0xA660F1E, [⟨0, 7, .rwl, [(7, 90)]⟩, ⟨7, 7, .rwl, [(1, 90)]⟩, ⟨14, 4, .rwl, [(0, 8)]⟩, ⟨18, 6, .rwl, [(1, 63)]⟩, ⟨24, 8, .rwl, []⟩]⟩,
  -- AGE_TREND_AT
  ⟨0x8, [], 0x0, [⟨0, 20, .rwl, [(0, 863999)]⟩]⟩,
  -- AGE_STAT
  ⟨0xC, [], 0x0, [⟨0, 1, .ro, []⟩, ⟨1, 1, .ro, []⟩, ⟨2, 7, .ro, []⟩]⟩,
  -- AGE_PRED
  ⟨0x10, [(4, 4)], 0x0, [⟨0, 16, .ro, []⟩]⟩,
  -- AGE_TRIM
  ⟨0x20, [(4, 4)], 0x0, [⟨0, 4, .ro, []⟩]⟩,
  -- AGE_REF_DRIFT
  ⟨0x30, [], 0x0, [⟨0, 32, .ro, []⟩]⟩,
  -- AGE_INT_STAT
  ⟨0x34, [], 0x0, [⟨0, 1, .w1c, []⟩, ⟨1, 1, .w1c, []⟩, ⟨2, 1, .w1c, []⟩, ⟨3, 1, .w1c, []⟩]⟩,
  -- AGE_INT_EN
  ⟨0x38, [], 0x0, [⟨0, 32, .rw, []⟩]⟩,
  -- AGE_SLACK
  ⟨0x100, [(4, 96)], 0x0, [⟨0, 16, .ro, []⟩, ⟨16, 16, .ro, []⟩]⟩]
/-- The rows of block AGE. -/
def ageRows : List RegRow := ageRows0
/-- Rows of block SYS, part 0. -/
def sysRows0 : List RegRow := [
  -- SYS_ID
  ⟨0x0, [], 0x0, [⟨0, 16, .ro, []⟩, ⟨16, 16, .ro, []⟩]⟩,
  -- SYS_STAT
  ⟨0x4, [], 0x10, [⟨0, 3, .ro, []⟩, ⟨3, 1, .ro, []⟩, ⟨4, 1, .ro, []⟩, ⟨5, 1, .ro, []⟩]⟩,
  -- SYS_RESET
  ⟨0x8, [], 0x0, [⟨0, 16, .wo, []⟩]⟩,
  -- SYS_SCRATCH
  ⟨0x10, [(4, 4)], 0x0, [⟨0, 32, .rw, []⟩]⟩,
  -- SYS_WDOG
  ⟨0x20, [], 0x0, [⟨0, 16, .wo, []⟩]⟩,
  -- SYS_WDOG_STAT
  ⟨0x24, [], 0x0, [⟨0, 12, .ro, []⟩, ⟨12, 1, .ro, []⟩]⟩]
/-- The rows of block SYS. -/
def sysRows : List RegRow := sysRows0
/-- Rows of block ERR, part 0. -/
def errRows0 : List RegRow := [
  -- ERR_CTRL
  ⟨0x0, [], 0x0, [⟨0, 1, .rw, []⟩, ⟨1, 1, .wo, []⟩]⟩,
  -- ERR_STAT
  ⟨0x4, [], 0x0, [⟨0, 9, .ro, []⟩]⟩,
  -- ERR_SEQ
  ⟨0x8, [], 0x0, [⟨0, 32, .ro, []⟩]⟩,
  -- ERR_TRANSIENT
  ⟨0xC, [], 0x0, [⟨0, 32, .ro, []⟩]⟩,
  -- ERR_LASTING
  ⟨0x10, [], 0x0, [⟨0, 32, .ro, []⟩]⟩,
  -- ERR_OVERWRITE
  ⟨0x14, [], 0x0, [⟨0, 32, .ro, []⟩]⟩,
  -- ERR_INT_STAT
  ⟨0x18, [], 0x0, [⟨0, 1, .w1c, []⟩, ⟨1, 1, .w1c, []⟩, ⟨2, 1, .w1c, []⟩]⟩,
  -- ERR_INT_EN
  ⟨0x1C, [], 0x0, [⟨0, 32, .rw, []⟩]⟩,
  -- ERR_PICK
  ⟨0x20, [], 0x0, [⟨0, 32, .rw, []⟩]⟩,
  -- ERR_PICK_STAT
  ⟨0x24, [], 0x0, [⟨0, 1, .ro, []⟩, ⟨1, 1, .ro, []⟩, ⟨2, 1, .ro, []⟩]⟩,
  -- ERR_PICK_DATA
  ⟨0x40, [(4, 8)], 0x0, [⟨0, 32, .ro, []⟩]⟩,
  -- ERR_RING
  ⟨0x2000, [(32, 256), (4, 8)], 0x0, [⟨0, 32, .ro, []⟩]⟩]
/-- The rows of block ERR. -/
def errRows : List RegRow := errRows0

/-- The rows of a block. -/
def blkRows : Blk → List RegRow
  | .sys => sysRows
  | .pwr => pwrRows
  | .clk => clkRows
  | .age => ageRows
  | .otp => otpRows
  | .upd => updRows
  | .key => keyRows
  | .tmp => tmpRows
  | .tim => timRows
  | .que => queRows
  | .dsp => dspRows
  | .fab => fabRows
  | .gns => gnsRows
  | .rsv => rsvRows
  | .gov => govRows
  | .stp => stpRows
  | .mac0 => macRows
  | .mac1 => macRows
  | .mac2 => macRows
  | .mac3 => macRows
  | .net => netRows
  | .mtr => mtrRows
  | .pair => pairRows
  | .hst => hstRows
  | .err => errRows
  | .svc => svcRows
  | .dbg => dbgRows

end Sys2Proof.Machine
end

