-- ==== Sys2Proof/Machine/Tab.lean ====
section
/-!
DEFINITION. Machine/Tab.lean: the operations on a `Tab`, the one container behind every register file, memory and
table of the device.
-/
namespace Sys2Proof

/-- The entry at a key, if the table lists one. -/
def Tab.find {α : Type} : Tab α → Nat → Option α
  | [], _ => none
  | (k, v) :: t, i => if i = k then some v else Tab.find t i

/-- The entry at a key, or `d` where the table lists none. -/
def Tab.getD {α : Type} (t : Tab α) (i : Nat) (d : α) : α :=
  (Tab.find t i).getD d

/-- Sets the entry at a key, keeping the keys rising. -/
def Tab.put {α : Type} : Tab α → Nat → α → Tab α
  | [], i, v => [(i, v)]
  | (k, w) :: t, i, v =>
    if i < k then (i, v) :: (k, w) :: t
    else if i = k then (k, v) :: t
    else (k, w) :: Tab.put t i v

/-- Removes the entry at a key. -/
def Tab.del {α : Type} : Tab α → Nat → Tab α
  | [], _ => []
  | (k, w) :: t, i => if i = k then Tab.del t i else (k, w) :: Tab.del t i

/-- Applies a function to the entry at a key, `d` standing for an entry that is not listed. -/
def Tab.upd {α : Type} (t : Tab α) (i : Nat) (d : α) (f : α → α) : Tab α :=
  Tab.put t i (f (Tab.getD t i d))

/-- Applies a function to every listed entry. -/
def Tab.mapV {α β : Type} (t : Tab α) (f : Nat → α → β) : Tab β :=
  t.map fun p => (p.1, f p.1 p.2)

/-- Keeps the listed entries that satisfy a test. -/
def Tab.keep {α : Type} (t : Tab α) (p : Nat → α → Bool) : Tab α :=
  t.filter fun e => p e.1 e.2

/-- The listed keys lie above `b` and rise. -/
def Tab.risingFrom {α : Type} : Nat → Tab α → Bool
  | _, [] => true
  | b, (k, _) :: t => b ≤ k && Tab.risingFrom (k + 1) t

/-- The canonical form of a table whose unlisted entries read `d`: rising keys, no entry equal to `d`. -/
def Tab.wf {α : Type} [DecidableEq α] (d : α) (t : Tab α) : Bool :=
  Tab.risingFrom 0 t && t.all fun e => e.2 ≠ d

/-- Writes an entry of a canonical table: writing what an unlisted key reads as removes the entry. -/
def Tab.set {α : Type} [DecidableEq α] (d : α) (t : Tab α) (i : Nat) (v : α) : Tab α :=
  if v = d then Tab.del t i else Tab.put t i v

end Sys2Proof
end

