-- ==== Sys2Proof/Machine/RegFile.lean ====
section
/-!
DEFINITION. Machine/RegFile.lean: the stored word of a register, its fields, and the plain updates that the blocks make
of their own registers (status bits, holding counters).
-/
namespace Sys2Proof.Machine

/-- The register block number of R512. -/
def blkNum : Blk → Nat
  | .sys => 0x00 | .pwr => 0x01 | .clk => 0x02 | .age => 0x03 | .otp => 0x04 | .upd => 0x05 | .key => 0x06
  | .tmp => 0x07 | .tim => 0x08 | .que => 0x09 | .dsp => 0x0A | .fab => 0x0B | .gns => 0x0C | .rsv => 0x0D
  | .gov => 0x0E | .stp => 0x0F | .mac0 => 0x10 | .mac1 => 0x11 | .mac2 => 0x12 | .mac3 => 0x13 | .net => 0x14
  | .mtr => 0x15 | .pair => 0x16 | .hst => 0x17 | .err => 0x18 | .svc => 0x19 | .dbg => 0x1A

/-- The blocks in order of their numbers. -/
def allBlks : List Blk :=
  [.sys, .pwr, .clk, .age, .otp, .upd, .key, .tmp, .tim, .que, .dsp, .fab, .gns, .rsv, .gov, .stp, .mac0, .mac1,
   .mac2, .mac3, .net, .mtr, .pair, .hst, .err, .svc, .dbg]

/-- The block of a number; 0x1B to 0xFF are reserved (R512). -/
def blkOf (n : Nat) : Option Blk := allBlks[n]?

/-- The table of one block. -/
def tabOf (f : RegFile) : Blk → Tab Word
  | .sys => f.sys | .pwr => f.pwr | .clk => f.clk | .age => f.age | .otp => f.otp | .upd => f.upd | .key => f.key
  | .tmp => f.tmp | .tim => f.tim | .que => f.que | .dsp => f.dsp | .fab => f.fab | .gns => f.gns | .rsv => f.rsv
  | .gov => f.gov | .stp => f.stp | .mac0 => f.mac0 | .mac1 => f.mac1 | .mac2 => f.mac2 | .mac3 => f.mac3
  | .net => f.net | .mtr => f.mtr | .pair => f.pair | .hst => f.hst | .err => f.err | .svc => f.svc | .dbg => f.dbg

/-- Replaces the table of one block. -/
def setTabOf (f : RegFile) (b : Blk) (t : Tab Word) : RegFile :=
  match b with
  | .sys => { f with sys := t } | .pwr => { f with pwr := t } | .clk => { f with clk := t }
  | .age => { f with age := t } | .otp => { f with otp := t } | .upd => { f with upd := t }
  | .key => { f with key := t } | .tmp => { f with tmp := t } | .tim => { f with tim := t }
  | .que => { f with que := t } | .dsp => { f with dsp := t } | .fab => { f with fab := t }
  | .gns => { f with gns := t } | .rsv => { f with rsv := t } | .gov => { f with gov := t }
  | .stp => { f with stp := t } | .mac0 => { f with mac0 := t } | .mac1 => { f with mac1 := t }
  | .mac2 => { f with mac2 := t } | .mac3 => { f with mac3 := t } | .net => { f with net := t }
  | .mtr => { f with mtr := t } | .pair => { f with pair := t } | .hst => { f with hst := t }
  | .err => { f with err := t } | .svc => { f with svc := t } | .dbg => { f with dbg := t }

/-- Whether a row of a register table covers an offset. -/
def rowHits (r : RegRow) (off : Nat) : Bool :=
  if off < r.base then false
  else
    let e := off - r.base
    match r.dims with
    | [] => e = 0
    | [(s, c)] => e % s = 0 && e / s < c
    | [(s, c), (t, n)] => e / s < c && e % s / t < n && e % s % t = 0
    | (s, c) :: (t, n) :: (u, m) :: _ => e / s < c && e % s / t < n && e % s % t / u < m && e % s % t % u = 0

/-- The row of a register, if the block's register map names the offset. -/
def findRow (r : Reg) : Option RegRow := (blkRows r.blk).find? fun w => rowHits w r.off

/-- The reset value of TIM_BCFG[b] (R386). -/
def bcfgReset (b : Nat) : Nat := if b = 0 then 1 else if b = 7 then 0 else 3

/-- The reset value of a register: its row's, but for MAC_IND_BASE, which differs by port (R366), and TIM_BCFG, which
differs by base (R386). -/
def regReset (r : Reg) : Word :=
  match findRow r with
  | none => 0
  | some w =>
    if 0x10 ≤ blkNum r.blk ∧ blkNum r.blk ≤ 0x13 ∧ r.off = 0x28 then
      BitVec.ofNat 32 (0x01010000 + (blkNum r.blk - 0x10) * 0x4000)
    else if r.blk = .tim ∧ 0x100 ≤ r.off ∧ r.off < 0x200 ∧ r.off % 0x20 = 0x10 then
      BitVec.ofNat 32 (bcfgReset ((r.off - 0x100) / 0x20))
    else BitVec.ofNat 32 w.reset

/-- The stored word of a register. -/
def Device.rd (d : Device) (r : Reg) : Word := Tab.getD (tabOf d.regs r.blk) r.off (regReset r)

/-- Stores the word of a register. -/
def Device.wr (d : Device) (r : Reg) (v : Word) : Device :=
  { d with regs := setTabOf d.regs r.blk (Tab.put (tabOf d.regs r.blk) r.off v) }

/-- The stored word as a number. -/
def Device.rdN (d : Device) (r : Reg) : Nat := (d.rd r).toNat

/-- Stores a number as the word of a register. -/
def Device.wrN (d : Device) (r : Reg) (v : Nat) : Device := d.wr r (BitVec.ofNat 32 v)

/-- A field of a register. -/
def Device.fld (d : Device) (r : Reg) (lo w : Nat) : Nat := bitsOf (d.rdN r) lo w

/-- One bit of a register. -/
def Device.bit (d : Device) (r : Reg) (i : Nat) : Bool := bitOf (d.rdN r) i

/-- Replaces a field of a register. -/
def Device.wfld (d : Device) (r : Reg) (lo w v : Nat) : Device := d.wrN r (setBits (d.rdN r) lo w v)

/-- Replaces one bit of a register. -/
def Device.wbit (d : Device) (r : Reg) (i : Nat) (b : Bool) : Device := d.wfld r i 1 (b2n b)

/-- Sets one bit of a status register: a hardware set. -/
def Device.raise (d : Device) (r : Reg) (i : Nat) : Device := d.wbit r i true

/-- Sets one bit of a status register when a condition holds. -/
def Device.raiseIf (d : Device) (c : Bool) (r : Reg) (i : Nat) : Device := if c then d.raise r i else d

/-- Adds to a counter that holds at 0xFFFF_FFFF. -/
def Device.addHold (d : Device) (r : Reg) (n : Nat) : Device := d.wrN r (holdAt 0xFFFFFFFF (d.rdN r + n))

/-- Counts one event in a counter that holds at 0xFFFF_FFFF. -/
def Device.count (d : Device) (r : Reg) : Device := d.addHold r 1

/-- Sends a frame or drives a pin. -/
def Device.send (d : Device) (c : Chan) (unit kind : Nat) (data : Bytes) : Device :=
  { d with out := d.out ++ [⟨c, unit, kind, data⟩] }

/-- Applies a function to the device when a condition holds. -/
def Device.doIf (d : Device) (c : Bool) (f : Device → Device) : Device := if c then f d else d

/-- Applies a function once for each element of a list, first to last. -/
def Device.forEach {α : Type} (d : Device) (l : List α) (f : α → Device → Device) : Device :=
  l.foldl (fun e a => f a e) d

end Sys2Proof.Machine
end

