-- ==== Sys2Proof/Machine/Clock.lean ====
section
/-!
DEFINITION. Machine/Clock.lean: the time bases as they count (R387, R388, R390), the heat counter (R15, R16, R18), and
the jump of the device's time to the instant of a time-driven command (log entry 2).
-/
namespace Sys2Proof.Machine

/-- A base after reset (R386). -/
def baseReset (b : Nat) : Base :=
  { acc := 0, rate := 0, ofs := 0, master := bcfgReset b, joining := none, hold := false, slewing := false,
    holdAt := 0, e0 := 0, varF := ⟨0, 1⟩, est := 0, limited := false }

/-- Base `b`. -/
def Device.base (d : Device) (b : Nat) : Base := Tab.getD d.tim.bases b (baseReset b)

/-- Replaces base `b`. -/
def Device.setBase (d : Device) (b : Nat) (v : Base) : Device :=
  { d with tim := { d.tim with bases := Tab.put d.tim.bases b v } }

/-- The reference frequency in Hz that CLK_STAT selects (R497): 10, 20 or 26 MHz. -/
def Device.refHz (d : Device) : Nat :=
  if d.fld CLK_STAT 0 2 = 0 then 10000000 else if d.fld CLK_STAT 0 2 = 1 then 20000000 else 26000000

/-- What a base at a rate gains in `n` CD1 cycles, in units of 2^-32 ns (R387). -/
def gain (hz : Nat) (rate : Int) (n : Nat) : Nat := n * (1000000000 * (2 ^ 32 + rate).toNat / hz)

/-- TB0 time, ns (R390). -/
def Device.tb0 (d : Device) : Nat := (d.base 0).acc / 2 ^ 32

/-- Always-on time since power-on, ns. -/
def Device.upNs (d : Device) : Nat := d.tim.up / 2 ^ 32

/-- The counter of a base, TIM_NS[b]: a FOLLOW base equals TB0's counter and its offset (R388), unless it waits to
join. -/
def Device.baseNs (d : Device) (b : Nat) : Nat :=
  let v := d.base b
  if v.master = 3 ∧ v.joining = none then ofSigned 32 ((d.tb0 : Int) + v.ofs) else v.acc / 2 ^ 32 % 2 ^ 32

/-- Whether a base is valid: a base is valid while TB0 is (R388; log entry 13 for the others). -/
def Device.baseValid (d : Device) (_b : Nat) : Bool := d.tim.valid

/-- The heat counter (R15); it reads 0 until the first heat begins (R18). -/
def Device.heat (d : Device) : Nat := if d.tim.heats then d.tb0 / 100000000 % 2 ^ 32 else 0

/-- Nanoseconds into the heat. -/
def Device.inHeat (d : Device) : Nat := d.tb0 % 100000000

/-- Lets `n` CD1 cycles pass: every base counts (R387). -/
def Device.cycles (d : Device) (n : Nat) : Device :=
  let hz := d.refHz
  let step (b : Nat) : Nat × Base :=
    let v := d.base b
    (b, { v with acc := v.acc + gain hz v.rate n })
  { d with tim := { d.tim with up := d.tim.up + gain hz 0 n, bases := (List.range 8).map step } }

/-- Lets time pass until TB0 time is at least `t` ns; time never runs back. -/
def Device.advanceTo (d : Device) (t : Nat) : Device :=
  let v := d.base 0
  let per := gain d.refHz v.rate 1
  if t * 2 ^ 32 ≤ v.acc ∨ per = 0 then d else d.cycles (ceilDiv (t * 2 ^ 32 - v.acc) per)

/-- The start of the heat that follows, in TB0 time. -/
def Device.nextHeatStart (d : Device) : Nat := (d.tb0 / 100000000 + 1) * 100000000

/-- Whether an instant lies at least `ns` of always-on time back. -/
def Device.since (d : Device) (at_ ns : Nat) : Bool := at_ + ns ≤ d.upNs

/-- Whether the engines run: the device is in RUN (R492) and heats have begun. -/
def Device.running (d : Device) : Bool := d.tim.heats && d.fld PWR_STATE 4 3 = 0

end Sys2Proof.Machine
end

