-- ==== Sys2Proof/Machine/ErrLog.lean ====
section
/-!
DEFINITION. Machine/ErrLog.lean: the slag log (R516 to R521): writing fault records, counting transient and lasting
faults, the pickers, ERR_PICK and ERR_CLEAR.
-/
namespace Sys2Proof.Machine

/-- The block byte of an access that no register block decodes (R517). -/
def blkBus : Nat := 0x21
/-- The block byte of the stock schedule (R517). -/
def blkStock : Nat := 0x20
/-- The unit of a code that names none (R517). -/
def noUnit : Nat := 0xFFFF

/-- The sequence that follows `s`: after 0xFFFF_FFFF the numbering wraps to 1, and 0 is never used (R516). -/
def nextSeq (s : Nat) : Nat := if s = 0xFFFFFFFF then 1 else s + 1

/-- The newest record in the ring. -/
def newestRec (l : ErrLog) : Option FaultRec :=
  match Tab.find l.ring (l.seq % 256) with
  | some r => if r.seq = l.seq ∧ l.seq ≠ 0 then some r else none
  | none => none

/-- Whether a record repeats the newest record (R519). -/
def repeats (r n : FaultRec) : Bool :=
  r.block = n.block && r.code = n.code && r.unit = n.unit && r.outcome = n.outcome && r.heat = n.heat

/-- The heat counter of a fault record: 0xFFFF_FFFF while TB0 is not valid (R517). -/
def Device.recHeat (d : Device) : Nat := if d.tim.valid then d.heat else 0xFFFFFFFF

/-- TB0 nanoseconds of a fault record: 0 while TB0 is not valid (R517). -/
def Device.recNs (d : Device) : Nat := if d.tim.valid then d.baseNs 0 else 0

/-- Writes a fault record (R516, R517, R519). `outcome` is byte 13 whole. -/
def Device.slag (d : Device) (block code unit outcome : Nat) (ctx : Bytes) : Device :=
  let r : FaultRec :=
    { seq := nextSeq d.log.seq, heat := d.recHeat, ns := d.recNs, block := block, outcome := outcome, code := code,
      unit := unit, rep := 0, ctx := padTo 12 ctx }
  match newestRec d.log with
  | some n =>
    if repeats r n then
      { d with log := { d.log with
          ring := Tab.put d.log.ring (n.seq % 256) { n with rep := holdAt 0xFFFF (n.rep + 1) } } }
    else
      let excess := (Tab.find d.log.ring (r.seq % 256)).isSome
      let e := { d with log := { d.log with ring := Tab.put d.log.ring (r.seq % 256) r, seq := r.seq } }
      ((e.raise ERR_INT_STAT 0).doIf excess fun x => (x.count ERR_OVERWRITE).raise ERR_INT_STAT 2)
  | none =>
    let excess := (Tab.find d.log.ring (r.seq % 256)).isSome
    let e := { d with log := { d.log with ring := Tab.put d.log.ring (r.seq % 256) r, seq := r.seq } }
    ((e.raise ERR_INT_STAT 0).doIf excess fun x => (x.count ERR_OVERWRITE).raise ERR_INT_STAT 2)

/-- Writes a fault record of a register block, with no outcome. -/
def Device.slagB (d : Device) (b : Blk) (code unit : Nat) (ctx : Bytes) : Device :=
  d.slag (blkNum b) code unit 0 ctx

/-- A transient fault (R514): counted in the block's counter and in ERR_TRANSIENT; a record is written only where the
table of R514 says so (`always`) or while ERR_CTRL.LOG_T is 1. -/
def Device.transient (d : Device) (counter : Option Reg) (block code unit : Nat) (ctx : Bytes) (always : Bool) :
    Device :=
  let d1 := match counter with | some r => d.count r | none => d
  (d1.count ERR_TRANSIENT).doIf (always || d1.bit ERR_CTRL 0) fun e => e.slag block code unit 1 ctx

/-- A lasting fault (R514): counted, and a record written; `fenced` says that a unit was fenced or retired. -/
def Device.lasting (d : Device) (counter : Option Reg) (block code unit : Nat) (ctx : Bytes) (fenced : Bool) :
    Device :=
  let d1 := match counter with | some r => d.count r | none => d
  ((d1.count ERR_LASTING).raise ERR_INT_STAT 1).slag block code unit (2 + 4 * b2n fenced) ctx

/-- The code of R522 for an access that is not an aligned 32-bit access (R10). -/
def codeBadAccess : Nat := 1
/-- The code of R522 for a reserved encoding (R9). -/
def codeReservedEnc : Nat := 2
/-- The code of R522 for a write without effect. -/
def codeNoEffect : Nat := 3
/-- The code of R522 for an access that nothing decodes. -/
def codeUnmapped : Nat := 4

/-- The context of RESERVED_ENC and NO_EFFECT: 20-27 the register's address, 28-31 the value (R522). -/
def ctxWrite (addr value : Nat) : Bytes := leBytes 8 addr ++ leBytes 4 value
/-- The context of BAD_ACCESS and UNMAPPED: 20-27 the address, 28 the access bytes, 29 whether a write (R522). -/
def ctxAccess (addr len : Nat) (wr : Bool) : Bytes := leBytes 8 addr ++ leBytes 1 len ++ leBytes 1 (b2n wr)

/-- The physical address of a register (R512). -/
def regAddr (r : Reg) : Nat := 0x0040000000 + blkNum r.blk * 0x10000 + r.off

/-- The NO_EFFECT record of a write to a register. -/
def Device.noEffect (d : Device) (r : Reg) (value : Nat) : Device :=
  d.slagB r.blk codeNoEffect noUnit (ctxWrite (regAddr r) value)

/-- The RESERVED_ENC record of a write to a register. -/
def Device.reservedEnc (d : Device) (r : Reg) (value : Nat) : Device :=
  d.slagB r.blk codeReservedEnc noUnit (ctxWrite (regAddr r) value)

/-- The picker of a reader: 0 the warden, 1 to 4 the partition windows. -/
def Device.picker (d : Device) (w : Nat) : Picker := Tab.getD d.log.picks w ⟨0, 0, none⟩

/-- Latches a record into a reader's picker (R520). -/
def Device.pick (d : Device) (w seq : Nat) : Device :=
  let r := Tab.find d.log.ring (seq % 256)
  let behind := diff32 d.log.seq seq
  let p : Picker :=
    if behind < 0 then ⟨seq, 4, none⟩
    else
      match r with
      | some x => if x.seq = seq ∧ seq ≠ 0 ∧ behind < 256 then ⟨seq, 1, some x⟩ else ⟨seq, 2, none⟩
      | none => ⟨seq, 2, none⟩
  { d with log := { d.log with picks := Tab.put d.log.picks w p } }

/-- Empties the ring without restarting the numbering (R516). -/
def Device.clearLog (d : Device) : Device := { d with log := { d.log with ring := [] } }

/-- The 32 bytes of a fault record (R517). -/
def recBytes (r : FaultRec) : Bytes :=
  leBytes 4 r.seq ++ leBytes 4 r.heat ++ leBytes 4 r.ns ++ leBytes 1 r.block ++ leBytes 1 r.outcome ++
    leBytes 2 r.code ++ leBytes 2 r.unit ++ leBytes 2 r.rep ++ padTo 12 r.ctx

/-- Word `w` of a fault record. -/
def recWord (r : FaultRec) (w : Nat) : Nat := uAt (recBytes r) (4 * w) 4

/-- ERR_PICK (R520): latches the record of a sequence number into the picker of the warden or of a window. -/
def execErrPick (win seq : Nat) (s : State) : Host.Outcome State Fault Refusal :=
  .next { s with dev := s.dev.pick win seq }

/-- ERR_CLEAR (R516): empties the ring; the numbering goes on. -/
def execErrClear (s : State) : Host.Outcome State Fault Refusal :=
  .next { s with dev := s.dev.clearLog }

end Sys2Proof.Machine
end

