-- ==== Sys2Proof/Machine/Queues.lean ====
section
/-!
DEFINITION. Machine/Queues.lean: the hardware queues (chapter 14): banks, credits, packets, hand-over, position, read
point, release, flush, level events, and the packets that hardware producers write and hardware consumers take.
-/
namespace Sys2Proof.Machine

/-- A disabled queue. -/
def queueOff : Queue :=
  { on := false, g := 0, wbank := 0, wStart := 0, dStart := 0, fin := 0, rel := 0, pos := 0, mark := none,
    audit := none, opn := none, pkts := [], held := [], handing := false, flush := false, settle := false, drops := 0,
    owner := none, parity := [], vis := 0 }

/-- Queue `n`. -/
def Device.q (d : Device) (n : Nat) : Queue := Tab.getD d.que n queueOff

/-- Replaces queue `n`. -/
def Device.setQ (d : Device) (n : Nat) (q : Queue) : Device := { d with que := Tab.put d.que n q }

/-- Whole granules of some bytes (16 bytes each). -/
def granules (b : Bytes) : Nat := ceilDiv b.length 16

/-- Granules of a packet. -/
def Packet.len (p : Packet) : Nat := granules p.data

/-- The producer's credits: the free granules of the writing bank (R313). -/
def queueCredit (q : Queue) : Nat := q.g - (q.fin - q.wStart)

/-- Whether the bank that does not write is returned (R311, R319): all its granules are released. -/
def queueReturned (q : Queue) : Bool := q.wStart ≤ q.rel

/-- Granules held in the two banks (R320): written and not released, and the tail of a draining bank. -/
def queueHeld (q : Queue) : Nat :=
  (if queueReturned q then 0 else q.g - (q.rel - q.dStart)) + (q.fin - Nat.max q.rel q.wStart)

/-- Granules released and not yet returned as credit (R320); they leave this term while a hand-over is in progress. -/
def queueAwaiting (q : Queue) : Nat :=
  (if queueReturned q then (if q.handing then 0 else q.g) else q.rel - q.dStart) + (q.rel - q.wStart)

/-- The number after the last granule that the consumer sees. -/
def queueVisEnd (q : Queue) : Nat := q.pkts.foldl (fun m p => Nat.max m (p.start + p.len)) q.pos

/-- The consumer-visible fill (R317). -/
def queueFill (q : Queue) : Nat := queueVisEnd q - q.pos

/-- The packet that contains the current position (R317). -/
def queueCurrent (q : Queue) : Option Packet :=
  q.pkts.find? fun p => p.start ≤ q.pos && q.pos < p.start + p.len

/-- Granules of the current packet that are left. -/
def queueLeft (q : Queue) : Nat :=
  match queueCurrent q with | some p => p.start + p.len - q.pos | none => 0

/-- Visible packets not yet fully popped. -/
def queuePkts (q : Queue) : Nat := (q.pkts.filter fun p => q.pos < p.start + p.len).length

/-- The physical place of a granule, counted from the start of bank 0. -/
def queuePhys (q : Queue) (k : Nat) : Nat :=
  if q.wStart ≤ k then q.wbank * q.g + (k - q.wStart) else (1 - q.wbank) * q.g + (k - q.dStart)

/-- Writes at the places of `n` granules from number `k`: a granule with a lasting parity error is replaced by a spare
while one is left (R326). -/
def Device.respare (d : Device) (n k len : Nat) : Device :=
  let q := d.q n
  let hit := q.parity.filter fun x => (List.range len).any fun i => queuePhys q (k + i) = x
  let used := d.fld QUE_SPARE 0 7
  let take := Nat.min hit.length (64 - used)
  if hit = [] then d
  else
    let e := d.setQ n { q with parity := q.parity.filter fun x => ¬ (hit.take take).contains x }
    let e := e.wfld QUE_SPARE 0 7 (used + take)
    e.raiseIf (64 - (used + take) ≤ 8) QUE_INT_STAT 5

/-- The level event of R324: raised when packets becoming visible move the fill from below the level to it or above. -/
def Device.levelEvent (d : Device) (n before after_ : Nat) : Device :=
  let lv := d.fld (QUE_LEVEL n) 0 14
  d.doIf (lv ≠ 0 && before < lv && lv ≤ after_) fun e =>
    (e.raise (QUE_LVL_STAT (n / 32)) (n % 32)).raise QUE_INT_STAT 0

/-- Makes sealed packets visible, with the level event. -/
def Device.show (d : Device) (n : Nat) (ps : List Packet) : Device :=
  let q := d.q n
  let q' := { q with pkts := q.pkts ++ ps, vis := q.vis + ps.length }
  (d.setQ n q').levelEvent n (queueFill q) (queueFill q')

/-- Counts a dropped or failed packet (R313, R314). -/
def Device.dropPkt (d : Device) (n : Nat) : Device :=
  d.setQ n { d.q n with drops := holdAt 0xFFFFFFFF ((d.q n).drops + 1) }

/-- Whether a queue takes a packet of some bytes from a hardware producer (R314). -/
def Device.canPush (d : Device) (n : Nat) (b : Bytes) : Bool :=
  (d.q n).on && granules b ≤ queueCredit (d.q n) && (d.q n).opn = none && 0 < granules b

/-- A hardware producer writes one packet, whole or not at all (R314). -/
def Device.hwPush (d : Device) (n : Nat) (b : Bytes) : Device :=
  if d.canPush n b then
    let q := d.q n
    let e := d.respare n q.fin (granules b)
    let q := e.q n
    let p : Packet := { start := q.fin, data := padTo (16 * granules b) b, bad := [] }
    (e.setQ n { q with fin := q.fin + p.len }).show n [p]
  else (d.dropPkt n).raise QUE_INT_STAT 1

/-- Frees every granule from the oldest unreleased granule up to `upTo` (R319); the read point becomes invalid when the
release moves past it (R318). -/
def queueRelease (q : Queue) (upTo : Nat) : Queue :=
  let rel := Nat.max q.rel upTo
  { q with
      rel := rel
      pkts := q.pkts.filter fun p => rel < p.start + p.len
      mark := match q.mark with | some m => if m < rel then none else some m | none => none }

/-- What a flush does when it takes effect (R322): everything written is discarded and released, an open packet stays
open and will be discarded. -/
def queueFlushNow (q : Queue) : Queue :=
  let start := q.fin - (match q.opn with | some o => granules o.data | none => 0)
  { q with
      pkts := [], held := [], mark := none, flush := false, settle := true, rel := Nat.max q.rel start, pos := start
      owner := none
      opn := match q.opn with | some o => some { o with dropped := true } | none => none }

/-- The books settle (R322): the queue is in its enable state, apart from which bank is the writing bank. -/
def queueSettle (q : Queue) : Queue :=
  { q with wStart := q.fin, dStart := q.fin, rel := q.fin, pos := q.fin, mark := none, settle := false,
           handing := false }

/-- Settles the books at the first instant at which no packet is open (R322). -/
def Device.settleQ (d : Device) (n : Nat) : Device :=
  let q := d.q n
  if q.on ∧ q.settle ∧ q.opn = none then (d.setQ n (queueSettle q)).raise QUE_INT_STAT 7 else d

/-- Whether the consumer stands at a packet boundary (R321). -/
def queueAtBoundary (q : Queue) : Bool :=
  match queueCurrent q with | some p => p.start = q.pos | none => true

/-- A flush request (R321): it takes effect at once when it is forced or the consumer is at a packet boundary, and
waits otherwise. -/
def Device.flushQ (d : Device) (n : Nat) (force : Bool) : Device :=
  let q := d.q n
  if ¬ q.on then d
  else if force ∨ queueAtBoundary q then (d.setQ n (queueFlushNow q)).settleQ n
  else d.setQ n { q with flush := true }

/-- A waiting flush takes effect at a packet boundary (R321). -/
def Device.flushWaiting (d : Device) (n : Nat) : Device :=
  let q := d.q n
  if q.on ∧ q.flush ∧ queueAtBoundary q then (d.setQ n (queueFlushNow q)).settleQ n else d

/-- A hardware consumer takes the oldest visible packet whole and releases it. A packet with a poisoned granule is
discarded whole (R326), which its `bad` list shows the caller. -/
def Device.hwPop (d : Device) (n : Nat) : Option Packet × Device :=
  let q := d.q n
  match q.pkts.find? fun p => q.pos < p.start + p.len with
  | some p =>
    let fin := p.start + p.len
    (some p, (d.setQ n (queueRelease { q with pos := fin } fin)).flushWaiting n)
  | none => (none, d)

/-- Discards an open packet: its granules return to credit at once. -/
def queueDiscardOpen (q : Queue) : Queue :=
  match q.opn with
  | some o => { q with opn := none, fin := q.fin - granules o.data }
  | none => q

/-- Disables a queue (R322, R327): a forced flush that also discards an open packet at once. -/
def Device.disableQ (d : Device) (n : Nat) : Device :=
  if (d.q n).on then
    let e := d.setQ n (queueDiscardOpen (d.q n))
    let e := e.flushQ n true
    let e := e.setQ n { queueOff with drops := (e.q n).drops, parity := (e.q n).parity }
    e.wbit (QUE_CFG n) 0 false
  else d.wbit (QUE_CFG n) 0 false

/-- Whether a code of R288 names an anvil or the fabric contexts. -/
def fabricCode (c : Nat) : Bool := c ≤ 0x40

/-- Whether a code of R288 names an engine of R327. -/
def engineCode (c : Nat) : Bool := 0x81 ≤ c && c ≤ 0x8B

/-- Whether a queue's producer and consumer agree with its range in R308, and every engine code names an engine. -/
def rolesAgree (n prod cons : Nat) : Bool :=
  let sub := n % 16
  (fabricCode prod || engineCode prod) && (fabricCode cons || engineCode cons) &&
  (if n < 64 then
      if sub = 0 then prod = 0x86 && cons = 0x88
      else if sub ≤ 5 then prod = 0x86 && cons = 0x86
      else if sub ≤ 7 then false
      else if sub ≤ 11 then prod = 0x86 && fabricCode cons
      else fabricCode prod && cons = 0x86
   else if n < 128 then
      fabricCode cons && engineCode prod &&
      (if n = 64 ∨ n = 65 then prod = 0x82
       else if n = 66 ∨ n = 67 ∨ n = 68 then prod = 0x83
       else if n = 69 then prod = 0x89 else true)
   else if n < 192 then
      fabricCode prod && engineCode cons &&
      (if n ≤ 135 then cons = 0x81 else if n ≤ 139 then cons = 0x86 else true)
   else true)

/-- Granules of a bank of BANK_K `k` (R310). -/
def bankG (k : Nat) : Nat := 16 * 2 ^ k

/-- Whether the banks of queue `n` at `base` overlap a bank of another enabled queue. -/
def Device.overlaps (d : Device) (n base g : Nat) : Bool :=
  d.que.any fun e =>
    let m := e.1
    let b := d.fld (QUE_BASE m) 0 18
    m ≠ n && e.2.on && base < b + 2 * e.2.g && b < base + 2 * g

/-- The first condition of R310 that an enable fails, 0 to 3. -/
def Device.enableFails (d : Device) (n : Nat) : Option Nat :=
  let g := bankG (d.fld (QUE_CFG n) 1 4)
  let base := d.fld (QUE_BASE n) 0 18
  if base % (2 * g) ≠ 0 then some 0
  else if 262144 < base + 2 * g then some 1
  else if d.overlaps n base g then some 2
  else if ¬ rolesAgree n (d.fld (QUE_CFG n) 8 8) (d.fld (QUE_CFG n) 16 8) then some 3
  else none

/-- The packets of a queue are counted from its enable, and the triggers on it begin anew (R337). -/
def Device.madeNone (d : Device) (n : Nat) : Device :=
  { d with dsp := { d.dsp with made := Tab.keep d.dsp.made fun k _ => d.fld (DSP_TRIG_Q k) 0 8 ≠ n } }

/-- Enables a queue or refuses it (R310, R311). -/
def Device.enableQ (d : Device) (n : Nat) : Device :=
  match d.enableFails n with
  | none =>
    let g := bankG (d.fld (QUE_CFG n) 1 4)
    ((d.setQ n { queueOff with on := true, g := g, drops := (d.q n).drops, parity := (d.q n).parity }).wbit
      (QUE_CFG n) 0 true).madeNone n
  | some c =>
    let e := (d.wbit (QUE_CFG n) 0 false).raise QUE_INT_STAT 6
    let e := e.wrN QUE_CFG_ERR (n + 0x100)
    e.slagB .que 0x0102 n (leBytes 1 c)

/-- The engine number that QUE_CFG.ENGINE reads (R327). -/
def engineOf (prod : Nat) : Nat := if engineCode prod then prod - 0x80 else 0

/-- A write of QUE_CFG[n] (R327, R310): every field but ENABLE only while ENABLE is 0; BANK_K 9 to 15 is reserved
(R9). A write of a new value to those fields while ENABLE is 1 leaves them and writes a fault record. -/
def Device.queCfgWrite (d : Device) (n value : Nat) : Device :=
  let en := bitOf value 0
  let k := bitsOf value 1 4
  let old := d.rdN (QUE_CFG n)
  let same := bitsOf old 1 4 = k && bitsOf old 8 17 = bitsOf value 8 17
  if (d.q n).on then
    let e := d.doIf (!same) fun x => x.noEffect (QUE_CFG n) value
    if en then e else e.disableQ n
  else
    let e := d.wfld (QUE_CFG n) 8 17 (bitsOf value 8 17)
    let e := e.wfld (QUE_CFG n) 25 4 (engineOf (bitsOf value 8 8))
    let e := if k ≤ 8 then e.wfld (QUE_CFG n) 1 4 k else e.reservedEnc (QUE_CFG n) value
    if en then e.enableQ n else e

/-- Whether a hand-over begins at the end of a cycle (R315, R323); `bp` says that the dispatcher asserts
back-pressure. -/
def handOverDue (q : Queue) (bp bpEn : Bool) : Bool :=
  q.on && q.opn = none && q.held = [] && q.wStart < q.fin && queueReturned q && !q.handing && !(bp && bpEn)

/-- Begins a hand-over where R315 lets one begin. -/
def Device.handOver (d : Device) (n : Nat) : Device :=
  let q := d.q n
  if handOverDue q (d.bit DSP_STAT 9) (d.bit (QUE_CFG n) 24) then d.setQ n { q with handing := true } else d

/-- Completes a hand-over (R315): the writing bank drains with its tail, the returned bank writes with G credits. A
packet that is open in the old writing bank is sealed first (R312: a packet lies wholly in one bank). -/
def Device.handOverEnd (d : Device) (n : Nat) : Device :=
  let q := d.q n
  if q.handing ∧ q.opn = none then
    d.setQ n { q with handing := false, dStart := q.wStart, wStart := q.fin, wbank := 1 - q.wbank }
  else d

/-- QUE_BOOK_A[n] (R327). -/
def queBookA (q : Queue) : Nat := if q.on then queueCredit q + queueHeld q * 2 ^ 16 else 0
/-- QUE_BOOK_B[n] (R327). -/
def queBookB (q : Queue) : Nat := if q.on then queueAwaiting q + queueFill q * 2 ^ 16 else 0
/-- QUE_STATE[n] (R327); `bp` says that back-pressure holds its hand-over (R323). -/
def queState (q : Queue) (bp : Bool) : Nat :=
  if q.on then
    q.wbank + 2 * b2n (queueReturned q) + 4 * b2n q.opn.isSome + 8 * b2n (q.held ≠ []) + 16 * b2n q.mark.isSome +
      32 * b2n q.flush + 64 * b2n bp + queuePkts q * 2 ^ 16
  else 0

/-- QUE_STAT (R327). -/
def Device.queStat (d : Device) : Nat :=
  let on := d.que.filter fun e => e.2.on
  (on.foldl (fun a e => a + 2 * e.2.g) 0) + on.length * 2 ^ 19 + b2n (d.bit DSP_STAT 9) * 2 ^ 28

/-- QUEUE_ENABLE (R310). -/
def execQueueEnable (n value : Nat) (s : State) : Host.Outcome State Fault Refusal :=
  .next { s with dev := s.dev.queCfgWrite n (setBits value 0 1 1) }

/-- QUEUE_DISABLE (R327). -/
def execQueueDisable (n value : Nat) (s : State) : Host.Outcome State Fault Refusal :=
  .next { s with dev := s.dev.queCfgWrite n (setBits value 0 1 0) }

/-- QUE_FLUSH (R321): a write with GO 1 requests a flush. -/
def execQueFlush (n : Nat) (go force : Bool) (s : State) : Host.Outcome State Fault Refusal :=
  .next { s with dev := if go then s.dev.flushQ n force else s.dev }

/-- FLUSH_EFFECT (R322). -/
def execFlushEffect (n : Nat) (s : State) : Host.Outcome State Fault Refusal :=
  .next { s with dev := s.dev.flushWaiting n }

/-- FLUSH_SETTLE (R322). -/
def execFlushSettle (n : Nat) (s : State) : Host.Outcome State Fault Refusal :=
  .next { s with dev := s.dev.settleQ n }

/-- HAND_OVER (R315). -/
def execHandOver (n : Nat) (s : State) : Host.Outcome State Fault Refusal :=
  .next { s with dev := s.dev.handOver n }

end Sys2Proof.Machine
end

