-- ==== Sys2Proof/Machine/Keys.lean ====
section
/-!
DEFINITION. Machine/Keys.lean: the security block's slots, parents and generations (chapter 20), the status codes of
R275 and R378, the use of a key, the tamper log and the clearing of slots. Keys themselves and what ciphers compute are
not held (log entry 6).
-/
namespace Sys2Proof.Machine

/-- DONE (R275). -/
def stDone : Nat := 0
/-- ABORTED (R275). -/
def stAborted : Nat := 1
/-- FAULTED (R275). -/
def stFaulted : Nat := 2
/-- REJECTED (R275). -/
def stRejected : Nat := 3
/-- LATE (R275). -/
def stLate : Nat := 4
/-- NOT_FOUND (R275). -/
def stNotFound : Nat := 5
/-- NO_CAPACITY (R275). -/
def stNoCapacity : Nat := 6
/-- BUSY (R275). -/
def stBusy : Nat := 7
/-- DENIED (R275). -/
def stDenied : Nat := 8
/-- CONFLICT (R275). -/
def stConflict : Nat := 9
/-- CANCELLED (R275). -/
def stCancelled : Nat := 10
/-- IN_USE (R378). -/
def stInUse : Nat := 11
/-- NO_ROUTE (R378). -/
def stNoRoute : Nat := 12

/-- Draws a free value (log entry 7). -/
def Device.draw (d : Device) : Nat × Device := (Config.free d.freeIx, { d with freeIx := d.freeIx + 1 })

/-- Draws `n` free bytes. -/
def Device.drawBytes (d : Device) (n : Nat) : Bytes × Device :=
  ((List.range n).map fun i => BitVec.ofNat 8 (Config.free (d.freeIx + i)), { d with freeIx := d.freeIx + n })

/-- An empty slot. -/
def slotEmpty : KeySlot := ⟨0, 0, 0, 0, false, 0, 0, 0xFF⟩

/-- Slot `s`. -/
def Device.slot (d : Device) (s : Nat) : KeySlot := Tab.getD d.keys.slots s slotEmpty

/-- Replaces slot `s`. -/
def Device.setSlot (d : Device) (s : Nat) (k : KeySlot) : Device :=
  { d with keys := { d.keys with slots := Tab.put d.keys.slots s k } }

/-- The generation of a parent. -/
def Device.gen (d : Device) (k : Nat) : Nat := Tab.getD d.keys.gens k 0

/-- Whether a slot holds a loaded key with an attribute. -/
def Device.keyIs (d : Device) (s attr : Nat) : Bool := (d.slot s).st = 1 && (d.slot s).attr = attr

/-- Whether keyed functions run: the root key is present (R426) and the device is not in the cinder state (R444). -/
def Device.keyed (d : Device) : Bool := d.keys.rootOk && !d.tmp.cinder

/-- The context of a key fault record: attribute and algorithm (R522). -/
def keyCtx (k : KeySlot) : Bytes := leBytes 1 k.attr ++ leBytes 1 k.alg

/-- Quarantines a slot and its twin's partner (R434). -/
def Device.quarantine (d : Device) (s : Nat) : Device :=
  let k := d.slot s
  let e := d.setSlot s { k with st := 2 }
  let e := if k.twin then e.setSlot (s / 2 * 2 + (1 - s % 2)) { e.slot (s / 2 * 2 + (1 - s % 2)) with st := 2 } else e
  (e.raise KEY_INT_STAT 1).lasting (some KEY_LASTING) (blkNum .key) 0x0101 s (keyCtx k) true

/-- The use of a key (R431, R434): what it is answered and the device after it. `tag` is what the integrity check
finds: 0 a match, 1 a mismatch that a re-read clears, 2 a lasting mismatch. -/
def Device.useKey (d : Device) (s attr tag : Nat) : Nat × Device :=
  let k := d.slot s
  if ¬ d.keyed then (stDenied, d)
  else if k.st = 0 then (stNotFound, d)
  else if k.st = 2 then (stFaulted, d)
  else if k.attr ≠ attr then
    (stDenied, (d.raise KEY_INT_STAT 4).slagB .key 0x0102 s (keyCtx k))
  else if tag = 0 then (stDone, d)
  else if tag = 1 then
    (stDone, (d.raise KEY_INT_STAT 0).transient (some KEY_TRANSIENT) (blkNum .key) 0x0101 s (keyCtx k) false)
  else (stFaulted, d.quarantine s)

/-- Loads a key into a slot: the slot's sequences start afresh (R371, R372). -/
def Device.loadSlot (d : Device) (s : Nat) (k : KeySlot) : Device :=
  let e := d.setSlot s k
  { e with hst := { e.hst with replay := Tab.del e.hst.replay s, seqs := Tab.del e.hst.seqs s } }

/-- Loads a key, or a twin: ENCRYPT in `s`, DECRYPT in `s + 1` (R433). -/
def Device.loadKey (d : Device) (s : Nat) (k : KeySlot) : Device :=
  if k.twin then (d.loadSlot s { k with attr := 0 }).loadSlot (s + 1) { k with attr := 1 } else d.loadSlot s k

/-- Clears a slot; a twin is cleared with its partner (R433). -/
def Device.clearSlot (d : Device) (s : Nat) : Device :=
  let k := d.slot s
  let e := d.setSlot s slotEmpty
  if k.twin then e.setSlot (s / 2 * 2 + (1 - s % 2)) slotEmpty else e

/-- Clears every slot. -/
def Device.clearSlots (d : Device) : Device := { d with keys := { d.keys with slots := [] } }

/-- The parents that an invalidation reaches: the parent and, step by step, the registers taken under one reached
(R438). -/
def cascade (regs : Tab ParentReg) : Nat → List Nat → List Nat
  | 0, l => l
  | n + 1, l =>
    cascade regs n (l ++ (regs.filter fun e => l.contains e.2.parent && !l.contains e.1).map (·.1))

/-- Whether the algorithm and attribute of a key stand in the table of R431. -/
def keyCombo (alg attr : Nat) : Bool :=
  if alg = 1 then attr ≤ 2
  else if alg = 2 then attr ≤ 2
  else if alg = 3 then attr = 0 || attr = 1 || attr = 3
  else if alg = 4 then attr = 0 || attr = 1
  else if alg = 5 ∨ alg = 6 then attr = 0
  else if alg = 7 then attr = 3
  else false

/-- Key bytes of an algorithm (R431). -/
def keyLen (alg : Nat) : Nat := if alg = 1 then 16 else if alg = 4 ∨ alg = 6 then 48 else 32

/-- The RTC now, in units of 1/32,768 s (R443). -/
def Device.rtcNow (d : Device) : Nat := d.tmp.rtc + (d.upNs - d.tmp.rtcUp) * 32768 / 1000000000

/-- Sets the RTC seconds with the fraction 0 (R447). -/
def Device.setRtc (d : Device) (secs : Nat) : Device :=
  { d with tmp := { d.tmp with rtc := secs % 2 ^ 32 * 32768, rtcUp := d.upNs, rtcValid := true } }

/-- Byte 1 of a tamper log entry (R443). -/
def Device.tamperState (d : Device) : Nat :=
  if d.pwr.off then 0 else if d.pwr.starting then 5
  else
    let c := d.fld PWR_STATE 4 3
    if c = 0 then 4 else if c = 1 then 3 else if c = 2 then 2 else 1

/-- Writes an entry of the tamper log (R443). -/
def Device.tamperLog (d : Device) (src detail flags : Nat) : Device :=
  let n := holdAt 0xFFFFFFFF (d.tmp.count + 1)
  let r : TamperRec :=
    { source := src, devState := d.tamperState, detail := detail, flags := flags, rtc := d.rtcNow,
      heat := d.recHeat, ns := d.recNs, number := n }
  { d with tmp := { d.tmp with log := (r :: d.tmp.log).take 16, count := n } }

/-- The 32 bytes of a tamper log entry (R443). -/
def tamperBytes (r : TamperRec) : Bytes :=
  leBytes 1 r.source ++ leBytes 1 r.devState ++ leBytes 1 r.detail ++ leBytes 1 r.flags ++
    leBytes 4 (r.rtc / 32768) ++ leBytes 2 (r.rtc % 32768) ++ zeros 2 ++ leBytes 4 r.heat ++ leBytes 4 r.ns ++
    leBytes 4 r.number ++ zeros 8

/-- Slots in a state. -/
def Device.slotsIn (d : Device) (st : Nat) : Nat := (d.keys.slots.filter fun e => e.2.st = st).length

/-- KEY_STAT (R446). -/
def Device.keyStat (d : Device) : Nat :=
  b2n d.keys.rootOk + 2 * b2n d.tmp.cinder + 4 * d.slotsIn 1 + 2 ^ 10 * d.slotsIn 2

/-- KEY_SLOT[s] (R446). -/
def keySlotWord (k : KeySlot) : Nat :=
  if k.st = 0 then 0
  else k.st + 4 * k.attr + 16 * k.alg + 2 ^ 8 * k.owner + 2 ^ 11 * b2n k.twin + 2 ^ 12 * k.parent

/-- KEY_GEN[k] (R446). -/
def Device.keyGenWord (d : Device) (k : Nat) : Nat := d.gen (2 * k) + 2 ^ 16 * d.gen (2 * k + 1)

/-- TMP_STAT (R447). -/
def Device.tmpStat (d : Device) : Nat := b2n d.tmp.cinder + 2 * b2n d.tmp.rtcValid + 4 * d.tmp.active

/-- CLEAR_ALL (R446): KEY_CTRL.CLEAR_ALL clears slots 0 to 127. -/
def execClearAll (s : State) : Host.Outcome State Fault Refusal :=
  .next { s with dev := s.dev.clearSlots }

/-- RTC_SET (R443, R447): sets the RTC seconds and zeroes the fraction at the next CD0 edge. -/
def execRtcSet (secs : Nat) (s : State) : Host.Outcome State Fault Refusal :=
  .next { s with dev := s.dev.setRtc secs }

end Sys2Proof.Machine
end

