-- ==== Sys2Proof/Machine/Link.lean ====
section
/-!
DEFINITION. Machine/Link.lean: the data link (chapter 17): fleet datagrams out (R370, R371), the replay test (R372),
host sessions (R376), command packets, responses, events and records on a partition's queues (R377, R378), and the
permit gate (R452).
-/
namespace Sys2Proof.Machine

/-- The permit gate (R452): CLAIM_OUT high, PEER_CLAIM_IN low, and no confirming sample outstanding. -/
def Device.gate (d : Device) : Bool := d.pair.claim && !d.pair.peerClaim && !d.pair.confirm

/-- Whether the unit is the standby of a pair: paired, and without the claim. -/
def Device.standby (d : Device) : Bool := d.bit PAIR_CTRL 0 && !d.pair.claim

/-- The link of NET port `k`. -/
def Device.linkUp (d : Device) (k : Nat) : Bool := Tab.getD d.hst.link k false

/-- Whether the data link can send: the engine runs and a port of NET0 and NET1 is enabled and up (R368). -/
def Device.netUp (d : Device) : Bool :=
  d.bit NET_CTRL 0 && ((d.bit NET_CTRL 1 && d.linkUp 0) || (d.bit NET_CTRL 2 && d.linkUp 1))

/-- Whether the data link takes a datagram: over NET0 or NET1, or, when `rf` holds, out of a radio data frame
(R360). -/
def Device.linkTakes (d : Device) (rf : Bool) : Bool := if rf then d.bit NET_CTRL 0 else d.netUp

/-- Whether NET2 can carry pair datagrams (R449): the unit is bound, slots 8 and 9 are loaded, the port is up. -/
def Device.pairLink (d : Device) : Bool :=
  d.pair.bound && (d.slot 8).st = 1 && (d.slot 9).st = 1 && !d.tmp.cinder && d.bit NET_CTRL 0 && d.bit NET_CTRL 3 &&
    d.linkUp 2

/-- The identity of a key for its sequence and replay state: a slot's own number, a partition's session, the session
that waits for its first datagram, and the pair key. -/
def keySession (p : Nat) : Nat := 1000 + p
/-- The identity of a waiting session's key. -/
def keyWaiting (p : Nat) : Nat := 1010 + p
/-- The identity of the pair key. -/
def keyPair : Nat := 1020
/-- The identity of a partition's host key (R375). -/
def keyHost (p : Nat) : Nat := 1030 + p

/-- The replay test of R372: a sequence above the highest is accepted; one of the 64 below it only if not seen. -/
def replayOk (r : Replay) (seq : Nat) : Bool :=
  if r.high < seq then true
  else if seq < r.high ∧ r.high - seq ≤ 64 then !bitOf r.map (r.high - seq - 1)
  else false

/-- The replay state after a sequence was accepted (R372). -/
def replayMark (r : Replay) (seq : Nat) : Replay :=
  if r.high < seq then
    let sh := seq - r.high
    ⟨seq, if r.high = 0 then 0 else (if sh ≤ 64 then (r.map * 2 ^ sh + 2 ^ (sh - 1)) % 2 ^ 64 else 0)⟩
  else ⟨r.high, setBits r.map (r.high - seq - 1) 1 1⟩

/-- The replay state of a key. -/
def Device.replay (d : Device) (k : Nat) : Replay := Tab.getD d.hst.replay k ⟨0, 0⟩

/-- Records an accepted sequence. -/
def Device.mark (d : Device) (k seq : Nat) : Device :=
  { d with hst := { d.hst with replay := Tab.put d.hst.replay k (replayMark (d.replay k) seq) } }

/-- Discards an ingress datagram without answer (R372): a replayed copy is counted in NET_DUP, every other in
NET_RX_DROP, a tag failure also in NET_INT_STAT.TAG_FAIL. -/
def Device.discard (d : Device) (dup tagFail : Bool) : Device :=
  if dup then d.count NET_DUP else (d.count NET_RX_DROP).raiseIf tagFail NET_INT_STAT 4

/-- The next egress sequence of a key: when the counter would pass 0xFFFF_FFFF nothing is sent (R371). -/
def Device.nextSeq (d : Device) (k : Nat) : Option Nat × Device :=
  let n := Tab.getD d.hst.seqs k 0
  if 0xFFFFFFFF ≤ n then (none, d.raise NET_INT_STAT 6)
  else (some (n + 1), { d with hst := { d.hst with seqs := Tab.put d.hst.seqs k (n + 1) } })

/-- The header of an egress datagram (R370): class, ENC, EGRESS, length, source node, sequence, partition, subqueue. -/
def fdpHeader (cls : Nat) (enc : Bool) (len src seq part sub : Nat) : Bytes :=
  leBytes 1 (1 + 16 * cls) ++ leBytes 1 (b2n enc + 2) ++ leBytes 2 len ++ leBytes 4 src ++ leBytes 4 seq ++
    leBytes 1 part ++ leBytes 1 sub ++ zeros 2

/-- Sends a datagram of a class under a key (R368, R371): one count in NET_TX for the pair of copies. The payload
stands in clear in the model's `out` (log entry 6). -/
def Device.datagram (d : Device) (c : Chan) (unit cls key : Nat) (enc : Bool) (src part sub : Nat) (body : Bytes) :
    Device :=
  if ¬ d.netUp then d
  else
    match d.nextSeq key with
    | (none, e) => e
    | (some seq, e) =>
      (e.count NET_TX).send c unit cls (fdpHeader cls enc body.length src seq part sub ++ body)

/-- The multicast key's slot, while a key is in effect and its slot still holds it (R374). -/
def Device.mcastSlot (d : Device) : Option Nat :=
  match d.hst.mkey with
  | some k => if d.keyIs k.slot 0 && d.keyed then some k.slot else none
  | none => none

/-- Sends a multicast datagram (R374): nothing goes out while no multicast key is in effect, and MKEY_MISSING is set;
the gate enables egress of class 3 (R452). -/
def Device.multicast (d : Device) (group : Nat) (body : Bytes) : Device :=
  match d.mcastSlot with
  | none => d.raise NET_INT_STAT 5
  | some s => if d.gate then d.datagram .netMulticast group 3 s false 0 0 0 body else d

/-- Sends a datagram to a machine (R371): under its key slot, from its home PAN's node; the gate enables egress of
class 0 (R452). -/
def Device.toMachine (d : Device) (mach slot pan : Nat) (body : Bytes) : Device :=
  if d.gate && (d.slot slot).st = 1 && d.keyed then d.datagram .netMachine mach 0 slot true (pan * 65536) 0 0 body
  else d

/-- Sends a class 5 datagram to the pair peer (R449): byte 12 carries the sender's rank. -/
def Device.toPeer (d : Device) (kind : Nat) (body : Bytes) : Device :=
  if ¬ d.pairLink then d
  else
    match d.nextSeq keyPair with
    | (none, e) => e
    | (some seq, e) =>
      (e.count NET_TX).send .netPeer kind 5
        (fdpHeader 5 true body.length 0 seq (b2n d.pair.away) 0 ++ body)

/-- No session. -/
def sessNone : Session := ⟨false, false, 0, 0, none⟩

/-- The session of a partition. -/
def Device.sess (d : Device) (p : Nat) : Session := Tab.getD d.hst.sess p sessNone

/-- Replaces a partition's session. -/
def Device.setSess (d : Device) (p : Nat) (x : Session) : Device :=
  { d with hst := { d.hst with sess := Tab.put d.hst.sess p x } }

/-- The partition record. -/
def Device.part (d : Device) (p : Nat) : Partition := Tab.getD d.hst.parts p ⟨false, 0⟩

/-- Whether a partition holds a right: 0 stop, 1 plan, 2 meter-read, 3 update (R118). -/
def Device.right (d : Device) (p r : Nat) : Bool := (d.part p).prov && bitOf (d.part p).rights r

/-- The right stop. -/
def rStop : Nat := 0
/-- The right plan. -/
def rPlan : Nat := 1
/-- The right meter-read. -/
def rMeter : Nat := 2
/-- The right update. -/
def rUpdate : Nat := 3

/-- Closes a partition's session (R376): its slots are cleared, HST_INT_STAT is set, and what waits in its queues
waits on. -/
def Device.closeSess (d : Device) (p : Nat) : Device :=
  if (d.sess p).open_ then
    let e := d.setSess p { d.sess p with open_ := false, spi := false }
    ((e.setSlot (2 * p) slotEmpty).setSlot (2 * p + 1) slotEmpty).raise HST_INT_STAT (4 + p)
  else d

/-- Closes every session, and drops every session that waits (R376, R442). -/
def Device.closeAll (d : Device) : Device :=
  d.forEach [0, 1, 2, 3] fun p e =>
    let e := e.closeSess p
    e.setSess p { e.sess p with waiting := none }

/-- The slot of a session key (R432). -/
def sessionKey (p attr : Nat) : KeySlot := ⟨1, attr, 2, p, false, 1 + p, 0, 0xFF⟩

/-- The takeover of R376: the session that waited becomes the partition's session, the old one closes. -/
def Device.takeover (d : Device) (p : Nat) : Device :=
  match (d.sess p).waiting with
  | none => d
  | some spi =>
    let e := d.closeSess p
    let g := e.gen (1 + p)
    let e := e.loadSlot (2 * p) { sessionKey p 0 with gen := g }
    let e := e.loadSlot (2 * p + 1) { sessionKey p 1 with gen := g }
    let e := e.setSess p { open_ := true, spi := spi, heat := e.heat, lastRx := e.upNs, waiting := none }
    let e := { e with hst := { e.hst with
        replay := Tab.put e.hst.replay (keySession p) (e.replay (keyWaiting p))
        seqs := Tab.put e.hst.seqs (keySession p) 0 } }
    e.raise HST_INT_STAT p

/-- Whether the port takes a host's datagram: NET0 or NET1 with the engine running, or the host SPI port while it is
enabled and bound to the partition named (R372, R383). -/
def Device.hostPort (d : Device) (h : HostPkt) : Bool :=
  if h.spi then d.bit HST_SPI_CFG 0 && d.fld HST_SPI_CFG 1 2 = h.part else d.netUp

/-- The acceptance test of a host's datagram (R372, R376). A datagram under the key of a waiting session takes over.
`none`: it is discarded, and the device counts it. -/
def Device.accept (d : Device) (h : HostPkt) : Bool × Device :=
  let x := d.sess h.part
  let k := if h.newKey then keyWaiting h.part else keySession h.part
  if ¬ d.hostPort h then (false, d.discard false false)
  else if ¬ h.tagOk ∨ (h.newKey ∧ x.waiting = none) ∨ (¬ h.newKey ∧ ¬ (x.open_ ∧ (d.slot (2 * h.part + 1)).st = 1 ∧ d.keyed)) then (false, d.discard false true)
  else if ¬ replayOk (d.replay k) h.seq then (false, d.discard true false)
  else
    let e := (d.count NET_RX_OK).mark k h.seq
    let e := if h.newKey then e.takeover h.part else e
    (true, e.setSess h.part { e.sess h.part with lastRx := e.upNs })

/-- A command packet, response, event or record (R378): code, request ID, body length, status, body. -/
def packetBytes (code req status : Nat) (body : Bytes) : Bytes :=
  leBytes 2 code ++ leBytes 2 req ++ leBytes 2 body.length ++ leBytes 1 status ++ zeros 1 ++ body

/-- Counts a command in HST_CMDS (R385). -/
def Device.countCmd (d : Device) (p st : Nat) : Device :=
  let c := Tab.getD d.hst.done p (0, 0)
  let c' := if st = stDone then (holdAt 0xFFFF (c.1 + 1), c.2) else (c.1, holdAt 0xFFFF (c.2 + 1))
  { d with hst := { d.hst with done := Tab.put d.hst.done p c' } }

/-- Posts a response to a partition's queue 1 (R378). -/
def Device.post (d : Device) (p code req st : Nat) (body : Bytes) : Device :=
  (d.countCmd p st).hwPush (16 * p + 1) (packetBytes (code + 0x8000) req st body)

/-- Bytes of the largest response body that a command can give (R378). -/
def respBody (code : Nat) : Nat :=
  match code with
  | 0x0010 => 256 | 0x0201 => 16 | 0x0302 => 32 | 0x0303 => 1296 | 0x0405 => 64 | 0x0406 => 336 | 0x0409 => 40
  | 0x0501 => 4 | 0x0502 => 24 | 0x0600 => 2 | 0x0704 => 144 | 0x0800 => 1024 | 0x0801 => 64 | 0x0802 => 260
  | 0x0900 => 1 | 0x0902 => 96 | 0x0903 => 96 | 0x0904 => 2 | 0x0905 => 128 | 0x0A04 => 16 | _ => 0

/-- Granules of the largest response a command can give (R378). -/
def respMax (code : Nat) : Nat := ceilDiv (8 + respBody code) 16

/-- Granules reserved on queue 1 for responses owed. -/
def Device.owedN (d : Device) (p : Nat) : Nat := Tab.getD d.hst.owed p 0

/-- Changes the reserve of a partition. -/
def Device.setOwed (d : Device) (p n : Nat) : Device :=
  { d with hst := { d.hst with owed := Tab.put d.hst.owed p n } }

/-- Credit on queue 1 outside the reserve: 16 granules stay for STOP_CMD and RESUME_CMD, one a response (R378). -/
def Device.freeCredit (d : Device) (p : Nat) : Nat := queueCredit (d.q (16 * p + 1)) - 16 - d.owedN p

/-- The configuration commands that the state mirror carries (R458, section 0x07; log entry 29). -/
def mirroredCmd (code : Nat) : Bool :=
  [0x0200, 0x0301, 0x0407, 0x0408, 0x0501, 0x0603, 0x0604, 0x0605, 0x0701, 0x0705].contains code

/-- A configuration command that the holder of a pair accepted is noted for its next mirror. -/
def Device.noteCfg (d : Device) (c : Cmd) (st : Nat) : Device :=
  if st = stDone ∧ mirroredCmd c.code ∧ d.bit PAIR_CTRL 0 ∧ d.pair.claim then
    { d with pair := { d.pair with cfgs := d.pair.cfgs ++ [(c.part, c.code, c.body)] } }
  else d

/-- Answers a command that was taken from queue 0: its reserve ends and its one response is posted (R378). -/
def Device.answer (d : Device) (c : Cmd) (st : Nat) (body : Bytes) : Device :=
  ((d.noteCfg c st).setOwed c.part (d.owedN c.part - respMax c.code)).post c.part c.code
    c.req st body

/-- Writes an unsolicited record of a type to queue 1, from credit outside the reserve alone (R378). -/
def Device.record (d : Device) (p ty : Nat) (body : Bytes) : Device :=
  let b := packetBytes (0xF000 + ty) 0xFFFF 0 body
  let n := 16 * p + 1
  if (d.q n).on ∧ granules b ≤ d.freeCredit p then d.hwPush n b else (d.dropPkt n).raise QUE_INT_STAT 1

/-- Writes an event of a type to queue 2 (R377, R378). -/
def Device.event (d : Device) (p ty : Nat) (body : Bytes) : Device :=
  d.hwPush (16 * p + 2) (packetBytes (0xF000 + ty) 0xFFFF 0 body)

/-- The body of an event: a u16 machine or segment and the u32 heat counter (R378). -/
def Device.eventBody (d : Device) (x : Nat) : Bytes := leBytes 2 x ++ leBytes 4 d.heat

/-- Holds a command until its time. -/
def Device.holdCmd (d : Device) (c : Cmd) : Device :=
  { d with hst := { d.hst with waiting := d.hst.waiting ++ [c] } }

/-- Whether queue 1 holds credit for a command's response beyond the reserve made (R378). -/
def Device.canTake (d : Device) (p code : Nat) : Bool := (d.q (16 * p + 1)).on && respMax code ≤ d.freeCredit p

/-- Takes the packet at the head of a partition's command queue: its response's credit is reserved (R378). -/
def Device.takeCmd (d : Device) (p : Nat) : Option Cmd × Device :=
  match (d.q (16 * p)).pkts.find? fun k => (d.q (16 * p)).pos < k.start + k.len with
  | none => (none, d)
  | some k =>
    let code := uAt k.data 0 2
    if ¬ d.canTake p code then (none, d)
    else
      let e := (d.hwPop (16 * p)).2
      let e := e.setOwed p (e.owedN p + respMax code)
      (some ⟨p, code, uAt k.data 2 2, sliceB k.data 8 (uAt k.data 4 2), e.heat⟩, e)

/-- A host command arrives (R372, R377, R378, R380): an accepted datagram becomes one packet on the partition's
command queue. When no earlier packet waits and queue 1 holds the credit for its response, it is taken at once, and `f`
says what taking it does; otherwise it waits in queue 0. -/
def Device.hostCmd (d : Device) (code : Nat) (h : HostPkt) (f : Cmd → Device → Device) : Device :=
  match d.accept h with
  | (false, e) => e
  | (true, e) =>
    let first := queuePkts (e.q (16 * h.part)) = 0
    let e := e.hwPush (16 * h.part) (packetBytes code h.req 0 h.body)
    if first then
      match e.takeCmd h.part with
      | (some c, e') => f c e'
      | (none, e') => e'
    else e

/-- A boundary command: taken, it waits for the next heat boundary (R110). -/
def holdIt (c : Cmd) (d : Device) : Device := d.holdCmd c

/-- Runs `f` when the body has the command's length, and answers REJECTED otherwise (R378). -/
def withLen (n : Nat) (f : Cmd → Device → Device) (c : Cmd) (d : Device) : Device :=
  if c.body.length = n then f c d else d.answer c stRejected []

/-- Runs `f` when the sender holds a right, and answers DENIED otherwise. -/
def withRight (r : Nat) (f : Cmd → Device → Device) (c : Cmd) (d : Device) : Device :=
  if d.right c.part r then f c d else d.answer c stDenied []

/-- Runs `f` unless the unit is the standby, which answers state-changing commands BUSY (R460). -/
def ifHolder (f : Cmd → Device → Device) (c : Cmd) (d : Device) : Device :=
  if d.standby then d.answer c stBusy [] else f c d

end Sys2Proof.Machine
end

