-- ==== Sys2Proof/Machine/Records.lean ====
section
/-!
DEFINITION. Machine/Records.lean: records held as fields by byte offset, their bytes under the layouts of the spec, and
the accessors of the fleet table (R104) and the node table (R108).
-/
namespace Sys2Proof.Machine

/-- A field of a record. -/
def recGet (r : Tab Nat) (off : Nat) : Nat := Tab.getD r off 0

/-- The record with a field set. -/
def recSet (r : Tab Nat) (off v : Nat) : Tab Nat := Tab.put r off v

/-- The record with several fields set. -/
def recSets (r : Tab Nat) (l : List (Nat × Nat)) : Tab Nat := l.foldl (fun a e => recSet a e.1 e.2) r

/-- The bytes of a record of `len` bytes under a layout of offsets and widths, rising (R7). -/
def layBytes (lay : List (Nat × Nat)) (len : Nat) (r : Tab Nat) : Bytes :=
  padTo len (lay.foldl (fun b f => padTo f.1 b ++ leBytes f.2 (recGet r f.1)) [])

/-- The record of some bytes under a layout. -/
def layRead (lay : List (Nat × Nat)) (b : Bytes) : Tab Nat := lay.map fun f => (f.1, uAt b f.1 f.2)

/-- A layout moved by an offset. -/
def layShift (k : Nat) (lay : List (Nat × Nat)) : List (Nat × Nat) := lay.map fun f => (f.1 + k, f.2)

/-- The position record of R91. -/
def layPos : List (Nat × Nat) :=
  [(0, 2), (2, 1), (3, 1), (4, 4), (8, 4), (12, 4), (16, 4), (20, 2), (22, 2), (24, 2), (26, 1), (27, 1), (28, 1),
   (29, 1), (30, 2), (32, 2), (34, 2), (36, 2), (38, 1)]

/-- The governor inputs of R186. -/
def layGov : List (Nat × Nat) :=
  [(80, 1), (81, 1), (82, 2), (84, 2), (86, 2), (88, 2), (90, 2), (92, 2), (94, 1), (95, 1), (96, 1), (97, 1), (98, 1),
   (99, 1), (100, 4), (104, 1), (108, 4), (112, 4), (116, 4), (120, 4), (124, 2)]

/-- The route summary of R142. -/
def layRoute : List (Nat × Nat) :=
  [(144, 1), (145, 1), (146, 2), (148, 4), (152, 4), (156, 4), (160, 2), (162, 2), (164, 4), (168, 2), (170, 2),
   (172, 2), (174, 2), (176, 4), (180, 4), (184, 4), (188, 4)]

/-- The task and battery area of R151. -/
def layTask : List (Nat × Nat) :=
  [(208, 2), (210, 2), (212, 1), (213, 1), (214, 2), (216, 4), (220, 4), (224, 2), (226, 2), (228, 4), (232, 4),
   (236, 4), (240, 4)]

/-- The fleet-table entry of R104. -/
def layFleet : List (Nat × Nat) :=
  [(0, 2), (2, 1), (3, 1), (4, 4), (8, 8), (16, 4), (20, 1), (21, 1), (22, 1), (23, 1), (24, 4), (28, 4), (32, 4),
   (36, 4)] ++ layShift 40 layPos ++ layGov ++ layRoute ++ layTask ++ [(272, 64), (336, 4), (340, 4)]

/-- The node record of R108. -/
def layNode : List (Nat × Nat) :=
  [(0, 4), (4, 1), (5, 1), (6, 1), (7, 1), (8, 8), (16, 4), (20, 2), (22, 2), (24, 4), (28, 4), (32, 4), (36, 4),
   (40, 2), (42, 1), (43, 1), (44, 1), (45, 1), (46, 2)]

/-- A machine's entry; an entry that is FREE holds its number and names no node. -/
def Device.entry (d : Device) (m : Nat) : Tab Nat := Tab.getD d.flt.tab m [(0, m), (4, 0xFFFFFFFF)]

/-- A field of a machine's entry. -/
def Device.fe (d : Device) (m off : Nat) : Nat := recGet (d.entry m) off

/-- Replaces a machine's entry. -/
def Device.setEntry (d : Device) (m : Nat) (r : Tab Nat) : Device :=
  { d with flt := { d.flt with tab := Tab.put d.flt.tab m r } }

/-- Sets a field of a machine's entry. -/
def Device.setFe (d : Device) (m off v : Nat) : Device := d.setEntry m (recSet (d.entry m) off v)

/-- Sets several fields of a machine's entry. -/
def Device.setFes (d : Device) (m : Nat) (l : List (Nat × Nat)) : Device := d.setEntry m (recSets (d.entry m) l)

/-- The state of an entry (R105): 0 FREE, 1 LISTED, 2 ACTIVE, 3 SILENT, 4 LEAVING. -/
def Device.mstate (d : Device) (m : Nat) : Nat := d.fe m 2

/-- The owner of a machine. -/
def Device.owner (d : Device) (m : Nat) : Nat := bitsOf (d.fe m 3) 0 2

/-- Whether a partition owns a machine that is admitted. -/
def Device.owns (d : Device) (p m : Nat) : Bool := d.mstate m ≠ 0 && d.owner m = p

/-- Whether a partition owns a machine or may read it (R112). -/
def Device.mayRead (d : Device) (p m : Nat) : Bool := d.owns p m || (d.mstate m ≠ 0 && bitOf (d.fe m 3) (4 + p))

/-- The machines whose entries are not FREE, rising. -/
def Device.machines (d : Device) : List Nat := (d.flt.tab.filter fun e => recGet e.2 2 ≠ 0).map (·.1)

/-- A node's record. -/
def Device.node (d : Device) (n : Nat) : Tab Nat := Tab.getD d.flt.nodes n [(0, n)]

/-- A field of a node's record. -/
def Device.nd (d : Device) (n off : Nat) : Nat := recGet (d.node n) off

/-- Replaces a node's record. -/
def Device.setNode (d : Device) (n : Nat) (r : Tab Nat) : Device :=
  { d with flt := { d.flt with nodes := Tab.put d.flt.nodes n r } }

/-- Sets several fields of a node's record. -/
def Device.setNds (d : Device) (n : Nat) (l : List (Nat × Nat)) : Device := d.setNode n (recSets (d.node n) l)

/-- Whether a node number is one whose record has kind reserved and never changes (R108). -/
def nodeReserved (n : Nat) : Bool := n % 65536 = 0 || n % 65536 = 0xFFFE || n % 65536 = 0xFFFF

/-- The kind of a node record: 0 free, 1 sensor, 2 relay, 3 machine, 4 reserved-address. -/
def Device.nkind (d : Device) (n : Nat) : Nat := if nodeReserved n then 4 else d.nd n 4

/-- The machine admitted with an EUI-64. -/
def Device.machOf (d : Device) (eui : Nat) : Option Nat :=
  (d.flt.tab.find? fun e => recGet e.2 2 ≠ 0 ∧ recGet e.2 8 = eui).map (·.1)

/-- Sends an event to a machine's owner and to each partition that may read it. -/
def Device.eventFor (d : Device) (m ty : Nat) : Device :=
  d.forEach [0, 1, 2, 3] fun p e => if e.mayRead p m then e.event p ty (e.eventBody m) else e

/-- Sends a fleet datagram to a bound machine, and records the egress sequence of its key slot (R104, bytes
336-339). -/
def Device.sendMachine (d : Device) (m : Nat) (body : Bytes) : Device :=
  let s := d.fe m 22
  let e := d.toMachine m s (d.fe m 23) body
  e.setFe m 336 (Tab.getD e.hst.seqs s 0)

end Sys2Proof.Machine
end

