-- ==== Sys2Proof/Machine/Stop.lean ====
section
/-!
DEFINITION. Machine/Stop.lean: the stop sequencer (chapter 9): the latch set and the phases, the stop inputs, stops and
resumes of hosts and of the service port, the stop list, the permit beacon, stop frames, sealed frames and the
own-permit monitor.
-/
namespace Sys2Proof.Machine

/-- STOP_OUT (R197). -/
def pinStopOut : Nat := 0
/-- PERMIT_OUT (R197). -/
def pinPermitOut : Nat := 1
/-- CLAIM_OUT (R448). -/
def pinClaimOut : Nat := 2
/-- PAIR_OK_OUT (R448). -/
def pinPairOk : Nat := 3
/-- PPS_OUT (R402). -/
def pinPps : Nat := 4
/-- PWR_OK_OUT (R535). -/
def pinPwrOk : Nat := 5
/-- HS_IRQ_N (R383). -/
def pinHsIrq : Nat := 6
/-- RF_RST_N (R346). -/
def pinRfRst : Nat := 7
/-- EVT0 (R401); EVT1 to EVT3 follow. -/
def pinEvt : Nat := 8

/-- The level of an output pin; an unlisted pin is low, HS_IRQ_N high (R532). -/
def Device.pin (d : Device) (p : Nat) : Nat := Tab.getD d.pins p (if p = pinHsIrq then 1 else 0)

/-- Drives an output pin; a change is seen outside. -/
def Device.setPin (d : Device) (p v : Nat) : Device :=
  if d.pin p = v then d else ({ d with pins := Tab.put d.pins p v }).send .pin p v []

/-- Lets time pass until the always-on time is at least `t` ns. -/
def Device.advanceUp (d : Device) (t : Nat) : Device :=
  let per := gain d.refHz 0 1
  if t * 2 ^ 32 ≤ d.tim.up ∨ per = 0 then d else d.cycles (ceilDiv (t * 2 ^ 32 - d.tim.up) per)

/-- Radio port `p`. -/
def Device.port (d : Device) (p : Nat) : Mac :=
  Tab.getD d.mac p
    { locked := false, fault := false, air := none, store := [], peak := 0, relays := [], relaySeq := 0, direct := [],
      polled := none, resvEnd := 0, acks := [] }

/-- Replaces radio port `p`. -/
def Device.setPort (d : Device) (p : Nat) (m : Mac) : Device := { d with mac := Tab.put d.mac p m }

/-- Whether a port can transmit: enabled, in lock, not faulted, the gate open (R345, R346, R452). -/
def Device.portUp (d : Device) (p : Nat) : Bool :=
  d.bit (MAC_CTRL p) 0 && (d.port p).locked && !(d.port p).fault && d.gate

/-- Whether a port's region requires listen-before-talk. -/
def Device.lbt (d : Device) (p : Nat) : Bool := d.bit (MAC_REGION p) 4

/-- The ports enabled for permits and stop frames (STP_CTRL.PORT_EN). -/
def Device.permitPorts (d : Device) : List Nat := setBitsOf 4 (d.fld STP_CTRL 0 4)

/-- The fleet state: STOP while a cause is latched, and during STOPPING and QUIET (R195). -/
def stopState (s : Stop) : Bool := s.latch ≠ 0 || s.phase = 1 || s.phase = 2

/-- A frame of priority `prio` aborts the frame on air when that one's priority lies in `lo` to 6 (R351). An aborted
indirect frame stays held. -/
def Device.abortAir (d : Device) (p lo : Nat) : Device :=
  let m := d.port p
  match m.air with
  | some a =>
    if lo ≤ a.prio ∧ d.tb0 < a.fin then
      d.setPort p { m with air := none, store := m.store.map fun h => { h with onAir := false } }
    else d
  | none => d

/-- Puts a frame on air. -/
def Device.putAir (d : Device) (p prio fin : Nat) : Device := d.setPort p { d.port p with air := some ⟨prio, fin⟩ }

/-- Begins the STOPPING phase: the stop arises now (R195, R206). -/
def Device.beginStopping (d : Device) : Device :=
  let was := stopState d.stp
  let e := { d with stp := { d.stp with
      phase := 1, phaseTb := d.tb0, phaseUp := d.upNs, first := [], firstUp := none, grid := [], byStopTest := true } }
  (e.raiseIf (!was) STP_INT_STAT 0).setPin pinPermitOut 0 |>.setPin pinStopOut 0

/-- Latches a stop cause (R195): a cause latched in RUN, LATCHED or QUIET starts STOPPING. The stop of a cause that was not
latched arises now (R198, R207; log entry 15). -/
def Device.latchCause (d : Device) (c : Nat) : Device :=
  let new := !bitOf d.stp.latch c
  let e := { d with stp := { d.stp with latch := setBits d.stp.latch c 1 1 } }
  let e := if c = 5 then { e with stp := { e.stp with govOk := false, engineFault := true } } else e
  let e := if new then (e.wrN STP_ARISE_HEAT e.heat).wrN STP_ARISE_NS (e.baseNs 0) else e
  if new ∧ d.stp.phase ≠ 1 then
    let was := stopState d.stp
    let f := e.beginStopping
    f.raiseIf (!was) STP_INT_STAT 0
  else e

/-- Enters QUIET (R209). -/
def Device.beginQuiet (d : Device) : Device :=
  { d with stp := { d.stp with phase := 2, phaseTb := d.tb0, phaseUp := d.upNs } }

/-- The minimum repetition, ns (R208). -/
def Device.minRep (d : Device) : Nat := d.fld STP_CFG 10 5 * 1000000000

/-- Whether the minimum repetition has passed since the first frame; with no port to send on, since the stop arose. -/
def Device.minRepOver (d : Device) : Bool :=
  match d.stp.firstUp with
  | some t => t + d.minRep ≤ d.upNs
  | none => d.stp.phaseUp + d.minRep ≤ d.upNs && (d.permitPorts.filter d.portUp) = []

/-- Clears stop causes (R195): with none left, LATCHED turns to QUIET, and so does STOPPING once its minimum repetition
is over. -/
def Device.clearCauses (d : Device) (mask : Nat) : Device :=
  let keep := (List.range 12).foldl (fun a i => if bitOf d.stp.latch i ∧ ¬ bitOf mask i then a + 2 ^ i else a) 0
  let e := { d with stp := { d.stp with latch := keep, engineFault := false } }
  if keep ≠ 0 then e
  else if e.stp.phase = 3 then e.beginQuiet
  else if e.stp.phase = 1 ∧ e.minRepOver then e.beginQuiet
  else e

/-- Whether a sender may clear a cause of the latch (R195). Sender 0 to 3 is a partition that holds the stop right, 5
the service port. -/
def Device.mayClear (d : Device) (src c : Nat) : Bool :=
  if src = 5 then c ≠ 7 || !d.tmp.cinder
  else c ≠ 7 && c ≠ 10 && (c < 1 || 4 < c || c = 1 + src)

/-- Whether a pair stop condition holds (R463). -/
def Device.pairHolds (d : Device) : Bool := (d.pair.claim && d.pair.peerClaim) || d.pair.rankClash

/-- Whether the condition of a latched cause still holds (R195). -/
def Device.causeHolds (d : Device) (c : Nat) : Bool :=
  if c = 0 then Tab.getD d.stp.ch 0 false || Tab.getD d.stp.ch 1 false || d.stp.disc
  else if c = 5 then !d.stp.govOk
  else if c = 6 then d.pairHolds
  else if c = 9 then 16 ≤ d.stp.list.length
  else false

/-- The entry of a machine in the stop list. -/
def stopEntry (l : List StopEntry) (m : Nat) : Option StopEntry := l.find? fun e => e.mach = m

/-- Adds a cause to a machine's entry, or a new entry; a full list latches OVERFLOW (R211). -/
def Device.listAdd (d : Device) (m cause : Nat) : Device :=
  match stopEntry d.stp.list m with
  | some _ =>
    { d with stp := { d.stp with
        list := d.stp.list.map fun e => if e.mach = m then { e with causes := setBits e.causes cause 1 1 } else e } }
  | none =>
    if d.stp.list.length < 16 then
      { d with stp := { d.stp with list := d.stp.list ++ [⟨m, 2 ^ cause⟩] } }
    else (d.latchCause 9).raise STP_INT_STAT 4

/-- The lowest cause of an entry. -/
def lowestCause (c : Nat) : Nat := ((setBitsOf 6 c).head?).getD 0

/-- The 40 bytes of a permit beacon or stop frame (R201). -/
def beaconBytes (list : List Nat) (stop ahead quiet : Bool) (causes heat : Nat) : Bytes :=
  [BitVec.ofNat 8 0x71, BitVec.ofNat 8 (list.length + 32 * b2n stop + 64 * b2n ahead + 128 * b2n quiet)] ++
    leBytes 2 causes ++ leBytes 4 heat ++
    (list.flatMap fun m => leBytes 2 m) ++ ((List.replicate (16 - list.length) (leBytes 2 0xFFFF)).flatten)

/-- Whether frames can be sealed: a permit key is in effect, its slot still holds an ENCRYPT key, and keyed functions
run (R202, R444). -/
def Device.canSeal (d : Device) : Bool :=
  match d.stp.key with | some k => d.keyIs k.slot 0 && d.keyed | none => false

/-- The key index in effect. -/
def Device.keyIndex (d : Device) : Nat := match d.stp.key with | some k => k.index | none => 0

/-- The live counter a port uses next (R203). -/
def Device.liveCtr (d : Device) (p : Nat) : Nat := Tab.getD d.stp.fc p 0

/-- Whether a live frame can be sealed for a port (R203): at the end of the counter's range SEAL_LOW is set. -/
def Device.canLive (d : Device) (p : Nat) : Bool := d.canSeal && d.liveCtr p ≤ 0xFFFEFFFF

/-- A frame as `out` shows it: the key index, the frame counter and the 40 bytes of R201 (log entry 6). -/
def sealedFrame (index ctr : Nat) (body : Bytes) : Bytes := leBytes 1 index ++ leBytes 4 ctr ++ body

/-- Sends a live-sealed frame on a port (R203). -/
def Device.sendLive (d : Device) (p : Nat) (body : Bytes) : Device :=
  let c := d.liveCtr p
  let e := { d with stp := { d.stp with fc := Tab.put d.stp.fc p (c + 1) } }
  e.send .radio p 0x71 (sealedFrame d.keyIndex c body)

/-- The machines of the stop list, in order. -/
def stopMachines (l : List StopEntry) : List Nat := l.map (·.mach)

/-- Sends the list-update frame of R211 on every enabled port. During STOPPING it is a stop frame, otherwise a beacon
with the STOP and QUIET of the heat's permit beacon. -/
def Device.listUpdate (d : Device) : Device :=
  let stopping := d.stp.phase = 1
  let quiet := d.stp.phase = 2
  let body := beaconBytes (stopMachines d.stp.list) (stopState d.stp) false quiet d.stp.latch d.heat
  d.forEach d.permitPorts fun p e =>
    if e.portUp p ∧ e.canLive p then
      let f := e.abortAir p (if stopping then 2 else 3)
      f.sendLive p body
    else e

/-- Adds machines to the stop list under a cause; a new entry appears in a list-update frame (R211). -/
def Device.listAdds (d : Device) (ms : List Nat) (cause : Nat) : Device :=
  let e := d.forEach ms fun m x => x.listAdd m cause
  if d.stp.list.length < e.stp.list.length then e.listUpdate else e

/-- Drops the stop-list entries of machines whose fleet entry is FREE (R211), at a heat boundary. -/
def Device.listDropFree (d : Device) : Device :=
  { d with stp := { d.stp with list := d.stp.list.filter fun e => d.mstate e.mach ≠ 0 } }

/-- The fields of a STOP_CMD or RESUME_CMD body (R213): scope, count, causes, machines. -/
def stopFields (b : Bytes) : Nat × Nat × Nat × List Nat :=
  (uAt b 0 1, uAt b 1 1, uAt b 2 2, [uAt b 4 2, uAt b 6 2, uAt b 8 2, uAt b 10 2])

/-- Whether a body is well-formed under R213: `resume` says which command it is. -/
def stopBodyOk (b : Bytes) (resume : Bool) : Bool :=
  let (scope, n, causes, ms) := stopFields b
  b.length = 12 && scope ≤ 1 &&
  (if scope = 0 then n = 0 && ms.all (· = 0xFFFF) && (if resume then 0 < causes && causes < 4096 else causes = 0)
   else 1 ≤ n && n ≤ 4 && causes = 0 && (ms.take n).all (· < 4096) && (ms.drop n).all (· = 0xFFFF))

/-- Applies a stop (R211, R213): the status and the device after it. Source 0 to 3 is a partition, 5 the service port;
`right` says that the sender holds the stop right. -/
def Device.applyStop (d : Device) (src : Nat) (right : Bool) (b : Bytes) : Nat × Device :=
  let (scope, n, _, ms) := stopFields b
  if ¬ stopBodyOk b false then (stRejected, d)
  else if ¬ right then (stDenied, d)
  else if scope = 0 then (stDone, d.latchCause (if src = 5 then 10 else 1 + src))
  else (stDone, d.listAdds (ms.take n) src)

/-- The FAULT flag of a machine (R186, byte 95). -/
def Device.machFault (d : Device) (m : Nat) : Bool := bitOf (d.fe m 95) 6

/-- The causes of an entry that a sender may remove (R212): its own and, for the machine's owner, GOV. -/
def Device.removable (d : Device) (src m causes : Nat) : Nat :=
  if src = 5 then causes
  else
    (if bitOf causes src then 2 ^ src else 0) + (if bitOf causes 4 ∧ d.owns src m then 16 else 0)

/-- How a machine-scope resume fails for one machine (R212), or DONE. -/
def Device.resumeOne (d : Device) (src m : Nat) : Nat :=
  match stopEntry d.stp.list m with
  | none => stNotFound
  | some e =>
    let r := d.removable src m e.causes
    if r = 0 then stDenied
    else if src ≠ 5 ∧ r = 16 ∧ d.machFault m then stBusy
    else stDone

/-- Removes from a machine's entry what the sender may remove; an entry without a cause leaves the list (R212). -/
def Device.listRemove (d : Device) (src m : Nat) : Device :=
  match stopEntry d.stp.list m with
  | none => d
  | some e =>
    let r := d.removable src m e.causes
    let r := if src ≠ 5 ∧ d.machFault m then (if bitOf r 4 then r - 16 else r) else r
    let left := e.causes - r
    { d with stp := { d.stp with
        list := if left = 0 then d.stp.list.filter fun x => x.mach ≠ m
          else d.stp.list.map fun x => if x.mach = m then { x with causes := left } else x } }

/-- The first of several outcomes in the order of R213. -/
def firstStatus (l : List Nat) : Nat :=
  if l.contains stDenied then stDenied else if l.contains stNotFound then stNotFound
  else if l.contains stBusy then stBusy else stDone

/-- Applies a resume (R195, R212, R213): whole or not at all. -/
def Device.applyResume (d : Device) (src : Nat) (right : Bool) (b : Bytes) : Nat × Device :=
  let (scope, n, causes, ms) := stopFields b
  if ¬ stopBodyOk b true then (stRejected, d)
  else if ¬ right then (stDenied, d)
  else if scope = 0 then
    let cs := setBitsOf 12 causes
    if cs.any fun c => !d.mayClear src c then (stDenied, d)
    else if cs.any fun c => !bitOf d.stp.latch c then (stNotFound, d)
    else if cs.any fun c => d.causeHolds c then (stBusy, d)
    else (stDone, d.clearCauses causes)
  else
    let st := firstStatus ((ms.take n).map (d.resumeOne src))
    if st = stDone then (stDone, d.forEach (ms.take n) fun m e => e.listRemove src m) else (st, d)

/-- A STOP_CMD or RESUME_CMD that the NET ingress hardware hands to the sequencer (R380): it passes the acceptance test,
is applied at once and answered on queue 1. The standby latches it and forwards it on NET2 (R460). -/
def Device.stopHost (d : Device) (resume : Bool) (h : HostPkt) : Device :=
  let code := if resume then 0x0101 else 0x0100
  match d.accept h with
  | (false, e) => e
  | (true, e) =>
    let r := e.right h.part rStop
    let (st, e') := if resume then e.applyResume h.part r h.body else e.applyStop h.part r h.body
    if e'.standby && st = stDone then
      e'.toPeer 0xE3 (leBytes 2 code ++ leBytes 1 h.part ++ leBytes 2 h.req ++ h.body)
    else e'.post h.part code h.req st []

/-- PERMIT_KEY at the heat boundary (R202): it names the key that takes effect there. -/
def Device.permitKeyCmd (c : Cmd) (d : Device) : Device :=
  let s := uAt c.body 0 1
  let i := uAt c.body 1 1
  if ¬ d.right c.part rStop then d.answer c stDenied []
  else if uAt c.body 2 2 ≠ 0 ∨ i = 0 ∨ 128 ≤ s then d.answer c stRejected []
  else
    let k := d.slot s
    if k.st = 0 then d.answer c stNotFound []
    else if k.owner ≠ c.part ∨ k.attr ≠ 0 ∨ k.alg ≠ 1 ∨ k.st ≠ 1 then d.answer c stDenied []
    else ({ d with stp := { d.stp with keyNext := some ⟨c.part, s, i⟩ } }).answer c stDone []

/-- A named permit key takes effect at the heat boundary (R202, R203): every counter of the key starts at 0. -/
def Device.permitKeyTakes (d : Device) : Device :=
  match d.stp.keyNext with
  | none => d
  | some k => { d with stp := { d.stp with key := some k, keyNext := none, fc := [], used := [] } }

/-- The reserved counters of a unit (R203, R450): the first and how many. A bound pair splits the range. -/
def Device.resvRange (d : Device) : Nat × Nat :=
  if d.pair.bound then (if d.pair.away then (0xFFFF8000, 0x8000) else (0xFFFF0000, 0x8000)) else (0xFFFF0000, 0x10000)

/-- Whether a sealed frame needs no replacement: it is sealed under the key index in effect and was not used (R204). -/
def SealedFrame.fresh (f : SealedFrame) (i : Nat) : Bool := f.index = i && !f.spent

/-- Sealed frames a port holds. A used frame stays, and counts, until its replacement exists (log entry 15). -/
def Device.sealedN (d : Device) (p : Nat) : Nat := (Tab.getD d.stp.ahead p []).length

/-- Seals one frame in advance for a port (R204): once 32 are held, it takes the place of one that was used or was sealed
under an older key.
A port whose reserved range is exhausted seals none, and SEAL_LOW is set (R203). -/
def Device.sealAhead (d : Device) (p : Nat) : Device :=
  let have_ := Tab.getD d.stp.ahead p []
  let i := d.keyIndex
  let fresh := (have_.filter fun f => f.fresh i).length
  let u := Tab.getD d.stp.used p 0
  if ¬ d.canSeal ∨ 32 ≤ fresh ∨ ¬ d.permitPorts.contains p then d
  else if d.resvRange.2 ≤ u then d.raise STP_INT_STAT 5
  else
    let f : SealedFrame := ⟨d.resvRange.1 + u, d.heat, i, false⟩
    let old := have_.filter fun x => !x.fresh i
    let new := have_.filter fun x => x.fresh i
    let l := (new ++ [f]) ++ old.take (32 - (fresh + 1))
    { d with stp := { d.stp with ahead := Tab.put d.stp.ahead p l, used := Tab.put d.stp.used p (u + 1) } }

/-- Sends the next sealed frame of a port (R206, R208). It goes behind the others, and while
frames can be sealed it is replaced within 50 ms; while none can, the port cycles through those it holds (R217). -/
def Device.sendSealed (d : Device) (p : Nat) : Option Device :=
  match Tab.getD d.stp.ahead p [] with
  | [] => none
  | f :: t =>
    let e := { d with stp := { d.stp with ahead := Tab.put d.stp.ahead p (t ++ [{ f with spent := true }]) } }
    some (e.send .radio p 0x71 (sealedFrame f.index f.ctr (beaconBytes [] true true false 0 f.heat)))

/-- The instant at which a port's next stop frame is due (R206, R208). -/
def Device.stopDue (d : Device) (p : Nat) : Nat :=
  match Tab.find d.stp.first p with
  | none => d.stp.phaseTb
  | some t => t + (Tab.getD d.stp.grid p 0 + 1) * 10000000

/-- Books a stop frame that began: the first of the port sets its grid and STP_LAT, a frame due while the previous one
was on air sets SLOW_PHY (R206, R208). -/
def Device.stopSent (d : Device) (p start air : Nat) : Device :=
  let isFirst := (Tab.find d.stp.first p).isNone
  let slow := d.stopDue p < Tab.getD d.stp.airUntil p 0
  let lat := (start - d.stp.phaseTb) / 1000
  let e := if isFirst then
      let e := { d with stp := { d.stp with first := Tab.put d.stp.first p start } }
      if d.stp.firstUp = none then
        let e := { e with stp := { e.stp with firstUp := some d.upNs } }
        let e := e.wrN STP_LAT (holdAt 0xFFFF lat)
        e.wrN STP_LAT_MAX (Nat.max (e.rdN STP_LAT_MAX) (holdAt 0xFFFF lat))
      else e
    else { d with stp := { d.stp with grid := Tab.put d.stp.grid p (Tab.getD d.stp.grid p 0 + 1) } }
  let e := { e with stp := { e.stp with airUntil := Tab.put e.stp.airUntil p (start + air) } }
  (e.raiseIf (slow && !isFirst) STP_INT_STAT 7).putAir p 1 (start + air)

/-- Sends a stop frame on a port that is due one (R206, R208). -/
def Device.stopFrame (d : Device) (p start air : Nat) : Device :=
  let d := d.advanceTo start
  if d.stp.phase ≠ 1 ∨ ¬ d.permitPorts.contains p ∨ ¬ d.portUp p ∨ start < d.stopDue p then d
  else
    let e := d.abortAir p 2
    let live (x : Device) : Option Device :=
      if x.canLive p then
        some (x.sendLive p (beaconBytes (stopMachines x.stp.list) true false false x.stp.latch x.heat))
      else none
    let sent :=
      if (Tab.find d.stp.first p).isNone then (e.sendSealed p).orElse fun _ => live e
      else (live e).orElse fun _ => e.sendSealed p
    let e' := sent.getD e
    let e' := e'.raiseIf (e.canSeal && !e.canLive p) STP_INT_STAT 5
    if sent.isSome then e'.stopSent p start air else e'

/-- The fold begins in stroke 0 of the first RUN heat (R145): the fleet state leaves STOP while RSV_STAT.PAUSED is set. -/
def Device.foldBegin (d : Device) : Device :=
  if d.bit RSV_STAT 1 ∧ ¬ d.bit RSV_STAT 2 ∧ ¬ stopState d.stp then d.wbit RSV_STAT 2 true else d

/-- Latches the beacon payload, by heat start + 1.8 ms (R200, R209): QUIET ends in RUN at the first latch at least 1 s
after it began. -/
def Device.permitLatch (d : Device) : Device :=
  let d := d.advanceTo (d.tb0 / 100000000 * 100000000 + 1800000)
  if ¬ d.running then d
  else
    let turn := !d.standby && d.stp.phase = 2 && d.stp.latch = 0 && d.since d.stp.phaseUp 1000000000
    let d := if turn then ({ d with stp := { d.stp with phase := 0 } }).raise STP_INT_STAT 1 else d
    let d := d.foldBegin
    let stop := stopState d.stp
    let b : Beacon := ⟨d.heat, stop, d.stp.phase = 2, d.stp.latch, stopMachines d.stp.list⟩
    let d := { d with stp := { d.stp with
        payload := some b, sent := false, byStopTest := d.stp.phase = 1, ran := d.stp.ran || !stop } }
    if stop then (d.setPin pinStopOut 0).setPin pinPermitOut 0 else d.setPin pinStopOut 1

/-- Whether a RUN permit may be sent (R205): a permit key is in effect and every enabled port holds 32 sealed frames. -/
def Device.mayRun (d : Device) : Bool := d.stp.key.isSome && d.permitPorts.all fun p => 32 ≤ d.sealedN p

/-- Sends the permit beacon on one port (R200, R201, R354). -/
def Device.beaconOn (d : Device) (b : Beacon) (clear air p : Nat) : Device :=
  if d.portUp p ∧ (¬ d.lbt p ∨ bitOf clear p) then
    if d.canLive p then
      let e := (d.abortAir p 3).sendLive p (beaconBytes b.list b.stop false b.quiet b.causes b.heat)
      let e := e.putAir p 2 (e.tb0 + air)
      e.setPort p { e.port p with resvEnd := e.tb0 + air }
    else d.raiseIf d.canSeal STP_INT_STAT 5
  else d

/-- Whether the gate opened by a takeover too late for the heat's permit: later than heat start + 1.7 ms (R461). -/
def Device.openedLate (d : Device) : Bool :=
  match d.pair.opened with
  | some t => t / 100000000 = d.tb0 / 100000000 && 1700000 < t % 100000000
  | none => false

/-- The first permit of a new holder ends the switch-over gap (R462). -/
def Device.gapEnds (d : Device) : Device :=
  if d.pair.gapOpen ∧ d.gate then
    ({ d with pair := { d.pair with gapOpen := false } }).wrN PAIR_GAP (holdAt 0x1FFFF ((d.upNs - d.pair.fellAt) / 1000))
  else d

/-- Sends the permit beacon at heat start + 2 ms on every enabled port (R200, R205). STOPPING replaces it by stop
frames. -/
def Device.permitBeacon (d : Device) (clear air : Nat) : Device :=
  let d := d.advanceTo (d.tb0 / 100000000 * 100000000 + 2000000)
  match d.stp.payload with
  | none => d
  | some b =>
    if d.stp.sent ∨ d.stp.phase = 1 ∨ ¬ d.running ∨ b.heat ≠ d.heat ∨ d.openedLate then d
    else if ¬ b.stop ∧ ¬ d.mayRun then
      (d.raiseIf d.stp.key.isNone STP_INT_STAT 6).setPin pinPermitOut 0
    else
      let e := d.forEach d.permitPorts fun p x => x.beaconOn b clear air p
      let e := { e with stp := { e.stp with sent := true } }
      let e := (e.raiseIf d.stp.key.isNone STP_INT_STAT 6).gapEnds
      e.setPin pinPermitOut (b2n (!b.stop && e.gate))

/-- The own-permit monitor's verdict on a heat (R216): a heat whose permit was not sent counts as a miss; three
consecutive heats with a miss, while the gate is open, latch MON. -/
def Device.monitor (d : Device) (good : Nat) : Device :=
  let nothing := !d.stp.sent && !d.stp.byStopTest
  let missed := d.permitPorts.filter fun p => nothing || !bitOf good p
  if ¬ d.gate ∨ d.stp.payload = none then d
  else if missed = [] then { d with stp := { d.stp with misses := 0 } }
  else
    let n := Nat.min 3 (d.stp.misses + 1)
    let e := { d with stp := { d.stp with misses := n } }
    if n = 3 ∧ ¬ bitOf d.stp.latch 11 then
      let e := (e.latchCause 11).raise STP_INT_STAT 3
      e.slag (blkNum .stp) 0x0102 (missed.foldl (fun a p => a + 2 ^ p) 0) 8 []
    else e

/-- A filtered reading changes (R198): an asserted channel latches PIN. -/
def Device.reading (d : Device) (ch : Nat) (v : Bool) : Device :=
  let a := Tab.getD d.stp.ch 0 false
  let b := Tab.getD d.stp.ch 1 false
  let e := { d with stp := { d.stp with ch := Tab.put d.stp.ch ch v } }
  let a' := if ch = 0 then v else a
  let b' := if ch = 0 then b else v
  let e := if (a == b) = (a' == b') then e else { e with stp := { e.stp with diffAt := d.upNs } }
  if v then e.latchCause 0 else e

/-- STP_STAT (R218). -/
def Device.stpStat (d : Device) : Nat :=
  let s := d.stp
  s.phase + 4 * b2n (stopState s) + 8 * b2n (Tab.getD s.ch 0 false) + 16 * b2n (Tab.getD s.ch 1 false) +
    32 * b2n s.disc + 64 * b2n s.key.isSome + 128 * b2n d.gate + 256 * s.list.length + 2 ^ 13 * s.misses

/-- STP_LIST[k] (R218). -/
def Device.stpList (d : Device) (k : Nat) : Nat :=
  let half (e : Option StopEntry) : Nat :=
    match e with | some x => x.mach + 2 ^ 12 * lowestCause x.causes + 2 ^ 15 | none => 0
  half d.stp.list[2 * k]? + 2 ^ 16 * half d.stp.list[2 * k + 1]?

/-- STP_SEALED (R218). -/
def Device.stpSealed (d : Device) : Nat :=
  (List.range 4).foldl (fun a p => a + d.sealedN p * 2 ^ (8 * p)) 0

/-- STOP_INPUT_CHANGE (R198): the pin takes a level, and its filter starts. -/
def execStopInputChange (chB level : Bool) (s : State) : Host.Outcome State Fault Refusal :=
  let c := b2n chB
  .next { s with dev := { s.dev with stp := { s.dev.stp with
    raw := Tab.put s.dev.stp.raw c level
    rawAt := if Tab.getD s.dev.stp.raw c false = level then s.dev.stp.rawAt
      else Tab.put s.dev.stp.rawAt c s.dev.upNs } } }

/-- CHANNEL_READING_CHANGE (R198): once the pin has held its level for FILT_US, the reading follows it. -/
def execChannelReadingChange (chB : Bool) (s : State) : Host.Outcome State Fault Refusal :=
  let c := b2n chB
  let d := s.dev
  let lv := Tab.getD d.stp.raw c false
  let r : Device :=
    if Tab.getD d.stp.ch c false = lv then d
    else (d.advanceUp (Tab.getD d.stp.rawAt c 0 + d.fld STP_CFG 0 10 * 1000)).reading c lv
  .next { s with dev := r }

/-- DISCREPANCY (R199): readings that differ for more than 50 ms set DISC; PIN stays latched. -/
def execDiscrepancy (s : State) : Host.Outcome State Fault Refusal :=
  let d := s.dev
  let r : Device :=
    if Tab.getD d.stp.ch 0 false = Tab.getD d.stp.ch 1 false ∨ d.stp.disc then d
    else
      let e := (d.advanceUp (d.stp.diffAt + 50000001)).raise STP_INT_STAT 2
      let e := { e with stp := { e.stp with disc := true } }
      e.slagB .stp 0x0101 noUnit
        (leBytes 1 (b2n (Tab.getD d.stp.ch 0 false)) ++ leBytes 1 (b2n (Tab.getD d.stp.ch 1 false)))
  .next { s with dev := r }

/-- DISC_CLEAR (R199): readings equal for 50 ms clear DISC. -/
def execDiscClear (s : State) : Host.Outcome State Fault Refusal :=
  let d := s.dev
  let r : Device :=
    if Tab.getD d.stp.ch 0 false ≠ Tab.getD d.stp.ch 1 false ∨ ¬ d.stp.disc then d
    else
      let e := d.advanceUp (d.stp.diffAt + 50000000)
      { e with stp := { e.stp with disc := false } }
  .next { s with dev := r }

/-- STOP_CMD (R213). -/
def execStopCmd (h : HostPkt) (s : State) : Host.Outcome State Fault Refusal :=
  .next { s with dev := s.dev.stopHost false h }

/-- RESUME_CMD (R213). -/
def execResumeCmd (h : HostPkt) (s : State) : Host.Outcome State Fault Refusal :=
  .next { s with dev := s.dev.stopHost true h }

/-- PERMIT_KEY (R202). -/
def execPermitKey (h : HostPkt) (s : State) : Host.Outcome State Fault Refusal :=
  .next { s with dev := s.dev.hostCmd 0x0102 h (withLen 4 holdIt) }

/-- PERMIT_LATCH (R200). -/
def execPermitLatch (s : State) : Host.Outcome State Fault Refusal := .next { s with dev := s.dev.permitLatch }

/-- PERMIT_BEACON (R201). -/
def execPermitBeacon (clear air : Nat) (s : State) : Host.Outcome State Fault Refusal :=
  .next { s with dev := s.dev.permitBeacon clear air }

/-- STOP_FRAME (R208). -/
def execStopFrame (p start air : Nat) (s : State) : Host.Outcome State Fault Refusal :=
  .next { s with dev := s.dev.stopFrame p start air }

/-- MIN_REPETITION_END (R208): MIN_REP_S after the first frame, STOPPING ends if no cause is latched. -/
def execMinRepetitionEnd (s : State) : Host.Outcome State Fault Refusal :=
  let d := s.dev
  let r : Device :=
    if d.stp.phase ≠ 1 ∨ d.stp.latch ≠ 0 ∨ d.standby then d
    else
      match d.stp.firstUp with
      | some t => (d.advanceUp (t + d.minRep)).beginQuiet
      | none => (d.advanceUp (d.stp.phaseUp + d.minRep)).beginQuiet
  .next { s with dev := r }

/-- SEAL_AHEAD (R204). -/
def execSealAhead (p : Nat) (s : State) : Host.Outcome State Fault Refusal :=
  .next { s with dev := s.dev.sealAhead p }

/-- MONITOR_CHECK (R216). -/
def execMonitorCheck (good : Nat) (s : State) : Host.Outcome State Fault Refusal :=
  .next { s with dev := s.dev.monitor good }

end Sys2Proof.Machine
end

