-- ==== Sys2Proof/Machine/Timing.lean ====
section
/-!
DEFINITION. Machine/Timing.lean: TB0's discipline and holdover (R393 to R398), masters and adjustments of the other
bases (R386 to R389), snapshots, PTP, and the compare and capture units (chapter 18).
-/
namespace Sys2Proof.Machine

/-- The slew limit, dimensionless: TIM_DISC_CFG.SLEW in 0.1 ppm. -/
def Device.slew (d : Device) : Frac := ⟨(d.fld TIM_DISC_CFG 10 10 : Int), 10000000⟩

/-- A residual in ps as seconds. -/
def psToS (x : Int) : Frac := ⟨x, 1000000000000⟩

/-- A rate y as TIM_RATE: round(y × 2^32) (R394). -/
def rateOf (y : Frac) : Int := Frac.round ⟨y.num * 2 ^ 32, y.d⟩

/-- A TIM_RATE as a fraction. -/
def ofRate (r : Int) : Frac := ⟨r, 2 ^ 32⟩

/-- The duty of REF_TUNE and the rate of TB0 for a commanded y (R395). -/
def Device.tune (d : Device) (y : Frac) : Nat × Int :=
  let duty := d.fld TIM_TUNE 0 16
  let g := d.fld TIM_TUNE 17 15
  if d.bit TIM_TUNE 16 ∧ g ≠ 0 then
    let want : Int := (duty : Int) + Frac.round ⟨y.num * 1000000000000, y.d * g⟩
    let got : Nat := if want < 0 then 0 else if 65535 < want then 65535 else want.toNat
    (got, rateOf (Frac.sub y ⟨((got : Int) - duty) * g, 1000000000000⟩))
  else (duty, rateOf y)

/-- Keeps the epochs of the last 60 s. -/
def Device.noteEpoch (d : Device) (x : Int) (duty : Nat) : Device :=
  let e : Epoch := ⟨d.upNs, (d.base 0).rate, d.tim.f, x, duty⟩
  { d with tim := { d.tim with epochs := e :: d.tim.epochs.filter fun p => d.upNs ≤ p.at_ + 60000000000 } }

/-- The time-weighted mean of a value of the epochs over the 60 s before now; each value holds until the next epoch
(R396). -/
def meanOver (now : Nat) (f : Epoch → Int) (l : List Epoch) : Option Int :=
  let r := l.foldl (fun (a : Int × Nat × Nat) e =>
    let dt := a.2.2 - e.at_
    (a.1 + f e * dt, a.2.1 + dt, e.at_)) (0, 0, now)
  match l with
  | [] => none
  | e :: _ => if r.2.1 = 0 then some (f e) else some (roundDiv r.1 r.2.1)

/-- The variance of f over the epochs (R398). -/
def varianceF (l : List Epoch) : Frac :=
  let n := l.length
  if n = 0 then ⟨0, 1⟩
  else
    let s := l.foldl (fun a e => Frac.add a e.f) ⟨0, 1⟩
    let m : Frac := Frac.mul s ⟨1, n⟩
    let q := l.foldl (fun a e => Frac.add a (Frac.mul (Frac.sub e.f m) (Frac.sub e.f m))) ⟨0, 1⟩
    Frac.mul q ⟨1, n⟩

/-- The mean |x| of the last 10 epochs, ps, rounded up (R398). -/
def meanAbsX (l : List Epoch) : Nat :=
  let t := l.take 10
  if t = [] then 0 else ceilDiv (t.foldl (fun a e => a + e.x.natAbs) 0) t.length

/-- Puts a base in holdover at its present rate (R388, R396, R400). -/
def Device.holdBase (d : Device) (b : Nat) : Device :=
  let v := d.base b
  d.setBase b { v with
    hold := true, slewing := false, holdAt := d.upNs, e0 := meanAbsX d.tim.epochs, varF := varianceF d.tim.epochs
    limited := false }

/-- TB0 enters holdover (R396): it runs at the mean rate of the last 60 s. In MODE 1 the duty holds its mean. -/
def Device.holdoverIn (d : Device) : Device :=
  let r := (meanOver d.upNs (·.rate) d.tim.epochs).getD (d.base 0).rate
  let r := if (d.base 0).hold then d.tim.holdRate else r
  let duty := (meanOver d.upNs (fun e => (e.duty : Int)) d.tim.epochs).getD d.tim.duty
  let e := d.holdBase 0
  let e := e.setBase 0 { e.base 0 with rate := r }
  let e := { e with tim := { e.tim with
      holdRate := r, inLock := 0, clearAt := none
      duty := if d.bit TIM_TUNE 16 then duty.toNat else e.tim.duty } }
  (e.wfld GNS_STAT 0 2 2).raise TIM_INT_STAT 1

/-- Whether a condition of R396 holds. -/
def Device.holdCond (d : Device) : Bool :=
  d.gns.alarm || (d.tim.heats && !bitOf ((Tab.getD d.gns.eff 0 (regReset GNS_CTRL)).toNat) 0) ||
    d.tim.lastGood + d.fld TIM_DISC_CFG 20 6 * 1000000000 ≤ d.upNs

/-- Books an epoch in lock for the reference drift (R504). Days older than 90 leave. -/
def Device.driftNote (d : Device) (hz : Nat) : Device :=
  let day := d.tb0 / 86400000000000
  let t := d.tb0 / 100000000 % 864000
  let f := d.tim.f
  let add (x : DriftDay) : DriftDay :=
    { x with
      n := x.n + 1, ms := x.ms + 1000 / hz, st := x.st + t, stt := x.stt + t * t
      sf := Frac.add x.sf f, stf := Frac.add x.stf (Frac.mul ⟨t, 1⟩ f) }
  let l := match d.age.drift with
    | x :: r => if x.day = day then add x :: r else add ⟨day, 0, 0, 0, 0, ⟨0, 1⟩, ⟨0, 1⟩⟩ :: x :: r
    | [] => [add ⟨day, 0, 0, 0, 0, ⟨0, 1⟩, ⟨0, 1⟩⟩]
  { d with age := { d.age with drift := l.filter fun x => day < x.day + 90 } }

/-- The discipline of TB0 at an epoch (R394, R397). `x` is the residual in ps, `hz` the epoch rate. -/
def Device.discipline (d : Device) (x : Int) (hz : Nat) : Device :=
  let v := d.base 0
  let d := d.wrN TIM_RESID (ofSigned 32 x)
  if ¬ d.tim.valid then d
  else if v.slewing then
    -- y := hold_rate + sign(x) * min(slew, |x| / dt)
    let lim := d.slew
    let want := Frac.mul (psToS x) ⟨hz, 1⟩
    let y := Frac.add (ofRate d.tim.holdRate) (Frac.clamp lim want)
    let (duty, rate) := d.tune y
    let near := x.natAbs ≤ d.fld TIM_HOLD_CFG 0 8 * 1000
    let e := d.setBase 0 { v with rate := rate }
    let e := { e with tim := { e.tim with duty := duty, inLock := if near then e.tim.inLock + 1 else 0 } }
    e.noteEpoch x duty
  else if v.hold then d
  else
    let tau := d.fld TIM_DISC_CFG 0 10
    let f := Frac.add d.tim.f ⟨x, 1000000000000 * hz * tau * tau⟩
    let y := Frac.add f (Frac.clamp d.slew ⟨x, 1000000000000 * tau⟩)
    let (duty, rate) := d.tune y
    let e := d.setBase 0 { v with rate := rate }
    let e := { e with tim := { e.tim with f := f, duty := duty } }
    (e.noteEpoch x duty).driftNote hz

/-- The estimate of R398 for a base, ns, rounded up: E0 + σ_f t + ½ D t². -/
def Device.holdEst (d : Device) (v : Base) : Nat :=
  let t := d.upNs - v.holdAt
  let dr := toSigned 32 (d.rdN AGE_REF_DRIFT)
  -- D in 0.001 ppb/day; t in ns
  let q := Frac.add ⟨(v.e0 : Int), 1000⟩ ⟨dr * (t : Int) * (t : Int), 2 * 86400 * 10 ^ 21⟩
  let fl : Frac := ⟨(d.fld TIM_HOLD_CFG 8 8 : Int), 10 ^ 10⟩
  if Frac.le v.varF (Frac.mul fl fl) then
    let s := Frac.add q (Frac.mul fl ⟨t, 1⟩)
    if s.num ≤ 0 then 0 else ceilDiv s.num.toNat s.d
  else
    let r := v.varF.num.toNat * v.varF.d * t * t * (q.d * q.d)
    let fuel := r.log2 / 2 + 1
    let root := isqrtGo fuel 0 r
    let root := if root * root = r then root else root + 1
    let n := q.num * (v.varF.d : Int) + root
    if n ≤ 0 then 0 else ceilDiv n.toNat (q.d * v.varF.d)

/-- Updates the holdover estimate of a base at a heat boundary (R398): the first E above LIMIT_US sets HOLD_LIMIT and
writes a fault record. -/
def Device.holdUpdate (d : Device) (b : Nat) : Device :=
  let v := d.base b
  if ¬ v.hold then d
  else
    let e := holdAt 0xFFFFFFFF (d.holdEst v)
    let excess := d.fld TIM_HOLD_CFG 16 16 * 1000 < e
    let d := d.setBase b { v with est := e, limited := v.limited || excess }
    if excess ∧ ¬ v.limited then (d.raise TIM_INT_STAT 3).slagB .tim 0x0101 b (leBytes 4 e) else d

/-- A base joins its new master at the heat boundary (R388). -/
def Device.joinMaster (d : Device) (b : Nat) : Device :=
  let v := d.base b
  match v.joining with
  | none => d
  | some m =>
    if m = 3 then
      d.setBase b { v with joining := none, master := 3, hold := false, acc := (d.tb0 + 0) * 2 ^ 32 }
    else d.setBase b { v with joining := none, master := m }

/-- TIM_BSTAT[b] (R405): a FOLLOW base mirrors TB0's HOLD (R388). -/
def Device.bstat (d : Device) (b : Nat) : Nat :=
  let v := d.base b
  let h := if v.master = 3 ∧ v.joining = none then (d.base 0).hold else v.hold
  b2n (d.baseValid b) + 2 * b2n h + 4 * b2n v.slewing

/-- TIM_HOLD_EST[b] (R388). -/
def Device.holdEstReg (d : Device) (b : Nat) : Nat :=
  let v := d.base b
  if v.master = 3 ∧ v.joining = none then (if (d.base 0).hold then (d.base 0).est else 0)
  else if v.hold then v.est else 0

/-- TIM_HOLD_S[b]: whole seconds in holdover, holding. -/
def Device.holdSReg (d : Device) (b : Nat) : Nat :=
  let v := if (d.base b).master = 3 ∧ (d.base b).joining = none then d.base 0 else d.base b
  if v.hold then holdAt 0xFFFFFFFF ((d.upNs - v.holdAt) / 1000000000) else 0

/-- TIM_STAT (R405). -/
def Device.timStat (d : Device) : Nat :=
  let bits (i : Nat) : Nat := (List.range 8).foldl (fun a b => a + (if bitOf (d.bstat b) i then 2 ^ b else 0)) 0
  bits 0 + 2 ^ 8 * bits 1 + 2 ^ 16 * d.fld GNS_STAT 0 2

/-- Latches all eight counters and the heat counter in one cycle (R391). -/
def Device.snap (d : Device) (win : Nat) : Device :=
  { d with tim := { d.tim with snaps := Tab.put d.tim.snaps win ⟨d.heat, (List.range 8).map d.baseNs⟩ } }

/-- The configuration of a compare unit. Units 0 to 9 are set by hardware (R402). -/
def Device.cmpBase (d : Device) (k : Nat) : Nat := d.fld (TIM_CMP_CFG k) 0 3

/-- Whether a compare unit's target is at or behind its base (R401). -/
def Device.cmpPassed (d : Device) (k : Nat) : Bool :=
  0 ≤ diff32 (d.baseNs (d.cmpBase k)) (d.rdN (TIM_CMP_TGT k))

/-- A compare unit fires (R401): it pulses its pin, sets TIM_INT_STAT.CMP where its IRQ says so, and adds its period to
the target or disarms. -/
def Device.fire (d : Device) (k : Nat) (late : Bool) : Device :=
  let per := d.rdN (TIM_CMP_PER k)
  let cfg := TIM_CMP_CFG k
  let e := (d.wbit cfg 17 true).raiseIf late cfg 16
  let e := e.raiseIf (e.bit cfg 4) TIM_INT_STAT 5
  let e := if e.bit cfg 5 then e.send .pin (pinEvt + e.fld cfg 6 2) 1 (leBytes 1 (e.fld cfg 8 8)) else e
  let e := if k = 5 then e.send .pin pinPps 1 (leBytes 4 1000000) else e
  if per = 0 then e.wbit cfg 3 false else e.wrN (TIM_CMP_TGT k) ((e.rdN (TIM_CMP_TGT k) + per) % 2 ^ 32)

/-- Arms units 0 to 9 at the first heat after TB0 is valid (R402): base, target and period of each. -/
def Device.armHardware (d : Device) : Device :=
  let t := d.tb0 / 100000000 * 100000000
  let sec := (d.tb0 / 1000000000 + 1) * 1000000000
  let row (k b tgt per : Nat) (e : Device) : Device :=
    ((e.wrN (TIM_CMP_CFG k) (b + 8 + 256)).wrN (TIM_CMP_TGT k) (tgt % 2 ^ 32)).wrN (TIM_CMP_PER k) per
  let ep := [1000000000, 500000000, 200000000, 100000000, 50000000].getD (d.fld GNS_CTRL 5 3) 100000000
  let e := row 0 0 t 10000000 (row 1 0 t 20000000 (row 2 0 t ep d))
  let e := row 3 0 (t + 1800000) 100000000 (row 4 0 (t + 2000000) 100000000 (row 5 0 sec 1000000000 e))
  e.forEach [6, 7, 8, 9] fun k x => row k 6 sec 1000000000 x

/-- Whether an armed unit may fire: its base is valid (R401). -/
def Device.cmpArmed (d : Device) (k : Nat) : Bool := d.bit (TIM_CMP_CFG k) 3 && d.baseValid (d.cmpBase k)

/-- Lets time pass until an armed unit's base reaches its target. -/
def Device.waitTarget (d : Device) (k : Nat) : Device :=
  let b := d.cmpBase k
  let gap := diff32 (d.rdN (TIM_CMP_TGT k)) (d.baseNs b)
  if gap ≤ 0 then d
  else
    let v := d.base (if (d.base b).master = 3 then 0 else b)
    let per := gain d.refHz v.rate 1
    if per = 0 then d else d.cycles (ceilDiv (gap.toNat * 2 ^ 32) per)

/-- Writes a compare target (R401): the write arms the unit, and a target at or behind the counter fires it at once with
LATE (DEDUCED, log entry 31). -/
def Device.writeTarget (d : Device) (k t : Nat) : Device :=
  let e := d.wrN (TIM_CMP_TGT k) (t % 2 ^ 32)
  let e := e.wbit (TIM_CMP_CFG k) 3 true
  if e.cmpArmed k ∧ e.cmpPassed k then e.fire k true else e

/-- TIM_ADJ (R389): steps a NONE base, shifts a FOLLOW base's offset, and has no effect otherwise. A step that jumps
over a target fires the unit at once with LATE (R401). -/
def Device.adjust (d : Device) (b : Nat) (x : Int) : Device :=
  let v := d.base b
  if v.joining ≠ none ∨ v.master = 1 ∨ v.master = 2 then d.noEffect (TIM_ADJ b) (ofSigned 32 x)
  else
    let ahead := (List.range 32).filter fun k =>
      16 ≤ k && d.cmpBase k = b && d.cmpArmed k && !d.cmpPassed k
    let e := if v.master = 3 then d.setBase b { v with ofs := toSigned 32 (ofSigned 32 (v.ofs + x)) }
      else
        let n := ofSigned 32 ((v.acc / 2 ^ 32 : Nat) + x)
        d.setBase b { v with acc := n * 2 ^ 32 + v.acc % 2 ^ 32 }
    e.forEach ahead fun k y => if y.cmpPassed k then y.fire k true else y

/-- The masters a base may have (R386). -/
def masterOk (b m : Nat) : Bool :=
  if b = 0 then m = 1 else if b = 1 then m = 2 || m = 3 else m = 0 || m = 3

/-- A write of TIM_BCFG[b].MASTER (R386, R388): the base goes into holdover at its last rate and joins its new master
at the next heat boundary; other codes are reserved. -/
def Device.setMaster (d : Device) (b m : Nat) : Device :=
  if b = 0 then d
  else if ¬ masterOk b m then d.reservedEnc (TIM_BCFG b) m
  else
    let ns := d.baseNs b
    let v := d.base b
    let e := d.setBase b { v with acc := ns * 2 ^ 32, rate := if v.master = 3 then (d.base 0).rate else v.rate }
    let e := e.holdBase b
    e.setBase b { e.base b with joining := some m }

/-- A write of TIM_RATE[b] (R388, R405): only on NONE bases; it clears the base's HOLD. -/
def Device.setRate (d : Device) (b : Nat) (v : Nat) : Device :=
  let x := d.base b
  if x.master = 0 ∧ x.joining = none then d.setBase b { x with rate := toSigned 32 v, hold := false } else d

/-- A write of TIM_OFS[b] (R405): only on FOLLOW bases. -/
def Device.setOfs (d : Device) (b : Nat) (v : Nat) : Device :=
  let x := d.base b
  if x.master = 3 then d.setBase b { x with ofs := toSigned 32 v } else d

/-- A capture unit captures (R403). -/
def Device.capture (d : Device) (k : Nat) : Device :=
  let cfg := TIM_CAP_CFG k
  if ¬ d.bit cfg 7 then d
  else
    let new := d.bit (TIM_CAP_STAT k) 0
    let e := d.wrN (TIM_CAP_VAL k) (d.baseNs (d.fld cfg 0 3))
    let e := e.wrN (TIM_CAP_HEAT k) e.heat
    let e := (e.raise (TIM_CAP_STAT k) 0).raiseIf new (TIM_CAP_STAT k) 1
    e.raiseIf (e.bit cfg 8) TIM_INT_STAT 6

/-- TB0 becomes valid (R393): it is set so that the epoch's residual is 0, and counts as locked. -/
def Device.tb0Valid (d : Device) (f : Fix) (time : Nat) : Device :=
  if d.tim.valid ∨ f.sats < 5 ∨ d.gns.alarm then d
  else
    let y : Frac := Frac.norm f.drift (10 ^ 15)
    let e := d.setBase 0 { d.base 0 with acc := time * 2 ^ 32, rate := rateOf y, hold := false, slewing := false }
    let e := { e with tim := { e.tim with
        valid := true, f := y, lastGood := d.upNs, clearAt := none, epochs := []
        begun := time / 100000000 } }
    let e := (e.wfld GNS_STAT 0 2 1).raise TIM_INT_STAT 0
    -- the warden sets the RTC from TB0 at each validity (R443): seconds of TB0 time
    e.setRtc (time / 1000000000)

/-- TIM_SNAP (R391). -/
def execTimSnap (win : Nat) (s : State) : Host.Outcome State Fault Refusal :=
  .next { s with dev := s.dev.snap win }

/-- TIM_ADJ (R389). -/
def execTimAdj (b : Nat) (step : Int) (s : State) : Host.Outcome State Fault Refusal :=
  .next { s with dev := s.dev.adjust b step }

/-- MASTER_CHANGE (R388). -/
def execMasterChange (b m : Nat) (s : State) : Host.Outcome State Fault Refusal :=
  .next { s with dev := s.dev.setMaster b m }

/-- COMPARE_FIRE (R401): an armed unit of a valid base fires as its base reaches the target. -/
def execCompareFire (k : Nat) (s : State) : Host.Outcome State Fault Refusal :=
  let r : Device := if s.dev.cmpArmed k then (s.dev.waitTarget k).fire k false else s.dev
  .next { s with dev := r }

/-- COMPARE_TARGET_WRITE (R401). -/
def execCompareTargetWrite (k target : Nat) (s : State) : Host.Outcome State Fault Refusal :=
  let r : Device := if 16 ≤ k ∧ k < 32 then s.dev.writeTarget k target else s.dev
  .next { s with dev := r }

/-- CAPTURE (R403). -/
def execCapture (k : Nat) (s : State) : Host.Outcome State Fault Refusal :=
  .next { s with dev := s.dev.capture k }

/-- HOLDOVER_ENTRY (R396): at an epoch at which a condition of R396 holds, TB0 enters holdover. -/
def execHoldoverEntry (s : State) : Host.Outcome State Fault Refusal :=
  let d := s.dev
  let v := d.base 0
  let r : Device := if d.tim.valid ∧ d.holdCond ∧ (¬ v.hold ∨ v.slewing) then d.holdoverIn else d
  .next { s with dev := r }

/-- REJOIN (R397): once no condition of R396 has held for 10 s, TB0 begins to slew. -/
def execRejoin (s : State) : Host.Outcome State Fault Refusal :=
  let d := s.dev
  let v := d.base 0
  let ok : Bool := match d.tim.clearAt with | some t => d.since t 10000000000 | none => false
  let r : Device :=
    if v.hold ∧ ¬ v.slewing ∧ ok ∧ ¬ d.holdCond then
      { (d.setBase 0 { v with slewing := true }) with tim :=
          { (d.setBase 0 { v with slewing := true }).tim with inLock := 0 } }
    else d
  .next { s with dev := r }

/-- TB0_LOCKED (R397): ten consecutive epochs within LOCK_NS lock TB0, with f at the hold rate. -/
def execTb0Locked (s : State) : Host.Outcome State Fault Refusal :=
  let d := s.dev
  let v := d.base 0
  let r : Device :=
    if v.slewing ∧ 10 ≤ d.tim.inLock then
      let e := d.setBase 0 { v with slewing := false, hold := false, est := 0 }
      let e := { e with tim := { e.tim with f := ofRate d.tim.holdRate, inLock := 0 } }
      (e.wfld GNS_STAT 0 2 1).raise TIM_INT_STAT 2
    else d
  .next { s with dev := r }

/-- TB1 enters holdover (R400). -/
def Device.ptpHold (d : Device) : Device :=
  if (d.base 1).master = 2 ∧ ¬ (d.base 1).hold then (d.holdBase 1).raise TIM_INT_STAT 4 else d

/-- The port TB1 runs on: the lowest-numbered of NET0 and NET1 whose link is up (R399). -/
def Device.ptpPortNow (d : Device) : Nat := if d.linkUp 0 then 1 else if d.linkUp 1 then 2 else 0

/-- PTP_MESSAGE (R399, R400): a master sends; a slave follows its master, steps beyond STEP_US and slews within it. A
new grandmaster or port puts TB1 in holdover, which ends after 10 Sync intervals within LOCK_NS. -/
def execPtpMessage (rx : Bool) (gm : Nat) (port : Nat) (offset : Int) (event : Bool) (s : State) :
    Host.Outcome State Fault Refusal :=
  let d := s.dev
  let role := d.fld TIM_PTP_CFG 0 2
  let r : Device :=
    if role = 1 ∧ ¬ rx then (if d.tim.valid then d.send .netPtp d.ptpPortNow (b2n event) [] else d)
    else if role = 2 ∧ rx then
      let new := d.tim.gm ≠ gm || d.tim.ptpPort ≠ port
      let e := if new ∧ d.tim.gm ≠ 0 then d.ptpHold else d
      let e := { e with tim := { e.tim with gm := gm, ptpPort := port } }
      if ¬ event ∨ (e.base 1).master ≠ 2 ∨ (e.base 1).joining ≠ none then e
      else
        let v := e.base 1
        let near := offset.natAbs ≤ e.fld TIM_HOLD_CFG 0 8
        let n := if near then e.tim.ptpLock + 1 else 0
        let e := { e with tim := { e.tim with ptpLock := n } }
        let v := if e.fld TIM_PTP_CFG 11 10 * 1000 < offset.natAbs then
            { v with acc := ofSigned 32 ((v.acc / 2 ^ 32 : Nat) - offset) * 2 ^ 32 }
          else
            { v with rate := rateOf (Frac.clamp e.slew ⟨-offset, 1000000000⟩) }
        e.setBase 1 { v with hold := v.hold && n < 10 }
    else if role = 2 ∧ ¬ rx then d.send .netPtp d.ptpPortNow (b2n event) []
    else d
  .next { s with dev := r }

/-- PTP_ANNOUNCE_TIMEOUT (R400): three Announce intervals without an Announce put TB1 in holdover. -/
def execPtpAnnounceTimeout (s : State) : Host.Outcome State Fault Refusal :=
  let r : Device := if s.dev.fld TIM_PTP_CFG 0 2 = 2 then s.dev.ptpHold else s.dev
  .next { s with dev := r }

end Sys2Proof.Machine
end

