-- ==== Sys2Proof/Machine/Gnss.lean ====
section
/-!
DEFINITION. Machine/Gnss.lean: the GNSS engine (chapter 2): channels, the epoch packet, the array check, the spoof alarm,
displaced ports, the reference position and the survey.
-/
namespace Sys2Proof.Machine

/-- Insertion into a list in order. -/
def insertBy {α : Type} (le : α → α → Bool) (x : α) : List α → List α
  | [] => [x]
  | y :: t => if le x y then x :: y :: t else y :: insertBy le x t

/-- A list put in order, equal elements kept in theirs. -/
def sortBy {α : Type} (le : α → α → Bool) : List α → List α
  | [] => []
  | x :: t => insertBy le x (sortBy le t)

/-- The elements without repeats, first ones kept. -/
def nub {α : Type} [DecidableEq α] : List α → List α
  | [] => []
  | x :: t => x :: (nub t).filter fun y => y ≠ x

/-- A register of R52 whose writes take effect at the next heat boundary, as the engine sees it. Before the first heat
there is no boundary, and a write takes effect at once (DESIGN CHOICE, log entry 32). -/
def Device.gnsEff (d : Device) (r : Reg) : Nat :=
  if d.tim.heats then (Tab.getD d.gns.eff r.off (regReset r)).toNat else d.rdN r

/-- The offsets of GNS_CTRL, GNS_FE_CFG and GNS_FE_IF. -/
def gnsHeld : List Nat := [0x000, 0x010, 0x014, 0x018, 0x01C] ++ (List.range 16).map fun i => 0x100 + 4 * i

/-- Writes to GNS_CTRL, GNS_FE_CFG and GNS_FE_IF take effect (R52). -/
def Device.gnsTake (d : Device) : Device :=
  let t := gnsHeld.map fun o => (o, d.rd ⟨.gns, o⟩)
  let e := { d with gns := { d.gns with eff := t } }
  e.forEach [0, 1, 2, 3] fun p x => if bitOf (x.gnsEff GNS_CTRL) (1 + p) then x.setPin (12 + p) 1 else x.setPin (12 + p) 0

/-- Whether the engine runs. -/
def Device.gnsOn (d : Device) : Bool := bitOf (d.gnsEff GNS_CTRL) 0

/-- Epochs a second (R33), 1 in DOZE (R34). -/
def Device.epochHz (d : Device) : Nat :=
  if d.fld PWR_STATE 4 3 = 2 then 1 else [1, 2, 5, 10, 20].getD (bitsOf (d.gnsEff GNS_CTRL) 5 3) 10

/-- Whether FE port `p` is enabled and its clock is within bounds (R27). A clock is measured in every heat; before the
first heat a port counts as measured (DESIGN CHOICE, log entry 32). -/
def Device.feOk (d : Device) (p : Nat) : Bool :=
  bitOf (d.gnsEff GNS_CTRL) (1 + p) && (d.bit (GNS_FE_CFG p) 16 || !d.tim.heats)

/-- Whether a port is displaced: its bit stands until host software clears it (R46). -/
def Device.displaced (d : Device) (p : Nat) : Bool := d.bit GNS_INT_STAT (2 + p)

/-- The band of a signal code (R30): A = 0 to D = 3. -/
def bandOf (code : Nat) : Nat :=
  if [0, 1, 4, 6, 10, 11, 15, 16, 19].contains code then 0
  else if [2, 5, 17].contains code then 1
  else if [3, 7, 8, 12, 13, 18].contains code then 2 else 3

/-- The width of a band's window, Hz (R29). -/
def bandWidth (b : Nat) : Nat := [46840000, 23540000, 48690000, 30690000].getD b 0

/-- Whether every signal of a band is enabled in GNS_SIG_EN. -/
def Device.bandFull (d : Device) (b : Nat) : Bool :=
  (List.range 20).all fun c => bandOf c ≠ b || d.bit GNS_SIG_EN c

/-- Whether a band's window fits in one Nyquist zone of its port's rate (R29); with some of its signals disabled the
window is narrower, and the engine's own list says what it tracks (log entry 17). -/
def Device.bandFits (d : Device) (p b : Nat) : Bool :=
  let half := bitsOf (d.gnsEff (GNS_FE_CFG p)) 0 7 * 500000
  let f := d.gnsEff (GNS_FE_IF (4 * p + b))
  let w := bandWidth b
  !d.bandFull b || (w / 2 ≤ f && half ≠ 0 && (f - w / 2) / half = (f + w / 2 - 1) / half)

/-- A baseline's squared length, 0.1 mm squared. -/
def Device.baseline2 (d : Device) (i j : Nat) : Nat :=
  let o (r : Nat → Reg) (p : Nat) : Int := if p = 0 then 0 else toSigned 32 (d.rdN (r p))
  let x := o GNS_ARRAY_E i - o GNS_ARRAY_E j
  let y := o GNS_ARRAY_N i - o GNS_ARRAY_N j
  let z := o GNS_ARRAY_U i - o GNS_ARRAY_U j
  (x * x + y * y + z * z).toNat

/-- Whether a baseline lies between 0.5 m and 20 m (R42). -/
def Device.baselineOk (d : Device) (i j : Nat) : Bool :=
  5000 * 5000 ≤ d.baseline2 i j && d.baseline2 i j ≤ 200000 * 200000

/-- The pairs of enabled ports. -/
def Device.pairs (d : Device) : List (Nat × Nat) :=
  let ps := (List.range 4).filter fun p => bitOf (d.gnsEff GNS_CTRL) (1 + p)
  ps.flatMap fun i => (ps.filter fun j => i < j).map fun j => (i, j)

/-- GNS_STAT.CFG_ERR (R29, R42). -/
def Device.gnsCfgErr (d : Device) : Bool :=
  (d.pairs.any fun e => !d.baselineOk e.1 e.2) ||
  ((List.range 4).any fun p => bitOf (d.gnsEff GNS_CTRL) (1 + p) &&
    (List.range 4).any fun b => bitOf (d.gnsEff (GNS_FE_CFG p)) (8 + b) && !d.bandFits p b)

/-- The identity of a signal on a port. -/
def sigKey (s : Sig) : Nat × Nat × Nat := (s.port, s.code, s.sat)

/-- A satellite across systems: the system of the signal code (R30) and the satellite's number. -/
def satId (s : Sig) : Nat :=
  let sys := if s.code < 4 then 0 else if s.code < 6 then 1 else if s.code < 10 then 2 else if s.code < 15 then 3
    else if s.code < 19 then 4 else 5
  sys * 256 + s.sat

/-- The place of a signal in the order of R31: the active reference port first, then ports, elevation falling, codes; among
equals one that has a channel. -/
def placeLe (ref : Nat) (chans : List (Nat × Nat × Nat)) (a b : Sig) : Bool :=
  let pa := if a.port = ref then 0 else a.port + 1
  let pb := if b.port = ref then 0 else b.port + 1
  if pa ≠ pb then pa < pb
  else if a.elev ≠ b.elev then b.elev < a.elev
  else if a.code ≠ b.code then a.code < b.code
  else if chans.contains (sigKey a) ≠ chans.contains (sigKey b) then chans.contains (sigKey a)
  else a.sat ≤ b.sat

/-- The signals that may have a channel: found, enabled, on a port and band in use, above the mask (R31). -/
def Device.candidates (d : Device) (l : List Sig) : List Sig :=
  l.filter fun s =>
    d.feOk s.port && d.bit GNS_SIG_EN s.code && d.fld GNS_MASK 0 7 * 10 < s.elev &&
      bitOf (d.gnsEff (GNS_FE_CFG s.port)) (8 + bandOf s.code) && d.bandFits s.port (bandOf s.code) &&
      d.gns.found.contains (sigKey s)

/-- Assigns the 1,024 channels (R31): in order of place; among signals of equal elevation, port and code one that is
already tracked keeps its channel. -/
def Device.assign (d : Device) (l : List Sig) : List Sig :=
  let c := sortBy (placeLe d.gns.ref d.gns.chans) (d.candidates l)
  c.take 1024

/-- Elements with the same first key, as the double differences of one signal of one satellite. -/
def ddOf (l : List DoubleDiff) (code sat : Nat) : List DoubleDiff := l.filter fun x => x.code = code && x.sat = sat

/-- The key of a held integer. -/
def intKey (x : DoubleDiff) : Nat := ((x.i * 4 + x.j) * 32 + x.code) * 256 + x.sat

/-- A double difference's distance from a whole number of cycles `n`, micrometres. -/
def residUm (x : DoubleDiff) (n : Int) : Nat := ((x.dd - n * 2 ^ 20).natAbs * x.lam) / 2 ^ 20

/-- Fixes and holds the integers of R43: at the first epoch of continuous lock the nearest one, only if the residual is
below MP_THR_MM. -/
def Device.holdInts (d : Device) (trk : List Sig) (dds : List DoubleDiff) : Tab Int :=
  let thr := d.fld GNS_INT_CFG 0 8 * 1000
  let locked (x : DoubleDiff) : Bool :=
    [x.i, x.j].all fun p => trk.any fun s => s.port = p && s.code = x.code && s.sat = x.sat && !s.slip && !s.codeOnly
  dds.foldl (fun t x =>
    if ¬ locked x then t
    else
      match Tab.find d.gns.ints (intKey x) with
      | some n => Tab.put t (intKey x) n
      | none =>
        let n := roundDiv x.dd (2 ^ 20)
        if residUm x n < thr then Tab.put t (intKey x) n else t) []

/-- The baselines that fail for a signal of a satellite (R44): an excluded or displaced port's baselines and those
without an integer take no part. -/
def Device.failing (d : Device) (ints : Tab Int) (l : List DoubleDiff) : List (Nat × Nat) :=
  let thr := d.fld GNS_INT_CFG 0 8 * 1000
  (l.filter fun x =>
    d.baselineOk x.i x.j && !d.displaced x.i && !d.displaced x.j &&
      (match Tab.find ints (intKey x) with | some n => thr < residUm x n | none => false)).map fun x => (x.i, x.j)

/-- The verdict on one signal of one satellite (R44, R45): the ports on which it is MP, and whether it is SPOOF. -/
def arrayVerdict (ports : Nat) (f : List (Nat × Nat)) : List Nat × Bool :=
  if f = [] then ([], false)
  else if ports = 2 then (nub (f.flatMap fun e => [e.1, e.2]), false)
  else
    let common := (List.range 4).filter fun a => f.all fun e => e.1 = a || e.2 = a
    if common = [] then ([], true) else (common, false)

/-- What an epoch finds of every tracked signal: MP on its port, SPOOF. -/
def Device.verdicts (d : Device) (ints : Tab Int) (trk : List Sig) (dds : List DoubleDiff) :
    List (Sig × Bool × Bool) :=
  let ports := ((List.range 4).filter fun p => bitOf (d.gnsEff GNS_CTRL) (1 + p)).length
  trk.map fun s =>
    let v := arrayVerdict ports (d.failing ints (ddOf dds s.code s.sat))
    (s, v.1.contains s.port, v.2)

/-- The flags of an observable record (R40, R41). -/
def obsFlags (ref : Nat) (refSick alarm : Bool) (e : Sig × Bool × Bool) : Nat :=
  let s := e.1
  let spoof := e.2.2 || alarm
  let excl := spoof || (s.port = ref && (e.2.1 || refSick))
  b2n s.half + 2 * b2n s.slip + 4 * b2n e.2.1 + 8 * b2n spoof + 16 * b2n excl + 32 * b2n s.codeOnly

/-- The atlas bin of a direction in 0.1 degree: elevation bins of 5 degrees, 90 degrees in bin 17, azimuth bins of 5
degrees from north (R94). -/
def skyBin (elev az : Nat) : Nat := Nat.min 17 (elev / 50) * 72 + az / 50 % 72

/-- An observable record (R40); its atlas weight comes from the engine's copy of the base cell, 255 where it has no
entry. -/
def obsBytes (sky : Tab Nat) (ref : Nat) (refSick alarm : Bool) (e : Sig × Bool × Bool) : Bytes :=
  let s := e.1
  leBytes 1 s.code ++ leBytes 1 s.sat ++ leBytes 1 (s.port + 16 * s.glo) ++ leBytes 1 (Tab.getD sky (skyBin s.elev s.az) 255) ++ leBytes 8 s.pr ++
    leBytes 8 (if s.codeOnly then 0 else ofSigned 64 s.phase) ++ leBytes 4 (ofSigned 32 s.doppler) ++
    leBytes 2 s.cn0 ++ leBytes 2 (obsFlags ref refSick alarm e) ++ leBytes 4 (holdAt 0xFFFFFFFF s.lock)

/-- Records are ordered by port, then signal code, then satellite (R37). -/
def recordLe (a b : Sig × Bool × Bool) : Bool :=
  if a.1.port ≠ b.1.port then a.1.port < b.1.port
  else if a.1.code ≠ b.1.code then a.1.code < b.1.code else a.1.sat ≤ b.1.sat

/-- Whether the active reference port is displaced or without a good clock (R47). -/
def Device.refSick (d : Device) : Bool := d.displaced d.gns.ref || !d.feOk d.gns.ref

/-- The epoch header (R39). -/
def Device.epochHeader (d : Device) (n : Nat) (ports : Nat) (o : EpochObs) : Bytes :=
  let (tow, week, res) := match o.fix with | some f => (f.tow, f.week, f.resid) | none => (0, 0, 0)
  [BitVec.ofNat 8 1, BitVec.ofNat 8 1] ++ leBytes 2 n ++ leBytes 4 d.heat ++ leBytes 4 (d.baseNs 0) ++ leBytes 4 tow ++
    leBytes 2 week ++ leBytes 1 (d.fld GNS_STAT 0 2) ++
    leBytes 1 (d.gns.ref + 4 * b2n d.gns.alarm + 8 * d.fld GNS_INT_STAT 2 4) ++ leBytes 4 (ofSigned 32 res) ++
    leBytes 2 ports ++ leBytes 1 d.gns.refState ++ zeros 5

/-- Keeps the epoch at a heat start for the stock schedule: the records of the active reference port whose EXCL flag is
clear (R41, R60). -/
def Device.keepBase (d : Device) (o : EpochObs) (at_ : Nat) (vs : List (Sig × Bool × Bool)) : Device :=
  if at_ % 100000000 ≠ 0 then d
  else
    let sick := d.refSick
    let l := (sortBy recordLe vs).filter fun e =>
      e.1.port = d.gns.ref ∧ ¬ bitOf (obsFlags d.gns.ref sick d.gns.alarm e) 4
    let res := match o.fix with | some f => f.resid | none => 0
    { d with cor := { d.cor with base := some (at_ / 100000000, res, l.map (obsBytes d.gns.sky d.gns.ref sick d.gns.alarm)) } }

/-- Writes the epoch packet to Q64, whole or not at all (R37, R38). -/
def Device.epochPacket (d : Device) (o : EpochObs) (at_ : Nat) (vs : List (Sig × Bool × Bool)) : Device :=
  let l := sortBy recordLe vs
  let ports := (nub (l.map fun e => e.1.port)).foldl (fun a p => a + 2 ^ p) 0
  let sick := d.refSick
  let b := d.epochHeader l.length ports o ++ l.flatMap (obsBytes d.gns.sky d.gns.ref sick d.gns.alarm)
  if d.canPush 64 b then (d.hwPush 64 b).keepBase o at_ vs
  else
    let e := (d.dropPkt 64).count GNS_DROP_CNT
    (e.raise GNS_INT_STAT 8).slagB .gns 0x0101 noUnit (leBytes 2 (granules b) ++ leBytes 2 (queueCredit (d.q 64)))

/-- Compares a loaded or restored position with the single-point solution (R49). -/
def Device.refCheck (d : Device) : Device :=
  match d.gns.check, d.gns.fix with
  | true, some f =>
    let p := d.gns.pos
    let x := f.x - p.x
    let y := f.y - p.y
    let z := f.z - p.z
    let dist2 := (x * x + y * y + z * z).toNat
    let lim := d.fld GNS_INT_CFG 16 7 * 10000
    let e := { d with gns := { d.gns with check := false } }
    if lim * lim < dist2 then
      let e := ({ e with gns := { e.gns with refState := 0 } }).raise GNS_INT_STAT 7
      e.slagB .gns 0x0103 noUnit (leBytes 4 (holdAt 0xFFFFFFFF (isqrt dist2 / 10000)))
    else e
  | _, _ => d

/-- GNS_REF_STAT (R52). -/
def Device.refStat (d : Device) : Nat :=
  d.gns.refState + 8 * d.gns.last + 32 * b2n d.gns.late + 128 * (d.gns.counted / 60000 % 8192)

/-- The stop of the array check's counts for displaced ports (R46). -/
def Device.countDisplaced (d : Device) (vs : List (Sig × Bool × Bool)) : Device :=
  let cnt (p : Nat) : Nat × Nat :=
    let mine := vs.filter fun e => e.1.port = p
    (p, if mine ≠ [] ∧ 3 * mine.length ≤ 4 * (mine.filter fun e => e.2.1).length then Tab.getD d.gns.disp p 0 + 1
        else 0)
  { d with gns := { d.gns with disp := (List.range 4).map cnt } }

/-- Books the epoch's spoof count (R45): enough satellites raise the alarm; quiet epochs are counted while it holds. -/
def Device.spoofCount (d : Device) (n : Nat) : Device :=
  let min := d.fld GNS_INT_CFG 8 4
  if min ≤ n then
    let e := { d with gns := { d.gns with alarm := true, quiet := 0 } }
    if d.gns.alarm then e else (e.raise GNS_INT_STAT 0).slagB .gns 0x0102 noUnit (leBytes 1 n)
  else if d.gns.alarm then { d with gns := { d.gns with quiet := d.gns.quiet + 1 } }
  else d

/-- Counts survey time (R50): epochs with at least 5 satellites without EXCL. -/
def Device.surveyCount (d : Device) (hz good : Nat) (sigma : Nat × Nat) : Device :=
  if d.gns.survey ∧ 5 ≤ good then
    ({ d with gns := { d.gns with counted := d.gns.counted + 1000 / hz } }).wrN GNS_SURVEY_SIGMA
      (holdAt 0xFFFF sigma.1 + 2 ^ 16 * holdAt 0xFFFF sigma.2)
  else d

/-- What the epoch leaves of the conditions of R396: when the last epoch with at least 4 admitted satellites came, and
since when none holds. -/
def Device.noteGood (d : Device) (n : Nat) : Device :=
  let e := if 4 ≤ n then { d with tim := { d.tim with lastGood := d.upNs } } else d
  if e.holdCond then { e with tim := { e.tim with clearAt := none } }
  else if e.tim.clearAt = none then { e with tim := { e.tim with clearAt := some e.upNs } } else e

/-- A measurement epoch (R33): on all enabled ports the engine measures, checks the array, writes the epoch packet and
hands the residual to TB0's discipline. -/
def Device.epoch (d : Device) (o : EpochObs) : Device :=
  if ¬ d.gnsOn then d
  else
    let hz := d.epochHz
    let per := 1000000000 / hz
    let cur := d.tb0 / per * per
    let d := if d.gns.nextEp ≤ cur then d else d.advanceTo (cur + per)
    let at_ := d.tb0 / per * per
    let trk := d.assign o.sigs
    let d := d.raiseIf (1024 < (d.candidates o.sigs).length) GNS_INT_STAT 11
    let ints := d.holdInts trk o.dds
    let vs := d.verdicts ints trk o.dds
    let spoofed := (nub ((vs.filter fun e => e.2.2).map fun e => satId e.1)).length
    let mpRef := nub ((vs.filter fun e => e.2.1 ∧ e.1.port = d.gns.ref).map fun e => (e.1.code, e.1.sat))
    let newMp := mpRef.any fun x => !d.gns.mpRef.contains x
    let d := { d with gns := { d.gns with
        chans := trk.map sigKey, ints := ints, mpRef := mpRef, nextEp := at_ + 1
        found := d.gns.found.filter fun k => o.sigs.any fun s => sigKey s = k } }
    let d := (d.raiseIf newMp GNS_INT_STAT 1).spoofCount spoofed
    let d := d.countDisplaced vs
    let sick := d.refSick
    let good := (vs.filter fun e => e.1.port = d.gns.ref ∧ ¬ bitOf (obsFlags d.gns.ref sick d.gns.alarm e) 4).map
      fun e => satId e.1
    let admitted := (nub good).length
    let tracked := (nub ((trk.filter fun s => s.port = d.gns.ref).map satId)).length
    let d := (d.wfld GNS_STAT 5 11 trk.length).wfld GNS_STAT 16 7 tracked
    let d := d.wbit GNS_STAT 4 d.gnsCfgErr
    let d := { d with gns := { d.gns with
        fix := match o.fix with
          | some f => if 5 ≤ f.sats then some ⟨f.pos.1, f.pos.2.1, f.pos.2.2⟩ else d.gns.fix
          | none => d.gns.fix } }
    let d := (d.refCheck).epochPacket o at_ vs
    let d := d.noteGood admitted
    let d := d.surveyCount hz admitted o.sigma
    match o.fix with
    | some f => if 4 ≤ admitted then d.discipline f.resid hz else d
    | none => d

/-- A survey ends (R50, R51). -/
def Device.surveyEnd (d : Device) (last : Nat) : Device :=
  { d with gns := { d.gns with survey := false, last := last, refState := d.gns.before } }

/-- An abort of a survey (R51): before the commit point ABORTED; at or after it DONE and ABORT_LATE. -/
def Device.surveyAbort (d : Device) : Device :=
  if d.gns.survey then d.surveyEnd 2
  else if d.gns.last = 1 then { d with gns := { d.gns with late := true } }
  else d

/-- A LOAD takes effect at the heat boundary (R48): STATE reads ENTERED, and the position is compared (R49). -/
def Device.loadTakes (d : Device) : Device :=
  match d.gns.load with
  | none => d
  | some p =>
    let e := { d with gns := { d.gns with
        pos := p, load := none, refState := 3, check := true, stored := some (p, 3) } }
    e.refCheck

/-- Switches the active reference port at a heat boundary (R47). -/
def Device.refSwitch (d : Device) : Device :=
  if d.refSick ∧ bitOf (d.gnsEff GNS_CTRL) 10 ∧ d.gnsOn then
    match (List.range 4).find? fun p => d.feOk p && !d.displaced p with
    | some p => (({ d with gns := { d.gns with ref := p } }).wfld GNS_STAT 2 2 p).raise GNS_INT_STAT 6
    | none => d
  else
    let p := bitsOf (d.gnsEff GNS_CTRL) 8 2
    if d.gns.ref ≠ p ∧ ¬ bitOf (d.gnsEff GNS_CTRL) 10 then
      ({ d with gns := { d.gns with ref := p } }).wfld GNS_STAT 2 2 p
    else d

/-- Measures each port's clock in a heat (R27): a loss of CLK_OK releases the port's channels and sets CLK_FAIL. -/
def Device.clkCheck (d : Device) (ok : Nat) : Device :=
  d.forEach [0, 1, 2, 3] fun p e =>
    let was := e.bit (GNS_FE_CFG p) 16
    let now := bitOf ok p && bitOf (e.gnsEff GNS_CTRL) (1 + p)
    let f := e.wbit (GNS_FE_CFG p) 16 now
    if was ∧ ¬ now then
      ({ f with gns := { f.gns with
          chans := f.gns.chans.filter fun k => k.1 ≠ p, found := f.gns.found.filter fun k => k.1 ≠ p } }).raise
        GNS_INT_STAT 10
    else f

/-- What the heat boundary does in the GNSS block (R27, R47, R48, R52). -/
def Device.gnsBoundary (d : Device) (ok : Nat) : Device := (((d.gnsTake).clkCheck ok).refSwitch).loadTakes

/-- The written reference position: three 64-bit registers (R48). -/
def Device.refWritten (d : Device) : Ecef :=
  let v (lo hi : Reg) : Int := toSigned 64 (d.rdN lo + 2 ^ 32 * d.rdN hi)
  ⟨v GNS_REF_X_LO GNS_REF_X_HI, v GNS_REF_Y_LO GNS_REF_Y_HI, v GNS_REF_Z_LO GNS_REF_Z_HI⟩

/-- MEASUREMENT_EPOCH (R33). -/
def execMeasurementEpoch (o : EpochObs) (s : State) : Host.Outcome State Fault Refusal :=
  .next { s with dev := s.dev.epoch o }

/-- SPOOF_ALARM_CLEAR (R45): the alarm ends after SPOOF_MIN consecutive quiet epochs. -/
def execSpoofAlarmClear (s : State) : Host.Outcome State Fault Refusal :=
  let d := s.dev
  let r : Device :=
    if d.gns.alarm ∧ d.fld GNS_INT_CFG 8 4 ≤ d.gns.quiet then
      { d with gns := { d.gns with alarm := false, quiet := 0 } }
    else d
  .next { s with dev := r }

/-- PORT_DISPLACED (R46): DISP_EPOCHS consecutive epochs mark the port; at least three ports must be enabled. -/
def execPortDisplaced (p : Nat) (s : State) : Host.Outcome State Fault Refusal :=
  let d := s.dev
  let ports := ((List.range 4).filter fun i => bitOf (d.gnsEff GNS_CTRL) (1 + i)).length
  let r : Device :=
    if d.fld GNS_INT_CFG 12 4 ≤ Tab.getD d.gns.disp p 0 ∧ 3 ≤ ports ∧ p < 4 ∧ ¬ d.displaced p then
      d.raise GNS_INT_STAT (2 + p)
    else d
  .next { s with dev := r }

/-- SIGNAL_ACQUIRED (R32): a signal that has no channel is found, and may be assigned one at the next epoch. -/
def execSignalAcquired (p code sat : Nat) (s : State) : Host.Outcome State Fault Refusal :=
  let d := s.dev
  let r : Device :=
    if d.gnsOn ∧ ¬ d.gns.found.contains (p, code, sat) then
      { d with gns := { d.gns with found := d.gns.found ++ [(p, code, sat)] } }
    else d
  .next { s with dev := r }

/-- The written position becomes active at the next heat boundary, and a survey is aborted (R48, R51). -/
def Device.refLoad (d : Device) : Device :=
  let e := d.surveyAbort
  { e with gns := { e.gns with load := some e.refWritten } }

/-- Begins a survey; it has no effect while one runs (R50, R51). -/
def Device.surveyStart (d : Device) : Device :=
  if d.gns.survey then d
  else
    ({ d with gns := { d.gns with
        survey := true, before := d.gns.refState, refState := 1, counted := 0, late := false } }).wrN
      GNS_SURVEY_SIGMA 0xFFFFFFFF

/-- LOAD (R48, R51). -/
def execLoad (s : State) : Host.Outcome State Fault Refusal := .next { s with dev := s.dev.refLoad }

/-- REF_POSITION_CHECK (R49). -/
def execRefPositionCheck (s : State) : Host.Outcome State Fault Refusal :=
  .next { s with dev := s.dev.refCheck }

/-- SURVEY_START (R50, R51). -/
def execSurveyStart (s : State) : Host.Outcome State Fault Refusal := .next { s with dev := s.dev.surveyStart }

/-- SURVEY_ABORT (R51). -/
def execSurveyAbort (s : State) : Host.Outcome State Fault Refusal :=
  .next { s with dev := s.dev.surveyAbort }

/-- Whether a survey completes (R50). -/
def Device.surveyDone (d : Device) : Bool :=
  let t := d.fld GNS_SURVEY_CFG 8 16 * 10
  d.fld GNS_SURVEY_CFG 0 7 * 3600000 ≤ d.gns.counted ||
    (t ≠ 0 && d.fld GNS_SURVEY_SIGMA 0 16 ≤ t && d.fld GNS_SURVEY_SIGMA 16 16 ≤ t)

/-- SURVEY_COMMIT (R50, R51): at the heat boundary the result becomes the active position, unless a LOAD committed at
the same boundary replaces it. -/
def execSurveyCommit (x y z : Int) (s : State) : Host.Outcome State Fault Refusal :=
  let d := s.dev
  let r : Device :=
    if d.gns.survey ∧ d.surveyDone then
      let p : Ecef := ⟨x, y, z⟩
      let e := { d with gns := { d.gns with
          survey := false, last := 1, pos := p, refState := 2, stored := some (p, 2) } }
      (e.raise GNS_INT_STAT 9).loadTakes
    else d
  .next { s with dev := r }

end Sys2Proof.Machine
end

