-- ==== Sys2Proof/Machine/Corrections.lean ====
section
/-!
DEFINITION. Machine/Corrections.lean: when a radio port may begin a frame (R351, R352), and the correction output
(chapter 3): the profile, a heat's sets, envelopes, radio fragments, broadcast keys and announcements.
-/
namespace Sys2Proof.Machine

/-! ## A frame of priority 3 to 6 on a radio port -/

/-- The beacon reservation of the heat of an instant: it begins 1.9 ms into the heat and ends with the heat's permit
beacon (R352); 2 ms into the heat where no beacon went out. -/
def Device.reservation (d : Device) (p t : Nat) : Nat × Nat :=
  let h := t / 100000000 * 100000000
  (h + 1900000, Nat.max (h + 2000000) (d.port p).resvEnd)

/-- Whether a frame of priority 3 to 6 may begin: no frame is on air, the instant lies outside the reservation, and the
airtime ends before the next one (R351, R352). -/
def Device.mayAir (d : Device) (p start air : Nat) : Bool :=
  let (a, b) := d.reservation p start
  let next := if start < a then a else a + 100000000
  let busy := match (d.port p).air with | some x => start < x.fin | none => false
  d.portUp p && !busy && (start < a || b ≤ start) && start + air ≤ next

/-- Sends a frame of a kind on a port and holds the air for it. -/
def Device.radioSend (d : Device) (p prio start air kind : Nat) (body : Bytes) : Device :=
  (d.send .radio p kind body).putAir p prio (start + air)

/-! ## The profile -/

/-- Heats counted from the TB0 epoch, not reduced (R15). -/
def Device.heatAbs (d : Device) : Nat := d.tb0 / 100000000

/-- The heats of a period code (R57). -/
def periodHeats (c : Nat) : Nat := [1, 2, 5, 10, 20, 50].getD c 1

/-- Whether an MSM select word is free of reserved encodings (R57). -/
def msmSelectOk (v : Nat) : Bool := (List.range 5).all (fun i => bitsOf v (2 * i) 2 ≠ 3) && bitsOf v 10 6 = 0

/-- Whether a descriptor field of 32 bytes is valid: a length to 31, then ASCII (R57). -/
def descriptorOk (b : Bytes) : Bool :=
  let n := uAt b 0 1
  n ≤ 31 && (sliceB b 1 n).all fun c => c.toNat < 128

/-- Whether a profile is free of reserved encodings, in range, and its MSM periods are whole multiples of the epoch
period (R58). `per` is the epoch period, ms. -/
def profileOk (b : Bytes) (per : Nat) : Bool :=
  b.length = 96 && uAt b 0 2 < 4096 && msmSelectOk (uAt b 2 2) && msmSelectOk (uAt b 4 2) &&
  uAt b 6 1 ≤ 5 && uAt b 7 1 ≤ 5 && 1 ≤ uAt b 8 1 / 2 && uAt b 8 1 / 2 ≤ 60 && uAt b 11 1 < 16 &&
  64 ≤ uAt b 14 1 && uAt b 14 1 ≤ 240 && 1 ≤ uAt b 15 1 && uAt b 15 1 ≤ 4 && 1 ≤ uAt b 16 1 && uAt b 16 1 ≤ 24 &&
  allZero (sliceB b 17 15) && descriptorOk (sliceB b 32 32) && descriptorOk (sliceB b 64 32) &&
  periodHeats (uAt b 6 1) * 100 % per = 0 && periodHeats (uAt b 7 1) * 100 % per = 0

/-- CORR_PROFILE at the heat boundary (R58): it names the profile that takes effect there. -/
def Device.corrProfile (c : Cmd) (d : Device) : Device :=
  let hz := [1, 2, 5, 10, 20].getD (d.fld GNS_CTRL 5 3) 10
  if ¬ profileOk c.body (1000 / hz) then d.answer c stRejected []
  else ({ d with cor := { d.cor with next := Tab.put d.cor.next c.part c.body } }).answer c stDone []

/-- What R56 counts changes of. -/
def Device.iodOf (d : Device) : Ecef × Nat × Bytes :=
  (d.gns.pos, d.gns.ref,
   match d.cor.prof with | some b => sliceB b 12 2 ++ sliceB b 32 64 | none => [])

/-- Counts the issue of data, station, and makes the ARP message due in the heat that follows (R56, R61). -/
def Device.iodCount (d : Device) : Device :=
  let now := d.iodOf
  match d.cor.seen with
  | none => { d with cor := { d.cor with seen := some now } }
  | some was =>
    if was = now then d
    else { d with cor := { d.cor with
        seen := some now, iod := (d.cor.iod + 1) % 8, arpHeat := some d.heatAbs } }

/-- Accepted profiles take effect at the heat boundary, in ascending partition order (R58), and the count of R56 is
brought up to date. -/
def Device.corrBoundary (d : Device) : Device :=
  let p := d.cor.next.foldl (fun _ e => some e.2) d.cor.prof
  ({ d with cor := { d.cor with prof := p, next := [] } }).iodCount

/-! ## Messages -/

/-- A signal's centre frequency, Hz (R30). -/
def sigHz (code glo : Nat) : Nat :=
  if code = 4 then 1602000000 + glo * 562500 - 8 * 562500
  else if code = 5 then 1246000000 + glo * 437500 - 8 * 437500
  else if [0, 1, 6, 11, 15, 16, 19].contains code then 1575420000
  else if code = 2 ∨ code = 17 then 1227600000
  else if [3, 7, 12, 18].contains code then 1176450000
  else if code = 8 ∨ code = 13 then 1207140000
  else if code = 9 then 1278750000
  else if code = 10 then 1561098000
  else 1268520000

/-- A record with the clock residual subtracted from pseudorange and carrier phase (R55); a CODE_ONLY record's phase
stays invalid (R54). -/
def residOut (res : Int) (b : Bytes) : Bytes :=
  let pr := (uAt b 4 8 : Int) - roundDiv (res * 299792458 * 65536) 1000000000000
  let ph := sAt b 12 8 - roundDiv (res * (sigHz (uAt b 0 1) (uAt b 2 1 / 16) : Nat) * 1048576) 1000000000000
  let b := putB b 4 (leBytes 8 (ofSigned 64 pr))
  if bitOf (uAt b 26 2) 5 then b else putB b 12 (leBytes 8 (ofSigned 64 ph))

/-- The system of a signal code in the order of R61: GPS, GLONASS, Galileo, QZSS, BeiDou; 5 SBAS, which has no MSM
(R53). -/
def msmSystem (code : Nat) : Nat :=
  if code < 4 then 0 else if code < 6 then 1 else if code < 10 then 2 else if code < 15 then 4
  else if code < 19 then 3 else 5

/-- The bits of the MSM select for a system in the order of R61: Galileo is [5:4], QZSS [7:6], BeiDou [9:8] (R57). -/
def msmSel (sel sys : Nat) : Nat := bitsOf sel (2 * sys) 2

/-- The records of the present heat's epoch that R41 admits, with the residual, if the epoch was taken. -/
def Device.baseNow (d : Device) : Int × List Bytes :=
  match d.cor.base with
  | some (h, res, l) => if h = d.heatAbs then (res, l) else (0, [])
  | none => (0, [])

/-- Satellites among some records. -/
def satsOf (l : List Bytes) : Nat := (nub (l.map fun b => (msmSystem (uAt b 0 1), uAt b 1 1))).length

/-- Whether output is withheld (R66). -/
def Device.withheld (d : Device) : Bool :=
  d.gns.alarm || d.gns.refState = 0 || (d.gns.refState = 1 && d.gns.before = 0) ||
    satsOf ((d.baseNow.2).filter fun b => msmSystem (uAt b 0 1) < 5) < 4

/-- A message that is due: its kind (0 to 4 MSM of a system, 5 ARP, 6 1033, 7 1230) and its content. -/
abbrev Msg := Nat × Bytes

/-- The MSM of a select word in the order of R61; the multiple-message bit is 1 on all but the last (R61). -/
def Device.msms (d : Device) (station sel : Nat) : List Msg :=
  let (res, l) := d.baseNow
  let sys := (List.range 5).filter fun s => msmSel sel s ≠ 0
  let locked := d.fld GNS_STAT 0 2 = 1
  let steer := if locked then 1 else 2
  sys.map fun s =>
    (s, leBytes 2 station ++ leBytes 1 (if msmSel sel s = 1 then 4 else 7) ++ leBytes 1 d.cor.iod ++
      leBytes 1 (b2n (sys.getLast? ≠ some s)) ++ leBytes 1 steer ++ leBytes 1 steer ++ leBytes 8 (d.heatAbs * 100) ++
      ((l.filter fun b => msmSystem (uAt b 0 1) = s).map (residOut res)).flatten)

/-- The offset of the active port from the array origin, 0.1 mm. -/
def Device.portOffset (d : Device) : Bytes :=
  let o (r : Nat → Reg) : Bytes := leBytes 4 (if d.gns.ref = 0 then 0 else d.rdN (r d.gns.ref))
  o GNS_ARRAY_E ++ o GNS_ARRAY_N ++ o GNS_ARRAY_U

/-- The ARP message: 1005, or 1006 with the antenna height (R53). -/
def Device.arpMsg (d : Device) (b : Bytes) : Msg :=
  (5, leBytes 2 (uAt b 0 2) ++ leBytes 1 (uAt b 8 1 % 2) ++ leBytes 8 (ofSigned 64 d.gns.pos.x) ++
    leBytes 8 (ofSigned 64 d.gns.pos.y) ++ leBytes 8 (ofSigned 64 d.gns.pos.z) ++ d.portOffset ++
    (if uAt b 8 1 % 2 = 1 then sliceB b 12 2 else []))

/-- 1033 (R53, R59): the profile's descriptors and the device's identity. -/
def Device.descMsg (d : Device) (b : Bytes) : Msg :=
  (6, leBytes 2 (uAt b 0 2) ++ sliceB b 32 64 ++ leBytes 4 (d.rdN OTP_UNIT_ID0) ++ leBytes 4 (d.rdN OTP_UNIT_ID1) ++
    leBytes 4 (d.rdN OTP_UNIT_ID2) ++ leBytes 4 (d.rdN (UPD_VER 1)))

/-- The messages that fall due in this heat beside the MSM: 5, 6, 7 (R61). While STATE is NONE there is no ARP message
(R66). -/
def Device.otherDue (d : Device) (b : Bytes) : List Nat :=
  let h := d.heatAbs
  let at_ (off p : Nat) : Bool := p ≠ 0 && off ≤ h && (h - off) % (10 * p) = 0
  (if (at_ 2 (uAt b 8 1 / 2) || d.cor.arpHeat = some h) && d.gns.refState ≠ 0 then [5] else []) ++
  (if at_ 4 (uAt b 9 1) then [6] else []) ++ (if at_ 6 (uAt b 10 1) then [7] else [])

/-- The message of a kind. -/
def Device.otherMsg (d : Device) (b : Bytes) (k : Nat) : Msg :=
  if k = 5 then d.arpMsg b else if k = 6 then d.descMsg b else (7, leBytes 2 (uAt b 0 2))

/-- The payload of some messages: whole RTCM frames, as many from the front as the fragments hold (R65). -/
def payloadOf (room : Nat) (l : List Msg) : Bytes :=
  l.foldl (fun a m =>
    let x := Config.message m.1 m.2
    if a.length + x.length ≤ room then a ++ x else a) []

/-! ## Envelopes -/

/-- The first loaded slot of 16 to 127 that holds a key of an algorithm and attribute, loaded under the plan right, and
no parent register (log entry 19). -/
def Device.corrSlot (d : Device) (alg attr : Nat) : Option Nat :=
  (List.range 128).find? fun s =>
    let k := d.slot s
    16 ≤ s && k.st = 1 && k.alg = alg && k.attr = attr && k.own = 0xFF && d.right k.owner rPlan

/-- Whether the correction group key and the signing key are present (R68). -/
def Device.corrKeys (d : Device) : Bool := (d.corrSlot 2 2).isSome && (d.corrSlot 5 0).isSome && d.keyed

/-- The bytes of an envelope (R64); the tag is a free value, and zeros when unsigned (R67). -/
def Device.envelope (d : Device) (heat station ix : Nat) (last held : Bool) (body : Bytes) : Bytes × Device :=
  let (tag, e) := if d.tmp.cinder then (zeros 8, d) else d.drawBytes 8
  let flags := ix % 16 + 16 * b2n last + 32 * b2n (d.fld GNS_STAT 0 2 ≠ 1) + 64 * b2n held + 128 * b2n d.tmp.cinder
  (leBytes 1 0xC1 ++ leBytes 1 1 ++ leBytes 1 (if d.tmp.cinder then 0 else d.cor.kid) ++ leBytes 1 flags ++
    leBytes 4 heat ++ leBytes 2 station ++ leBytes 2 body.length ++ body ++ tag, e)

/-- Fragments of a payload: an empty payload takes one. -/
def fragCount (len size : Nat) : Nat := Nat.min 16 (Nat.max 1 (ceilDiv len size))

/-- A tag or signature operation failed (R71): it is counted and recorded. -/
def Device.corrTagFail (d : Device) (slot what : Nat) : Device :=
  ({ d with cor := { d.cor with tagFails := holdAt 0xFFFF (d.cor.tagFails + 1) } }).slag blkStock 0x0102 slot 0
    (leBytes 1 what)

/-- The group of correction output among the multicast groups (R374). -/
def corrGroup : Nat := 0x100

/-- Sends the link set (R62, R64). -/
def Device.linkSet (d : Device) (b : Bytes) (held : Bool) (tag : Nat) : Device :=
  let sel := uAt b 2 2
  let msmDue := sel ≠ 0 && d.heatAbs % periodHeats (uAt b 6 1) = 0
  let msgs := (if msmDue && !held then d.msms (uAt b 0 2) sel else []) ++ (d.otherDue b).map (d.otherMsg b)
  if d.tmp.cinder ∨ (msgs = [] ∧ ¬ (msmDue ∧ held)) ∨ ¬ d.corrKeys ∨ (d.slot 11).st = 0 then d
  else
    match d.useKey 11 0 tag with
    | (st, e) =>
      if st ≠ stDone then e.corrTagFail 11 0
      else
        let body := payloadOf (16 * 1380) msgs
        let n := fragCount body.length 1380
        let out := e.gate && e.mcastSlot.isSome && e.netUp
        let e := (List.range n).foldl (fun (x : Device) i =>
          let (v, y) := x.envelope x.heat (uAt b 0 2) i (i + 1 = n) held (sliceB body (1380 * i) 1380)
          y.multicast corrGroup v) e
        { e with cor := { e.cor with linkSets := if out then holdAt 0xFFFF (e.cor.linkSets + 1) else e.cor.linkSets } }

/-- Fragments of a radio set that a port has left. -/
def RadioSet.left (r : RadioSet) : Nat :=
  r.ports.foldl (fun a e => a + (fragCount r.data.length r.size - e.2.1)) 0

/-- Forms the radio set of a heat in which a radio MSM is due (R61); what is unsent of the previous set is dropped and
counted (R63). -/
def Device.radioSet (d : Device) (b : Bytes) (held : Bool) : Device :=
  let sel := uAt b 4 2
  let due := d.cor.due ++ (d.otherDue b).filter fun k => !d.cor.due.contains k
  if sel = 0 then { d with cor := { d.cor with due := [] } }
  else if d.heatAbs % periodHeats (uAt b 7 1) ≠ 0 then { d with cor := { d.cor with due := due } }
  else
    let others := [5, 6, 7].filter fun k => due.contains k && (k ≠ 5 || d.gns.refState ≠ 0)
    let msgs := (if held then [] else d.msms (uAt b 0 2) sel) ++ others.map (d.otherMsg b)
    let size := uAt b 14 1
    let r : RadioSet :=
      { heat := d.heatAbs, data := payloadOf (16 * size) msgs, station := uAt b 0 2, size := size,
        perHeat := uAt b 15 1, withheld := held, ports := (setBitsOf 4 (uAt b 11 1)).map fun p => (p, (0, 0, 0)) }
    let drop := match d.cor.radio with | some o => o.left | none => 0
    { d with cor := { d.cor with due := [], radio := some r, dropped := holdAt 0xFFFF (d.cor.dropped + drop) } }

/-- Whether any system is selected. -/
def corrOn (b : Bytes) : Bool := uAt b 2 2 ≠ 0 || uAt b 4 2 ≠ 0

/-- Builds and sends the heat's set, once a heat (R60, R61, R62). -/
def Device.correctionSet (d : Device) (tag : Nat) : Device :=
  match d.cor.prof with
  | none => d
  | some _ =>
    if ¬ d.running ∨ d.cor.built = some d.heatAbs then d
    else
      let d := d.iodCount
      match d.cor.prof with
      | none => d
      | some b =>
        let held := d.withheld
        let d := { d with cor := { d.cor with
            built := some d.heatAbs, lastHeld := held
            withheld := if held && corrOn b then holdAt 0xFFFF (d.cor.withheld + 1) else d.cor.withheld } }
        (d.linkSet b held tag).radioSet b held

/-- Whether a port may begin a fragment at an instant (R62, R63, R354): the first of a heat by heat start + 12 ms, and
on a port that listens before it talks once the beacon has ended and the channel is clear. -/
def Device.mayFragment (d : Device) (r : RadioSet) (p start air : Nat) (clear : Bool) : Bool :=
  match Tab.find r.ports p with
  | none => false
  | some (next, h, n) =>
    let now := start / 100000000
    let sent := if h = now then n else 0
    next < fragCount r.data.length r.size && sent < r.perHeat && d.mayAir p start air &&
      start % 100000000 + air < 98000000 && (!d.lbt p || clear) &&
      (d.lbt p || sent ≠ 0 || start % 100000000 ≤ 12000000)

/-- A correction fragment begins on a radio port (R62). -/
def Device.radioFragment (d : Device) (p start air : Nat) (clear : Bool) (tag : Nat) : Device :=
  let d := d.advanceTo start
  match d.cor.radio with
  | none => d
  | some r =>
    if ¬ d.running ∨ ¬ d.mayFragment r p start air clear then d
    else if ¬ d.tmp.cinder ∧ (¬ d.corrKeys ∨ (d.slot 11).st = 0) then d
    else
      match (if d.tmp.cinder then (stDone, d) else d.useKey 11 0 tag) with
      | (st, e) =>
        if st ≠ stDone then e.corrTagFail 11 0
        else
          let (next, h, n) := Tab.getD r.ports p (0, 0, 0)
          let all := fragCount r.data.length r.size
          let (v, e) := e.envelope (r.heat % 2 ^ 32) r.station next (next + 1 = all) r.withheld
            (sliceB r.data (r.size * next) r.size)
          let e := e.radioSend p 5 start air 0xC1 v
          let now := start / 100000000
          let ports := Tab.put r.ports p (next + 1, now, if h = now then n + 1 else 1)
          { e with cor := { e.cor with
              radio := some { r with ports := ports }
              radioSets := if next + 1 = all then holdAt 0xFFFF (e.cor.radioSets + 1) else e.cor.radioSets } }

/-! ## Broadcast keys -/

/-- The first heat that starts 900 ms after a whole multiple of the roll period, at least 60 s from now (R69). -/
def rollHeat (now hours : Nat) : Nat :=
  let per := 36000 * hours
  let soon := now + 601
  soon + (per - (soon - 9) % per) % per

/-- The slot of a broadcast key (R432): AES-128, ENCRYPT, owner the device, parent 0. -/
def Device.broadcastKey (d : Device) : KeySlot := ⟨1, 0, 1, 4, false, 0, d.gen 0, 0xFF⟩

/-- Generates the next broadcast key into slot 12 (R69, R432). -/
def Device.keyGenerateNext (d : Device) : Device :=
  match d.cor.prof with
  | none => d
  | some b =>
    if ¬ d.running ∨ ¬ d.corrKeys ∨ (d.cor.nextFirst.isSome ∧ (d.slot 12).st = 1) then d
    else
      let e := d.loadSlot 12 d.broadcastKey
      { e with cor := { e.cor with nextFirst := some (rollHeat d.heatAbs (uAt b 16 1)) } }

/-- The next broadcast key takes over at its first heat (R69). -/
def Device.keyRoll (d : Device) : Device :=
  match d.cor.nextFirst with
  | none => d
  | some h =>
    if ¬ d.running ∨ d.heatAbs < h ∨ (d.slot 12).st = 0 then d
    else
      let e := (d.setSlot 11 (d.slot 12)).setSlot 12 slotEmpty
      { e with cor := { e.cor with kid := e.cor.kid % 255 + 1, kFirst := h, nextFirst := none } }

/-- The bytes of a key announcement (R70); wrapped keys and the signature are free values (log entry 6). -/
def Device.announcement (d : Device) (station : Nat) : Bytes × Device :=
  let has := d.cor.nextFirst.isSome && (d.slot 12).st = 1
  let (k, e) := d.drawBytes 24
  let (n, e) := if has then e.drawBytes 24 else (zeros 24, e)
  let (sig, e) := e.drawBytes 64
  (leBytes 1 0xC2 ++ leBytes 1 1 ++ leBytes 1 d.cor.kid ++ leBytes 1 (b2n has) ++ leBytes 4 d.heat ++ leBytes 2 station ++
    zeros 2 ++ leBytes 4 d.cor.kFirst ++ k ++ leBytes 1 (if has then d.cor.kid % 255 + 1 else 0) ++ zeros 3 ++
    leBytes 4 (if has then d.cor.nextFirst.getD 0 else 0) ++ n ++ sig, e)

/-- Sends a key announcement in its due heat: 800 ms after a whole multiple of 30 s, after the heat's set (R70). -/
def Device.announce (d : Device) (air tag : Nat) : Device :=
  match d.cor.prof, d.corrSlot 5 0 with
  | some b, some s =>
    if ¬ d.running ∨ d.heatAbs % 300 ≠ 8 ∨ d.cor.built ≠ some d.heatAbs ∨ ¬ d.corrKeys ∨ d.cor.kid = 0 ∨
        (d.slot 11).st = 0 then d
    else
      match d.useKey s 0 tag with
      | (st, e) =>
        if st ≠ stDone then e.corrTagFail s 1
        else
          let (v, e) := e.announcement (uAt b 0 2)
          let e := e.multicast corrGroup v
          e.forEach (setBitsOf 4 (uAt b 11 1)) fun p x =>
            let t := match (x.port p).air with | some a => Nat.max x.tb0 a.fin | none => x.tb0
            if x.mayAir p t air && t % 100000000 + air < 98000000 then x.radioSend p 5 t air 0xC2 v else x
  | _, _ => d

/-- The state byte of the status record (R72). -/
def Device.corrState (d : Device) : Nat :=
  match d.cor.prof with
  | none => 0
  | some b =>
    if ¬ corrOn b then 0 else if d.tmp.cinder then 4 else if ¬ d.corrKeys then 3 else if d.cor.lastHeld then 2 else 1

/-- The status record (R72). -/
def Device.corrStatus (d : Device) : Bytes :=
  leBytes 1 d.corrState ++ leBytes 1 d.cor.kid ++ leBytes 2 d.cor.linkSets ++ leBytes 2 d.cor.radioSets ++
    leBytes 2 d.cor.dropped ++ leBytes 2 d.cor.withheld ++ leBytes 2 d.cor.tagFails ++ leBytes 4 d.heat

/-- The status commands' body: byte 0 is 0 or 1, bytes 1 to 3 are reserved (R72). -/
def statusBodyOk (b : Bytes) : Bool := b.length = 4 && uAt b 0 4 ≤ 1

/-- CORR_STATUS when it is taken (R72): the snapshot, then the clear. -/
def Device.corrStatusCmd (c : Cmd) (d : Device) : Device :=
  if ¬ statusBodyOk c.body then d.answer c stRejected []
  else
    let e := d.answer c stDone d.corrStatus
    if uAt c.body 0 1 = 1 then
      { e with cor := { e.cor with linkSets := 0, radioSets := 0, dropped := 0, withheld := 0, tagFails := 0 } }
    else e

/-- CORR_PROFILE (R58). -/
def execCorrProfile (h : HostPkt) (s : State) : Host.Outcome State Fault Refusal :=
  .next { s with dev := s.dev.hostCmd 0x0200 h (withLen 96 (ifHolder holdIt)) }

/-- CORR_STATUS (R72). -/
def execCorrStatus (h : HostPkt) (s : State) : Host.Outcome State Fault Refusal :=
  .next { s with dev := s.dev.hostCmd 0x0201 h Device.corrStatusCmd }

/-- CORRECTION_SET (R61). -/
def execCorrectionSet (tag : Nat) (s : State) : Host.Outcome State Fault Refusal :=
  .next { s with dev := s.dev.correctionSet tag }

/-- RADIO_FRAGMENT (R62). -/
def execRadioFragment (p start air : Nat) (clear : Bool) (tag : Nat) (s : State) :
    Host.Outcome State Fault Refusal :=
  .next { s with dev := s.dev.radioFragment p start air clear tag }

/-- BROADCAST_KEY_GENERATE (R69). -/
def execBroadcastKeyGenerate (s : State) : Host.Outcome State Fault Refusal :=
  .next { s with dev := s.dev.keyGenerateNext }

/-- BROADCAST_KEY_ROLL (R69). -/
def execBroadcastKeyRoll (s : State) : Host.Outcome State Fault Refusal := .next { s with dev := s.dev.keyRoll }

/-- KEY_ANNOUNCEMENT (R70). -/
def execKeyAnnouncement (air tag : Nat) (s : State) : Host.Outcome State Fault Refusal :=
  .next { s with dev := s.dev.announce air tag }

end Sys2Proof.Machine
end

