-- ==== Sys2Proof/Machine/Fleet.lean ====
section
/-!
DEFINITION. Machine/Fleet.lean: node numbers and their allocation, admission and ownership, hellos and binding, silence,
leaving and node timeouts, FLEET_CFG and FLEET_STATUS (chapter 5), and the acceptance of class 0 datagrams (R371, R372).
-/
namespace Sys2Proof.Machine

/-! ## Node numbers -/

/-- Whether a node number is in use or in quarantine (R102). -/
def Device.nodeTaken (d : Device) (n : Nat) : Bool :=
  (match Tab.find d.flt.nodes n with | some r => recGet r 4 ≠ 0 | none => false) || (Tab.find d.flt.quar n).isSome

/-- The lowest free node number from `n`, trying `fuel` of them. -/
def Device.allocGo (d : Device) : Nat → Nat → Option Nat
  | 0, _ => none
  | k + 1, n => if d.nodeTaken n then d.allocGo k (n + 1) else some n

/-- The node number allocated on a PAN: its lowest short address neither in use nor in quarantine (R102). -/
def Device.allocNode (d : Device) (pan : Nat) : Option Nat := d.allocGo 65533 (pan * 65536 + 1)

/-- The PAN of a node number (R101). -/
def panOf (n : Nat) : Nat := n / 65536 % 4

/-- Frees a node number: its record is free, and the address goes into quarantine (R102). -/
def Device.freeNode (d : Device) (n : Nat) : Device :=
  { d with flt := { d.flt with nodes := Tab.del d.flt.nodes n, quar := Tab.put d.flt.quar n d.upNs } }

/-- The NODE_TX_EVENT that ends a NODE_SEND (R359): 0 DELIVERED, 1 EXPIRED, 2 NO_ACK, 3 FLUSHED. -/
def Device.nodeTxEvent (d : Device) (part n tag status : Nat) : Device :=
  d.record part 0xA1
    (leBytes 1 0xA1 ++ leBytes 1 status ++ zeros 2 ++ leBytes 4 n ++ leBytes 4 tag ++ leBytes 4 d.heat)

/-- Discards the held frames of a port that satisfy a test, and reports them FLUSHED (R358). -/
def Device.flushHeld (d : Device) (p : Nat) (which : Held → Bool) : Device :=
  let m := d.port p
  let e := d.setPort p { m with store := m.store.filter fun h => !which h }
  e.forEach (m.store.filter which) fun h x => x.nodeTxEvent h.part (p * 65536 + h.short) h.tag 3

/-- Discards a node's held frames (R358). -/
def Device.flushNode (d : Device) (n : Nat) : Device :=
  let p := panOf n
  if (d.port p).store.any fun h => h.short = n % 65536 then d.flushHeld p fun h => h.short = n % 65536 else d

/-- Sends a node to the state leaving, its held frames discarded (R358); it is freed at the next heat boundary
(R116). -/
def Device.nodeLeaves (d : Device) (n : Nat) : Device :=
  let e := (d.setNds n [(5, 3)]).flushNode n
  { e with flt := { e.flt with goners := if e.flt.goners.contains n then e.flt.goners else e.flt.goners ++ [n] } }

/-- The node of a machine whose record was made on a PAN, by EUI-64. -/
def Device.nodeOfEui (d : Device) (pan eui : Nat) : Option Nat :=
  (d.flt.nodes.find? fun e => panOf e.1 = pan ∧ recGet e.2 4 ≠ 0 ∧ recGet e.2 8 = eui ∧ recGet e.2 5 ≠ 3).map (·.1)

/-- Writes a machine's node record (R108, R113). -/
def Device.machineNode (d : Device) (n m state : Nat) : Device :=
  d.setNds n [(0, n), (4, 3), (5, state), (7, d.fe m 3), (8, d.fe m 8), (16, n / 65536 * 65536), (20, m), (24, d.heat),
    (28, d.heat), (45, d.fe m 22)]

/-! ## Class 0 datagrams -/

/-- The machine that a source node names (R104, R108). -/
def Device.machOfNode (d : Device) (n : Nat) : Option Nat :=
  let m := d.nd n 20
  if d.nkind n = 3 ∧ d.mstate m ≠ 0 ∧ d.fe m 4 = n then some m else none

/-- Notes that a machine was heard in this heat (R104, bytes 28-31); a SILENT machine is heard again (R105). -/
def Device.heardNow (d : Device) (m : Nat) : Device :=
  let e := d.setFe m 28 d.heat
  let e := if e.fe m 4 = 0xFFFFFFFF then e else e.setNds (e.fe m 4) [(24, e.heat)]
  if e.mstate m = 3 ∧ ¬ e.flt.heard.contains m then
    { e with flt := { e.flt with heard := e.flt.heard ++ [m] } }
  else e

/-- The key under which a machine's datagrams arrive: the DECRYPT slot of its twin (R433). -/
def Device.machKeyOk (d : Device) (m : Nat) : Bool :=
  d.keyed && (d.slot (d.fe m 22 + 1)).st = 1 && (d.slot (d.fe m 22 + 1)).attr = 1

/-- The acceptance test of a class 0 datagram under a machine's key (R372). -/
def Device.acceptUnder (d : Device) (m : Nat) (p : MachPkt) : Bool × Device :=
  let k := d.fe m 22 + 1
  if ¬ p.tagOk ∨ ¬ d.machKeyOk m then (false, d.discard false true)
  else if ¬ replayOk (d.replay k) p.seq then (false, d.discard true false)
  else (true, ((d.count NET_RX_OK).mark k p.seq).heardNow m)

/-- A class 0 datagram arrives at its stamp: the machine that sent it, if it is accepted. `rf` says that a radio data
frame carried it. -/
def Device.acceptMach (d : Device) (rf : Bool) (p : MachPkt) : Option Nat × Device :=
  let d := d.advanceTo p.stamp
  match (if d.linkTakes rf then d.machOfNode p.node else none) with
  | none => (none, d.discard false false)
  | some m =>
    match d.acceptUnder m p with
    | (true, e) => (some m, e)
    | (false, e) => (none, e)

/-! ## Hellos and binding -/

/-- Whether a hello's fields are valid (R113). -/
def helloOk (b : Bytes) : Bool :=
  b.length = 24 && uAt b 0 1 = 0x21 && uAt b 1 1 = 1 && uAt b 2 1 / 16 = 0 && uAt b 2 1 / 4 < 3 && uAt b 3 1 = 0 &&
    uAt b 20 4 = 0

/-- A hello of an EUI-64 that is not admitted: the first of a heat is reported, every one is dropped (R113). -/
def Device.strangeHello (d : Device) (b : Bytes) : Device :=
  let e := d.discard false false
  if e.flt.discNow then e
  else
    let body := leBytes 2 0xFFFF ++ leBytes 4 e.heat ++ sliceB b 4 8 ++ leBytes 1 (uAt b 2 1 % 4) ++
      leBytes 1 (uAt b 2 1 / 4 % 4)
    let e := { e with flt := { e.flt with discNow := true, disc := holdAt 0xFFFF (e.flt.disc + 1) } }
    e.forEach [0, 1, 2, 3] fun p x => if x.right p rPlan then x.event p 0x01 body else x

/-- A hello arrives (R113): under its admitted key slot it is accepted, and waits for the heat boundary. -/
def Device.hello (d : Device) (rf : Bool) (p : MachPkt) : Device :=
  let d := d.advanceTo p.stamp
  let b := p.body
  if ¬ d.linkTakes rf ∨ ¬ helloOk b then d.discard false false
  else
    match d.machOf (uAt b 4 8) with
    | none => d.strangeHello b
    | some m =>
      if p.node % 65536 ≠ 0xFFFF ∧ d.machOfNode p.node ≠ some m then d.discard false false
      else
        match d.acceptUnder m p with
        | (false, e) => e
        | (true, e) =>
          let e := e.setFes m [(16, Nat.land (uAt b 12 4) (e.fe m 340)), (32, uAt b 16 4)]
          { e with flt := { e.flt with joins := e.flt.joins ++ [⟨m, uAt b 2 1 % 4, true⟩] } }

/-- Sends a HELLO_ACK (R114). -/
def Device.helloAck (d : Device) (m status : Nat) : Device :=
  let n := d.fe m 4
  let joined := if n = 0xFFFFFFFF then 0 else d.nd n 28
  d.sendMachine m (leBytes 1 0x22 ++ leBytes 1 status ++ leBytes 2 m ++ leBytes 4 n ++ leBytes 4 joined ++ zeros 4)

/-- The node number a join gives: the one made for it by an association in the heat, or a new one (R102, R115). -/
def Device.joinNode (d : Device) (m pan : Nat) : Option Nat :=
  (d.nodeOfEui pan (d.fe m 8)).orElse fun _ => d.allocNode pan

/-- Binds an unbound machine, or moves a bound one to another PAN (R113, R115): the status of R114 and the device. -/
def Device.bind (d : Device) (m pan : Nat) : Nat × Device :=
  let old := d.fe m 4
  if d.mstate m = 4 then (2, d)
  else if old = 0xFFFFFFFF then
    match d.joinNode m pan with
    | none => (3, d)
    | some n => (0, (d.machineNode n m 1).setFes m [(2, 2), (4, n)])
  else if panOf old = pan then (0, d)
  else
    match d.joinNode m pan with
    | none => (3, d)
    | some n =>
      let e := d.machineNode n m 1
      let e := ((e.setFes m [(4, n)]).flushNode old).freeNode old
      (0, e)

/-- The joins of a heat take effect at the heat boundary, in order of arrival; hellos are answered (R113 to R115). A unit
without the claim applies the results from the mirror (R103). -/
def Device.joinsTake (d : Device) : Device :=
  let js := d.flt.joins
  let d := { d with flt := { d.flt with joins := [], discNow := false } }
  if ¬ d.pair.claim then d
  else
    d.forEach js fun j e =>
      if e.mstate j.mach = 0 then e
      else
        match e.bind j.mach j.pan with
        | (st, f) => if j.hello then f.helloAck j.mach st else f

/-- SILENT machines that were heard again turn ACTIVE at the heat boundary (R105). -/
def Device.heardTake (d : Device) : Device :=
  let hs := d.flt.heard
  let d := { d with flt := { d.flt with heard := [] } }
  d.forEach hs fun m e => if e.mstate m = 3 then e.setFe m 2 2 else e

/-! ## Host packets, as the heat boundary applies them (R109, R110) -/

/-- Runs `f` on the machine a body names in bytes 0-1, with the statuses of R109. `own` says that the sender must own
it. -/
def withMachine (own : Bool) (f : Nat → Cmd → Device → Device) (c : Cmd) (d : Device) : Device :=
  let m := uAt c.body 0 2
  if 4096 ≤ m then d.answer c stRejected []
  else if d.mstate m = 0 then d.answer c stNotFound []
  else if own ∧ ¬ d.owns c.part m then d.answer c stDenied []
  else f m c d

/-- Whether the reserved bytes of a body from an offset on are 0 (log entry 18). -/
def tailZero (b : Bytes) (off : Nat) : Bool := allZero (b.drop off)

/-- Whether a MACHINE_ADMIT body is valid (R546). -/
def admitOk (b : Bytes) : Bool :=
  uAt b 0 2 < 4096 && uAt b 15 1 ≤ 2 && uAt b 16 1 < 128 && uAt b 17 1 < 4 && uAt b 18 1 < 16 && tailZero b 19

/-- MACHINE_ADMIT (R109, R546): FREE to LISTED, the sender becomes owner. The entry starts with what stands for none: a
position record of fix state none (R92), no host override (R186), no segment, predecessor, task or dock; every other
field is 0 (log entry 10). -/
def Device.admitMachine (c : Cmd) (d : Device) : Device :=
  let b := c.body
  let m := uAt b 0 2
  if ¬ d.right c.part rPlan then d.answer c stDenied []
  else if ¬ admitOk b then d.answer c stRejected []
  else if d.mstate m ≠ 0 ∨ (d.machOf (uAt b 2 8)).isSome then d.answer c stInUse []
  else
    (d.setEntry m (recSets [] [(0, m), (2, 1), (3, c.part + 16 * uAt b 18 1), (4, 0xFFFFFFFF), (8, uAt b 2 8),
      (16, uAt b 10 4), (20, uAt b 14 1), (21, uAt b 15 1), (22, uAt b 16 1), (23, uAt b 17 1), (24, d.heat),
      (40, m), (60, 0xFFFF), (62, 0xFFFF), (64, 0xFFFF), (76, 0xFFFF), (90, 0xFFFF), (168, 0xFFFF), (170, 0xFFFF),
      (174, 0xFFFF), (208, 0xFFFF), (210, 0xFFFF), (213, 0xFF), (340, uAt b 10 4)])).answer c stDone []

/-- OWNER_OFFER (R109): opens a transfer for 10 s. -/
def Device.ownerOffer (c : Cmd) (d : Device) : Device :=
  if 4 ≤ uAt c.body 2 1 ∨ ¬ tailZero c.body 3 then d.answer c stRejected []
  else
    withMachine true (fun m c d =>
      ({ d with flt := { d.flt with offers := Tab.put d.flt.offers m ⟨uAt c.body 2 1, d.upNs⟩ } }).answer c stDone [])
      c d

/-- OWNER_ACCEPT (R109, R111): the target of the open transfer becomes the owner, and the read grants are cleared. -/
def Device.ownerAccept (c : Cmd) (d : Device) : Device :=
  if ¬ d.right c.part rPlan then d.answer c stDenied []
  else if ¬ tailZero c.body 2 then d.answer c stRejected []
  else
    withMachine false (fun m c d =>
      match Tab.find d.flt.offers m with
      | some t =>
        if t.target = c.part then
          let e := { d with flt := { d.flt with offers := Tab.del d.flt.offers m } }
          let e := e.setFe m 3 c.part
          let e := if e.fe m 4 = 0xFFFFFFFF then e else e.setNds (e.fe m 4) [(7, c.part)]
          e.answer c stDone []
        else d.answer c stNotFound []
      | none => d.answer c stNotFound []) c d

/-- READ_GRANT (R109): replaces the read-grant mask. -/
def Device.readGrant (c : Cmd) (d : Device) : Device :=
  if 16 ≤ uAt c.body 2 1 ∨ ¬ tailZero c.body 3 then d.answer c stRejected []
  else
    withMachine true (fun m c d =>
      let v := d.owner m + 16 * uAt c.body 2 1
      let e := d.setFe m 3 v
      let e := if e.fe m 4 = 0xFFFFFFFF then e else e.setNds (e.fe m 4) [(7, v)]
      e.answer c stDone []) c d

/-- Whether a partition owns a node or may read it: by its ownership byte (R108). -/
def Device.nodeReadable (d : Device) (p n : Nat) : Bool :=
  d.nkind n ≠ 0 && (bitsOf (d.nd n 7) 0 2 = p || bitOf (d.nd n 7) (4 + p))

/-- The 64 bytes of a node record (R108). -/
def Device.nodeBytes (d : Device) (n : Nat) : Bytes := layBytes layNode 64 (recSets (d.node n) [(0, n), (4, d.nkind n)])

/-- NODE_READ (R109): a reserved record answers any partition. -/
def Device.nodeRead (c : Cmd) (d : Device) : Device :=
  let n := uAt c.body 0 4
  if 0x40000 ≤ n then d.answer c stRejected []
  else if nodeReserved n then d.answer c stDone (d.nodeBytes n)
  else if d.nkind n = 0 then d.answer c stNotFound []
  else if d.nodeReadable c.part n then d.answer c stDone (d.nodeBytes n)
  else d.answer c stDenied []

/-- Bytes 0 to 511 of a fleet-table entry (R104). -/
def Device.entryBytes (d : Device) (m : Nat) : Bytes := layBytes layFleet 512 (d.entry m)

/-- MACHINE_READ (R109): entry bytes 0-335, to the owner or a read-grant partition. -/
def Device.machineRead (c : Cmd) (d : Device) : Device :=
  if ¬ tailZero c.body 2 then d.answer c stRejected []
  else
    withMachine false (fun m c d =>
      if d.mayRead c.part m then d.answer c stDone ((d.entryBytes m).take 336) else d.answer c stDenied []) c d

/-- NODE_ALLOW (R116): posts an EUI-64 that may join a PAN. The spec gives no body: byte 0 the PAN, bytes 1-3 reserved,
bytes 4-11 the EUI-64 (log entry 20). -/
def Device.nodeAllow (c : Cmd) (d : Device) : Device :=
  let p := uAt c.body 0 1
  if ¬ d.right c.part rPlan then d.answer c stDenied []
  else if 4 ≤ p ∨ ¬ allZero (sliceB c.body 1 3) then d.answer c stRejected []
  else
    let k := (p, uAt c.body 4 8)
    ({ d with flt := { d.flt with allow := if d.flt.allow.contains k then d.flt.allow else d.flt.allow ++ [k] } }).answer
      c stDone []

/-- Whether a FLEET_CFG body is valid (R119). -/
def fleetCfgOk (b : Bytes) : Bool :=
  10 ≤ uAt b 0 1 && 1 ≤ uAt b 1 1 && (List.range 4).all (fun i => uAt b (2 + i) 1 < 16 && uAt b (2 + i) 1 % 4 ≠ 3) &&
    tailZero b 6

/-- FLEET_CFG at the heat boundary (R119, R58): it names the configuration that takes effect there. -/
def Device.fleetCfg (c : Cmd) (d : Device) : Device :=
  if ¬ fleetCfgOk c.body then d.answer c stRejected []
  else
    let v := (List.range 6).map fun i => uAt c.body i 1
    ({ d with flt := { d.flt with cfgNext := Tab.put d.flt.cfgNext c.part v } }).answer c stDone []

/-- Accepted FLEET_CFGs take effect in ascending partition order (R58). -/
def Device.fleetCfgTakes (d : Device) : Device :=
  d.flt.cfgNext.foldl (fun e v => { e with flt := { e.flt with cfg := v.2, cfgSet := true } })
    { d with flt := { d.flt with cfgNext := [] } }

/-- The join policy of a PAN: 0 open, 1 listed, 2 closed (R116, R119). -/
def Device.policy (d : Device) (p : Nat) : Nat := d.flt.cfg.getD (2 + p) 2 % 4

/-- The partition that owns a PAN's sensor nodes. -/
def Device.sensorOwner (d : Device) (p : Nat) : Nat := d.flt.cfg.getD (2 + p) 2 / 4 % 4

/-- Entries in a state of R105. -/
def Device.inState (d : Device) (st : Nat) : Nat :=
  if st = 0 then 4096 - d.machines.length else (d.machines.filter fun m => d.mstate m = st).length

/-- Nodes of a kind on a PAN. -/
def Device.nodesOf (d : Device) (p kind : Nat) : Nat :=
  (d.flt.nodes.filter fun e => panOf e.1 = p ∧ recGet e.2 4 = kind).length

/-- The FLEET_STATUS record (R120). -/
def Device.fleetStatus (d : Device) : Bytes :=
  ((List.range 5).map fun s => leBytes 2 (d.inState s)).flatten ++
  ((List.range 4).map fun p => leBytes 2 (d.nodesOf p 1) ++ leBytes 2 (d.nodesOf p 2) ++ leBytes 2 (d.nodesOf p 3)).flatten ++
  leBytes 2 d.flt.disc ++ leBytes 4 d.heat

/-- FLEET_STATUS when it is taken (R120). -/
def Device.fleetStatusCmd (c : Cmd) (d : Device) : Device :=
  if ¬ statusBodyOk c.body then d.answer c stRejected []
  else
    let e := d.answer c stDone d.fleetStatus
    if uAt c.body 0 1 = 1 then { e with flt := { e.flt with disc := 0 } } else e

/-! ## Commands -/

/-- MACHINE_ADMIT (R109). -/
def execMachineAdmit (h : HostPkt) (s : State) : Host.Outcome State Fault Refusal :=
  .next { s with dev := s.dev.hostCmd 0x0400 h (withLen 24 (ifHolder holdIt)) }

/-- MACHINE_RELEASE (R109). -/
def execMachineRelease (h : HostPkt) (s : State) : Host.Outcome State Fault Refusal :=
  .next { s with dev := s.dev.hostCmd 0x0401 h (withLen 4 (ifHolder holdIt)) }

/-- OWNER_OFFER (R109). -/
def execOwnerOffer (h : HostPkt) (s : State) : Host.Outcome State Fault Refusal :=
  .next { s with dev := s.dev.hostCmd 0x0402 h (withLen 4 (ifHolder holdIt)) }

/-- OWNER_ACCEPT (R111). -/
def execOwnerAccept (h : HostPkt) (s : State) : Host.Outcome State Fault Refusal :=
  .next { s with dev := s.dev.hostCmd 0x0403 h (withLen 4 (ifHolder holdIt)) }

/-- TRANSFER_EXPIRY (R109): an open transfer that no one accepts closes after 10 s. -/
def execTransferExpiry (m : Nat) (s : State) : Host.Outcome State Fault Refusal :=
  let d := s.dev
  let r : Device :=
    match Tab.find d.flt.offers m with
    | some t =>
      if d.since t.at_ 10000000000 then { d with flt := { d.flt with offers := Tab.del d.flt.offers m } } else d
    | none => d
  .next { s with dev := r }

/-- READ_GRANT (R109). -/
def execReadGrant (h : HostPkt) (s : State) : Host.Outcome State Fault Refusal :=
  .next { s with dev := s.dev.hostCmd 0x0404 h (withLen 4 (ifHolder holdIt)) }

/-- NODE_READ (R109). -/
def execNodeRead (h : HostPkt) (s : State) : Host.Outcome State Fault Refusal :=
  .next { s with dev := s.dev.hostCmd 0x0405 h (withLen 4 holdIt) }

/-- MACHINE_READ (R109). -/
def execMachineRead (h : HostPkt) (s : State) : Host.Outcome State Fault Refusal :=
  .next { s with dev := s.dev.hostCmd 0x0406 h (withLen 4 holdIt) }

/-- NODE_ALLOW (R116). -/
def execNodeAllow (h : HostPkt) (s : State) : Host.Outcome State Fault Refusal :=
  .next { s with dev := s.dev.hostCmd 0x0407 h (withLen 12 (ifHolder holdIt)) }

/-- FLEET_CFG (R119). -/
def execFleetCfg (h : HostPkt) (s : State) : Host.Outcome State Fault Refusal :=
  .next { s with dev := s.dev.hostCmd 0x0408 h (withLen 16 (ifHolder holdIt)) }

/-- FLEET_STATUS (R120). -/
def execFleetStatus (h : HostPkt) (s : State) : Host.Outcome State Fault Refusal :=
  .next { s with dev := s.dev.hostCmd 0x0409 h Device.fleetStatusCmd }

/-- HELLO (R113). -/
def execHello (m : MachPkt) (s : State) : Host.Outcome State Fault Refusal :=
  .next { s with dev := s.dev.hello false m }

/-- NODE_TIMEOUT (R116): a node that was not heard for the node timeout goes to leaving; a machine's only while its entry
is SILENT. -/
def execNodeTimeout (n : Nat) (s : State) : Host.Outcome State Fault Refusal :=
  let d := s.dev
  let due : Bool := ((d.flt.cfg.getD 1 72 * 36000 : Nat) : Int) ≤ diff32 d.heat (d.nd n 24)
  let may : Bool := (1 ≤ d.nkind n && d.nkind n ≤ 2) || (d.nkind n = 3 && d.mstate (d.nd n 20) = 3)
  let r : Device := if due ∧ may ∧ d.pair.claim then d.nodeLeaves n else d
  .next { s with dev := r }

/-- QUARANTINE_EXPIRY (R102): a freed short address leaves quarantine after 3,600 s. -/
def execQuarantineExpiry (n : Nat) (s : State) : Host.Outcome State Fault Refusal :=
  let d := s.dev
  let r : Device :=
    match Tab.find d.flt.quar n with
    | some t => if d.since t 3600000000000 then { d with flt := { d.flt with quar := Tab.del d.flt.quar n } } else d
    | none => d
  .next { s with dev := r }

end Sys2Proof.Machine
end

