-- ==== Sys2Proof/Machine/Solver.lean ====
section
/-!
DEFINITION. Machine/Solver.lean: central solving and the shadow atlas (chapter 4): enrolment and its slot test, demotion,
observation frames and position reports, solves and catch-up updates, publication, and the atlas. The filter's numerics
are operands of the solve commands (log entry 5).
-/
namespace Sys2Proof.Machine

/-! ## Enrolment (R74 to R76) -/

/-- The period of a rate code, in heats (R75). -/
def ratePeriod (r : Nat) : Nat := [0, 10, 5, 2, 1].getD r 0

/-- The rate code of a machine's enrolment, 0 when it is not enrolled (R104, bytes 36-39). -/
def Device.rate (d : Device) (m : Nat) : Nat := bitsOf (d.fe m 36) 0 3

/-- The phase of a machine's enrolment. -/
def Device.phase (d : Device) (m : Nat) : Nat := bitsOf (d.fe m 36) 3 4

/-- The priority of a machine's enrolment. -/
def Device.prio (d : Device) (m : Nat) : Nat := bitsOf (d.fe m 36) 7 2

/-- The machines that are enrolled. -/
def Device.enrolled (d : Device) : List Nat := d.machines.filter fun m => d.rate m ≠ 0

/-- Whether a machine is due in heats with `n mod 10 = h` (R75). -/
def Device.dueIn (d : Device) (m h : Nat) : Bool := d.rate m ≠ 0 && h % ratePeriod (d.rate m) = d.phase m

/-- Whether a machine is due in the present heat (R75, R105). -/
def Device.dueNow (d : Device) (m : Nat) : Bool :=
  d.rate m ≠ 0 && (d.mstate m = 2 || d.mstate m = 3) && d.heat % ratePeriod (d.rate m) = d.phase m

/-- The loads of the residues 0 to 9 (R75), without one machine. -/
def Device.loads (d : Device) (without : Option Nat) : List Nat :=
  let ms := d.enrolled.filter fun m => some m ≠ without
  (List.range 10).map fun h => (ms.filter fun m => d.dueIn m h).length

/-- The largest load over a phase's residues, once the machine is added. -/
def maxLoad (loads : List Nat) (per phi : Nat) : Nat :=
  ((List.range 10).filter fun h => h % per = phi).foldl (fun a h => Nat.max a (loads.getD h 0 + 1)) 0

/-- The phase of the smallest largest load, the lowest on a tie (R75). -/
def bestPhase (loads : List Nat) (per : Nat) : Nat :=
  (List.range per).foldl (fun b phi => if maxLoad loads per phi < maxLoad loads per b then phi else b) 0

/-- The enrolment word (R104, bytes 36-39). -/
def enrolWord (rate phase prio cls : Nat) : Nat := rate + 8 * phase + 128 * prio + 512 * cls

/-- A filter that has just started (R88). -/
def filterNew : Filter :=
  { fix := 0, pos := [0, 0, 0], vel := [0, 0, 0], cov := [0xFFFF, 0xFFFF, 0xFFFF, 0, 0, 0], nfix := 0, used := 0,
    upd := none, frame := none, lcnt := [], held := [], obs := [], seen5 := false, misses := 0, bad := 0, reset := false,
    demoted := false }

/-- A machine's filter. -/
def Device.filter (d : Device) (m : Nat) : Filter := Tab.getD d.slv.filters m filterNew

/-- Replaces a machine's filter. -/
def Device.setFilter (d : Device) (m : Nat) (f : Filter) : Device :=
  { d with slv := { d.slv with filters := Tab.put d.slv.filters m f } }

/-- Resets a filter to none (R90); the next record carries FILTER_RESET. -/
def filterReset (f : Filter) : Filter := { filterNew with reset := true, demoted := f.demoted }

/-- Withdraws a machine's enrolment. -/
def Device.withdraw (d : Device) (m : Nat) : Device :=
  let e := d.setFe m 36 0
  { e with slv := { e.slv with
      filters := Tab.del e.slv.filters m, frames := Tab.del e.slv.frames m, solved := Tab.del e.slv.solved m } }

/-- SOLVE_ENROL at the heat boundary (R74, R75). -/
def Device.solveEnrol (c : Cmd) (d : Device) : Device :=
  let b := c.body
  let m := uAt b 0 2
  let r := uAt b 2 1
  let x := uAt b 3 1
  if ¬ d.right c.part rPlan then d.answer c stDenied []
  else if 4096 ≤ m ∨ 5 ≤ r ∨ 16 ≤ x ∨ ¬ tailZero b 4 then d.answer c stRejected []
  else if ¬ d.owns c.part m then d.answer c stDenied []
  else if d.slv.prof = none then d.answer c stRejected []
  else if r = 0 then (d.withdraw m).answer c stDone []
  else
    let per := ratePeriod r
    let loads := d.loads (some m)
    let phi := if d.rate m = r then d.phase m else bestPhase loads per
    if d.slv.slots < maxLoad loads per phi ∨ loads.any (fun l => d.slv.slots < l) then d.answer c stNoCapacity []
    else
      let again := (Tab.find d.slv.filters m).isSome
      let e := d.setFe m 36 (enrolWord r phi (x % 4) (x / 4))
      (e.setFilter m { filterNew with reset := again }).answer c stDone []

/-- The machine that a step of R76 picks: due in a residue whose load exceeds S, of lowest priority, then highest rate,
then highest number. -/
def Device.demotePick (d : Device) (loads : List Nat) : Option Nat :=
  let excess := (List.range 10).filter fun h => d.slv.slots < loads.getD h 0
  let worse (a b : Nat) : Bool :=
    if d.prio a ≠ d.prio b then d.prio b < d.prio a
    else if d.rate a ≠ d.rate b then d.rate b < d.rate a
    else b < a
  (d.enrolled.filter fun m => excess.any fun h => d.dueIn m h).foldl
    (fun o m => match o with | none => some m | some w => if worse m w then some m else some w) none

/-- One step of R76 on the machine picked. -/
def Device.demoteOne (d : Device) (m : Nat) : Device :=
  let r := d.rate m
  if 1 < r then
    let per := ratePeriod (r - 1)
    let phi := bestPhase (d.loads (some m)) per
    let w := d.fe m 36
    let e := d.setFe m 36 (enrolWord (r - 1) phi (bitsOf w 7 2) (bitsOf w 9 2))
    e.setFilter m { e.filter m with demoted := true }
  else (d.withdraw m).event (d.owner m) 0x06 (d.eventBody m)

/-- The steps of R76 until every load fits, with the machines demoted; `fuel` bounds them. -/
def Device.demoteAll : Nat → List Nat → Device → List Nat × Device
  | 0, l, d => (l, d)
  | k + 1, l, d =>
    match d.demotePick (d.loads none) with
    | none => (l, d)
    | some m => Device.demoteAll k (if l.contains m then l else m :: l) (d.demoteOne m)

/-- The solve slots of the running variant change (R73, R305): when they fall, machines are demoted or withdrawn until
every load fits, and one fault record counts them (R76). -/
def Device.setSlots (d : Device) (n : Nat) : Device :=
  let e := { d with slv := { d.slv with slots := n } }
  if d.slv.slots ≤ n then e
  else
    match Device.demoteAll (4 * 4096) [] e with
    | (l, f) =>
      if l = [] then f
      else
        let f := { f with slv := { f.slv with demotions := holdAt 0xFFFF (f.slv.demotions + l.length) } }
        f.slag blkStock 0x0101 n 0 (leBytes 2 l.length)

/-! ## The profile (R99) -/

/-- Whether a solver profile is free of reserved encodings and in range (R99). -/
def solverProfOk (b : Bytes) : Bool :=
  let inR (off n lo hi : Nat) : Bool := lo ≤ uAt b off n && uAt b off n ≤ hi
  b.length = 64 && inR 32 1 20 200 && 1 ≤ uAt b 34 2 && 1 ≤ uAt b 36 2 && uAt b 34 2 * uAt b 36 2 ≤ 65536 &&
  inR 38 1 0 254 && uAt b 39 1 < 4 && inR 40 1 15 100 && inR 41 1 4 32 && inR 42 1 1 50 && inR 43 1 0 45 &&
  inR 44 1 5 100 && inR 45 1 5 200 && uAt b 46 2 = 0 &&
  (List.range 4).all (fun i => inR (48 + 2 * i) 2 1 20000) && tailZero b 56

/-- A field of the solver profile in effect. -/
def Device.sp (d : Device) (off n : Nat) : Nat := match d.slv.prof with | some b => uAt b off n | none => 0

/-- SOLVER_PROFILE at the heat boundary (R99, R58): it names the profile that takes effect there. -/
def Device.solverProfile (c : Cmd) (d : Device) : Device :=
  if ¬ solverProfOk c.body then d.answer c stRejected []
  else ({ d with slv := { d.slv with next := Tab.put d.slv.next c.part c.body } }).answer c stDone []

/-- A solver profile takes effect (R99): a change of the site origin resets every filter, a change of the grid clears the
atlas. -/
def Device.profileIn (d : Device) (b : Bytes) : Device :=
  let cut (x : Bytes) : Bytes × Bytes := (sliceB x 0 24, sliceB x 24 9 ++ sliceB x 34 4)
  let old := match d.slv.prof with | some x => cut x | none => ([], [])
  let new := cut b
  { d with slv := { d.slv with
      prof := some b
      filters := if old.1 = new.1 then d.slv.filters else Tab.mapV d.slv.filters fun _ f => filterReset f
      atlas := if old.2 = new.2 then d.slv.atlas else [] } }

/-! ## Frames and reports -/

/-- The first and last byte of an entry, and its fields, as the frame's form has them (R80, R81): the signal code, the
satellite, LCNT, the pseudorange modulo M and the phase, both in 2^-20 m (`none`: no valid phase). -/
structure Entry where
  /-- The signal code. -/
  code : Nat
  /-- The satellite. -/
  sat : Nat
  /-- LCNT. -/
  lcnt : Nat
  /-- The pseudorange modulo M, 2^-20 m. -/
  pr : Nat
  /-- The phase, 2^-20 m. -/
  phase : Option Int
  /-- It holds a reserved encoding. -/
  bad : Bool
  deriving DecidableEq, Repr

/-- A compact entry (R80). -/
def entryCompact (b : Bytes) : Entry :=
  let w := leNat b
  let ph := bitsOf w 40 24
  { code := bitsOf w 0 5, sat := bitsOf w 7 6, lcnt := bitsOf w 5 2, pr := bitsOf w 19 21 * 2 ^ 12,
    phase := if ph = 2 ^ 23 then none else some (toSigned 24 ph * 2 ^ 6), bad := 18 < bitsOf w 0 5 }

/-- A full entry (R81). -/
def entryFull (b : Bytes) : Entry :=
  let ph := uAt b 8 4
  { code := bitsOf (uAt b 0 1) 0 5, sat := uAt b 1 1, lcnt := bitsOf (uAt b 0 1) 5 2, pr := uAt b 4 4 * 2,
    phase := if ph = 2 ^ 31 then none else some (toSigned 32 ph),
    bad := 19 < bitsOf (uAt b 0 1) 0 5 || bitOf (uAt b 0 1) 7 }

/-- The entries of a frame (R77). -/
def frameEntries (b : Bytes) : List Entry :=
  let full := bitOf (uAt b 1 1) 0
  let n := uAt b 8 2
  (List.range n).map fun i => if full then entryFull (sliceB b (24 + 12 * i) 12) else entryCompact (sliceB b (24 + 8 * i) 8)

/-- The key of a satellite and signal. -/
def sigSat (code sat : Nat) : Nat := code * 256 + sat

/-- Whether a frame's header is free of reserved encodings, and its length is right (R77, R83). -/
def frameOk (b : Bytes) : Bool :=
  let full := bitOf (uAt b 1 1) 0
  let n := uAt b 8 2
  24 ≤ b.length && uAt b 0 1 = 0x31 && uAt b 1 1 < 4 && uAt b 2 2 < 4096 && uAt b 20 4 = 0 && 1 ≤ n &&
    n ≤ (if full then 98 else 147) && b.length = 24 + n * (if full then 12 else 8) &&
    (frameEntries b).all fun e => !e.bad

/-- Counts a frame discarded under R83. -/
def Device.frameLost (d : Device) : Device :=
  { d with slv := { d.slv with discarded := holdAt 0xFFFF (d.slv.discarded + 1) } }

/-- Counts a late frame discarded under R84. -/
def Device.lateLost (d : Device) : Device :=
  { d with slv := { d.slv with lateLost := holdAt 0xFFFF (d.slv.lateLost + 1) } }

/-- The solver's acceptance of a frame that Q66 took (R83, R84). -/
def Device.frameIn (d : Device) (m stamp : Nat) (b : Bytes) : Device :=
  let h := stamp / 100000000
  let inH := stamp % 100000000
  if ¬ frameOk b ∨ uAt b 2 2 ≠ m ∨ ¬ d.dueNow m ∨ uAt b 4 4 ≠ d.heat ∨ d.slv.taken.contains (m, h) then d.frameLost
  else
    let e := { d with slv := { d.slv with taken := d.slv.taken ++ [(m, h)] } }
    if inH < 60000000 then { e with slv := { e.slv with frames := Tab.put e.slv.frames m b } }
    else if inH < 90000000 ∧ e.slv.late.length + e.slv.caught < 128 then
      { e with slv := { e.slv with late := e.slv.late ++ [(m, b)] } }
    else e.lateLost

/-- An observation frame arrives (R373, R83): accepted under R372 it goes to Q66. -/
def Device.obsFrame (d : Device) (rf : Bool) (p : MachPkt) : Device :=
  match d.acceptMach rf p with
  | (none, e) => e
  | (some m, e) =>
    if uAt p.body 0 1 ≠ 0x31 then e.count NET_RX_DROP
    else
      let ok := e.canPush 66 p.body
      let e := e.hwPush 66 p.body
      if ok then e.frameIn m p.stamp p.body else e

/-- Whether a position report's fields are valid (R373). -/
def reportOk (b : Bytes) : Bool := b.length = 32 && uAt b 0 1 = 0x33 && uAt b 1 1 < 8 && uAt b 2 2 < 4096

/-- A position report arrives (R373): it goes to Q67, and the first of its epoch that meets R22 is published. -/
def Device.posReport (d : Device) (rf : Bool) (p : MachPkt) : Device :=
  match d.acceptMach rf p with
  | (none, e) => e
  | (some m, e) =>
    let b := p.body
    if uAt b 0 1 ≠ 0x33 then e.count NET_RX_DROP
    else
      let ok := e.canPush 67 b
      let e := e.hwPush 67 b
      if ok ∧ reportOk b ∧ uAt b 2 2 = m ∧ uAt b 4 4 = e.heat ∧ p.stamp % 100000000 < 60000000 ∧
          (e.fe m 21 = 1 ∨ e.fe m 21 = 2) ∧ (Tab.find e.slv.reports m).isNone ∧ e.slv.published ≠ some e.heatAbs then
        { e with slv := { e.slv with reports := Tab.put e.slv.reports m b } }
      else e

/-! ## Solves -/

/-- Recovers a range: rho := m + M round((rho_hat - m) / M) with M = 8,192 m, in 2^-20 m (R79). -/
def recoverRange (pr : Nat) (hat : Int) : Int := (pr : Int) + 2 ^ 33 * roundDiv (hat - pr) (2 ^ 33)

/-- The satellites and signals of a frame whose ambiguities restart (R82). -/
def restarts (f : Filter) (rate heat : Nat) (es : List Entry) : List Nat :=
  let all := match f.frame with | some h => 3 * ratePeriod rate < heat - h | none => false
  (es.filter fun e =>
    all || e.phase = none ||
      (match Tab.find f.lcnt (sigSat e.code e.sat) with | some l => l ≠ e.lcnt | none => false)).map
    fun e => sigSat e.code e.sat

/-- The ambiguities fixed by the searches of R87: the first ratio that reaches RATIO, within 8 drops. GLONASS ambiguities
and those of a machine farther than 10 km stay float. -/
def fixedNow (ratio : Nat) (o : SolveOut) : List Nat :=
  let ambs := (if o.far then [] else o.ambs.filter fun k => k / 256 ≠ 4 ∧ k / 256 ≠ 5).take 96
  match (List.range 9).find? fun k => ratio ≤ o.ratios.getD k 0 with
  | some k => ambs.drop k
  | none => []

/-- A velocity component as the record holds it: at ±32,767. -/
def velHold (v : Int) : Int := if v < -32767 then -32767 else if 32767 < v then 32767 else v

/-- The cell of a position in mm (R94, R95): `none` outside the grid. -/
def Device.cellOf (d : Device) (east north : Int) : Option Nat :=
  let size : Int := d.sp 32 1 * 100
  let cols := d.sp 34 2
  let rows := d.sp 36 2
  let i := (east - toSigned 32 (d.sp 24 4)) / size
  let j := (north - toSigned 32 (d.sp 28 4)) / size
  if 0 ≤ i ∧ i < cols ∧ 0 ≤ j ∧ j < rows then some (j.toNat * cols + i.toNat) else none

/-- A filter's position propagated by some heats with its velocity (R92). -/
def propagated (f : Filter) (heats : Nat) : List Int :=
  (List.range 3).map fun i => f.pos.getD i 0 + roundDiv (f.vel.getD i 0 * heats) 10

/-- Heats since a filter's last measurement update. -/
def sinceUpd (f : Filter) (now : Nat) : Nat := match f.upd with | some h => now - h | none => 0

/-- A measurement update (R85 to R90): the filter after it, and whether the post-fit test rejects the frame. `held` says
that base observables are withheld (R89). -/
def solveStep (f : Filter) (rate ratio fixMin now : Nat) (b : Bytes) (o : SolveOut) (refMoved held : Bool) :
    Bool × Filter :=
  let es := frameEntries b
  let re := restarts f rate now es
  let f1 := { f with
    frame := some now, lcnt := es.foldl (fun t e => Tab.put t (sigSat e.code e.sat) e.lcnt) f.lcnt
    obs := es.map fun e =>
      let rho := recoverRange e.pr (((o.hats.find? fun h => h.1 = sigSat e.code e.sat).map (·.2)).getD 0)
      (sigSat e.code e.sat, rho, e.phase.map fun p => rho + p)
    fix := Nat.max 1 f.fix }
  if o.badFit then
    if 1 ≤ f.bad then (true, { filterReset f1 with lcnt := f1.lcnt, frame := f1.frame, obs := f1.obs })
    else (true, { f1 with bad := f.bad + 1 })
  else
    let big := (o.sigs.filter (·.big)).map fun s => sigSat s.code s.sat
    let keep := if refMoved then [] else f.held.filter fun k => !re.contains k && !big.contains k
    let seen := f.seen5 || 5 ≤ o.phased
    let fixd := nub (keep ++ fixedNow ratio o)
    let st := if held then 1 else if fixMin ≤ fixd.length ∧ seen then 3 else if seen then 2 else 1
    (false, { f1 with
      fix := st, held := if held then f.held.filter fun k => !re.contains k else if st = 3 then fixd else keep
      nfix := if st = 3 then fixd.length else 0, used := Nat.min 255 o.sigs.length, upd := some now, seen5 := seen
      misses := 0, bad := 0, pos := o.pos, vel := o.vel, cov := o.cov })

/-- The evidence of a fixed solve (R96), at the machine's position before the solve. -/
def Device.evidenceOf (d : Device) (m : Nat) (before : Filter) (b : Bytes) (o : SolveOut) : List Evidence :=
  let now := d.heatAbs
  let p := propagated before (sinceUpd before now)
  let cell := if before.fix = 0 then none else d.cellOf (p.getD 0 0) (p.getD 1 0)
  let re := restarts before (d.rate m) now (frameEntries b)
  o.sigs.map fun s =>
    ⟨m, cell, sigSat s.code s.sat, Nat.min 17 s.eb * 72 + s.ab % 72, s.num, s.den, re.contains (sigSat s.code s.sat)⟩

/-- Whether base observables are withheld from the solver (R89). -/
def Device.solverWithheld (d : Device) (common : Nat) : Bool :=
  d.gns.refState = 0 || (d.gns.refState = 1 && d.gns.before = 0) || common < 4

/-- The epoch packet of the heat is there (R89). -/
def Device.baseEpoch (d : Device) : Bool := match d.cor.base with | some (h, _, _) => h = d.heatAbs | none => false

/-- Notes a machine's stationary flag (R179). -/
def Device.setStationary (d : Device) (m : Nat) (v : Bool) : Device :=
  d.setFe m 95 (setBits (d.fe m 95) 0 1 (b2n v))

/-- Runs one measurement update of a machine on a frame; `publish` is false for a catch-up (R84). -/
def Device.update (d : Device) (m : Nat) (b : Bytes) (o : SolveOut) (publish : Bool) : Device :=
  let held := d.solverWithheld o.common
  let f := d.filter m
  let (rej, g) := solveStep f (d.rate m) (d.sp 40 1) (d.sp 41 1) d.heatAbs b o d.slv.refMoved held
  let e := d.setFilter m g
  if rej then { e with slv := { e.slv with postfit := holdAt 0xFFFF (e.slv.postfit + 1) } }
  else
    let ev := if g.fix = 3 then d.evidenceOf m f b o else []
    { e with slv := { e.slv with
        solved := if publish then Tab.put e.slv.solved m held else e.slv.solved
        evid := e.slv.evid ++ ev, evidHeat := d.heatAbs } }

/-- A central solve (R85): from 60 ms to 78 ms of the heat, on the machine's on-time frame. -/
def Device.centralSolve (d : Device) (m : Nat) (o : SolveOut) : Device :=
  let d := d.advanceTo (d.heatAbs * 100000000 + 60000000)
  match Tab.find d.slv.frames m with
  | none => d
  | some b =>
    if ¬ d.running ∨ d.standby ∨ d.slv.prof = none ∨ 78000000 < d.inHeat ∨ ¬ d.dueNow m ∨ d.slv.slots ≤ d.slv.solved.length ∨
        d.slv.published = some d.heatAbs then d
    else
      let e := { d with slv := { d.slv with frames := Tab.del d.slv.frames m } }
      if ¬ d.baseEpoch then e.frameLost
      else if d.gns.alarm then e
      else (e.update m b o true).setStationary m (bitOf (uAt b 1 1) 1)

/-- A catch-up update (R84): in strokes 8 and 9, in order of arrival. -/
def Device.catchUp (d : Device) (o : SolveOut) : Device :=
  let d := d.advanceTo (d.heatAbs * 100000000 + 80000000)
  match d.slv.late with
  | [] => d
  | (m, b) :: t =>
    let e := { d with slv := { d.slv with late := t } }
    if ¬ d.running ∨ d.standby ∨ d.slv.prof = none ∨ d.rate m = 0 ∨ ¬ d.baseEpoch ∨ d.gns.alarm then e.lateLost
    else
      let e := e.update m b o false
      { e with slv := { e.slv with caught := e.slv.caught + 1, lateDone := holdAt 0xFFFF (e.slv.lateDone + 1) } }

/-! ## Publication (R91 to R93) -/

/-- The record of R91 as fields by offset. -/
def solRecord (m state nfix heat : Nat) (pos : List Int) (cov : List Int) (used : Nat) (vel : List Int) (age next : Nat) :
    Tab Nat :=
  let s (l : List Int) (i w : Nat) : Nat := ofSigned w (l.getD i 0)
  let sg (i : Nat) : Nat := holdAt 0xFFFF (cov.getD i 0).toNat
  [(0, m), (2, state), (3, nfix), (4, heat), (8, s pos 0 32), (12, s pos 1 32), (16, s pos 2 32), (20, sg 0), (22, sg 1),
   (24, sg 2), (26, s cov 3 8), (27, s cov 4 8), (28, s cov 5 8), (29, used), (30, ofSigned 16 (velHold (vel.getD 0 0))),
   (32, ofSigned 16 (velHold (vel.getD 1 0))), (34, ofSigned 16 (velHold (vel.getD 2 0))), (36, age), (38, next)]

/-- Six free values for the propagated sigmas and correlations (log entry 7). -/
def Device.drawCov (d : Device) : List Int × Device :=
  let v (i m : Nat) : Int := (Config.free (d.freeIx + i) % m : Nat)
  ([v 0 65536, v 1 65536, v 2 65536, v 3 255 - 127, v 4 255 - 127, v 5 255 - 127], { d with freeIx := d.freeIx + 6 })

/-- A due machine's record (R91, R92), and the device after it: its misses are counted (R90). -/
def Device.dueRecord (d : Device) (m : Nat) : Tab Nat × Device :=
  let f := d.filter m
  let sol := Tab.find d.slv.solved m
  let per := ratePeriod (d.rate m)
  let bits := 16 * b2n f.reset + 32 * b2n f.demoted
  let f' := { f with reset := false, misses := if sol.isSome then 0 else f.misses + 1 }
  let age := match f.upd with | some h => holdAt 0xFFFF (10 * (d.heatAbs - h)) | none => 0xFFFF
  let flags := f.fix + 4 * b2n sol.isNone + 8 * b2n (sol = some true) + bits
  let e := d.setFilter m f'
  if f.fix = 0 then
    (solRecord m flags 0 d.heat [] [0xFFFF, 0xFFFF, 0xFFFF, 0, 0, 0] 0 [] age per, e)
  else if sol.isSome then (solRecord m flags f.nfix d.heat f.pos f.cov f.used f.vel age per, e)
  else
    let (cov, e) := e.drawCov
    (solRecord m flags f.nfix d.heat (propagated f (sinceUpd f d.heatAbs)) cov f.used f.vel age per, e)

/-- A position report's record (R373); fix state none has its own values (R92). -/
def reportRecord (b : Bytes) : Tab Nat :=
  let fix := uAt b 1 1 % 4
  if fix = 0 then solRecord (uAt b 2 2) 0 0 (uAt b 4 4) [] [0xFFFF, 0xFFFF, 0xFFFF, 0, 0, 0] 0 [] 0 0
  else
    solRecord (uAt b 2 2) fix 0 (uAt b 4 4) [sAt b 8 4, sAt b 12 4, sAt b 16 4]
      [(uAt b 20 2 : Nat), (uAt b 22 2 : Nat), (uAt b 24 2 : Nat), 0, 0, 0] 0 [sAt b 26 2, sAt b 28 2, sAt b 30 2] 0 0

/-- Writes a record into the machine's fleet-table entry (R93). -/
def Device.setPos (d : Device) (m : Nat) (r : Tab Nat) : Device := d.setFes m (r.map fun e => (40 + e.1, e.2))

/-- Publishes a heat's records (R93): into the fleet table, and one packet to each partition's solution queue. -/
def Device.publish (d : Device) : Device :=
  if ¬ d.running ∨ d.standby ∨ d.slv.published = some d.heatAbs ∨ 78000000 < d.inHeat then d
  else
    let noBase := d.slv.prof.isSome && !d.baseEpoch
    let due := if d.slv.prof.isSome then d.machines.filter d.dueNow else []
    let step (a : List (Nat × Tab Nat) × Device) (m : Nat) : List (Nat × Tab Nat) × Device :=
      match a.2.dueRecord m with | (r, e) => (a.1 ++ [(m, r)], e)
    match due.foldl step ([], d) with
    | (rs, e) =>
      let solved (k : Nat) : Nat := (rs.filter fun x => recGet x.2 2 % 4 = k ∧ ¬ bitOf (recGet x.2 2) 2).length
      let pred := (rs.filter fun x => bitOf (recGet x.2 2) 2).length
      let rep := e.slv.reports.filter fun x => !due.contains x.1
      let all := sortBy (fun a b => a.1 ≤ b.1) (rs ++ rep.map fun x => (x.1, reportRecord x.2))
      let lost := if noBase then e.slv.frames.length else 0
      let e := e.forEach all fun x y => y.setPos x.1 x.2
      let e := e.forEach rep fun x y => y.setStationary x.1 (bitOf (uAt x.2 1 1) 2)
      let e := { e with slv := { e.slv with
          last := [solved 3, solved 2, solved 1, pred], published := some d.heatAbs, frames := [], reports := []
          discarded := holdAt 0xFFFF (e.slv.discarded + lost)
          noBase := if noBase then holdAt 0xFFFF (e.slv.noBase + 1) else e.slv.noBase } }
      e.forEach [0, 1, 2, 3] fun p y =>
        let mine := all.filter fun x => y.mayRead p x.1
        y.hwPush (16 * p + 3) (leBytes 1 0x32 ++ zeros 1 ++ leBytes 2 mine.length ++ leBytes 4 y.heat ++
          (mine.map fun x => layBytes layPos 40 x.2).flatten)

/-! ## The atlas (R94 to R98) -/

/-- The weight of a bin of a cell; a position outside the grid has 255. -/
def Device.weight (d : Device) (cell bin : Nat) : Nat := Tab.getD d.slv.atlas (cell * 1296 + bin) 255

/-- Sets the weight of a bin. -/
def Device.setWeight (d : Device) (cell bin w : Nat) : Device :=
  { d with slv := { d.slv with atlas := Tab.set 255 d.slv.atlas (cell * 1296 + bin) (w % 256) } }

/-- The evidence value of a normalised residual (R96). -/
def evidenceQ (e : Evidence) : Nat :=
  let den := if e.den = 0 then 1 else e.den
  if e.restart ∨ 8 * den ≤ e.num then 0
  else if e.num ≤ den then 255
  else 255 * (8 * den - e.num) / (7 * den)

/-- Blends a value into a weight (R96). -/
def blend (w q alpha : Nat) : Nat :=
  let dd : Int := ((q : Int) - w) * alpha
  ((w : Int) + (dd + 128) / 256).toNat

/-- Blends one evidence value into its bin. -/
def Device.blendIn (d : Device) (cell bin q : Nat) : Device :=
  d.setWeight cell bin (blend (d.weight cell bin) q (d.sp 33 1))

/-- The evidence of the base cell for one signal: the median of r over its fixed machines, if they are at least 3 in at
least 3 distinct cells other than the base cell (R97). -/
def baseEvidence (ev : List Evidence) (cell : Nat) (s : BaseSky) : Option Evidence :=
  let l := ev.filter fun e => e.key = sigSat s.code s.sat ∧ e.cell ≠ some cell ∧ e.cell ≠ none
  if l.length < 3 ∨ (nub (l.map (·.cell))).length < 3 then none
  else
    let le (a b : Evidence) : Bool := a.num * Nat.max 1 b.den ≤ b.num * Nat.max 1 a.den
    (sortBy le l)[(l.length - 1) / 2]?.map fun e =>
      { e with bin := Nat.min 17 s.eb * 72 + s.ab % 72, cell := some cell, restart := false }

/-- Writes the waiting evidence (R96, R97): in ascending machine number, then entry order; then the base cell's. -/
def Device.evidenceIn (d : Device) (sky : List BaseSky) (cell : Option Nat) : Device :=
  let ev := sortBy (fun (a b : Evidence) => a.mach ≤ b.mach) d.slv.evid
  let on := bitOf (d.sp 39 1) 0
  let d := { d with slv := { d.slv with evid := [], baseCell := cell } }
  let e := d.forEach (if on then ev else []) fun x y =>
    match x.cell with | some c => y.blendIn c x.bin (evidenceQ x) | none => y
  match cell with
  | some c =>
    if on ∧ bitOf (d.sp 39 1) 1 then
      e.forEach (sky.filterMap (baseEvidence ev c)) fun x y => y.blendIn c x.bin (evidenceQ x)
    else e
  | none => e

/-- Evidence still unwritten at the end of stroke 5 of the heat after is dropped and counted (R96). -/
def Device.evidenceDrop (d : Device) : Device :=
  if d.slv.evid = [] ∨ d.heatAbs ≤ d.slv.evidHeat then d
  else { d with slv := { d.slv with
      evid := [], evidLost := holdAt 0xFFFF (d.slv.evidLost + d.slv.evid.length) } }

/-- The bytes of a cell (R94). -/
def Device.cellBytes (d : Device) (cell : Nat) : Bytes :=
  (List.range 1296).map fun b => BitVec.ofNat 8 (d.weight cell b)

/-- Cells of the grid. -/
def Device.cells (d : Device) : Nat := d.sp 34 2 * d.sp 36 2

/-- ATLAS_READ (R98): the body is a u16 cell index (log entry 20). -/
def Device.atlasRead (c : Cmd) (d : Device) : Device :=
  if d.cells ≤ uAt c.body 0 2 then d.answer c stRejected [] else d.answer c stDone (d.cellBytes (uAt c.body 0 2))

/-- ATLAS_WRITE at the end of the heat (R98). -/
def Device.atlasWrite (c : Cmd) (d : Device) : Device :=
  let k := uAt c.body 0 2
  if d.cells ≤ k then d.answer c stRejected []
  else
    (d.forEach (List.range 1296) fun b e => e.setWeight k b (uAt c.body (2 + b) 1)).answer c stDone []

/-- ATLAS_CLEAR at the end of the heat (R98). -/
def Device.atlasClear (c : Cmd) (d : Device) : Device :=
  ({ d with slv := { d.slv with atlas := [] } }).answer c stDone []

/-- What the heat boundary does in the solver (R84, R89, R97, R99): profiles take effect, late frames that were not
applied are lost, and the base cell is copied to the GNSS engine. -/
def Device.solverBoundary (d : Device) : Device :=
  let d := d.slv.next.foldl (fun e b => e.profileIn b.2) { d with slv := { d.slv with next := [] } }
  let lost := d.slv.late.length
  let copy := match d.slv.baseCell with
    | some c => (d.slv.atlas.filter fun e => e.1 / 1296 = c).map fun e => (e.1 % 1296, e.2)
    | none => []
  { d with
      slv := { d.slv with
        late := [], caught := 0, frames := [], taken := [], solved := [], reports := []
        lateLost := holdAt 0xFFFF (d.slv.lateLost + lost)
        refMoved := d.slv.refPort ≠ d.gns.ref, refPort := d.gns.ref }
      gns := { d.gns with sky := copy } }

/-- The SOLVER_STATUS record (R100). -/
def Device.solverStatus (d : Device) : Bytes :=
  let v := d.slv
  leBytes 2 d.enrolled.length ++ (v.last.map (leBytes 2)).flatten ++ leBytes 2 v.discarded ++ leBytes 2 v.lateDone ++
    leBytes 2 v.lateLost ++ leBytes 2 v.postfit ++ leBytes 2 v.noBase ++ leBytes 2 v.demotions ++ leBytes 2 v.evidLost ++
    leBytes 2 ((d.loads none).foldl Nat.max 0) ++ leBytes 2 v.slots ++ leBytes 4 d.heat

/-- SOLVER_STATUS when it is taken (R100). -/
def Device.solverStatusCmd (c : Cmd) (d : Device) : Device :=
  if ¬ statusBodyOk c.body then d.answer c stRejected []
  else
    let e := d.answer c stDone d.solverStatus
    if uAt c.body 0 1 = 1 then
      { e with slv := { e.slv with
          discarded := 0, lateDone := 0, lateLost := 0, postfit := 0, noBase := 0, demotions := 0, evidLost := 0 } }
    else e

/-! ## Commands -/

/-- SOLVE_ENROL (R74). -/
def execSolveEnrol (h : HostPkt) (s : State) : Host.Outcome State Fault Refusal :=
  .next { s with dev := s.dev.hostCmd 0x0300 h (withLen 8 (ifHolder holdIt)) }

/-- SOLVER_PROFILE (R99). -/
def execSolverProfile (h : HostPkt) (s : State) : Host.Outcome State Fault Refusal :=
  .next { s with dev := s.dev.hostCmd 0x0301 h (withLen 64 (ifHolder holdIt)) }

/-- SOLVER_STATUS (R100). -/
def execSolverStatus (h : HostPkt) (s : State) : Host.Outcome State Fault Refusal :=
  .next { s with dev := s.dev.hostCmd 0x0302 h Device.solverStatusCmd }

/-- ATLAS_READ (R98). -/
def execAtlasRead (h : HostPkt) (s : State) : Host.Outcome State Fault Refusal :=
  .next { s with dev := s.dev.hostCmd 0x0303 h (withLen 2 (withRight rPlan Device.atlasRead)) }

/-- ATLAS_WRITE (R98). -/
def execAtlasWrite (h : HostPkt) (s : State) : Host.Outcome State Fault Refusal :=
  .next { s with dev := s.dev.hostCmd 0x0304 h (withLen 1298 (withRight rPlan (ifHolder holdIt))) }

/-- ATLAS_CLEAR (R98). -/
def execAtlasClear (h : HostPkt) (s : State) : Host.Outcome State Fault Refusal :=
  .next { s with dev := s.dev.hostCmd 0x0305 h (withLen 0 (withRight rPlan (ifHolder holdIt))) }

/-- OBSERVATION_FRAME (R83). -/
def execObservationFrame (m : MachPkt) (s : State) : Host.Outcome State Fault Refusal :=
  .next { s with dev := s.dev.obsFrame false m }

/-- POSITION_REPORT (R373). -/
def execPositionReport (m : MachPkt) (s : State) : Host.Outcome State Fault Refusal :=
  .next { s with dev := s.dev.posReport false m }

/-- CENTRAL_SOLVE (R85). -/
def execCentralSolve (m : Nat) (o : SolveOut) (s : State) : Host.Outcome State Fault Refusal :=
  .next { s with dev := s.dev.centralSolve m o }

/-- CATCH_UP_UPDATE (R84). -/
def execCatchUpUpdate (o : SolveOut) (s : State) : Host.Outcome State Fault Refusal :=
  .next { s with dev := s.dev.catchUp o }

/-- FILTER_RESET (R90): after PRED_LIMIT due heats without a measurement update. -/
def execFilterReset (m : Nat) (s : State) : Host.Outcome State Fault Refusal :=
  let d := s.dev
  let r : Device :=
    if d.slv.prof.isSome ∧ (Tab.find d.slv.filters m).isSome ∧ d.sp 42 1 ≤ (d.filter m).misses then
      d.setFilter m (filterReset (d.filter m))
    else d
  .next { s with dev := r }

/-- POSITIONS_PUBLISHED (R93). -/
def execPositionsPublished (s : State) : Host.Outcome State Fault Refusal := .next { s with dev := s.dev.publish }

/-- ATLAS_EVIDENCE (R96). -/
def execAtlasEvidence (sky : List BaseSky) (cell : Option Nat) (s : State) : Host.Outcome State Fault Refusal :=
  .next { s with dev := s.dev.evidenceIn sky cell }

end Sys2Proof.Machine
end

