-- ==== Sys2Proof/Machine/Reservations.lean ====
section
/-!
DEFINITION. Machine/Reservations.lean: the track graph, the conflict rule, holds, commits and abandons, the route
summary, the pause and the fold, and the route search of the stock planner (chapter 6).
-/
namespace Sys2Proof.Machine

/-! ## The graph (R121 to R125) -/

/-- The segment record of R122 without its head. -/
def laySeg : List (Nat × Nat) :=
  [(0, 2), (2, 2), (4, 4), (8, 2), (10, 1), (11, 1), (12, 2), (14, 1), (15, 1), (16, 2), (19, 1), (20, 2), (22, 2),
   (24, 2), (26, 2)]

/-- The junction record of R123. -/
def layJunc : List (Nat × Nat) := [(0, 4), (4, 4), (8, 4), (12, 1)]

/-- A segment's record; one that was never written is absent. -/
def Device.seg (d : Device) (s : Nat) : Tab Nat := Tab.getD d.rsv.segs s []

/-- A field of a segment's record. -/
def Device.sg (d : Device) (s off : Nat) : Nat := recGet (d.seg s) off

/-- Whether a segment is present (R121). -/
def Device.segHere (d : Device) (s : Nat) : Bool := d.sg s 4 ≠ 0

/-- A segment's cross segments (R122). -/
def Device.crossOf (d : Device) (s : Nat) : List Nat :=
  ([20, 22, 24, 26].take (d.sg s 19 % 8)).map fun o => d.sg s o

/-- The start junction of a segment in a direction. -/
def Device.startJ (d : Device) (s : Nat) (back : Bool) : Nat := if back then d.sg s 2 else d.sg s 0

/-- The end junction of a segment in a direction. -/
def Device.endJ (d : Device) (s : Nat) (back : Bool) : Nat := if back then d.sg s 0 else d.sg s 2

/-- A junction's position, mm. -/
def Device.juncPos (d : Device) (j : Nat) : Int × Int × Int :=
  let r := Tab.getD d.rsv.juncs j []
  (toSigned 32 (recGet r 0), toSigned 32 (recGet r 4), toSigned 32 (recGet r 8))

/-- Whether a segment holds any entry. -/
def Device.segBusy (d : Device) (s : Nat) : Bool := d.rsv.ents.any fun e => e.2.seg = s

/-- Whether a GRAPH_WRITE body is valid (R122 to R124). -/
def graphBodyOk (b : Bytes) : Bool :=
  let r := b.drop 4
  let n := uAt r 19 1
  uAt b 1 1 = 0 &&
  (if uAt b 0 1 = 0 then
      b.length = 36 && uAt r 0 2 < 32768 && uAt r 2 2 < 32768 && (uAt r 4 4 = 0 || 250 ≤ uAt r 4 4) &&
      (uAt r 4 4 = 0 || (1 ≤ uAt r 8 2 && uAt r 8 2 ≤ 20000)) && uAt r 10 1 < 4 && uAt r 11 1 < 16 && uAt r 18 1 = 0 &&
      n ≤ 4 && ([20, 22, 24, 26].drop n).all fun o => uAt r o 2 = 0
   else uAt b 0 1 = 1 && b.length = 20 && uAt b 2 2 < 32768 && uAt r 12 1 < 4 && tailZero r 13)

/-- The structural fields of a segment record (R124). -/
def structural (r : Tab Nat) : List Nat := [0, 2, 4, 19, 20, 22, 24, 26].map (recGet r)

/-- Clears GRAPH_OK after a structural write (R125). -/
def Device.graphTouched (d : Device) (c : Bool) : Device := if c then d.wbit RSV_STAT 0 false else d

/-- Tells the owners of machines with entries on a newly closed segment (R124). -/
def Device.segClosed (d : Device) (s : Nat) : Device :=
  let owners := nub ((d.rsv.ents.filter fun e => e.2.seg = s).map fun e => d.owner e.2.mach)
  d.forEach owners fun p e => e.event p 0x03 (e.eventBody s)

/-- GRAPH_WRITE at the heat boundary (R124). -/
def Device.graphWrite (c : Cmd) (d : Device) : Device :=
  let b := c.body
  let i := uAt b 2 2
  if ¬ d.right c.part rPlan then d.answer c stDenied []
  else if ¬ graphBodyOk b then d.answer c stRejected []
  else if uAt b 0 1 = 0 then
    let r := layRead laySeg (b.drop 4)
    let old := d.seg i
    let st := structural old ≠ structural r
    if st ∧ d.segBusy i then d.answer c stInUse []
    else
      let e := { d with rsv := { d.rsv with segs := Tab.put d.rsv.segs i r } }
      let e := e.graphTouched st
      let e := if bitOf (recGet r 11) 0 ∧ ¬ bitOf (recGet old 11) 0 then e.segClosed i else e
      e.answer c stDone []
  else
    let r := layRead layJunc (b.drop 4)
    let old := Tab.getD d.rsv.juncs i []
    let moved := (Tab.find d.rsv.juncs i).isNone || [0, 4, 8].any fun o => recGet old o ≠ recGet r o
    let busy := d.rsv.ents.any fun e => d.sg e.2.seg 0 = i || d.sg e.2.seg 2 = i
    if moved ∧ busy then d.answer c stInUse []
    else
      let e := { d with rsv := { d.rsv with juncs := Tab.put d.rsv.juncs i r } }
      (e.graphTouched moved).answer c stDone []

/-- The squared straight-line distance between a segment's junctions, mm squared. -/
def Device.straight2 (d : Device) (s : Nat) : Nat :=
  let a := d.juncPos (d.sg s 0)
  let b := d.juncPos (d.sg s 2)
  let x := a.1 - b.1
  let y := a.2.1 - b.2.1
  let z := a.2.2 - b.2.2
  (x * x + y * y + z * z).toNat

/-- Whether a present segment passes the checks of R125. -/
def Device.segOk (d : Device) (s : Nat) : Bool :=
  (Tab.find d.rsv.juncs (d.sg s 0)).isSome && (Tab.find d.rsv.juncs (d.sg s 2)).isSome && 250 ≤ d.sg s 4 &&
  isqrt (d.straight2 s) ≤ d.sg s 4 && !(d.crossOf s).contains s &&
  (d.crossOf s).all fun x => d.segHere x && (d.crossOf x).contains s

/-- The graph checks (R125); a graph that passes leaves RSV_GRAPH_ERR (log entry 21). -/
def Device.graphCheck (d : Device) : Device :=
  match (d.rsv.segs.filter fun e => recGet e.2 4 ≠ 0).find? fun e => !d.segOk e.1 with
  | none => d.wbit RSV_STAT 0 true
  | some e => ((d.wbit RSV_STAT 0 false).wrN RSV_GRAPH_ERR e.1).raise RSV_INT_STAT 0

/-- GRAPH_CHECK at the heat boundary (R125, R379). -/
def Device.graphCheckCmd (c : Cmd) (d : Device) : Device :=
  if ¬ d.right c.part rPlan then d.answer c stDenied []
  else
    let e := d.graphCheck
    e.answer c stDone (leBytes 1 (e.fld RSV_STAT 0 1) ++ zeros 1 ++ leBytes 2 (e.fld RSV_GRAPH_ERR 0 16))

/-! ## Store time and the conflict rule (R126 to R129) -/

/-- The signed difference of two 24-bit times (R126). -/
def diff24 (a b : Nat) : Int := toSigned 24 (a + 2 ^ 24 - b % 2 ^ 24)

/-- The store time T at a heat and stroke (R126). -/
def Device.storeT (d : Device) (heat stroke : Nat) : Nat :=
  ofSigned 24 (10 * ((heat : Int) - d.rdN RSV_EPOCH) + stroke)

/-- The store time now. -/
def Device.storeNow (d : Device) : Nat := d.storeT d.heat (d.inHeat / 10000000)

/-- PAUSED. -/
def Device.rsvPaused (d : Device) : Bool := d.bit RSV_STAT 1

/-- FOLDING. -/
def Device.folding (d : Device) : Bool := d.bit RSV_STAT 2

/-- An endpoint as it is read: while PAUSED is set, one at or after the base is read with the offset (R144). -/
def Device.shown (d : Device) (x : Nat) : Nat :=
  if d.rsvPaused ∧ 0 ≤ diff24 x (d.rdN RSV_PAUSE_BASE) then (x + d.rdN RSV_PAUSE_OFS) % 2 ^ 24 else x

/-- An entry with its endpoints as they are read. -/
def Device.asRead (d : Device) (e : RsvEntry) : RsvEntry := { e with enter := d.shown e.enter, exit := d.shown e.exit }

/-- The larger guard of two segments (R129), in units. -/
def Device.guard (d : Device) (s t : Nat) : Nat := Nat.max (d.sg s 15) (d.sg t 15)

/-- Whether two segments are the same or cross (R129). -/
def Device.meets (d : Device) (s t : Nat) : Bool := s = t || (d.crossOf s).contains t || (d.crossOf t).contains s

/-- The FOLLOW exception of R129 for two entries, endpoints as read. -/
def Device.follows (d : Device) (x y : RsvEntry) : Bool :=
  let h : Int := d.sg x.seg 16
  x.seg = y.seg && bitOf (d.sg x.seg 11) 2 && x.cls = 1 && y.cls = 1 && x.back = y.back &&
    ((h ≤ diff24 y.enter x.enter && h ≤ diff24 y.exit x.exit) || (h ≤ diff24 x.enter y.enter && h ≤ diff24 x.exit y.exit))

/-- Whether two entries conflict (R129), endpoints as read. -/
def Device.conflict (d : Device) (x y : RsvEntry) : Bool :=
  let g : Int := d.guard x.seg y.seg
  x.mach ≠ y.mach && d.meets x.seg y.seg && diff24 x.enter y.exit < g && diff24 y.enter x.exit < g && !d.follows x y

/-- The entries of a segment in enter order (R127). -/
def Device.chain (d : Device) (s : Nat) : List (Nat × RsvEntry) :=
  let now := d.storeNow
  sortBy (fun a b => diff24 a.2.enter now < diff24 b.2.enter now ||
      (diff24 a.2.enter now = diff24 b.2.enter now && a.1 ≤ b.1))
    ((d.rsv.ents.filter fun e => e.2.seg = s).map fun e => (e.1, d.asRead e.2))

/-- The entries a query walks: the segment's chain, then its cross segments' (R130). -/
def Device.walk (d : Device) (s : Nat) : List (Nat × RsvEntry) := d.chain s ++ (d.crossOf s).flatMap d.chain

/-- The R130 check: the first conflicting entry, and the device with the visits counted. -/
def Device.queryStore (d : Device) (c : RsvEntry) : Option (Nat × RsvEntry) × Device :=
  let w := d.walk c.seg
  let hit := w.find? fun e => d.conflict c e.2
  let k := match hit with | some _ => (w.takeWhile fun e => !d.conflict c e.2).length + 1 | none => w.length
  (hit, { d with rsv := { d.rsv with visits := d.rsv.visits + k } })

/-! ## A machine's entries and its route summary (R142) -/

/-- A machine's entries in route order; `held` picks the held or the committed ones. Endpoints as read. -/
def Device.route (d : Device) (m : Nat) (held : Bool) : List (Nat × RsvEntry) :=
  let now := d.storeNow
  sortBy (fun a b => diff24 a.2.enter now ≤ diff24 b.2.enter now)
    ((d.rsv.ents.filter fun e => e.2.mach = m ∧ e.2.held = held).map fun e => (e.1, d.asRead e.2))

/-- A machine's current entry. -/
def Device.current (d : Device) (m : Nat) : Option (Nat × RsvEntry) :=
  match Tab.find d.rsv.cur m with
  | some i => (Tab.find d.rsv.ents i).map fun e => (i, d.asRead e)
  | none => none

/-- The committed entries after the current one. -/
def Device.afterCur (d : Device) (m : Nat) : List (Nat × RsvEntry) :=
  match Tab.find d.rsv.cur m with
  | some i => ((d.route m false).dropWhile fun e => e.1 ≠ i).drop 1
  | none => d.route m false

/-- The route state of R142. -/
def Device.routeState (d : Device) (m : Nat) : Nat :=
  let hold := (Tab.find d.rsv.holds m).isSome
  match d.current m with
  | none => if hold then (if d.route m false = [] then 3 else 2) else 0
  | some (_, c) =>
    if hold then 2
    else if d.rsv.blocked.contains m ∧ d.afterCur m = [] then 5
    else if d.afterCur m = [] ∧ c.cls = 2 then 4
    else 1

/-- Writes what the store owns of a machine's route summary (R142). -/
def Device.summary (d : Device) (m : Nat) : Device :=
  if d.mstate m = 0 then d
  else
    let com := d.route m false
    let hl := d.route m true
    let hold := Tab.find d.rsv.holds m
    let cur := d.current m
    d.setFes m
      [(144, d.routeState m), (146, match hold with | some h => h.id | none => d.fe m 146),
       (148, match cur with | some c => c.1 | none => 0),
       (152, match com.getLast? with | some e => e.1 | none => 0), (156, match hl with | e :: _ => e.1 | [] => 0),
       (160, com.length), (162, hl.length),
       (164, match hold with | some h => (h.made + 2) % 2 ^ 32 | none => d.fe m 164),
       (168, match cur with | some c => c.2.seg | none => 0xFFFF),
       (170, match d.afterCur m with | e :: _ => e.2.seg | [] => 0xFFFF),
       (176, match cur with | some c => c.2.exit | none => 0)]

/-- Notes the highest entry count (RSV_PEAK), for the warden and for each window's own view (R381). -/
def Device.peak (d : Device) (r : Reg) (v : Nat) : Device :=
  let d := if d.rdN r < v then d.wrN r v else d
  d.forEach [1, 2, 3, 4] fun w e =>
    let k := w * 0x1000000 + blkNum r.blk * 0x10000 + r.off
    let old := (Tab.getD e.hst.views k 0).toNat
    if old < v then { e with hst := { e.hst with views := Tab.put e.hst.views k (BitVec.ofNat 32 v) } } else e

/-- The lowest free index from `n` in a table with rising keys (R131). -/
def lowestFree {α : Type} : Tab α → Nat → Nat
  | [], n => n
  | (k, _) :: t, n => if k = n then lowestFree t (n + 1) else n

/-- Removes entries. -/
def Device.freeEntries (d : Device) (l : List Nat) : Device :=
  { d with rsv := { d.rsv with
      ents := d.rsv.ents.filter fun e => !l.contains e.1
      cur := d.rsv.cur.filter fun e => !l.contains e.2 } }

/-- Abandons a machine's hold, if it has one. -/
def Device.dropHold (d : Device) (m : Nat) : Device :=
  match Tab.find d.rsv.holds m with
  | none => d
  | some h =>
    let e := d.freeEntries h.ix
    ({ e with rsv := { e.rsv with holds := Tab.del e.rsv.holds m } }).summary m

/-! ## Holds, commits and abandons (R131 to R134) -/

/-- The point of a published position of a machine, mm; `none` where it has none (fix state none, or no record). -/
def Device.published (d : Device) (m : Nat) : Option (Int × Int × Int) :=
  if bitsOf (d.fe m 42) 0 2 = 0 then none
  else some (toSigned 32 (d.fe m 48), toSigned 32 (d.fe m 52), toSigned 32 (d.fe m 56))

/-- A point's place along a segment from its from-junction: the dot product, the squared length, and the squared distance
of the point from the from-junction. -/
def Device.along (d : Device) (s : Nat) (p : Int × Int × Int) : Int × Int × Int :=
  let a := d.juncPos (d.sg s 0)
  let b := d.juncPos (d.sg s 2)
  let u := (b.1 - a.1, b.2.1 - a.2.1, b.2.2 - a.2.2)
  let v := (p.1 - a.1, p.2.1 - a.2.1, p.2.2 - a.2.2)
  (u.1 * v.1 + u.2.1 * v.2.1 + u.2.2 * v.2.2, u.1 * u.1 + u.2.1 * u.2.1 + u.2.2 * u.2.2,
    v.1 * v.1 + v.2.1 * v.2.1 + v.2.2 * v.2.2)

/-- The squared distance of a point from a segment's straight line, as a fraction (R131). -/
def Device.distSeg (d : Device) (s : Nat) (p : Int × Int × Int) : Frac :=
  let (dot, l2, a2) := d.along s p
  if dot ≤ 0 ∨ l2 ≤ 0 then ⟨a2, 1⟩
  else if l2 ≤ dot then ⟨a2 - 2 * dot + l2, 1⟩
  else ⟨a2 * l2 - dot * dot, l2.toNat⟩

/-- The segment a machine stands on (R131): the nearest present one, the lowest index on a tie. -/
def Device.standsOn (d : Device) (m : Nat) : Option Nat :=
  match d.published m with
  | none => none
  | some p =>
    (d.rsv.segs.filter fun e => recGet e.2 4 ≠ 0).foldl (fun o e =>
      match o with
      | none => some e.1
      | some s => if Frac.le (d.distSeg s p) (d.distSeg e.1 p) then some s else some e.1) none

/-- Whether an entry is one the graph and the clock allow (R126, R127, R131): a present segment that is not CLOSED and is
run forward if ONEWAY, a class in use, a whole unit at least, both ends in range. -/
def Device.entryOk (d : Device) (c : RsvEntry) : Bool :=
  let now := d.storeNow
  let inR (x : Nat) : Bool := -(2 ^ 22 : Int) ≤ diff24 x now && diff24 x now ≤ 2 ^ 23 - 1
  d.segHere c.seg && !bitOf (d.sg c.seg 11) 0 && (!bitOf (d.sg c.seg 11) 1 || !c.back) && c.cls ≤ 2 &&
    1 ≤ diff24 c.exit c.enter && inR c.enter && inR c.exit

/-- Whether the first entry of a hold joins the machine's route (R131): `none` where it does not, else the splice entry. -/
def Device.spliceOk (d : Device) (c : RsvEntry) : Option (Option Nat) :=
  let com := d.route c.mach false
  if com = [] then (if d.standsOn c.mach = some c.seg then some none else none)
  else
    let from_ : List (Nat × RsvEntry) :=
      match Tab.find d.rsv.cur c.mach with | some i => com.dropWhile fun e => e.1 ≠ i | none => com
    match from_.find? fun e => e.2.exit = c.enter ∧ d.endJ e.2.seg e.2.back = d.startJ c.seg c.back with
    | some e => some (some e.1)
    | none => none

/-- Whether an entry continues a held one (R128). A DWELL that lacks DWELL_OK may stand only first or last on a route
(R127). -/
def Device.continues (d : Device) (last c : RsvEntry) (firstOfRoute : Bool) : Bool :=
  last.exit = c.enter && d.endJ last.seg last.back = d.startJ c.seg c.back &&
    (last.cls ≠ 2 || bitOf (d.sg last.seg 11) 3 || firstOfRoute)

/-- What a hold operation is answered. -/
structure HoldAns where
  /-- The status. -/
  st : Nat
  /-- The hold ID. -/
  id : Nat
  /-- The entry written, or the conflicting one. -/
  ix : Nat
  /-- The conflicting entry. -/
  with_ : Option RsvEntry
  deriving DecidableEq, Repr

/-- Writes one held entry at the lowest free index. -/
def Device.writeHeld (d : Device) (c : RsvEntry) (h : Hold) : Nat × Device :=
  let i := lowestFree d.rsv.ents 0
  let e := { d with rsv := { d.rsv with
      ents := Tab.put d.rsv.ents i { c with held := true }
      holds := Tab.put d.rsv.holds c.mach { h with ix := h.ix ++ [i] } } }
  (i, ((e.peak RSV_PEAK e.rsv.ents.length).summary c.mach))

/-- Places one entry of a hold (R131, R278): `new` begins a hold, which abandons the machine's previous one first. A hold
that fails leaves everything as it was, but for the visits and the NO_SPACE bit. -/
def Device.holdOne (d : Device) (c : RsvEntry) (id : Nat) (new : Bool) : HoldAns × Device :=
  let no (st : Nat) (e : Device) : HoldAns × Device := (⟨st, 0, 0, none⟩, e)
  if ¬ d.bit RSV_CTRL 0 ∨ d.rsvPaused then no stBusy d
  else if ¬ d.bit RSV_STAT 0 ∨ ¬ d.entryOk c ∨ 4096 ≤ c.mach then no stRejected d
  else
    let base := if new then d.dropHold c.mach else d
    let plan : Option Hold :=
      if new then
        (base.spliceOk c).map fun onto =>
          { id := (d.rsv.lastId + 1) % 65536, splice := c.enter, onto := onto, made := d.heatAbs, ix := [] }
      else
        match Tab.find d.rsv.holds c.mach with
        | some h =>
          if h.id ≠ id then none
          else
            match h.ix.getLast? with
            | some i =>
              match Tab.find d.rsv.ents i with
              | some l => if d.continues l c (h.onto.isNone ∧ h.ix.length = 1) then some h else none
              | none => none
            | none => none
        | none => none
    match plan with
    | none => no stRejected d
    | some h =>
      match base.queryStore c with
      | (some (i, y), e) =>
        (⟨stConflict, 0, i, some y⟩, { d with rsv := { d.rsv with visits := e.rsv.visits } })
      | (none, e) =>
        if 1048576 ≤ e.rsv.ents.length then
          no stNoCapacity ({ d with rsv := { d.rsv with visits := e.rsv.visits } }.raise RSV_INT_STAT 1)
        else
          let e := if new then { e with rsv := { e.rsv with lastId := h.id } } else e
          let (i, e) := e.writeHeld c h
          (⟨stDone, h.id, i, none⟩, e)

/-- Places a whole route as one hold (R131): all of it, or nothing. -/
def Device.holdRoute (d : Device) (l : List RsvEntry) : HoldAns × Device :=
  match l with
  | [] => (⟨stRejected, 0, 0, none⟩, d)
  | c :: t =>
    match d.holdOne c 0 true with
    | (a, e) =>
      if a.st ≠ stDone then (a, e)
      else
        let r := t.foldl (fun (x : HoldAns × Device) y =>
          if x.1.st ≠ stDone then x else match x.2.holdOne y a.id false with | (b, f) => (b, f)) (a, e)
        if r.1.st = stDone then (a, r.2) else (r.1, d)

/-- The commit of R133: one store operation. -/
def Device.commitHold (d : Device) (m id : Nat) : Nat × Device :=
  if ¬ d.bit RSV_CTRL 0 then (stBusy, d)
  else
    match Tab.find d.rsv.holds m with
    | none => (if Tab.find d.rsv.done m = some id then stLate else stNotFound, d)
    | some h =>
      if h.id ≠ id then (if Tab.find d.rsv.done m = some id then stLate else stNotFound, d)
      else
        let gone := ((d.route m false).filter fun e => 0 ≤ diff24 e.2.enter h.splice).map (·.1)
        let e := d.freeEntries gone
        let ents := Tab.mapV e.rsv.ents fun i x =>
          if h.ix.contains i then { x with held := false }
          else if h.onto = some i ∧ 0 < diff24 (d.shown x.exit) h.splice then { x with exit := h.splice }
          else x
        let first := (h.ix.head?).getD 0
        let cur := if (Tab.find e.rsv.cur m).isSome then e.rsv.cur else Tab.put e.rsv.cur m first
        let e := { e with rsv := { e.rsv with
            ents := ents, holds := Tab.del e.rsv.holds m, done := Tab.put e.rsv.done m id, cur := cur
            blocked := e.rsv.blocked.filter fun x => x ≠ m } }
        (stDone, e.summary m)

/-- The abandon of R134. -/
def Device.abandonHold (d : Device) (m id : Nat) : Nat × Device :=
  if ¬ d.bit RSV_CTRL 0 then (stBusy, d)
  else
    match Tab.find d.rsv.holds m with
    | some h =>
      if h.id = id then (stAborted, d.dropHold m)
      else (if Tab.find d.rsv.done m = some id then stLate else stNotFound, d)
    | none => (if Tab.find d.rsv.done m = some id then stLate else stNotFound, d)

/-- ROUTE_COMMIT and ROUTE_ABANDON at the heat boundary: a u16 machine number and a u16 hold ID (R141). -/
def Device.routeSettle (commit : Bool) (c : Cmd) (d : Device) : Device :=
  let m := uAt c.body 0 2
  if ¬ d.right c.part rPlan then d.answer c stDenied []
  else if 4096 ≤ m then d.answer c stRejected []
  else if ¬ d.owns c.part m then d.answer c stDenied []
  else
    let (st, e) := if commit then d.commitHold m (uAt c.body 2 2) else d.abandonHold m (uAt c.body 2 2)
    e.answer c st []

/-- A machine enters LEAVING, or its node record is freed (R138, R107): its hold is abandoned, and every entry but the
current one is freed. -/
def Device.rsvLeave (d : Device) (m : Nat) : Device :=
  let e := d.dropHold m
  let keep := Tab.find e.rsv.cur m
  (e.freeEntries ((e.route m false).filterMap fun x => if some x.1 = keep then none else some x.1)).summary m

/-- A machine becomes FREE: its current entry is freed (R138). -/
def Device.rsvFree (d : Device) (m : Nat) : Device :=
  let e := d.dropHold m
  let e := e.freeEntries ((e.route m false).map (·.1))
  { e with rsv := { e.rsv with done := Tab.del e.rsv.done m, blocked := e.rsv.blocked.filter fun x => x ≠ m } }

/-- A change of RSV_CTRL.ENABLE from 1 to 0 frees every entry (R147). -/
def Device.rsvOff (d : Device) : Device :=
  let ms := nub (d.rsv.ents.map fun e => e.2.mach)
  let e := { d with rsv := { d.rsv with ents := [], holds := [], cur := [] } }
  e.forEach ms fun m x => x.summary m

/-- A write of RSV_CTRL (R147): ENABLE, the command GRAPH_CHECK, and LOCK, which only sets. -/
def Device.rsvCtrl (d : Device) (v : Nat) : Device :=
  let was := d.bit RSV_CTRL 0
  let d := (d.wbit RSV_CTRL 0 (bitOf v 0)).raiseIf (bitOf v 2) RSV_CTRL 2
  let d := if was ∧ ¬ bitOf v 0 then d.rsvOff else d
  if bitOf v 1 then d.graphCheck else d

/-! ## Stroke starts: positions, frees, overstays, predecessors, the pause (R135 to R137, R143) -/

/-- Progress of a machine along an entry, mm from the entry's start end, and whether it has passed the far end. -/
def Device.progress (d : Device) (c : RsvEntry) (p : Int × Int × Int) : Nat × Bool :=
  let (dot, l2, _) := d.along c.seg p
  let run := if c.back then l2 - dot else dot
  let len := isqrt l2.toNat
  if run ≤ 0 ∨ len = 0 then (0, false)
  else (Nat.min (d.sg c.seg 4) (run.toNat / len), l2 ≤ run)

/-- Moves a machine's current entry on along its route as its published position passes segment ends (log entry 21), and
writes the position fields of the route summary (R142). -/
def Device.routePos (d : Device) (m : Nat) : Device :=
  match d.current m, d.published m with
  | some _, some p =>
    let go (e : Device) : Device :=
      match e.current m, e.afterCur m with
      | some (_, c), n :: _ =>
        if (e.progress c p).2 then { e with rsv := { e.rsv with cur := Tab.put e.rsv.cur m n.1 } } else e
      | _, _ => e
    let e := (List.range 8).foldl (fun x _ => go x) d
    let e := e.summary m
    match e.current m with
    | some (_, c) => e.setFe m 180 (e.progress c p).1
    | none => e
  | _, _ => d

/-- Whether the entry would conflict with any other (R129). -/
def Device.anyConflict (d : Device) (c : RsvEntry) : Bool := (d.walk c.seg).any fun e => d.conflict c e.2

/-- A stored endpoint that is read as `t` (R144). -/
def Device.stored (d : Device) (t : Nat) : Nat :=
  if d.rsvPaused ∧ 0 ≤ diff24 (ofSigned 24 ((t : Int) - d.rdN RSV_PAUSE_OFS)) (d.rdN RSV_PAUSE_BASE) then
    ofSigned 24 ((t : Int) - d.rdN RSV_PAUSE_OFS)
  else t

/-- The current entry of a route's end covers now: its exit is set to now + 1 at each stroke start, where that does not
conflict (R135). -/
def Device.holdGround (d : Device) (m : Nat) : Device :=
  match d.current m with
  | some (i, c) =>
    let t := (d.storeNow + 1) % 2 ^ 24
    if d.afterCur m = [] ∧ 0 ≤ diff24 d.storeNow c.exit ∧ ¬ d.anyConflict { c with exit := t } then
      { d with rsv := { d.rsv with
          ents := Tab.mapV d.rsv.ents fun k x => if k = i then { x with exit := d.stored t } else x } }
    else d
  | none => d

/-- Frees the committed entries that lie before a machine's current entry and whose exit and guard are past (R135). -/
def Device.freePassed (d : Device) (m : Nat) : Device :=
  match Tab.find d.rsv.cur m with
  | none => d
  | some i =>
    let before := (d.route m false).takeWhile fun e => e.1 ≠ i
    let gone := before.filter fun e =>
      let g := (d.crossOf e.2.seg).foldl (fun a s => Nat.max a (d.sg s 15)) (d.sg e.2.seg 15)
      (g : Int) ≤ diff24 d.storeNow e.2.exit
    d.freeEntries (gone.map (·.1))

/-- Whether a machine overstays (R136). -/
def Device.overstays (d : Device) (m : Nat) : Bool :=
  match d.current m with | some (_, c) => 0 ≤ diff24 d.storeNow c.exit | none => false

/-- Marks an overstay, and its end (R136). -/
def Device.overstay (d : Device) (m : Nat) : Device :=
  let was := bitOf (d.fe m 145) 0
  let now := d.overstays m
  let d := if was = now then d else d.setFe m 145 (setBits (d.fe m 145) 0 1 (b2n now))
  if now ∧ ¬ was then
    { d.raise RSV_INT_STAT 3 with rsv := { d.rsv with overs := d.rsv.overs ++ [m] } }
  else d

/-- The exit of an entry for R137: one whose holder overstays is read as at least now + 1. -/
def Device.exitFor (d : Device) (e : RsvEntry) : Nat :=
  let t := (d.storeNow + 1) % 2 ^ 24
  if d.overstays e.mach ∧ diff24 e.exit t < 0 then t else e.exit

/-- The reserved predecessor of a machine (R137), 0xFFFF for none. -/
def Device.predecessor (d : Device) (m : Nat) : Nat :=
  match d.current m with
  | none => 0xFFFF
  | some (i, c) =>
    let lead := ((d.chain c.seg).takeWhile fun e => e.1 ≠ i).getLast?
    let leader := match lead with
      | some (k, y) =>
        if c.cls = 1 ∧ y.cls = 1 ∧ y.back = c.back ∧ y.mach ≠ m ∧ Tab.find d.rsv.cur y.mach = some k then some y.mach
        else none
      | none => none
    match leader, d.afterCur m with
    | some x, _ => x
    | none, n :: _ =>
      let cand := d.rsv.cur.filterMap fun q =>
        if q.1 = m then none
        else
          match d.current q.1 with
          | some (_, y) =>
            if d.meets n.2.seg y.seg ∧ 0 < diff24 (d.exitFor y) n.2.enter + d.guard n.2.seg y.seg then
              some (q.1, d.exitFor y)
            else none
          | none => none
      match cand.foldl (fun (o : Option (Nat × Nat)) q =>
          match o with | none => some q | some b => if 0 < diff24 q.2 b.2 then some q else some b) none with
      | some q => q.1
      | none => 0xFFFF
    | none, [] => 0xFFFF

/-- The pause of a fleet stop at a stroke start (R143). -/
def Device.pauseTick (d : Device) : Device :=
  if ¬ stopState d.stp ∨ d.folding ∨ ¬ d.bit RSV_CTRL 0 then d
  else if ¬ d.rsvPaused then
    let e := (d.wrN RSV_PAUSE_BASE d.storeNow).wrN RSV_PAUSE_OFS 0
    let e := e.wbit RSV_STAT 1 true
    let e := { e with rsv := { e.rsv with sat := false } }
    e.forEach (e.rsv.holds.map (·.1)) fun m x => (x.dropHold m).event (x.owner m) 0x05 (x.eventBody m)
  else if d.rsv.sat then d
  else d.wrN RSV_PAUSE_OFS ((d.rdN RSV_PAUSE_OFS + 1) % 2 ^ 24)

/-- What a stroke start does in the store, in the order pause, positions, frees, overstays, predecessors; the store of a
standby follows the mirror (R125). -/
def Device.rsvStroke (d : Device) : Device :=
  let d := d.pauseTick
  if ¬ d.bit RSV_CTRL 0 ∨ d.standby then d
  else
    let ms := d.rsv.cur.map (·.1)
    let d := d.forEach ms fun m e => ((e.routePos m).holdGround m).freePassed m
    let d := d.forEach ms fun m e => (e.overstay m).summary m
    d.forEach d.machines fun m e =>
      let p := e.predecessor m
      if e.fe m 174 = p then e else e.setFe m 174 p

/-- The fold ends (R145): every stored endpoint at or after the base has the offset added, and PAUSED clears. -/
def Device.foldEnd (d : Device) : Device :=
  let base := d.rdN RSV_PAUSE_BASE
  let ofs := d.rdN RSV_PAUSE_OFS
  let mv (x : Nat) : Nat := if 0 ≤ diff24 x base then (x + ofs) % 2 ^ 24 else x
  let e := { d with rsv := { d.rsv with
      ents := Tab.mapV d.rsv.ents fun _ x => { x with enter := mv x.enter, exit := mv x.exit } } }
  let e := ((e.wbit RSV_STAT 1 false).wbit RSV_STAT 2 false).raise RSV_INT_STAT 4
  e.forEach (e.rsv.cur.map (·.1)) fun m x => x.summary m

/-- The pause limit is reached (R146): every entry but each machine's current one is freed, and that one becomes a DWELL
that ends its route. -/
def Device.pauseSat (d : Device) : Device :=
  let keep := d.rsv.cur.map (·.2)
  let gone := (d.rsv.ents.filter fun e => !keep.contains e.1).map (·.1)
  let e := d.freeEntries gone
  let e := { e with rsv := { e.rsv with
      holds := [], sat := true, ents := Tab.mapV e.rsv.ents fun _ x => { x with cls := 2 } } }
  (e.raise RSV_INT_STAT 5).forEach (e.rsv.cur.map (·.1)) fun m x => x.summary m

/-- The offset has reached the pause limit (R146). -/
def Device.pauseLimit (d : Device) : Device :=
  if d.rsvPaused ∧ ¬ d.rsv.sat ∧ d.fld RSV_CFG 0 8 * 6000 ≤ d.rdN RSV_PAUSE_OFS then d.pauseSat else d

/-- At the boundary that starts the second heat after it was made, a hold's entries become free and the owner is told
(R132); the store of a standby follows the mirror (R125). -/
def Device.holdExpire (d : Device) (m : Nat) : Device :=
  match Tab.find d.rsv.holds m with
  | some h =>
    if h.made + 2 ≤ d.heatAbs ∧ ¬ d.standby then
      ((d.dropHold m).raise RSV_INT_STAT 2).event (d.owner m) 0x04 (d.eventBody m)
    else d
  | none => d

/-! ## The route search (R140) -/

/-- A state of the search: the junction reached, the time (units after the splice), the entries so far, newest first. -/
structure Reach where
  /-- The junction. -/
  j : Nat
  /-- The exit of the last entry, units after now. -/
  t : Int
  /-- The entries, newest first. -/
  path : List RsvEntry
  deriving DecidableEq, Repr

/-- What a search is asked for. -/
structure Goal where
  /-- The machine. -/
  mach : Nat
  /-- The destination junction. -/
  dest : Nat
  /-- PARK: the last entry is a DWELL. -/
  park : Bool
  /-- The speed cap, mm/s, 0 for none. -/
  cap : Nat
  /-- Earliest departure, units after now. -/
  dep : Int
  /-- The latest arrival, units after now, if one is given. -/
  by_ : Option Int
  deriving DecidableEq, Repr

/-- Units a traversal takes: ceil(length / (v × 10 ms)) (R140). -/
def Device.units (d : Device) (s cap : Nat) : Nat :=
  let v := if cap = 0 then d.sg s 8 else Nat.min (d.sg s 8) cap
  ceilDiv (d.sg s 4 * 100) v

/-- The 24-bit time at some units after now. -/
def Device.atT (d : Device) (t : Int) : Nat := ofSigned 24 ((d.storeNow : Int) + t)

/-- The times at which another machine's entry stops barring a segment, units after now (R129). -/
def Device.freeings (d : Device) (m s u : Nat) : List Int :=
  let others := (d.walk s).filter fun e => e.2.mach ≠ m
  let h : Int := d.sg s 16
  let outs := others.map fun e => diff24 e.2.exit d.storeNow + (d.guard s e.2.seg : Int)
  let after_ := (others.filter fun e => e.2.cls = 1 ∧ e.2.seg = s).map fun e =>
    let a := diff24 e.2.enter d.storeNow + h
    let b := diff24 e.2.exit d.storeNow + h - (u : Int)
    if a < b then b else a
  outs ++ after_

/-- The segments that leave a junction, with their direction (R131: present, not CLOSED, forward if ONEWAY). -/
def Device.leaving (d : Device) (j : Nat) : List (Nat × Bool) :=
  d.rsv.segs.flatMap fun e =>
    let r := e.2
    if recGet r 4 = 0 ∨ bitOf (recGet r 11) 0 then []
    else
      (if recGet r 0 = j then [(e.1, false)] else []) ++
      (if recGet r 2 = j ∧ ¬ bitOf (recGet r 11) 1 then [(e.1, true)] else [])

/-- The ways a machine may run a segment from a time: straight through, or waiting on it until a later segment frees,
where it may DWELL there. `first` says that the segment is the route's starting segment. -/
def Device.runs (d : Device) (g : Goal) (s : Nat) (back : Bool) (t : Int) (first : Bool) : List RsvEntry :=
  let u := d.units s g.cap
  let out := d.endJ s back
  let least : Int := if first ∧ t < g.dep then g.dep + u else t + u
  let dwellOk := bitOf (d.sg s 11) 3 || first
  let ends := (d.leaving out).flatMap fun e => d.freeings g.mach e.1 (d.units e.1 g.cap)
  let waits := if dwellOk then nub (ends.filter fun x => least < x) else []
  let mk (x : Int) : RsvEntry :=
    let last := g.park && out = g.dest
    { seg := s, mach := g.mach, cls := if last || t + u < x then 2 else if bitOf (d.sg s 11) 2 then 1 else 0,
      enter := d.atT t, exit := d.atT x, back := back, held := true }
  let all := (if least = t + u ∨ dwellOk then [least] else []) ++ waits
  (all.map mk).filter fun c => d.entryOk c && !d.anyConflict c

/-- Puts a state into the frontier: by arrival time, then by fewest entries. -/
def reachLe (a b : Reach) : Bool := a.t < b.t || (a.t = b.t && a.path.length ≤ b.path.length)

/-- The search, within `fuel` expansions (R140). -/
def Device.searchGo (d : Device) (g : Goal) : Nat → List Reach → List (Nat × Int) → Option Reach
  | 0, _, _ => none
  | _ + 1, [], _ => none
  | k + 1, r :: rest, seen =>
    if r.j = g.dest ∧ r.path ≠ [] then
      match g.by_ with
      | some b => if r.t ≤ b then some r else none
      | none => some r
    else if seen.contains (r.j, r.t) then d.searchGo g k rest seen
    else
      let new := (d.leaving r.j).flatMap fun e =>
        (d.runs g e.1 e.2 r.t (r.path = [])).map fun c =>
          ({ j := d.endJ e.1 e.2, t := diff24 c.exit d.storeNow, path := c :: r.path } : Reach)
      d.searchGo g k (new.foldl (fun l x => insertBy reachLe x l) rest) ((r.j, r.t) :: seen)

/-- The states a search starts from (R131): the end of the machine's current entry, or its standing segment run either
way. -/
def Device.starts (d : Device) (g : Goal) : List Reach :=
  match d.current g.mach with
  | some (_, c) => [⟨d.endJ c.seg c.back, diff24 c.exit d.storeNow, []⟩]
  | none =>
    match d.standsOn g.mach with
    | none => []
    | some s =>
      let dirs := if bitOf (d.sg s 11) 1 then [false] else [false, true]
      dirs.flatMap fun b => (d.runs g s b 0 true).map fun c =>
        { j := d.endJ s b, t := diff24 c.exit d.storeNow, path := [c] }

/-- The route the planner finds, in route order (R140). -/
def Device.search (d : Device) (g : Goal) : Option (List RsvEntry) :=
  (d.searchGo g 65536 (sortBy reachLe (d.starts g)) []).map fun r => r.path.reverse

/-- What a planning gives: the status, the hold ID, the entries. -/
structure Planned where
  /-- The status. -/
  st : Nat
  /-- The hold ID. -/
  id : Nat
  /-- The route. -/
  route : List RsvEntry
  deriving DecidableEq, Repr

/-- Plans a route (R140): searches, holds, and commits unless HOLD_ONLY. -/
def Device.plan (d : Device) (g : Goal) (holdOnly : Bool) : Planned × Device :=
  if ¬ d.bit RSV_CTRL 0 ∨ d.rsvPaused then (⟨stBusy, 0, []⟩, d)
  else if ¬ d.bit RSV_STAT 0 then (⟨stRejected, 0, []⟩, d)
  else
    let clear := d.dropHold g.mach
    match clear.search g with
    | none =>
      let e := { d with rsv := { d.rsv with
          blocked := if d.rsv.blocked.contains g.mach then d.rsv.blocked else d.rsv.blocked ++ [g.mach] } }
      (⟨stNoRoute, 0, []⟩, (e.setFe g.mach 188 e.heat).summary g.mach)
    | some l =>
      match clear.holdRoute l with
      | (a, e) =>
        if a.st ≠ stDone then (⟨a.st, 0, []⟩, d)
        else
          let e := e.setFes g.mach
            [(145, setBits (e.fe g.mach 145) 1 1 (b2n holdOnly)), (172, g.dest), (188, e.heat)]
          let e := if holdOnly then e else (e.commitHold g.mach a.id).2
          (⟨stDone, a.id, l⟩, e.summary g.mach)

/-- The 24-byte record of R141. -/
def Device.routeRecord (d : Device) (m tag : Nat) (p : Planned) : Bytes :=
  leBytes 1 0x41 ++ leBytes 1 p.st ++ leBytes 2 m ++ leBytes 2 p.id ++ leBytes 2 p.route.length ++
    leBytes 4 (match p.route.head? with | some e => e.enter | none => 0) ++
    leBytes 4 (match p.route.getLast? with | some e => e.exit | none => 0) ++ leBytes 4 tag ++ leBytes 4 d.heat

/-- Units from now to the start of a heat given by its counter. -/
def Device.unitsTo (d : Device) (heat : Nat) : Int := 10 * diff32 heat d.heat - (d.inHeat / 10000000 : Nat)

/-- Serves one host route request (R139 to R141). -/
def Device.serveRoute (c : Cmd) (d : Device) : Device :=
  let b := c.body
  let m := uAt b 0 2
  let tag := uAt b 16 4
  let say (p : Planned) (e : Device) : Device := e.answer c p.st (e.routeRecord m tag p)
  if ¬ d.right c.part rPlan then say ⟨stDenied, 0, []⟩ d
  else if 4096 ≤ m ∨ 32768 ≤ uAt b 2 2 ∨ 4 ≤ uAt b 4 1 ∨ uAt b 5 1 ≠ 0 ∨ ¬ tailZero b 20 then say ⟨stRejected, 0, []⟩ d
  else if d.mstate m ≠ 0 ∧ ¬ d.owns c.part m then say ⟨stDenied, 0, []⟩ d
  else if d.mstate m ≠ 2 ∧ d.mstate m ≠ 3 then say ⟨stRejected, 0, []⟩ d
  else
    let d := d.setFe m 184 tag
    let g : Goal :=
      { mach := m, dest := uAt b 2 2, park := bitOf (uAt b 4 1) 1, cap := uAt b 6 2,
        dep := if uAt b 8 4 = 0 then 0 else d.unitsTo (uAt b 8 4),
        by_ := if uAt b 12 4 = 0 then none else some (d.unitsTo (uAt b 12 4)) }
    let (p, e) := d.plan g (bitOf (uAt b 4 1) 0)
    say p e

/-- Re-plans an overstaying machine from the end of its current entry, to its destination; the outcome goes to the owner
as an unsolicited record (R136). -/
def Device.replan (d : Device) (m : Nat) : Device :=
  if ¬ d.rsv.overs.contains m then d
  else
    let d := { d with rsv := { d.rsv with overs := d.rsv.overs.filter fun x => x ≠ m } }
    if ¬ d.overstays m then d
    else
      -- the entry ends as soon as the next may begin: the splice is the end of the current entry
      let g : Goal := { mach := m, dest := d.fe m 172, park := d.fe m 144 = 4, cap := 0, dep := 0, by_ := none }
      let (p, e) := d.plan g false
      e.record (e.owner m) 0x41 (e.routeRecord m (e.fe m 184) p)

/-! ## Words of the reservation memory (R127) -/

/-- The 128-bit word of an entry with its links. -/
def Device.entryWord (d : Device) (i : Nat) : Nat :=
  match Tab.find d.rsv.ents i with
  | none => 0
  | some e =>
    let next (l : List (Nat × RsvEntry)) : Option Nat := (((l.dropWhile fun x => x.1 ≠ i).drop 1).head?).map (·.1)
    let rn := next (d.route e.mach e.held)
    let sn := next (d.chain e.seg)
    let flags := (if e.held then 1 else 2) + 4 * b2n rn.isNone + 8 * b2n sn.isNone + 16 * b2n e.back
    e.seg + e.mach * 2 ^ 16 + e.cls * 2 ^ 28 + e.enter * 2 ^ 32 + e.exit * 2 ^ 56 + sn.getD 0 * 2 ^ 80 +
      rn.getD 0 * 2 ^ 100 + flags * 2 ^ 120

/-- A candidate entry from the 128-bit word of R127: STATE and the links are ignored (R278). -/
def entryOf (w : Nat) : RsvEntry :=
  { seg := bitsOf w 0 16, mach := bitsOf w 16 12, cls := bitsOf w 28 4, enter := bitsOf w 32 24, exit := bitsOf w 56 24,
    back := bitOf w 124, held := true }

/-- The segment head (R122, bytes 28-31). -/
def Device.segHead (d : Device) (s : Nat) : Nat :=
  match d.chain s with | [] => 2 ^ 20 | e :: _ => e.1

/-! ## Commands -/

/-- GRAPH_WRITE (R124). -/
def execGraphWrite (h : HostPkt) (s : State) : Host.Outcome State Fault Refusal :=
  .next { s with dev := s.dev.hostCmd 0x0500 h (ifHolder fun c d =>
    if c.body.length = 36 ∨ c.body.length = 20 then d.holdCmd c else d.answer c stRejected []) }

/-- GRAPH_CHECK (R379). -/
def execGraphCheck (h : HostPkt) (s : State) : Host.Outcome State Fault Refusal :=
  .next { s with dev := s.dev.hostCmd 0x0501 h (withLen 0 (ifHolder holdIt)) }

/-- RSV_GRAPH_CHECK (R125). -/
def execRsvGraphCheck (value : Nat) (s : State) : Host.Outcome State Fault Refusal :=
  .next { s with dev := s.dev.rsvCtrl (setBits value 1 1 1) }

/-- RSV_DISABLE (R147). -/
def execRsvDisable (value : Nat) (s : State) : Host.Outcome State Fault Refusal :=
  .next { s with dev := s.dev.rsvCtrl (setBits value 0 1 0) }

/-- ROUTE_REQUEST (R139): taken, it waits for the planner of the next heat. -/
def execRouteRequest (h : HostPkt) (s : State) : Host.Outcome State Fault Refusal :=
  .next { s with dev := s.dev.hostCmd 0x0502 h (withLen 24 (ifHolder holdIt)) }

/-- ROUTE_COMMIT (R133). -/
def execRouteCommit (h : HostPkt) (s : State) : Host.Outcome State Fault Refusal :=
  .next { s with dev := s.dev.hostCmd 0x0503 h (withLen 4 (ifHolder holdIt)) }

/-- ROUTE_ABANDON (R134). -/
def execRouteAbandon (h : HostPkt) (s : State) : Host.Outcome State Fault Refusal :=
  .next { s with dev := s.dev.hostCmd 0x0504 h (withLen 4 (ifHolder holdIt)) }

/-- HOLD_EXPIRY (R132). -/
def execHoldExpiry (m : Nat) (s : State) : Host.Outcome State Fault Refusal :=
  .next { s with dev := s.dev.holdExpire m }

/-- OVERSTAY_REPLAN (R136). -/
def execOverstayReplan (m : Nat) (s : State) : Host.Outcome State Fault Refusal :=
  .next { s with dev := s.dev.replan m }

/-- PAUSE_SAT (R146). -/
def execPauseSat (s : State) : Host.Outcome State Fault Refusal :=
  .next { s with dev := s.dev.pauseLimit }

end Sys2Proof.Machine
end

