-- ==== Sys2Proof/Machine/Tasks.lean ====
section
/-!
DEFINITION. Machine/Tasks.lean: task records, reports and events, the auction, failures and cancellations, docks and the
energy planner, and the planner's service of route requests (chapter 7, R140).
-/
namespace Sys2Proof.Machine

/-- No task (R151). -/
def noTask : Nat := 0xFFFF

/-- A task that is not FREE. -/
def Device.task (d : Device) (t : Nat) : Option Task := Tab.find d.alo.tasks t

/-- Stores a task. -/
def Device.setTask (d : Device) (t : Nat) (k : Task) : Device :=
  { d with alo := { d.alo with tasks := Tab.put d.alo.tasks t k } }

/-- Field of the allotment profile (R163). -/
def Device.ap (d : Device) (off w : Nat) : Nat := uAt (d.alo.prof.getD []) off w

/-- Whether a task state is terminal (R150). -/
def terminal (st : Nat) : Bool := 4 ≤ st

/-- The 16 bytes of a TASK_EVENT (R162). -/
def Device.taskEventBytes (d : Device) (t : Nat) (k : Task) (reason : Nat) : Bytes :=
  leBytes 1 0x53 ++ leBytes 1 k.st ++ leBytes 2 k.mach ++ leBytes 2 t ++ leBytes 1 reason ++ leBytes 1 k.tries ++
    leBytes 4 k.tag ++ leBytes 4 d.heat

/-- Changes a task's state, which is reported to the posting partition (R162). -/
def Device.taskTo (d : Device) (t : Nat) (k : Task) (reason : Nat) : Device :=
  (d.setTask t k).record k.part 0x53 (d.taskEventBytes t k reason)

/-- Sends a TASK_ORDER (R152): 0 START, 1 CANCEL, 2 SETPOINT, 3 END. -/
def Device.taskOrder (d : Device) (m action t : Nat) : Device :=
  let k := d.task t
  let f (g : Task → Nat) : Nat := match k with | some x => g x | none => 0
  d.sendMachine m (leBytes 1 0x51 ++ leBytes 1 action ++ leBytes 2 m ++ leBytes 2 (if k.isSome then t else noTask) ++
    leBytes 1 (f (·.kind)) ++ zeros 1 ++ leBytes 2 (f (·.start)) ++ leBytes 2 (f (·.fin)) ++ leBytes 2 (f (·.work)) ++
    leBytes 2 (d.fe m 214) ++ leBytes 4 d.heat ++ zeros 4)

/-- The kind of a task: 0 VISIT, 1 CARRY, 2 CHARGE, 3 DISCHARGE (R148). -/
def Task.sort (k : Task) : Nat := k.kind % 16

/-- Takes a task out of its machine's current and next slots, and drops its route requests. -/
def Device.taskOff (d : Device) (t m : Nat) : Device :=
  let e := { d with rsv := { d.rsv with reqs := d.rsv.reqs.filter fun r => r.task ≠ t } }
  let e := if e.fe m 208 = t ∧ e.mstate m ≠ 0 then
      e.setFes m [(208, noTask), (212, setBits (setBits (e.fe m 212) 2 1 0) 3 1 0)] else e
  if e.fe m 210 = t ∧ e.mstate m ≠ 0 then e.setFe m 210 noTask else e

/-- Ends a task in a terminal state. -/
def Device.taskEnd (d : Device) (t : Nat) (k : Task) (st reason : Nat) : Device :=
  (d.taskTo t { k with st := st } reason).taskOff t k.mach

/-- Sends a task back to OPEN (R159): an attempt is counted and the machine is excluded, for 10 heats after NO_ROUTE; a
task whose attempts exceed the maximum fails. An auction is due in the heat that follows. -/
def Device.taskBack (d : Device) (t : Nat) (k : Task) (reason : Nat) (until_ : Option Nat) : Device :=
  let k' := { k with tries := k.tries + 1, excl := k.excl ++ [(k.mach, until_)] }
  let e := { d with alo := { d.alo with dueNext := true } }
  if e.ap 1 1 < k'.tries then e.taskEnd t k' 5 reason
  else (e.taskTo t { k' with st := 1, mach := noTask } reason).taskOff t k.mach

/-- Whether junction `j` has a flag of R123: 0 DOCK, 1 TASK_POINT. -/
def Device.juncFlag (d : Device) (j i : Nat) : Bool := bitOf (recGet (Tab.getD d.rsv.juncs j []) 12) i

/-- Whether a junction may start or end a task. -/
def Device.taskPoint (d : Device) (j : Nat) : Bool := d.juncFlag j 0 || d.juncFlag j 1

/-- Whether a TASK_POST body is valid (R148, R149). -/
def Device.taskBodyOk (d : Device) (b : Bytes) : Bool :=
  uAt b 0 1 % 16 ≤ 1 && uAt b 1 1 < 8 && uAt b 2 2 < 32768 && uAt b 4 2 < 32768 && uAt b 22 2 < 4096 &&
    tailZero b 28 && d.taskPoint (uAt b 2 2) && d.taskPoint (uAt b 4 2) &&
    (uAt b 0 1 % 16 = 1 || uAt b 4 2 = uAt b 2 2)

/-- The task of a TASK_POST body. -/
def taskOfBody (b : Bytes) (part : Nat) : Task :=
  { kind := uAt b 0 1, prio := uAt b 1 1 % 4, pin := if bitOf (uAt b 1 1) 2 then some (uAt b 22 2) else none
    start := uAt b 2 2, fin := uAt b 4 2, work := uAt b 6 2, mask := uAt b 8 4, earliest := uAt b 12 4
    deadline := uAt b 16 4, energy := uAt b 20 2, tag := uAt b 24 4, st := 1, part := part, mach := noTask
    tries := 0, excl := [] }

/-- A new task's number, if one is FREE and its partition has room (R149). -/
def Device.newTask (d : Device) (part : Nat) : Option Nat :=
  let n := lowestFree d.alo.tasks 0
  if 8192 ≤ n ∨ 2048 ≤ (d.alo.tasks.filter fun e => e.2.part = part).length then none else some n

/-- TASK_POST at the heat boundary (R149). -/
def Device.taskPost (c : Cmd) (d : Device) : Device :=
  let b := c.body
  let k := taskOfBody b c.part
  if ¬ d.right c.part rPlan then d.answer c stDenied []
  else if ¬ d.taskBodyOk b then d.answer c stRejected []
  else if (match k.pin with | some m => !d.owns c.part m | none => false) then d.answer c stDenied []
  else
    match d.newTask c.part with
    | none => d.answer c stNoCapacity []
    | some t =>
      let e := (d.taskTo t k 0).answer c stDone (leBytes 2 t)
      { e with alo := { e.alo with dueNow := e.alo.dueNow || k.prio = 0 } }

/-- TASK_CANCEL at the heat boundary (R160). -/
def Device.taskCancel (c : Cmd) (d : Device) : Device :=
  let t := uAt c.body 0 2
  if ¬ d.right c.part rPlan then d.answer c stDenied []
  else if 8192 ≤ t ∨ ¬ tailZero c.body 2 then d.answer c stRejected []
  else
    match d.task t with
    | none => d.answer c stNotFound []
    | some k =>
      if k.part ≠ c.part then d.answer c stDenied []
      else if terminal k.st then d.answer c stLate []
      else
        let e := if k.st = 1 ∨ d.fe k.mach 208 ≠ t then d else d.dropHold k.mach
        let e := if k.st = 1 then e else e.taskOrder k.mach 1 t
        (e.taskEnd t k 6 0).answer c stAborted []

/-- AUCTION_NOW at the heat boundary (R155). -/
def Device.auctionNow (c : Cmd) (d : Device) : Device :=
  if ¬ d.right c.part rPlan then d.answer c stDenied []
  else ({ d with alo := { d.alo with dueNow := true } }).answer c stDone []

/-- Whether an ALLOT_PROFILE body is valid (R163). -/
def allotOk (b : Bytes) : Bool :=
  let r (off w lo hi : Nat) : Bool := lo ≤ uAt b off w && uAt b off w ≤ hi
  r 0 1 1 50 && r 1 1 1 7 && r 2 2 100 300 && r 6 1 5 50 && r 7 1 10 80 && r 8 1 20 95 && r 9 1 50 100 &&
    uAt b 8 1 < uAt b 9 1 && r 16 1 0 8 && uAt b 17 1 < 4 && tailZero b 18

/-- ALLOT_PROFILE at the heat boundary (R163, R58): it names the profile that takes effect there. -/
def Device.allotProfile (c : Cmd) (d : Device) : Device :=
  if ¬ allotOk c.body then d.answer c stRejected []
  else ({ d with alo := { d.alo with next := Tab.put d.alo.next c.part c.body } }).answer c stDone []

/-- DOCK_CFG at the heat boundary (R164). -/
def Device.dockCfg (c : Cmd) (d : Device) : Device :=
  let b := c.body
  if ¬ d.right c.part rPlan then d.answer c stDenied []
  else if 16 ≤ uAt b 0 1 ∨ 32768 ≤ uAt b 1 2 ∨ ¬ d.juncFlag (uAt b 1 2) 0 ∨ 128 ≤ uAt b 3 1 ∨ ¬ tailZero b 8 then
    d.answer c stRejected []
  else
    let r := layRead [(1, 2), (3, 1), (4, 2), (6, 2)] b
    ({ d with alo := { d.alo with docks := Tab.put d.alo.docks (uAt b 0 1) r } }).answer c stDone []

/-- SITE_LOAD at the heat boundary (R165). -/
def Device.siteLoad (c : Cmd) (d : Device) : Device :=
  ({ d with alo := { d.alo with load := some (uAt c.body 0 4, d.heatAbs), staleSaid := false } }).answer c stDone []

/-! ## Reports -/

/-- Whether a TASK_REPORT payload is valid (R153). -/
def taskReportOk (b : Bytes) : Bool :=
  b.length = 24 && uAt b 0 1 = 0x52 && uAt b 1 1 ≤ 5 && uAt b 2 2 < 4096 && (uAt b 7 1 < 16 || uAt b 7 1 = 0xFF)

/-- A TASK_REPORT arrives (R153, R154, R373): it goes to Q68, and one that Q68 took waits for the heat boundary. The standby discards it (R450). -/
def Device.taskReport (d : Device) (rf : Bool) (p : MachPkt) : Device :=
  match d.acceptMach rf p with
  | (none, e) => e
  | (some m, e) =>
    if uAt p.body 0 1 ≠ 0x52 then e.count NET_RX_DROP
    else if e.standby then e
    else
      let ok := e.canPush 68 p.body && taskReportOk p.body && uAt p.body 2 2 = m
      let e := e.hwPush 68 p.body
      if ok then { e with alo := { e.alo with reports := e.alo.reports ++ [(m, p.body)] } } else e

/-- Applies the battery fields of a report (R151, R153). -/
def Device.batteryIn (d : Device) (m : Nat) (b : Bytes) : Device :=
  d.setFes m [(212, setBits (d.fe m 212) 1 1 0), (216, uAt b 8 4), (220, uAt b 12 4), (224, uAt b 16 2),
    (226, uAt b 18 2), (232, uAt b 20 4)]

/-- Applies a task report at the heat boundary (R154, R159). -/
def Device.reportIn (d : Device) (m : Nat) (b : Bytes) : Device :=
  let ev := uAt b 1 1
  let t := uAt b 4 2
  if d.mstate m ≠ 2 ∧ d.mstate m ≠ 3 then d
  else
    let d := d.batteryIn m b
    if ev = 4 then d.setFes m [(212, setBits (d.fe m 212) 0 1 1), (213, uAt b 7 1)]
    else if ev = 5 then d.setFes m [(212, setBits (d.fe m 212) 0 1 0), (213, 0xFF), (214, 0)]
    else
      match (if d.fe m 208 = t then d.task t else none) with
      | none => d
      | some k =>
        if terminal k.st ∨ k.mach ≠ m then d
        else if ev = 1 then (if k.st = 2 then d.taskTo t { k with st := 3 } 0 else d)
        else if ev = 2 then
          (d.setFe m 236 (holdAt 0xFFFFFFFF (d.fe m 236 + 1))).taskEnd t k 4 (uAt b 6 1)
        else if ev = 3 then
          let e := (d.setFe m 240 (holdAt 0xFFFFFFFF (d.fe m 240 + 1))).taskBack t k (uAt b 6 1) none
          { e with alo := { e.alo with dueNow := true, dueNext := false } }
        else d

/-- A machine leaves ACTIVE (R159): its tasks go back to OPEN; a CARRY task in RUNNING fails when its machine is SILENT
or LEAVING. -/
def Device.taskLeave (d : Device) (m : Nat) : Device :=
  d.forEach [d.fe m 208, d.fe m 210] fun t e =>
    match e.task t with
    | some k =>
      if terminal k.st ∨ k.mach ≠ m ∨ k.st = 1 then e
      else if k.sort = 1 ∧ k.st = 3 then e.taskEnd t k 5 0
      else
        let f := e.taskBack t k 0 none
        { f with alo := { f.alo with dueNow := true } }
    | none => e

/-! ## The auction (R155 to R158) -/

/-- A straight-line distance, mm, rounded down. -/
def distMm (a b : Int × Int × Int) : Nat :=
  let x := a.1 - b.1
  let y := a.2.1 - b.2.1
  let z := a.2.2 - b.2.2
  isqrt (x * x + y * y + z * z).toNat

/-- The enabled docks: index and junction. -/
def Device.docksOn (d : Device) : List (Nat × Nat) :=
  (d.alo.docks.filter fun e => bitOf (recGet e.2 3) 6).map fun e => (e.1, recGet e.2 1)

/-- The distance from a point to the nearest enabled dock, 0 where there is none. -/
def Device.dockDist (d : Device) (p : Int × Int × Int) : Nat :=
  match d.docksOn.map fun e => distMm p (d.juncPos e.2) with
  | [] => 0
  | x :: t => t.foldl Nat.min x

/-- A bid (R157). -/
structure Bid where
  /-- The cost, times 10^9. -/
  cost : Nat
  /-- Travel and waiting, 10 ms units. -/
  units : Nat
  /-- The machine. -/
  mach : Nat
  deriving DecidableEq, Repr

/-- Heats from now to a heat, never negative. -/
def Device.heatsTo (d : Device) (h : Nat) : Nat := (diff32 h d.heat).toNat

/-- Whether a machine may bid, but for its tests (R156). -/
def Device.mayBid (d : Device) (m : Nat) (k : Task) : Bool :=
  let cur := d.fe m 208
  let curDis := match d.task cur with | some c => c.sort = 3 | none => false
  d.mstate m = 2 && d.owner m = k.part && (k.pin = none || k.pin = some m) &&
    Nat.land (d.fe m 16) k.mask = k.mask && d.fe m 210 = noTask && (cur = noTask || (curDis && k.prio = 0)) &&
    (k.excl.all fun e => e.1 ≠ m) && !bitOf (d.fe m 212) 1 && d.fe m 226 ≠ 0

/-- A machine's bid for a task, if its energy and deadline tests pass (R156, R157). -/
def Device.bid (d : Device) (m : Nat) (k : Task) : Option Bid :=
  let cur := d.task (d.fe m 208)
  let point := match cur with | some c => some (d.juncPos c.fin) | none => d.published m
  match (if d.mayBid m k then point else none) with
  | none => none
  | some p =>
    let q := d.ap 2 2
    let a := d.juncPos k.start
    let z := d.juncPos k.fin
    let dist := distMm p a + (if k.sort = 1 then distMm a z else 0)
    let trav := ceilDiv (dist * q) (d.fe m 226)
    let free := if cur.isSome then 10 * d.heatsTo (d.fe m 228) else 0
    let arr := free + trav
    let wait := free + (10 * (if k.earliest = 0 then 0 else d.heatsTo k.earliest) - arr)
    let e9 := k.energy * 1000000000 + (dist + d.dockDist z) * q * d.fe m 224
    let left : Int := ((d.fe m 216 * 1000000000 : Nat) : Int) - e9
    let energyOk : Bool := ((d.ap 6 1 * d.fe m 220 * 1000000000 : Nat) : Int) ≤ left * 100
    let lateOk : Bool := k.deadline = 0 || ((arr + 10 * k.work : Nat) : Int) ≤ 10 * diff32 k.deadline d.heat
    if energyOk ∧ lateOk then some ⟨(trav + wait) * 1000000000 + e9 * d.ap 4 2, trav + wait, m⟩ else none

/-- The lowest cost, ties to the lowest machine (the machines rise). -/
def bestBid (l : List Bid) : Option Bid :=
  l.foldl (fun o b => match o with | none => some b | some x => if b.cost < x.cost then some b else some x) none

/-- The order in which tasks are offered (R155). -/
def offerLe (a b : Nat × Task) : Bool :=
  let dl (k : Task) : Nat := if k.deadline = 0 then 2 ^ 32 else k.deadline
  a.2.prio < b.2.prio || (a.2.prio = b.2.prio &&
    (dl a.2 < dl b.2 || (dl a.2 = dl b.2 && a.1 ≤ b.1)))

/-- Places the route request of a machine's current task (R158). -/
def Device.askRoute (d : Device) (m t dest : Nat) : Device :=
  { d with rsv := { d.rsv with reqs := d.rsv.reqs ++ [⟨m, dest, t, d.heatAbs⟩] } }

/-- Ends a machine's discharge at once (R158). -/
def Device.preempt (d : Device) (m : Nat) : Device :=
  match d.task (d.fe m 208) with
  | some c =>
    if c.sort = 3 then
      let t := d.fe m 208
      let e := (d.setFe m 214 0).taskOrder m 2 t
      let e := e.taskEnd t c 4 0
      e.setFe m 212 (setBits (e.fe m 212) 3 1 1)
    else d
  | none => d

/-- Awards a task (R158). -/
def Device.award (d : Device) (t : Nat) (k : Task) (b : Bid) : Device :=
  let e := if k.prio = 0 then d.preempt b.mach else d
  let e := e.taskTo t { k with st := 2, mach := b.mach } 0
  if e.fe b.mach 208 = noTask then
    (e.setFes b.mach [(208, t), (228, (e.heat + ceilDiv b.units 10 + k.work) % 2 ^ 32)]).askRoute b.mach t k.start
  else e.setFe b.mach 210 t

/-- The auction (R155): offers at most 256 OPEN tasks; a machine receives at most one award. -/
def Device.auction (d : Device) : Device :=
  let d := d.advanceTo (d.heatAbs * 100000000 + 10000000)
  let due := d.alo.prof.isSome && (d.heat % Nat.max 1 (d.ap 0 1) = 0 || d.alo.dueNow)
  if ¬ d.running ∨ d.standby ∨ ¬ due ∨ d.rsvPaused ∨ d.alo.ran = some d.heatAbs then d
  else
    let d := { d with alo := { d.alo with ran := some d.heatAbs, dueNow := false } }
    let open_ := (sortBy offerLe (d.alo.tasks.filter fun e => e.2.st = 1 ∧ e.2.sort ≠ 3)).take 256
    let go (a : Device × List Nat) (x : Nat × Task) : Device × List Nat :=
      let bids := (a.1.machines.filter fun m => !a.2.contains m).filterMap fun m => a.1.bid m x.2
      match bestBid bids with
      | some b => (a.1.award x.1 x.2 b, b.mach :: a.2)
      | none => a
    (open_.foldl go (d, [])).1

/-! ## What the heat boundary does (R150, R154, R158) -/

/-- The next task of a machine becomes current, with its route request (R158). -/
def Device.promote (d : Device) (m : Nat) : Device :=
  if d.fe m 208 ≠ noTask ∨ d.fe m 210 = noTask then d
  else
    match d.task (d.fe m 210) with
    | none => d.setFe m 210 noTask
    | some k =>
      let t := d.fe m 210
      let dist := match d.published m with | some p => distMm p (d.juncPos k.start) | none => 0
      let dist := dist + (if k.sort = 1 then distMm (d.juncPos k.start) (d.juncPos k.fin) else 0)
      let trav := if d.fe m 226 = 0 then 0 else ceilDiv (dist * d.ap 2 2) (d.fe m 226)
      (d.setFes m [(208, t), (210, noTask), (228, (d.heat + ceilDiv trav 10 + k.work) % 2 ^ 32)]).askRoute m t k.start

/-- What the heat boundary does before the host packets: profiles take effect, terminal tasks become FREE, next tasks
become current, then the task reports in arrival order. -/
def Device.taskBoundary (d : Device) : Device :=
  let prof := d.alo.next.foldl (fun _ b => some b.2) d.alo.prof
  let d := { d with alo := { d.alo with
      prof := prof, next := [], dueNow := d.alo.dueNext, dueNext := false
      tasks := d.alo.tasks.filter fun e => !terminal e.2.st } }
  let d := d.forEach d.machines fun m e => e.promote m
  let rs := d.alo.reports
  ({ d with alo := { d.alo with reports := [] } }).forEach rs fun r e => e.reportIn r.1 r.2

/-! ## Route requests, as the planner serves them (R140, R158) -/

/-- Serves a route request of the task allotment: a commit sends TASK_ORDER START, NO_ROUTE sends the task back, and any
other outcome leaves the request. -/
def Device.serveTask (d : Device) (r : RouteReq) : Device :=
  let g : Goal := { mach := r.mach, dest := r.dest, park := false, cap := 0, dep := 0, by_ := none }
  let d := { d with rsv := { d.rsv with reqs := d.rsv.reqs.filter fun x => x ≠ r } }
  match d.task r.task with
  | none => d
  | some k =>
    if k.st ≠ 2 ∨ k.mach ≠ r.mach then d
    else
      let (p, e) := d.plan g false
      if p.st = stDone then e.taskOrder r.mach 0 r.task
      else if p.st = stNoRoute then e.taskBack r.task k 0 (some (e.heatAbs + 10))
      else { e with rsv := { e.rsv with reqs := e.rsv.reqs ++ [{ r with heat := e.heatAbs }] } }

/-- The first element that satisfies a test and the rest. -/
def takeOut {α : Type} (p : α → Bool) : List α → Option α × List α
  | [] => (none, [])
  | a :: t => if p a then (some a, t) else match takeOut p t with | (o, l) => (o, a :: l)

/-- Serves the next request of an earlier heat in the order of R110: the lowest partition first, a host's requests before
the allotment's on its behalf (R140). -/
def Device.routePlan (d : Device) : Device :=
  if ¬ d.running ∨ d.standby then d
  else
    let hostReady (p : Nat) (c : Cmd) : Bool := c.code = 0x0502 && c.part = p && c.heat ≠ d.heat
    let taskReady (p : Nat) (r : RouteReq) : Bool := r.heat < d.heatAbs && d.owner r.mach = p
    let try_ (p : Nat) : Option Device :=
      match takeOut (hostReady p) d.hst.waiting with
      | (some c, l) => some (Device.serveRoute c { d with hst := { d.hst with waiting := l } })
      | (none, _) => (d.rsv.reqs.find? (taskReady p)).map d.serveTask
    ((((try_ 0).orElse fun _ => try_ 1).orElse fun _ => try_ 2).orElse fun _ => try_ 3).getD d

/-! ## The energy planner (R165 to R167) -/

/-- The state of charge of one machine is below that of another. -/
def Device.socLt (d : Device) (a b : Nat) : Bool := d.fe a 216 * d.fe b 220 < d.fe b 216 * d.fe a 220

/-- Whether a machine's state of charge is below some percent. -/
def Device.socBelow (d : Device) (m pct : Nat) : Bool := d.fe m 216 * 100 < pct * d.fe m 220

/-- A dock's record. -/
def Device.dock (d : Device) (k : Nat) : Tab Nat := Tab.getD d.alo.docks k []

/-- The limits of a machine's dock (R164): charge and discharge, 0.1 kW. -/
def Device.dockLim (d : Device) (m off : Nat) : Int :=
  let r := d.dock (d.fe m 213)
  if bitOf (recGet r 3) 6 then (recGet r off : Int) else 0

/-- The mean active power of some metered phases over the last second, W (R423). -/
def Device.meterW (d : Device) (l : List (Nat × Nat)) : Int :=
  l.foldl (fun a x => a + toSigned 32 (d.rdN (MTR_P1S x.1 x.2))) 0

/-- The metered phases of the docks, each once (R164). -/
def Device.dockPhases (d : Device) : List (Nat × Nat) :=
  nub (d.alo.docks.flatMap fun e =>
    ([0, 1, 2].filter fun p => bitOf (recGet e.2 3) (3 + p)).map fun p => (recGet e.2 3 % 8, p))

/-- Whether the SITE_LOAD value is missing or more than 50 heats old (R165). -/
def Device.loadStale (d : Device) : Bool :=
  d.ap 16 1 = 0 && (match d.alo.load with | some (_, h) => h + 50 < d.heatAbs | none => true)

/-- The site's non-dock load, 0.1 kW (R165). -/
def Device.pOther (d : Device) : Int :=
  if d.ap 16 1 = 0 then (match d.alo.load with | some (v, _) => v | none => 0)
  else roundDiv (d.meterW ([0, 1, 2].map fun p => (d.ap 16 1 - 1, p)) - d.meterW d.dockPhases) 100

/-- Docked machines that the planner works on (R166). -/
def Device.planned (d : Device) : List Nat :=
  d.machines.filter fun m =>
    bitOf (d.fe m 212) 0 && (d.fe m 208 = noTask ||
      (match d.task (d.fe m 208) with | some k => 2 ≤ k.sort | none => false))

/-- Machines by ascending state of charge, ties to the lowest number. -/
def Device.bySoc (d : Device) (l : List Nat) : List Nat :=
  sortBy (fun a b => d.socLt a b || (!d.socLt b a && a ≤ b)) l

/-- Machines by descending state of charge, ties to the lowest number. -/
def Device.bySocDown (d : Device) (l : List Nat) : List Nat :=
  sortBy (fun a b => d.socLt b a || (!d.socLt a b && a ≤ b)) l

/-- The larger of 0 and a number. -/
def nonNeg (x : Int) : Int := if x < 0 then 0 else x

/-- The smaller of two integers. -/
def minInt (a b : Int) : Int := if a < b then a else b

/-- The setpoints of R166, by machine, 0.1 kW. -/
def Device.setpoints (d : Device) : List (Nat × Int) :=
  let l := d.planned
  let v2g := bitOf (d.ap 17 1) 1
  let u := l.filter fun m => d.socBelow m (d.ap 7 1)
  let x := l.filter fun m => v2g && !d.socBelow m (d.ap 7 1) && d.ap 8 1 * d.fe m 220 < d.fe m 216 * 100
  let n := l.filter fun m => !u.contains m && !x.contains m && d.socBelow m (d.ap 9 1)
  let dis := x.foldl (fun a m => a + d.dockLim m 6) 0
  let room : Int := (d.ap 10 4 : Int) - d.ap 14 2 - d.pOther
  let s1 := (d.bySoc u).foldl (fun (a : Int × List (Nat × Int)) m =>
    let p := minInt (d.dockLim m 4) (nonNeg (a.1 + dis))
    (a.1 - p, a.2 ++ [(m, p)])) (room, [])
  let s2 := (d.bySocDown x).foldl (fun (a : Int × List (Nat × Int)) m =>
    if a.1 < 0 then
      let p := -(minInt (d.dockLim m 6) (-a.1))
      (a.1 - p, a.2 ++ [(m, p)])
    else a) s1
  let rest := (n ++ x).filter fun m => s2.2.all fun e => e.1 ≠ m
  ((d.bySoc rest).foldl (fun (a : Int × List (Nat × Int)) m =>
    let p := minInt (d.dockLim m 4) (nonNeg a.1)
    (a.1 - p, a.2 ++ [(m, p)])) s2).2

/-- Gives a machine its setpoint, and sends it where it changed (R166). -/
def Device.setpoint (d : Device) (m : Nat) (p : Int) : Device :=
  if d.fe m 214 = ofSigned 16 p then d else (d.setFe m 214 (ofSigned 16 p)).taskOrder m 2 (d.fe m 208)

/-- The DISCHARGE task of a machine that gives power, and its end (R167). -/
def Device.dischargeTask (d : Device) (m : Nat) (p : Int) : Device :=
  let t := d.fe m 208
  match d.task t with
  | some k => if k.sort = 3 ∧ 0 ≤ p ∧ ¬ terminal k.st then d.taskEnd t k 4 0 else d
  | none =>
    if p < 0 then
      match d.newTask (d.owner m) with
      | none => d
      | some n =>
        let j := recGet (d.dock (d.fe m 213)) 1
        let k : Task :=
          { kind := 3, prio := 3, pin := some m, start := j, fin := j, work := 0, mask := 0, earliest := 0, deadline := 0
            energy := 0, tag := 0, st := 3, part := d.owner m, mach := m, tries := 0, excl := [] }
        (d.setFes m [(208, n), (212, setBits (d.fe m 212) 2 1 1), (228, d.heat)]).taskTo n k 0
    else d

/-- Ends the DISCHARGE tasks of machines that have no negative setpoint (R167). -/
def Device.dischargeEnds (d : Device) (sp : List (Nat × Int)) : Device :=
  d.forEach d.alo.tasks fun e x =>
    if e.2.sort = 3 ∧ ¬ terminal e.2.st ∧ ¬ (sp.any fun s => some s.1 = e.2.pin && s.2 < 0) then x.taskEnd e.1 e.2 4 0
    else x

/-- Ends the CHARGE tasks of machines that have reached the charge stop (R167). -/
def Device.chargeEnds (d : Device) : Device :=
  d.forEach d.alo.tasks fun e x =>
    match e.2.pin with
    | some m =>
      if e.2.sort = 2 ∧ ¬ terminal e.2.st ∧ ¬ x.socBelow m (x.ap 9 1) ∧ x.mstate m ≠ 0 then
        let y := x.setFe m 214 0
        (y.taskOrder m 3 e.1).taskEnd e.1 e.2 4 0
      else x
    | none => x

/-- The nearest enabled dock without a machine, by its junction (R167). -/
def Device.freeDock (d : Device) (p : Int × Int × Int) : Option Nat :=
  let used := d.machines.filterMap fun m => if bitOf (d.fe m 212) 0 then some (d.fe m 213) else none
  ((d.docksOn.filter fun e => !used.contains e.1).foldl (fun (o : Option (Nat × Nat)) e =>
    let x := distMm p (d.juncPos e.2)
    match o with | none => some (x, e.2) | some b => if x < b.1 then some (x, e.2) else some b) none).map (·.2)

/-- Creates the CHARGE task of an undocked machine below the charge trigger (R167). -/
def Device.chargeTask (d : Device) (m : Nat) : Device :=
  let has := d.alo.tasks.any fun e => e.2.sort = 2 && e.2.pin = some m && !terminal e.2.st
  if bitOf (d.fe m 212) 0 ∨ has ∨ d.mstate m ≠ 2 ∨ ¬ d.socBelow m (d.ap 7 1) then d
  else
    match d.published m with
    | none => d
    | some p =>
      match d.freeDock p, d.newTask (d.owner m) with
      | some j, some n =>
        d.taskTo n { kind := 2, prio := 1, pin := some m, start := j, fin := j, work := 0, mask := 0, earliest := 0
                     deadline := 0, energy := 0, tag := 0, st := 1, part := d.owner m, mach := noTask, tries := 0
                     excl := [] } 0
      | _, _ => d

/-- A planning run (R166, R167): in heats whose counter is a multiple of 10. Docked machines outside the three sets get
setpoint 0. -/
def Device.energyRun (d : Device) : Device :=
  if ¬ d.running ∨ d.standby ∨ d.alo.prof = none ∨ ¬ bitOf (d.ap 17 1) 0 ∨ d.heat % 10 ≠ 0 ∨
      d.alo.planned = some d.heatAbs then d
  else
    let d := { d with alo := { d.alo with planned := some d.heatAbs } }
    let sp := if d.loadStale then [] else d.setpoints
    let docked := d.machines.filter fun m => bitOf (d.fe m 212) 0
    let of (m : Nat) : Int := match sp.find? fun e => e.1 = m with | some e => e.2 | none => 0
    let d := d.forEach docked fun m e => (e.dischargeTask m (of m)).setpoint m (of m)
    let d := (d.dischargeEnds sp).chargeEnds
    d.forEach d.machines fun m e => e.chargeTask m

/-- A stale site load (R165): every setpoint is 0, and SITE_LOAD_STALE is reported with task number 0xFFFF to the
partitions that hold the plan right (log entry 22). -/
def Device.staleLoad (d : Device) : Device :=
  if ¬ d.running ∨ d.standby ∨ d.alo.prof = none ∨ ¬ bitOf (d.ap 17 1) 0 ∨ ¬ d.loadStale ∨ d.alo.staleSaid then d
  else
    let d := { d with alo := { d.alo with staleSaid := true } }
    let docked := d.machines.filter fun m => bitOf (d.fe m 212) 0
    let d := d.forEach docked fun m e => e.setpoint m 0
    let d := d.dischargeEnds []
    let body := leBytes 1 0x53 ++ zeros 1 ++ leBytes 2 0xFFFF ++ leBytes 2 noTask ++ zeros 2 ++ zeros 4 ++ leBytes 4 d.heat
    d.forEach [0, 1, 2, 3] fun p e => if e.right p rPlan then e.record p 0x53 body else e

/-! ## What time alone moves at a heat boundary (R105, R106, R153, R154, R159) -/

/-- An OPEN task whose deadline heat has begun becomes EXPIRED (R154). -/
def Device.taskExpire (d : Device) (t : Nat) : Device :=
  match d.task t with
  | some k => if k.st = 1 ∧ k.deadline ≠ 0 ∧ 0 ≤ diff32 d.heat k.deadline ∧ ¬ d.standby then d.taskEnd t k 7 0 else d
  | none => d

/-- The exclusion of a machine from a task after NO_ROUTE ends (R159). -/
def Device.exclusionEnd (d : Device) (t m : Nat) : Device :=
  match d.task t with
  | some k =>
    let past (e : Nat × Option Nat) : Bool :=
      e.1 = m && (match e.2 with | some h => h ≤ d.heatAbs | none => false)
    d.setTask t { k with excl := k.excl.filter fun e => !past e }
  | none => d

/-- A machine whose last battery report is more than 300 heats old is marked (R153). -/
def Device.batteryAge (d : Device) (m : Nat) : Device :=
  if d.mstate m ≠ 0 ∧ 300 < diff32 d.heat (d.fe m 232) then d.setFe m 212 (setBits (d.fe m 212) 1 1 1) else d

/-- An entry last heard in heat h turns SILENT at the boundary that starts heat h + N + 1; its owner and readers get an
event, and its tasks go back (R105, R159). -/
def Device.silence (d : Device) (m : Nat) : Device :=
  if d.mstate m = 2 ∧ ((d.flt.cfg.getD 0 30 : Int) + 1) ≤ diff32 d.heat (d.fe m 28) then
    ((d.setFe m 2 3).eventFor m 0x02).taskLeave m
  else d

/-- After three samples with an allowance of 0 the entry becomes FREE, its current reservation is freed (R138), its node
record goes to leaving, and the short address is freed (R106). -/
def Device.leavingEnd (d : Device) (m : Nat) : Device :=
  if d.mstate m = 4 ∧ 3 ≤ Tab.getD d.flt.leave m 0 ∧ ¬ d.standby then
    let n := d.fe m 4
    let d := d.rsvFree m
    let e := { d with flt := { d.flt with
        tab := Tab.del d.flt.tab m, leave := Tab.del d.flt.leave m, offers := Tab.del d.flt.offers m } }
    if n = 0xFFFFFFFF then e else e.nodeLeaves n
  else d

/-- What time alone moves after the packets of the heat: holds, entries, tasks, exclusions and battery marks (log entry
32). A standby follows the mirror. -/
def Device.ageTake (d : Device) : Device :=
  if d.standby then d
  else
    let d := d.forEach (d.rsv.holds.map (·.1)) fun m e => e.holdExpire m
    let d := d.forEach d.machines fun m e => ((e.batteryAge m).silence m).leavingEnd m
    d.forEach d.alo.tasks fun t e => (e.forEach t.2.excl fun x f => f.exclusionEnd t.1 x.1).taskExpire t.1

/-! ## Commands -/

/-- ROUTE_PLAN (R140): serves one request. -/
def execRoutePlan (s : State) : Host.Outcome State Fault Refusal := .next { s with dev := s.dev.routePlan }

/-- TASK_POST (R149). -/
def execTaskPost (h : HostPkt) (s : State) : Host.Outcome State Fault Refusal :=
  .next { s with dev := s.dev.hostCmd 0x0600 h (withLen 32 (ifHolder holdIt)) }

/-- TASK_CANCEL (R160). -/
def execTaskCancel (h : HostPkt) (s : State) : Host.Outcome State Fault Refusal :=
  .next { s with dev := s.dev.hostCmd 0x0601 h (withLen 4 (ifHolder holdIt)) }

/-- AUCTION_NOW (R155). -/
def execAuctionNow (h : HostPkt) (s : State) : Host.Outcome State Fault Refusal :=
  .next { s with dev := s.dev.hostCmd 0x0602 h (withLen 0 (ifHolder holdIt)) }

/-- ALLOT_PROFILE (R163). -/
def execAllotProfile (h : HostPkt) (s : State) : Host.Outcome State Fault Refusal :=
  .next { s with dev := s.dev.hostCmd 0x0603 h (withLen 32 (ifHolder holdIt)) }

/-- DOCK_CFG (R164). -/
def execDockCfg (h : HostPkt) (s : State) : Host.Outcome State Fault Refusal :=
  .next { s with dev := s.dev.hostCmd 0x0604 h (withLen 12 (ifHolder holdIt)) }

/-- SITE_LOAD (R165). -/
def execSiteLoad (h : HostPkt) (s : State) : Host.Outcome State Fault Refusal :=
  .next { s with dev := s.dev.hostCmd 0x0605 h (withLen 4 (ifHolder holdIt)) }

/-- TASK_REPORT (R153). -/
def execTaskReport (m : MachPkt) (s : State) : Host.Outcome State Fault Refusal :=
  .next { s with dev := s.dev.taskReport false m }

/-- AUCTION (R155). -/
def execAuction (s : State) : Host.Outcome State Fault Refusal := .next { s with dev := s.dev.auction }

/-- ENERGY_PLANNER (R166). -/
def execEnergyPlanner (s : State) : Host.Outcome State Fault Refusal := .next { s with dev := s.dev.energyRun }

/-- TASK_EXPIRY (R154). -/
def execTaskExpiry (t : Nat) (s : State) : Host.Outcome State Fault Refusal := .next { s with dev := s.dev.taskExpire t }

/-- EXCLUSION_EXPIRY (R159). -/
def execExclusionExpiry (t m : Nat) (s : State) : Host.Outcome State Fault Refusal :=
  .next { s with dev := s.dev.exclusionEnd t m }

/-- BATTERY_STALE (R153). -/
def execBatteryStale (m : Nat) (s : State) : Host.Outcome State Fault Refusal := .next { s with dev := s.dev.batteryAge m }

/-- SITE_LOAD_STALE (R165). -/
def execSiteLoadStale (s : State) : Host.Outcome State Fault Refusal := .next { s with dev := s.dev.staleLoad }

/-- SILENT (R105). -/
def execSilent (m : Nat) (s : State) : Host.Outcome State Fault Refusal := .next { s with dev := s.dev.silence m }

/-- LEAVING_COMPLETE (R106). -/
def execLeavingComplete (m : Nat) (s : State) : Host.Outcome State Fault Refusal :=
  .next { s with dev := s.dev.leavingEnd m }

end Sys2Proof.Machine
end

