-- ==== Sys2Proof/Machine/Governor.lean ====
section
/-!
DEFINITION. Machine/Governor.lean: the speed governor (chapter 8): coefficient banks, zones, freshness, regions, the eight
loops, the rate limit, misses and allowance frames.
-/
namespace Sys2Proof.Machine

/-! ## Coefficients and machine state (R181 to R187) -/

/-- The key of a coefficient record: the bank, the profile, the region and the target of R183 (the header stands under
region 0). -/
def coefKey (bank p r t : Nat) : Nat := bank * 4096 + p * 256 + (if t = 9 then 0 else r * 16) + t

/-- A coefficient record. -/
def Device.coef (d : Device) (bank p r t : Nat) : Tab Nat := Tab.getD d.gov.coef (coefKey bank p r t) []

/-- The active bank. -/
def Device.bankOn (d : Device) : Nat := d.fld GOV_STAT 0 1

/-- The layout of a record of a target (R182). -/
def layCoef (t : Nat) : List (Nat × Nat) :=
  if t = 9 then [(0, 2)]
  else if t = 8 then [(0, 2), (2, 2), (4, 2), (6, 2), (8, 2), (10, 2), (12, 2)]
  else [(0, 4), (4, 4), (8, 2), (10, 2), (12, 2), (14, 2), (16, 1)] ++ (List.range 32).map fun i => (32 + 2 * i, 2)

/-- The bytes of a record of a target. -/
def coefLen (t : Nat) : Nat := if t = 9 then 16 else if t = 8 then 32 else 96

/-- Whether a record is valid (R182, R183). -/
def coefOk (t : Nat) (b : Bytes) : Bool :=
  if t = 9 then tailZero b 2
  else if t = 8 then
    uAt b 0 2 ≤ 20000 && [2, 4].all (fun o => 50 ≤ uAt b o 2 && uAt b o 2 ≤ 10000) && tailZero b 14
  else sAt b 8 2 ≤ sAt b 10 2 && 1 ≤ uAt b 14 2 && uAt b 16 1 < 2 && allZero (sliceB b 17 15)

/-- A machine's state in the governor. -/
def Device.gm (d : Device) (m : Nat) : GovMach := Tab.getD d.gov.mach m ⟨List.replicate 7 0, [], [], none, true⟩

/-- Replaces it. -/
def Device.setGm (d : Device) (m : Nat) (g : GovMach) : Device :=
  { d with gov := { d.gov with mach := Tab.put d.gov.mach m g } }

/-- Whether the governor computes a machine (R168): ACTIVE, SILENT or LEAVING. -/
def Device.governed (d : Device) (m : Nat) : Bool := d.mstate m = 2 || d.mstate m = 3 || d.mstate m = 4

/-- The current region of a machine (R186, byte 94). -/
def Device.region (d : Device) (m : Nat) : Nat := bitsOf (d.fe m 94) 4 4

/-- A flag of byte 95 (R186). -/
def Device.govFlag (d : Device) (m i : Nat) : Bool := bitOf (d.fe m 95) i

/-- Sets a flag of byte 95. -/
def Device.setGovFlag (d : Device) (m i : Nat) (v : Bool) : Device := d.setFe m 95 (setBits (d.fe m 95) i 1 (b2n v))

/-- Bytes 0 to 79 of machine state (R187). -/
def Device.govStateBytes (d : Device) (m : Nat) : Bytes :=
  let g := d.gm m
  let ix := List.range 8
  (ix.map fun i => leBytes 4 (ofSigned 32 (g.integ.getD i 0))).flatten ++
    (ix.map fun i => leBytes 2 (g.prop.getD i 0)).flatten ++
    (ix.map fun i => leBytes 4 (ofSigned 32 (g.err.getD i 0))).flatten

/-! ## Rounding and geometry -/

/-- The nearest integer to the root of a number. -/
def sqrtNear (n : Nat) : Nat := let r := isqrt n; if r * r + r < n then r + 1 else r

/-- The nearest integer to the root of a quotient, halves upward. -/
def sqrtNearQ (n q : Nat) : Nat :=
  let r := isqrt (n / q)
  if 4 * n < (2 * r + 1) * (2 * r + 1) * q then r else r + 1

/-- Milliseconds from the epoch of a machine's record to a sample. -/
def Device.recordAge (d : Device) (m k : Nat) : Int := 100 * diff32 d.heat (d.fe m 44) + 20 * k

/-- The position propagated to a sample, mm (R24, R170). -/
def Device.govPos (d : Device) (m k : Nat) : Option (Int × Int × Int) :=
  (d.published m).map fun p =>
    let v (o : Nat) : Int := roundDiv (toSigned 16 (d.fe m o) * d.recordAge m k) 1000
    (p.1 + v 70, p.2.1 + v 72, p.2.2 + v 74)

/-- The magnitude of the east-north velocity, mm/s. -/
def Device.govSpeed (d : Device) (m : Nat) : Nat :=
  if (d.published m).isNone then 0
  else
    let e := toSigned 16 (d.fe m 70)
    let n := toSigned 16 (d.fe m 72)
    sqrtNear (e * e + n * n).toNat

/-- An east-north distance, mm. -/
def distEN (a b : Int × Int × Int) : Nat :=
  sqrtNear ((a.1 - b.1) * (a.1 - b.1) + (a.2.1 - b.2.1) * (a.2.1 - b.2.1)).toNat

/-! ## Freshness and frozen input (R177 to R179) -/

/-- Whether a machine's position is fresh at a sample. -/
def Device.fresh (d : Device) (m k : Nat) : Bool :=
  (d.gm m).seen.isSome && !d.govFlag m 3 &&
    0 < 5 * diff32 (d.fe m 100) d.heat + (d.fe m 104 : Int) - k + 1

/-- FROZEN is set when the freeze count reaches FREEZE_COUNT (R179). -/
def Device.frozenCheck (d : Device) (m : Nat) : Device :=
  if d.governed m ∧ d.fld GOV_CFG 8 8 ≤ d.fe m 97 ∧ ¬ d.govFlag m 3 then (d.setGovFlag m 3 true).raise GOV_INT_STAT 5
  else d

/-- Takes a new fresh record (R177, R179): it sets how long the position stays fresh and compares it with the previous
one. -/
def Device.takeRecord (d : Device) (m k : Nat) : Device :=
  let h := d.fe m 44
  let new := (d.published m).isSome && !bitOf (d.fe m 42) 2 && (d.gm m).seen ≠ some h
  if ¬ new then d
  else
    let last := 5 * Nat.max 1 (d.fe m 78) + k - 1
    let same := (d.gm m).seen.isSome && d.fe m 108 = d.fe m 48 && d.fe m 112 = d.fe m 52 && d.fe m 116 = d.fe m 56
    let n := if same ∧ 0 < d.fe m 92 ∧ ¬ d.govFlag m 0 then holdAt 255 (d.fe m 97 + 1) else 0
    let e := d.setGm m { d.gm m with seen := some h }
    let e := e.setFes m [(97, n), (100, (d.heat + last / 5) % 2 ^ 32), (104, last % 5), (108, d.fe m 48),
      (112, d.fe m 52), (116, d.fe m 56)]
    let e := if same then e else e.setGovFlag m 3 false
    e.frozenCheck m

/-- STALE is set when a missed count that the machine's loops use reaches STALE_LIMIT (R178). -/
def Device.staleCheck (d : Device) (m : Nat) : Device :=
  let p := d.fe m 174
  let n := if p < 4096 ∧ d.governed p then Nat.max (d.fe m 96) (d.fe p 96) else d.fe m 96
  let lim := d.fld GOV_CFG 0 8
  if ¬ d.governed m then d
  else if lim ≤ n ∧ ¬ d.govFlag m 2 then (d.setGovFlag m 2 true).raise GOV_INT_STAT 4
  else if n < lim then d.setGovFlag m 2 false
  else d

/-- Settles a machine's missed count at a sample (R177). -/
def Device.freshStep (d : Device) (k m : Nat) : Device :=
  let e := d.takeRecord m k
  e.setFe m 96 (if e.fresh m k then 0 else holdAt 255 (e.fe m 96 + 1))

/-! ## Regions (R180, R185) -/

/-- The candidate region. -/
def Device.candidate (d : Device) (m : Nat) : Nat :=
  let p := d.fe m 80 % 16
  let surf := match d.current m with | some (_, c) => d.sg c.seg 10 % 4 | none => 0
  8 * b2n (d.fe m 88 ≤ d.fe m 86) + 2 * surf +
    b2n (recGet (d.coef d.bankOn p 0 9) 0 ≤ d.govSpeed m)

/-- Clips a machine's integrators to its region's bounds (R185): whether a value changed, and the device. -/
def Device.clipInteg (d : Device) (m : Nat) : Bool × Device :=
  let g := d.gm m
  let clip (i : Nat) (x : Int) : Int :=
    let c := d.coef d.bankOn (d.fe m 80 % 16) (d.region m) i
    let lo := toSigned 16 (recGet c 8) * 256
    let hi := toSigned 16 (recGet c 10) * 256
    if x < lo then lo else if hi < x then hi else x
  let new := (List.range 7).map fun i => clip i (g.integ.getD i 0)
  let hit := (List.range 7).any fun i => new.getD i 0 ≠ g.integ.getD i 0
  let e := d.setGm m { g with integ := new }
  (hit, if hit then (e.raise GOV_INT_STAT 2).count GOV_SATSWAP_CNT else e)

/-- Makes a region current. -/
def Device.toRegion (d : Device) (m r : Nat) : Device :=
  d.setFes m [(94, setBits (d.fe m 94) 4 4 r), (99, d.fe m 99 % 16)]

/-- A candidate region whose pending count is 3 becomes current (R180): integrators are clipped (R185). -/
def Device.regionCheck (d : Device) (m : Nat) : Bool × Device :=
  if d.governed m ∧ bitsOf (d.fe m 99) 4 2 = 3 then (d.toRegion m (d.fe m 99 % 16)).clipInteg m else (false, d)

/-- The region step of a sample: whether an integrator was clipped, and the device. A machine newly ACTIVE takes its
candidate at once with its integrators at 0; one whose profile changed does too (log entry 23). -/
def Device.regionStep (d : Device) (m : Nat) : Bool × Device :=
  let c := d.candidate m
  let g := d.gm m
  if g.restart then
    let e := d.setGm m { g with restart := false, integ := List.replicate 7 0 }
    (false, e.toRegion m c)
  else if c = d.region m then (false, d.setFe m 99 (d.fe m 99 % 16))
  else
    let n := if d.fe m 99 % 16 = c ∧ bitsOf (d.fe m 99) 4 2 ≠ 0 then bitsOf (d.fe m 99) 4 2 + 1 else 1
    (d.setFe m 99 (c + 16 * Nat.min 3 n)).regionCheck m

/-! ## Zones (R189) -/

/-- A zone's state. -/
def Device.zone (d : Device) (z : Nat) : Zone := Tab.getD d.gov.zones z ⟨0, 0, 0, 0, false⟩

/-- Whether a zone that is watched has received nothing for ZONE_TTL samples. -/
def Device.zoneOver (d : Device) (z : Nat) : Bool :=
  (d.zone z).st ≠ 0 && d.fld GOV_CFG 16 8 ≤ (d.zone z).since

/-- A zone that ran out is read as occupied, and reported (R189). -/
def Device.zoneCheck (d : Device) (z : Nat) : Device :=
  if d.zoneOver z ∧ ¬ (d.zone z).said then
    ({ d with gov := { d.gov with zones := Tab.put d.gov.zones z { d.zone z with said := true } } }).raise GOV_INT_STAT 6
  else d

/-- The zone states of a sample (R189): posts that arrived at least 1 ms before it take effect in ascending partition
order; the other zones age. -/
def Device.zonesTake (d : Device) (t : Nat) : Device :=
  let now := d.gov.posts.filter fun p => p.at_ + 1000000 ≤ t
  let now := sortBy (fun (a b : ZonePost) => a.part ≤ b.part) now
  let d := { d with gov := { d.gov with
      posts := d.gov.posts.filter fun p => t < p.at_ + 1000000
      zones := Tab.mapV d.gov.zones fun _ z => { z with since := z.since + 1 } } }
  let d := d.forEach now fun p e =>
    { e with gov := { e.gov with zones := Tab.put e.gov.zones p.zone ⟨p.st, p.e, p.n, 0, false⟩ } }
  d.forEach (d.gov.zones.map (·.1)) fun z e => e.zoneCheck z

/-! ## The loops (R170 to R174) -/

/-- What a loop is given: its error and its feed-forward. `none`: nothing to govern. -/
abbrev LoopIn := Option (Frac × Int)

/-- A fraction held to ±(2^31 - 1). -/
def satErr (e : Frac) : Frac := Frac.clamp ⟨2147483647, 1⟩ e

/-- The gain at an error (R171). -/
def gainAt (c : Tab Nat) (e : Frac) : Frac :=
  let g (i : Nat) : Int := recGet c (32 + 2 * i)
  let estep := Nat.max 1 (recGet c 14)
  let a : Frac := ⟨e.num.natAbs, e.d⟩
  let i := a.num.toNat / (a.d * estep)
  let r := Frac.sub a ⟨(i * estep : Nat), 1⟩
  if 31 ≤ i then ⟨g 31, 1⟩
  else
    let q : Int := (g (i + 1) - g i) * r.num
    ⟨g i + Int.tdiv q ((r.d * estep : Nat) : Int), 1⟩

/-- The proposal and the integrator of a loop (R171). -/
def loopOut (c : Tab Nat) (e : Frac) (f : Int) (vmax : Nat) (held : Bool) (integ : Int) : Nat × Int :=
  let m := gainAt c e
  let me := Frac.mul m e
  let up := (Frac.mul ⟨toSigned 32 (recGet c 0), 2 ^ 28⟩ me).round
  let inc := (Frac.mul ⟨toSigned 32 (recGet c 4) * 256, 50 * 2 ^ 28⟩ me).round
  let lo := toSigned 16 (recGet c 8) * 256
  let hi := toSigned 16 (recGet c 10) * 256
  let nx := integ + inc
  let integ := if held then integ else if nx < lo then lo else if hi < nx then hi else nx
  let u := f + up + roundDiv integ 256
  (if u < 0 then 0 else if (vmax : Int) < u then vmax else u.toNat, integ)

/-- The gap to the reserved predecessor, mm (R170). -/
def Device.govGap (d : Device) (m k : Nat) : Option Int :=
  let p := d.fe m 174
  match (if p < 4096 ∧ d.mstate p ≠ 0 then d.govPos p k else none), d.govPos m k with
  | some b, some a => some ((distEN a b : Int) - ((d.fe m 82 + d.fe p 82) / 2 : Nat))
  | _, _ => none

/-- The cross-track error from the current segment's line, mm, positive to the left of travel (R170). -/
def Device.crossTrack (d : Device) (m k : Nat) : Option Int :=
  match d.current m, d.govPos m k with
  | some (_, c), some p =>
    let a := d.juncPos (d.startJ c.seg c.back)
    let b := d.juncPos (d.endJ c.seg c.back)
    let ux := b.1 - a.1
    let uy := b.2.1 - a.2.1
    let l2 := (ux * ux + uy * uy).toNat
    let cr := ux * (p.2.1 - a.2.1) - uy * (p.1 - a.1)
    let mag := if l2 = 0 then 0 else sqrtNearQ (cr * cr).toNat l2
    some (if cr < 0 then -(mag : Int) else mag)
  | _, _ => none

/-- The ZONE limit, mm/s (R172). -/
def Device.zoneLimit (d : Device) (m dec : Nat) : Nat :=
  match d.current m with
  | none => 0
  | some (i, c) =>
    let lim := d.sg c.seg 8
    if d.fe m 144 = 0 then 0
    else if c.cls = 2 then lim
    else
      let rem := d.sg c.seg 4 - d.fe m 180
      let next := (d.afterCur m).head?
      let lnext := match next with
        | some n => d.sg n.2.seg 8
        | none => if d.fe m 152 = i then 0 else lim
      let v := Nat.min lim (isqrt (lnext * lnext + 2 * dec * rem))
      match next with
      | some n =>
        let dt := diff24 n.2.enter d.storeNow
        if 0 < dt then Nat.min v (rem * 100 / dt.toNat) else v
      | none => v

/-- The distance to the nearest person of the current segment's clearance zone (R170, R189). -/
def Device.personDist (d : Device) (m k : Nat) : Option Nat :=
  match d.current m, d.govPos m k with
  | some (_, c), some p =>
    let z := d.sg c.seg 14
    if z = 0 ∨ (d.zone z).st = 0 then none
    else if d.zoneOver z then some 0
    else if (d.zone z).st = 2 then some (distEN p ((d.zone z).e, (d.zone z).n, 0))
    else none
  | _, _ => none

/-- The error of the ENERGY loop (R170), Wh. -/
def Device.energyErr (d : Device) (m k : Nat) : Option Frac :=
  let charging : Bool := match d.task (d.fe m 208) with | some t => t.sort = 2 | none => false
  match d.govPos m k with
  | some p =>
    if d.alo.prof = none ∨ bitOf (d.fe m 212) 0 ∨ charging then none
    else
      let need := d.dockDist p * d.ap 2 2 * d.fe m 224 * 100 + d.ap 6 1 * d.fe m 220 * 1000000000
      some (Frac.sub ⟨(d.fe m 216 : Int), 1⟩ ⟨(need : Int), 100000000000⟩)
  | none => none

/-- The inputs of loops 0 to 5 at a sample (R170). -/
def Device.loopIn (d : Device) (m k : Nat) (i : Nat) (lim c : Tab Nat) : LoopIn :=
  let v := d.govSpeed m
  let ff : Int := recGet c 12
  if i = 0 then
    (d.govGap m k).map fun g =>
      (Frac.sub ⟨g - (recGet lim 6 : Nat), 1⟩ ⟨((recGet lim 8 * v : Nat) : Int), 100⟩, (d.govSpeed (d.fe m 174) : Int))
  else if i = 1 then (d.crossTrack m k).map fun x => (⟨(recGet lim 10 : Int) - x.natAbs, 1⟩, ff)
  else if i = 2 then
    let z := d.zoneLimit m (recGet lim 4)
    some (⟨(z : Int) - v, 1⟩, (z : Int))
  else if i = 3 then
    match d.current m with
    | some (_, e) =>
      let l := d.sg e.seg 12
      if l = 0 then none else some (⟨(l : Int) - (d.fe m 84 + d.fe m 86 : Nat), 1⟩, ff)
    | none => none
  else if i = 4 then (d.energyErr m k).map fun e => (e, ff)
  else if i = 5 then (d.personDist m k).map fun x => (⟨(x : Int) - (recGet lim 12 : Nat), 1⟩, ff)
  else none

/-- What the eight loops give a machine: proposals, errors and integrators by code, and whether any was held. -/
structure Loops where
  /-- Proposals. -/
  prop : List Nat
  /-- Errors. -/
  err : List Int
  /-- Integrators. -/
  integ : List Int
  /-- An integrator was held. -/
  held : Bool
  deriving DecidableEq, Repr

/-- Whether PERMIT proposes 0 (R173). -/
def Device.permitZero (d : Device) (m : Nat) : Bool := stopState d.stp || (stopMachines d.stp.list).contains m

/-- The missed count that SEPARATION uses (R177). -/
def Device.sepMissed (d : Device) (m : Nat) : Nat :=
  let p := d.fe m 174
  if p < 4096 ∧ d.governed p then Nat.max (d.fe m 96) (d.fe p 96) else d.fe m 96

/-- The eight loops of a machine at a sample. -/
def Device.loops (d : Device) (m k : Nat) : Loops :=
  let p := d.fe m 80 % 16
  let r := d.region m
  let bank := d.bankOn
  let lim := d.coef bank p r 8
  let vmax := recGet lim 0
  let permit := d.permitZero m
  let stale := d.fld GOV_CFG 0 8
  let missed (i : Nat) : Nat := if i = 0 then d.sepMissed m else d.fe m 96
  let holds (i : Nat) : Bool := permit || (3 ≤ missed i && (i = 0 || i = 1 || i = 2 || i = 5))
  let one (i : Nat) : Nat × Int × Int :=
    let c := d.coef bank p r i
    let integ := (d.gm m).integ.getD i 0
    let on := recGet c 16 = 1
    if i = 7 then (if permit then 0 else vmax, 0, 0)
    else if i = 6 then
      if d.mstate m = 4 then (0, 0, integ)
      else if on ∧ d.fe m 90 ≠ 0xFFFF then (Nat.min vmax (d.fe m 90), 0, integ)
      else (vmax, 0, integ)
    else
      let staleZero := (i = 0 || i = 1) && (stale ≤ d.fe m 96 || (i = 0 && stale ≤ d.sepMissed m))
      match (if on then d.loopIn m k i lim c else none) with
      | none => (if staleZero then 0 else vmax, 0, integ)
      | some (e, f) =>
        let e := satErr e
        match loopOut c e f vmax (holds i) integ with
        | (u, g) =>
          let u := if i = 2 then Nat.min u f.toNat else u
          (if staleZero then 0 else u, e.round, g)
  let l := (List.range 8).map one
  { prop := l.map (·.1), err := l.map (·.2.1), integ := (l.map (·.2.2)).take 7, held := (List.range 7).any holds }

/-- The raw allowance and the governing loop (R174): the lowest proposal, the highest code on a tie. -/
def govern (prop : List Nat) : Nat × Nat :=
  (List.range 8).foldl (fun (a : Nat × Nat) i => if prop.getD i 0 ≤ a.1 then (prop.getD i 0, i) else a)
    (prop.getD 0 0, 0)

/-- The sent allowance (R175): `zero` says that PERMIT or a stale zero governs. -/
def rateLimit (a prev acc dec : Nat) (zero : Bool) : Nat :=
  if prev < a then Nat.min a (prev + Nat.max 1 (acc / 50))
  else if zero then a
  else Nat.max a (prev - Nat.max 1 (dec / 50))

/-- Computes one machine at a sample (R170 to R185). `swapped` says that a bank swap took effect. -/
def Device.governOne (d : Device) (k : Nat) (swapped : Bool) (m : Nat) : Device :=
  let (c1, d) := d.regionStep m
  let (c2, d) := if swapped then d.clipInteg m else (false, d)
  let d := d.staleCheck m
  let l := d.loops m k
  let (raw, code) := govern l.prop
  let lim := d.coef d.bankOn (d.fe m 80 % 16) (d.region m) 8
  let staleZero := code ≤ 1 && d.govFlag m 2
  let a := rateLimit raw (d.fe m 92) (recGet lim 2) (recGet lim 4) (code = 7 || staleZero)
  let flags := setBits (setBits (setBits (setBits (d.fe m 95) 1 1 (b2n l.held)) 4 1 (b2n (c1 || c2))) 5 1 0) 6 1 0
  let d := d.setGm m { d.gm m with integ := l.integ, prop := l.prop, err := l.err }
  let xt := match d.crossTrack m k with | some x => satSigned 16 x | none => 0
  let d := d.setFes m [(92, a), (94, 16 * d.region m + code), (95, flags), (98, 0),
    (120, ofSigned 32 ((d.govGap m k).getD 0)), (124, ofSigned 16 xt)]
  if d.mstate m = 4 ∧ a = 0 then
    { d with flt := { d.flt with leave := Tab.put d.flt.leave m (Tab.getD d.flt.leave m 0 + 1) } }
  else d

/-! ## Misses and faults (R190 to R192) -/

/-- Three consecutive misses fault a machine and name it to the stop sequencer (R191). -/
def Device.machFaultCheck (d : Device) (m : Nat) : Device :=
  if d.governed m ∧ d.fe m 98 = 3 ∧ ¬ d.govFlag m 6 then
    let e := ((d.setGovFlag m 6 true).raise GOV_INT_STAT 0).wrN GOV_FAULT_MACH m
    let e := e.slagB .gov 0x0101 m (leBytes 1 (d.fe m 94 % 8))
    e.listAdds [m] 4
  else d

/-- A machine misses a sample (R190). -/
def Device.missOne (d : Device) (m : Nat) : Device :=
  let e := d.setFes m [(94, setBits (d.fe m 94) 3 1 1), (95, setBits (d.fe m 95) 5 1 1),
    (98, Nat.min 3 (d.fe m 98 + 1))]
  (e.count GOV_MISS_CNT).machFaultCheck m

/-- Three consecutive engine misses raise the governor stop source (R192). -/
def Device.engineFaultCheck (d : Device) : Device :=
  if d.fld GOV_STAT 6 2 = 3 ∧ ¬ d.stp.engineFault then
    let e := (d.raise GOV_INT_STAT 1).latchCause 5
    e.slag (blkNum .gov) 0x0102 noUnit 8 (leBytes 4 (d.rdN GOV_LAT))
  else d

/-- What ECC finds in the machine state words (R190, R514). -/
def Device.govEcc (d : Device) (l : List (Nat × Nat × Bool)) : Device :=
  d.forEach l fun x e =>
    if x.2.2 then
      let f := { e with gov := { e.gov with bad := if e.gov.bad.contains x.1 then e.gov.bad else e.gov.bad ++ [x.1] } }
      f.lasting none (blkNum .gov) 0x0103 x.1 (leBytes 4 x.2.1) false
    else e.transient none (blkNum .gov) 0x0103 x.1 (leBytes 4 x.2.1) false

/-! ## Allowance frames (R193) -/

/-- The entry of a machine. -/
def Device.allowEntry (d : Device) (m : Nat) : Bytes :=
  leBytes 4 (m + 2 ^ 12 * (d.fe m 94 % 8) + 2 ^ 15 * bitsOf (d.fe m 94) 3 1 + 2 ^ 16 * d.fe m 92)

/-- A list cut into pieces of at most `n`. -/
def chunks {α : Type} (n : Nat) : Nat → List α → List (List α)
  | 0, _ => []
  | k + 1, l => if l.isEmpty then [] else l.take n :: chunks n k (l.drop n)

/-- Sends the frames of one group. -/
def Device.groupFrames (d : Device) (k ns g : Nat) (ms : List Nat) : Device :=
  let cs := chunks 64 16 ms
  d.forEach ((List.range cs.length).zip cs) fun x e =>
    e.multicast g (leBytes 1 0x61 ++ leBytes 1 1 ++ leBytes 1 g ++
      leBytes 1 (x.1 + 16 * b2n (x.1 + 1 = cs.length) + 32 * b2n (stopState d.stp)) ++ leBytes 4 d.heat ++
      leBytes 1 k ++ leBytes 1 x.2.length ++ zeros 2 ++ leBytes 4 ns ++ (x.2.map d.allowEntry).flatten)

/-- Sends a sample's frames, in ascending group and frame index. -/
def Device.allowanceFrames (d : Device) (k ns : Nat) (ms : List Nat) : Device :=
  let groups := sortBy (fun (a b : Nat) => a ≤ b) (nub (ms.map fun m => d.fe m 81))
  d.forEach groups fun g e => e.groupFrames k ns g (ms.filter fun m => d.fe m 81 = g)

/-! ## The sample (R168) -/

/-- A pending swap takes effect (R184). -/
def Device.bankSwap (d : Device) : Device :=
  if d.bit GOV_STAT 1 then
    (((d.wbit GOV_STAT 0 (!d.bit GOV_STAT 0)).wbit GOV_STAT 1 false).wbit GOV_BANK 0 false).raise GOV_INT_STAT 3
  else d

/-- A governor sample, but for the state mirror. -/
def Device.govSample (d : Device) (k : Nat) (late : List Nat) (ecc : List (Nat × Nat × Bool)) (sent : Bool) (lat : Nat) :
    Device :=
  let swapped := d.bit GOV_STAT 1
  let d := (d.bankSwap.zonesTake (d.heatAbs * 100000000 + k * 20000000)).govEcc ecc
  let ms := d.machines.filter d.governed
  let d := { d with gov := { d.gov with
      last := some (d.heatAbs, k), mach := d.gov.mach.filter fun e => d.governed e.1 } }
  let new := ms.filter fun m => (Tab.find d.gov.mach m).isNone
  let d := d.forEach new fun m e => (e.setGm m (e.gm m)).setFes m [(92, 0), (96, 0), (97, 0), (98, 0), (99, 0)]
  let miss := ms.filter fun m => late.contains m || d.gov.bad.contains m
  let d := d.forEach ms fun m e => e.freshStep k m
  let d := d.forEach ms fun m e => if miss.contains m then e.missOne m else e.governOne k swapped m
  let ns := (d.heatAbs * 100000000 + k * 20000000) % 2 ^ 32
  let d := if sent then d.allowanceFrames k ns ms else d
  let d := (d.wrN GOV_LAST_HEAT d.heat).wfld GOV_STAT 2 3 k
  let d := (d.wrN GOV_LAT (holdAt 0xFFFF lat)).peak GOV_LAT_MAX (holdAt 0xFFFF lat)
  let d := d.wrN GOV_STALE_NOW (ms.filter fun m => d.govFlag m 2).length
  let d := d.wfld GOV_STAT 6 2 (if sent then 0 else Nat.min 3 (d.fld GOV_STAT 6 2 + 1))
  let d := if sent ∧ miss = [] then { d with stp := { d.stp with govOk := true } } else d
  d.engineFaultCheck

/-- Whether the sample `k` of the heat may run now: the block is enabled, and no later sample of the heat was taken. -/
def Device.sampleDue (d : Device) (k : Nat) : Bool :=
  d.running && d.bit GOV_CTRL 0 && k ≤ 4 &&
    (match d.gov.last with | some (h, j) => h < d.heatAbs || (h = d.heatAbs && j < k) | none => true)

/-! ## Host packets, at the heat boundary (R183, R184, R188) -/

/-- GOV_COEF (R183): a record of the inactive bank. -/
def Device.govCoef (c : Cmd) (d : Device) : Device :=
  let b := c.body
  let t := uAt b 2 1
  let known := t ≤ 6 || t = 8 || t = 9
  if ¬ d.right c.part rPlan then d.answer c stDenied []
  else if ¬ known ∨ b.length ≠ 4 + coefLen t ∨ 16 ≤ uAt b 0 1 ∨ 16 ≤ uAt b 1 1 ∨ uAt b 3 1 ≠ 0 ∨
      ¬ coefOk t (b.drop 4) then d.answer c stRejected []
  else
    let key := coefKey (1 - d.bankOn) (uAt b 0 1) (uAt b 1 1) t
    ({ d with gov := { d.gov with coef := Tab.put d.gov.coef key (layRead (layCoef t) (b.drop 4)) } }).answer c stDone []

/-- GOV_SWAP (R184). -/
def Device.govSwap (c : Cmd) (d : Device) : Device :=
  if ¬ d.right c.part rPlan then d.answer c stDenied []
  else ((d.wbit GOV_STAT 1 true).wbit GOV_BANK 0 true).answer c stDone []

/-- Runs `f` for the owner of a machine that holds the plan right (R188). -/
def planOwner (f : Nat → Cmd → Device → Device) (c : Cmd) (d : Device) : Device :=
  if ¬ d.right c.part rPlan then d.answer c stDenied [] else withMachine true f c d

/-- Writes a governor input (R186): a change of profile restarts the region (R188). -/
def Device.govInput (d : Device) (m off v : Nat) : Device :=
  let new := off = 80 && d.fe m 80 ≠ v
  let e := d.setFe m off v
  if new ∧ (Tab.find e.gov.mach m).isSome then e.setGm m { e.gm m with restart := true } else e

/-- GOV_MACHINE (R188). -/
def Device.govMachine (c : Cmd) (d : Device) : Device :=
  let b := c.body
  if 16 ≤ uAt b 2 1 then d.answer c stRejected []
  else
    planOwner (fun m c d =>
      (d.forEach [(80, 2, 1), (81, 3, 1), (82, 4, 2), (84, 6, 2), (86, 8, 2), (88, 10, 2)] fun x e =>
        e.govInput m x.1 (uAt b x.2.1 x.2.2)).answer c stDone []) c d

/-- GOV_OVERRIDE (R188). -/
def Device.govOverride (c : Cmd) (d : Device) : Device :=
  planOwner (fun m c d => (d.govInput m 90 (uAt c.body 2 2)).answer c stDone []) c d

/-- GOV_READ (R188): fleet-table bytes 80 to 143 and machine-state bytes 0 to 79. -/
def Device.govRead (c : Cmd) (d : Device) : Device :=
  if ¬ tailZero c.body 2 then d.answer c stRejected []
  else
    withMachine false (fun m c d =>
      if d.mayRead c.part m then d.answer c stDone (sliceB (d.entryBytes m) 80 64 ++ d.govStateBytes m)
      else d.answer c stDenied []) c d

/-- ZONE_STATE on arrival (R189, R380). -/
def Device.zonePost (c : Cmd) (d : Device) : Device :=
  let b := c.body
  if 3 ≤ uAt b 1 1 ∨ uAt b 2 2 ≠ 0 then d.answer c stRejected []
  else
    let p : ZonePost := ⟨c.part, uAt b 0 1, uAt b 1 1, sAt b 4 4, sAt b 8 4, d.tb0⟩
    ({ d with gov := { d.gov with posts := d.gov.posts ++ [p] } }).answer c stDone []

/-! ## Commands -/

/-- STALE (R178). -/
def execStale (m : Nat) (s : State) : Host.Outcome State Fault Refusal := .next { s with dev := s.dev.staleCheck m }

/-- FROZEN (R179). -/
def execFrozen (m : Nat) (s : State) : Host.Outcome State Fault Refusal := .next { s with dev := s.dev.frozenCheck m }

/-- REGION_CHANGE (R180). -/
def execRegionChange (m : Nat) (s : State) : Host.Outcome State Fault Refusal :=
  .next { s with dev := (s.dev.regionCheck m).2 }

/-- MACH_FAULT (R191). -/
def execMachFault (m : Nat) (s : State) : Host.Outcome State Fault Refusal :=
  .next { s with dev := s.dev.machFaultCheck m }

/-- ENGINE_FAULT (R192). -/
def execEngineFault (s : State) : Host.Outcome State Fault Refusal := .next { s with dev := s.dev.engineFaultCheck }

/-- ZONE_TTL (R189). -/
def execZoneTtl (z : Nat) (s : State) : Host.Outcome State Fault Refusal := .next { s with dev := s.dev.zoneCheck z }

/-- GOV_COEF (R183). -/
def execGovCoef (h : HostPkt) (s : State) : Host.Outcome State Fault Refusal :=
  .next { s with dev := s.dev.hostCmd 0x0700 h (ifHolder holdIt) }

/-- GOV_SWAP (R184). -/
def execGovSwap (h : HostPkt) (s : State) : Host.Outcome State Fault Refusal :=
  .next { s with dev := s.dev.hostCmd 0x0701 h (withLen 0 (ifHolder holdIt)) }

/-- GOV_BANK_SWAP (R184): the warden sets GOV_BANK.SWAP. -/
def execGovBankSwap (s : State) : Host.Outcome State Fault Refusal :=
  .next { s with dev := (s.dev.wbit GOV_STAT 1 true).wbit GOV_BANK 0 true }

/-- GOV_MACHINE (R188). -/
def execGovMachine (h : HostPkt) (s : State) : Host.Outcome State Fault Refusal :=
  .next { s with dev := s.dev.hostCmd 0x0702 h (withLen 12 (ifHolder holdIt)) }

/-- GOV_OVERRIDE (R188). -/
def execGovOverride (h : HostPkt) (s : State) : Host.Outcome State Fault Refusal :=
  .next { s with dev := s.dev.hostCmd 0x0703 h (withLen 4 (ifHolder holdIt)) }

/-- GOV_READ (R188). -/
def execGovRead (h : HostPkt) (s : State) : Host.Outcome State Fault Refusal :=
  .next { s with dev := s.dev.hostCmd 0x0704 h (withLen 4 holdIt) }

/-- ZONE_STATE (R189). -/
def execZoneState (h : HostPkt) (s : State) : Host.Outcome State Fault Refusal :=
  .next { s with dev := s.dev.hostCmd 0x0705 h (withLen 12 (withRight rPlan (ifHolder Device.zonePost))) }

end Sys2Proof.Machine
end

