-- ==== Sys2Proof/Machine/Memory.lean ====
section
/-!
DEFINITION. Machine/Memory.lean: the byte memories (R223, R228, R508): which memory an address names, reads and writes
of bytes with the tables that stand in their own fields laid over them, poison (R281, R282), and memory errors (R229).
-/
namespace Sys2Proof.Machine

/-- The memories that a load, a store or the on-die side of a transfer can name. -/
inductive MemKind where
  | crucible (a : Nat) | hearth (h : Nat) | forge
  deriving DecidableEq, Repr

/-- The first byte of forge memory. -/
def forgeBase : Nat := 0x0010000000
/-- The first byte of hearth memory `h`. -/
def hearthBase (h : Nat) : Nat := 0x0020000000 + h * 0x400000
/-- The first byte of the crucible of anvil `a`. -/
def crucibleBase (a : Nat) : Nat := 0x0030000000 + a * 0x40000
/-- The first byte of LPDDR. -/
def lpBase : Nat := 0x0100000000
/-- The first byte of the schedule region of LPDDR (R511). -/
def lpSchedule : Nat := 0x0104000000
/-- The first byte of the atlas in LPDDR (R511). -/
def atlasBase : Nat := 0x0140000000
/-- The copy of descriptor `n` in forge memory (R328). -/
def descAddr (n : Nat) : Nat := 0x0010480000 + n * 32

/-- Whether `n` bytes at an address lie in a region. -/
def lies (a n base size : Nat) : Bool := base ≤ a && a + n ≤ base + size

/-- The on-die memory in which `n` bytes at an address lie (R508). -/
def memAt (a n : Nat) : Option MemKind :=
  if lies a n forgeBase 0x1000000 then some .forge
  else if lies a n (hearthBase 0) 0x2000000 ∧ (a - hearthBase 0) / 0x400000 = (a + n - 1 - hearthBase 0) / 0x400000 then
    some (.hearth ((a - hearthBase 0) / 0x400000))
  else if lies a n (crucibleBase 0) 0x1000000 ∧
      (a - crucibleBase 0) / 0x40000 = (a + n - 1 - crucibleBase 0) / 0x40000 then
    some (.crucible ((a - crucibleBase 0) / 0x40000))
  else none

/-- The segment record of R122, with the segment head that the store keeps. -/
def Device.segBytes (d : Device) (s : Nat) : Bytes :=
  putB (layBytes laySeg 32 (d.seg s)) 28 (leBytes 4 (d.segHead s))

/-- The junction record of R123. -/
def Device.juncBytes (d : Device) (j : Nat) : Bytes := layBytes layJunc 16 (Tab.getD d.rsv.juncs j [])

/-- One byte of memory. -/
def Device.memByte (d : Device) (a : Nat) : Byte :=
  if lies a 1 forgeBase 0x200000 then (d.entryBytes ((a - forgeBase) / 512)).getD ((a - forgeBase) % 512) 0
  else if lies a 1 0x0010200000 0x200000 then (d.segBytes ((a - 0x0010200000) / 32)).getD (a % 32) 0
  else if lies a 1 0x0010400000 0x80000 then (d.juncBytes ((a - 0x0010400000) / 16)).getD (a % 16) 0
  else if lies a 1 lpBase 0x1000000 then (d.nodeBytes ((a - lpBase) / 64)).getD (a % 64) 0
  else if lies a 1 atlasBase (65536 * 1296) then BitVec.ofNat 8 (Tab.getD d.slv.atlas (a - atlasBase) 255)
  else Tab.getD d.mem.bytes a 0

/-- `n` bytes of memory. -/
def Device.memRead (d : Device) (a n : Nat) : Bytes := (List.range n).map fun i => d.memByte (a + i)

/-- Bytes written into the record of a table of `w`-byte records: the record's bytes with the run put in, where the run
does not leave the record. -/
def patch (old : Bytes) (off : Nat) (v : Bytes) : Bytes := (putB old off v).take old.length

/-- Writes a run of bytes that lies within one record of the tables, or anywhere else in memory. The segment head is
read-only to every writer (R122); reserved bytes of a fleet-table entry stay 0 (R104). -/
def Device.memPut (d : Device) (a : Nat) (v : Bytes) : Device :=
  if lies a 1 forgeBase 0x200000 then
    let m := (a - forgeBase) / 512
    d.setEntry m (layRead layFleet (patch (d.entryBytes m) ((a - forgeBase) % 512) v))
  else if lies a 1 0x0010200000 0x200000 then
    let s := (a - 0x0010200000) / 32
    { d with rsv := { d.rsv with segs := Tab.put d.rsv.segs s (layRead laySeg (patch (d.segBytes s) (a % 32) v)) } }
  else if lies a 1 0x0010400000 0x80000 then
    let j := (a - 0x0010400000) / 16
    { d with rsv := { d.rsv with juncs := Tab.put d.rsv.juncs j (layRead layJunc (patch (d.juncBytes j) (a % 16) v)) } }
  else if lies a 1 lpBase 0x1000000 then
    let n := (a - lpBase) / 64
    d.setNode n (layRead layNode (patch (d.nodeBytes n) (a % 64) v))
  else if lies a 1 atlasBase (65536 * 1296) then
    { d with slv := { d.slv with
        atlas := (List.range v.length).foldl (fun t i => Tab.set 255 t (a - atlasBase + i) (v.getD i 0).toNat) d.slv.atlas } }
  else
    { d with mem := { d.mem with
        bytes := (List.range v.length).foldl (fun t i => Tab.set 0 t (a + i) (v.getD i 0)) d.mem.bytes } }

/-- The 64-bit words that `n` bytes at an address touch. -/
def wordsOf (a n : Nat) : List Nat := (List.range ((a + n + 7) / 8 - a / 8)).map (a / 8 + ·)

/-- Whether one of `n` bytes at an address lies in a poisoned word. -/
def Device.memBad (d : Device) (a n : Nat) : Bool := (wordsOf a n).any d.mem.bad.contains

/-- Puts a word number into a strictly rising list of them. -/
def putWord (w : Nat) : List Nat → List Nat
  | [] => [w]
  | x :: t => if w < x then w :: x :: t else if w = x then x :: t else x :: putWord w t

/-- Whether a list of numbers rises strictly from a bound on. -/
def rises : Nat → List Nat → Bool
  | _, [] => true
  | b, x :: t => b ≤ x && rises (x + 1) t

/-- The canonical form of memory: byte addresses rise strictly, no byte that is listed equals what an unlisted address
reads as, and poisoned words rise strictly. -/
def Memory.wf (m : Mem) : Bool := Tab.wf (0 : Byte) m.bytes && rises 0 m.bad

/-- Marks the words that `n` bytes touch as poisoned, or clears the mark (R282). -/
def Device.memMark (d : Device) (a n : Nat) (bad : Bool) : Device :=
  let rest := d.mem.bad.filter fun w => ¬ (wordsOf a n).contains w
  { d with mem := { d.mem with bad := if bad then (wordsOf a n).foldl (fun l w => putWord w l) rest else rest } }

/-- A write of bytes, in runs of at most 16 that never leave a record, with the mark of their words. -/
def Device.memWrite (d : Device) (a : Nat) (v : Bytes) (bad : Bool) : Device :=
  let run (e : Device) (k : Nat) : Device :=
    let lo := if k = 0 then a else (a / 16 + k) * 16
    let w := sliceB v (lo - a) ((a / 16 + k + 1) * 16 - lo)
    if w = [] then e else e.memPut lo w
  ((List.range ((a + v.length + 15) / 16 - a / 16)).foldl run d).memMark a v.length bad

/-- The pattern of a poisoned word (R281). -/
def poisonWord : Nat := 0x7FF4000000000000

/-- The number of a memory in a fault record, and of its spares (R522, R239): the code of byte 20, and the unit. -/
def memCode : MemKind → Nat × Nat
  | .crucible a => (0, a)
  | .hearth h => (1, 0x100 + h)
  | .forge => (2, 0x108)

/-- The index of FAB_SPARE for a memory with spare lines. -/
def spareIx : MemKind → Nat
  | .hearth h => h
  | _ => 8

/-- A lasting fault at an address (R229): in hearth or forge memory the 64-byte line goes to a spare, which reads as
poison until written, or stays in place and reads as poison until written when no spare is left. The caller fences the
anvil of a crucible. -/
def Device.lastingMem (d : Device) (k : MemKind) (a : Nat) : Device :=
  let line := a / 64
  let c := memCode k
  match k with
  | .crucible _ =>
    ((d.memMark a 1 true).count FAB_LASTING).lasting none 0x0B 0x0101 c.2 (leBytes 1 c.1 ++ zeros 3 ++ leBytes 8 a) true
  | _ =>
    let used := d.fld (FAB_SPARE (spareIx k)) 0 9
    let spare := used < 256
    let e := (d.memMark (line * 64) 64 true).count FAB_LASTING
    let e := if spare then e.wfld (FAB_SPARE (spareIx k)) 0 9 (used + 1)
      else { e with fab := { e.fab with lines := if e.fab.lines.contains line then e.fab.lines else line :: e.fab.lines } }
    let e := (e.raiseIf spare FAB_INT_STAT 1).raiseIf (spare && 240 ≤ used + 1) FAB_INT_STAT 2
    e.lasting none 0x0B 0x0101 c.2 (leBytes 1 c.1 ++ leBytes 1 (b2n spare) ++ zeros 2 ++ leBytes 8 a) spare

/-- What ECC finds at a read of an on-die memory (R229): 1 one bit, corrected; 2 two bits and a clean re-read; 3 a
lasting fault. -/
def Device.eccRead (d : Device) (k : MemKind) (a ecc : Nat) : Device :=
  let c := memCode k
  if ecc = 1 then d.count FAB_ECC_CORR
  else if ecc = 2 then
    d.transient (some FAB_TRANSIENT) 0x0B 0x0101 c.2 (leBytes 1 c.1 ++ zeros 3 ++ leBytes 8 a) false
  else if ecc = 3 then d.lastingMem k a
  else if d.fab.lines.contains (a / 64) ∧ d.memBad a 1 then d.lastingMem k a
  else d

end Sys2Proof.Machine
end

