-- ==== Sys2Proof/Machine/Anvil.lean ====
section
/-!
DEFINITION. Machine/Anvil.lean: the anvils' register sets (R220, R240 to R242), results that land (R263, R281), and the
state of anvils and hearths that the dispatcher and the contract read.
-/
namespace Sys2Proof.Machine

/-- A register set in which every register holds 0. -/
def rsetOff : RSet :=
  { x := [], v := [], p := [], loops := [], lend := [], fpcsr := 0, pc := 0, pend := [], ready := 0, task := none }

/-- An anvil that has run nothing. -/
def anvilOff : Anvil :=
  { sets := [], now := 0, stroke0 := 0, bund := none, run := none, fails := [], reEnd := 0, started := [], gwr := []
    busy := 0, reruns := 0, failures := 0 }

/-- Anvil `a`. -/
def Device.anv (d : Device) (a : Nat) : Anvil := Tab.getD d.fab.anvils a anvilOff

/-- Replaces anvil `a`. -/
def Device.setAnv (d : Device) (a : Nat) (v : Anvil) : Device :=
  { d with fab := { d.fab with anvils := Tab.put d.fab.anvils a v } }

/-- A register set of an anvil. -/
def Anvil.rset (v : Anvil) (k : Nat) : RSet := Tab.getD v.sets k rsetOff

/-- Replaces a register set. -/
def Anvil.setR (v : Anvil) (k : Nat) (r : RSet) : Anvil := { v with sets := Tab.put v.sets k r }

/-- An x register: x0 reads 0 (R241). -/
def RSet.xr (r : RSet) (k : Nat) : XWord := if k % 32 = 0 then ⟨0, false⟩ else Tab.getD r.x (k % 32) ⟨0, false⟩

/-- The value of an x register. -/
def RSet.xv (r : RSet) (k : Nat) : Nat := (r.xr k).v.toNat

/-- A v register. -/
def RSet.vr (r : RSet) (k : Nat) : VWord := Tab.getD r.v (k % 32) ⟨0, 0⟩

/-- A predicate: p0 reads 0xFF (R241). -/
def RSet.pr (r : RSet) (k : Nat) : Nat := if k % 8 = 0 then 0xFF else Tab.getD r.p (k % 8) 0

/-- Writes an x register; a write of x0 is discarded (R241). A poisoned word holds the poison pattern (R281). -/
def RSet.wx (r : RSet) (k val : Nat) (bad : Bool) : RSet :=
  if k % 32 = 0 then r
  else { r with x := Tab.put r.x (k % 32) ⟨BitVec.ofNat 64 (if bad then poisonWord else val), bad⟩ }

/-- Writes a predicate; a write of p0 is discarded (R241). -/
def RSet.wp (r : RSet) (k val : Nat) : RSet := if k % 8 = 0 then r else { r with p := Tab.put r.p (k % 8) (val % 256) }

/-- The 64-bit lane `k` of a 256-bit value (R242). -/
def lane64 (v k : Nat) : Nat := bitsOf v (64 * k) 64

/-- The 32-bit lane `k` of a 256-bit value (R242). -/
def lane32 (v k : Nat) : Nat := bitsOf v (32 * k) 32

/-- A 256-bit value from its 64-bit lanes, lane 0 first. -/
def ofLanes64 (l : List Nat) : Nat := (l.getD 0 0 % 2 ^ 64) + (l.getD 1 0 % 2 ^ 64) * 2 ^ 64 +
  (l.getD 2 0 % 2 ^ 64) * 2 ^ 128 + (l.getD 3 0 % 2 ^ 64) * 2 ^ 192

/-- A 256-bit value from its 32-bit lanes, lane 0 first. -/
def ofLanes32 (l : List Nat) : Nat :=
  ofLanes64 ((List.range 4).map fun k => l.getD (2 * k) 0 % 2 ^ 32 + (l.getD (2 * k + 1) 0 % 2 ^ 32) * 2 ^ 32)

/-- One quarter of a v register after a write of the lanes of `mask`: its value and its tag. A poisoned result poisons
the whole quarter; a clean write of a part of a poisoned quarter leaves it poisoned (R281, R282). -/
def quarter (old : Nat) (oldBad : Bool) (new : Nat) (newBad : Bool) (m : Nat) : Nat × Bool :=
  if m % 4 = 0 then (old, oldBad)
  else if newBad || (oldBad && m % 4 ≠ 3) then (poisonWord, true)
  else
    ((if bitOf m 0 then new % 2 ^ 32 else old % 2 ^ 32) +
      (if bitOf m 1 then new / 2 ^ 32 % 2 ^ 32 else old / 2 ^ 32 % 2 ^ 32) * 2 ^ 32, false)

/-- Writes the lanes of `mask` of a v register. -/
def RSet.wv (r : RSet) (k val bad mask : Nat) : RSet :=
  let o := r.vr k
  let q := (List.range 4).map fun j =>
    quarter (lane64 o.v.toNat j) (bitOf o.bad j) (lane64 val j) (bitOf bad j) (mask / 4 ^ j)
  { r with
      v := Tab.put r.v (k % 32)
        ⟨BitVec.ofNat 256 (ofLanes64 (q.map (·.1))),
         ((List.range 4).foldl (fun s j => s + b2n (q.getD j (0, false)).2 * 2 ^ j) 0)⟩ }

/-- A result lands in its register. -/
def RSet.land (r : RSet) (p : Pend) : RSet :=
  if p.kind = 0 then r.wx p.reg p.val (p.bad ≠ 0)
  else if p.kind = 1 then r.wv p.reg p.val p.bad p.mask
  else r.wp p.reg (Nat.lor (Nat.land p.val p.mask) (Nat.land (r.pr p.reg) (255 - p.mask % 256)))

/-- Puts a result behind those that land no later: in order of landing, and of issue within one cycle (R245). -/
def insDue (p : Pend) : List Pend → List Pend
  | [] => [p]
  | q :: t => if p.due.getD 0 < q.due.getD 0 then p :: q :: t else q :: insDue p t

/-- Every result due before cycle `t` lands, in order (R263). -/
def RSet.landTo (r : RSet) (t : Nat) : RSet :=
  let due (p : Pend) : Bool := match p.due with | some c => c < t | none => false
  let l := (r.pend.filter due).foldl (fun a p => insDue p a) []
  l.foldl RSet.land { r with pend := r.pend.filter fun p => !due p }

/-- The anvil's cycle becomes `t`, with every result due before it landed. -/
def Anvil.cycleTo (v : Anvil) (t : Nat) : Anvil :=
  { v with now := t, sets := Tab.mapV v.sets fun _ r => r.landTo t }

/-- Cycles of the anvil since the stroke began. -/
def Anvil.cyc (v : Anvil) : Nat := v.now - v.stroke0

/-- Whether an anvil is fenced (R237). -/
def Device.fenced (d : Device) (a : Nat) : Bool :=
  if a < 32 then d.bit FAB_FENCE_LO a else d.bit FAB_FENCE_HI (a - 32)

/-- Fenced anvils. -/
def Device.fencedN (d : Device) : Nat := ((List.range 64).filter d.fenced).length

/-- Whether a hearth is powered and outside a power-gate window (R236, R239). -/
def Device.hearthUp (d : Device) (h : Nat) : Bool := d.bit FAB_STAT (8 + h) && !d.bit FAB_STAT (16 + h)

/-- Whether an admitted image runs (R239). -/
def Device.fabRuns (d : Device) : Bool := d.bit FAB_CTRL 0 && d.bit FAB_STAT 2

/-- The rung in force. -/
def Device.rung (d : Device) : Nat := d.fld FAB_STAT 0 2

/-- CD2 cycles per microsecond at a rung (R221). -/
def rungMhz (r : Nat) : Nat := if r = 0 then 1200 else if r = 1 then 1050 else if r = 2 then 900 else 750

/-- CD2 cycles per stroke at a rung (R221). -/
def rungN (r : Nat) : Nat := rungMhz r * 10000

/-- The owner number of a register set in the queues (R316). -/
def ownerOf (a set : Nat) : Nat := a * 8 + set

/-- Discards the open packets of a context and ends its ownership of its current input packet (R341). -/
def Device.dropOwned (d : Device) (w : Nat) : Device :=
  d.forEach (d.que.map (·.1)) fun n e =>
    let q := e.q n
    let q1 : Queue := match q.opn with
      | some o => if o.owner = w then { q with opn := none, fin := q.fin - granules o.data } else q
      | none => q
    let q2 : Queue := if q1.owner = some w then { q1 with owner := none } else q1
    if q1.opn = q.opn ∧ q2.owner = q.owner then e else (e.setQ n q2).settleQ n

end Sys2Proof.Machine
end

