-- ==== Sys2Proof/Machine/Bellows.lean ====
section
/-!
DEFINITION. Machine/Bellows.lean: the dispatcher (chapter 15): descriptors and their books, the 73 ready lists, triggers,
back-pressure, placement, ends, cancels and completion records.
-/
namespace Sys2Proof.Machine

/-- A FREE descriptor. -/
def descFree : Desc :=
  { st := 0, flags := 0, home := 64, hearth := 0, cq := 0, entry := 0, arg := 0, tag := 0, nbHeat := 0, nbStroke := 0
    trig := 0, stamp := 0, at_ := none, ended := none }

/-- Descriptor `n`. -/
def Device.desc (d : Device) (n : Nat) : Desc := Tab.getD d.dsp.desc n descFree

/-- The descriptor after `n` in its list. -/
def nextIn (n : Nat) : List Nat → Option Nat
  | a :: b :: t => if a = n then some b else nextIn n (b :: t)
  | _ => none

/-- The link field of a descriptor: the next in its list; the spec gives the last one's link no value, so it is a free
value (R329). -/
def Device.descLink (d : Device) (n : Nat) : Nat × Device :=
  match (d.dsp.lists.map fun e => nextIn n e.2).find? Option.isSome with
  | some (some k) => (k, d)
  | _ => match d.draw with | (v, e) => (v % 4096, e)

/-- The bytes of R329. -/
def descBytes (x : Desc) (link : Nat) : Bytes :=
  leBytes 1 x.st ++ leBytes 1 x.flags ++ leBytes 1 (Nat.min x.home 64) ++ leBytes 1 x.cq ++ leBytes 4 x.entry ++
    leBytes 8 x.arg ++ leBytes 4 x.tag ++ leBytes 4 x.nbHeat ++ leBytes 1 x.nbStroke ++ leBytes 1 x.trig ++
    leBytes 2 link ++ leBytes 4 x.stamp

/-- Stores a descriptor, and writes its copy to forge memory (R328). -/
def Device.setDesc (d : Device) (n : Nat) (x : Desc) : Device :=
  let e := { d with dsp := { d.dsp with
    desc := if x.st = 0 then Tab.del d.dsp.desc n else Tab.put d.dsp.desc n x } }
  match e.descLink n with
  | (l, f) => f.memWrite (descAddr n) (descBytes x l) false

/-- A ready list of R343. -/
def Device.ready (d : Device) (l : Nat) : List Nat := Tab.getD d.dsp.lists l []

/-- Replaces a ready list. -/
def Device.setReady (d : Device) (l : Nat) (x : List Nat) : Device :=
  { d with dsp := { d.dsp with lists := Tab.put d.dsp.lists l x } }

/-- Counts of a list that nothing entered. -/
def statNone : ListStat := ⟨0, 0, 0, 0, List.replicate 16 0⟩

/-- Puts a task at the tail of a list, whose greatest depth follows. -/
def Device.toList (d : Device) (n l : Nat) : Device :=
  let x := d.ready l ++ [n]
  let e := d.setReady l x
  { e with dsp := { e.dsp with
      stats := Tab.upd e.dsp.stats l statNone fun s => { s with depth := holdAt 0x1FFF (Nat.max s.depth x.length) } } }

/-- Descriptors in a state. -/
def Device.descN (d : Device) (st : Nat) : Nat := (d.dsp.desc.filter fun e => e.2.st = st).length

/-- DSP_BOOK_A (R331): FREE and READY. -/
def Device.bookA (d : Device) : Nat := (4096 - d.dsp.desc.length) + d.descN 1 * 2 ^ 16

/-- DSP_BOOK_B (R331): RUNNING and SUSPENDED. -/
def Device.bookB (d : Device) : Nat := d.descN 2 + d.descN 3 * 2 ^ 16

/-- The back-pressure test (R338). -/
def Device.bpTest (d : Device) : Device :=
  let w := d.fld DSP_BP_CFG 0 13
  let r := d.descN 1
  let on := d.bit DSP_STAT 9
  if ¬ on ∧ w < r then (d.wbit DSP_STAT 9 true).raise DSP_INT_STAT 0
  else if on ∧ r + d.fld DSP_BP_CFG 16 13 ≤ w then (d.wbit DSP_STAT 9 false).raise DSP_INT_STAT 1
  else d

/-- The list that a task becoming READY enters (R333). -/
def Device.listFor (d : Device) (x : Desc) : Nat :=
  let h := if x.home < 64 then x.home / 8 else x.hearth
  let own := x.home < 64 && (d.ready x.home).length < d.fld DSP_CFG 0 8 && !d.fenced x.home && d.hearthUp h
  if own then x.home
  else if (d.ready (64 + h)).length < d.fld DSP_CFG 8 8 ∧ d.hearthUp h then 64 + h
  else if bitOf x.flags 0 then 64 + h
  else 72

/-- A task becomes READY (R333). -/
def Device.becomeReady (d : Device) (n : Nat) (x : Desc) : Device :=
  let e := d.toList n (d.listFor x)
  e.setDesc n { x with st := 1, stamp := e.baseNs 0 }

/-- Whether a heat and stroke lie later than the current ones (R16). -/
def Device.later (d : Device) (heat stroke : Nat) : Bool :=
  let x := diff32 heat d.heat
  0 < x || (x = 0 && d.tim.stroke < stroke)

/-- A new task, as R333 lets it wait. -/
def Device.freshTask (d : Device) (n : Nat) (x : Desc) : Device :=
  if bitOf x.flags 1 ∧ d.later x.nbHeat x.nbStroke then d.setDesc n { x with st := 3 } else d.becomeReady n x

/-- Takes the descriptor at the head of the free list (R330). -/
def Device.takeDesc (d : Device) : Option (Nat × Device) :=
  if d.dsp.fresh < 4096 then some (d.dsp.fresh, { d with dsp := { d.dsp with fresh := d.dsp.fresh + 1 } })
  else match d.dsp.freed with
    | n :: t => some (n, { d with dsp := { d.dsp with freed := t } })
    | [] => none

/-- The task that a descriptor image asks for, or nothing where a post is rejected (R330). -/
def Device.imageDesc (d : Device) (addr home hearth trig : Nat) : Option Desc :=
  if ¬ lies addr 32 forgeBase 0x1000000 ∨ addr % 32 ≠ 0 then none
  else
    let b := d.memRead addr 32
    let cq := uAt b 3 1
    let ok : Bool :=
      uAt b 1 1 / 8 = 0 && 64 ≤ cq && cq ≤ 127 && uAt b 4 4 % 16 = 0 && uAt b 4 4 < 0x40000 && uAt b 24 1 ≤ 9 &&
      (d.q cq).on && d.fld (QUE_CFG cq) 8 8 = 0x85
    if ok then
      some { descFree with
        flags := uAt b 1 1 % 4, home := home, hearth := hearth, cq := cq, entry := uAt b 4 4, arg := uAt b 8 8
        tag := uAt b 16 4, nbHeat := uAt b 20 4, nbStroke := uAt b 24 1, trig := trig }
    else none

/-- A TASK POST (R330): the status, the descriptor and the device. -/
def Device.postTask (d : Device) (addr home hearth trig : Nat) : Nat × Nat × Device :=
  match d.imageDesc addr home hearth trig with
  | none => (stRejected, 0, d)
  | some x =>
    match d.takeDesc with
    | some (n, e) => (stDone, n, (e.freshTask n x).bpTest)
    | none => (stNoCapacity, 0, d.raise DSP_INT_STAT 2)

/-- Adds the time for which a context has held its task (R343). -/
def Device.loadAdd (d : Device) (a c : Nat) : Device :=
  let k := a * 4 + c
  match Tab.find d.dsp.since k with
  | some t => { d with dsp := { d.dsp with load := Tab.upd d.dsp.load a 0 (· + (d.upNs - t)), since := Tab.del d.dsp.since k } }
  | none => d

/-- A context is released: its task, its results in flight and what it owns of the queues are gone. -/
def Device.releaseCtx (d : Device) (a set : Nat) : Device :=
  let v := d.anv a
  let e := d.setAnv a (v.setR set { v.rset set with task := none, pend := [], loops := [] })
  (e.dropOwned (ownerOf a set)).loadAdd a (set - 1)

/-- A task ends: its record waits, and its descriptor stays RUNNING until the record is written (R331, R340). -/
def Device.endTask (d : Device) (n status result : Nat) : Device :=
  let x := d.desc n
  let e := match x.at_ with
    | some (a, c) => if x.st = 2 ∧ x.ended = none then d.releaseCtx a (c + 1) else d
    | none => d
  let e := e.setDesc n { x with st := 2, flags := x.flags % 4, ended := some (status, result) }
  let e := { e with dsp := { e.dsp with recs := e.dsp.recs ++ [n] } }
  e.raiseIf (status = stFaulted) DSP_INT_STAT 3

/-- Takes a task off every list. -/
def Device.offLists (d : Device) (n : Nat) : Device :=
  { d with dsp := { d.dsp with lists := Tab.mapV d.dsp.lists fun _ l => l.filter (· ≠ n) } }

/-- A TASK CANCEL (R341): the canceller's status and the device. A context with a bundle in progress stops at that
bundle's end, with CANCEL_PEND set until then. -/
def Device.cancelTask (d : Device) (n : Nat) : Nat × Device :=
  let x := d.desc n
  if x.st = 0 then (stNotFound, d)
  else if x.st = 1 ∨ x.st = 3 then (stDone, ((d.offLists n).endTask n stCancelled 0).bpTest)
  else if x.ended.isSome ∨ bitOf x.flags 2 then (stLate, d)
  else match x.at_ with
    | none => (stLate, d)
    | some (a, c) =>
      let busy : Bool := match (d.anv a).bund with | some b => b.set = c + 1 | none => false
      if busy then (stDone, d.setDesc n { x with flags := x.flags % 4 + 4 })
      else (stDone, d.endTask n stAborted 0)

/-- The completion record of R342. -/
def Device.doneRecord (d : Device) (n : Nat) : Bytes :=
  let x := d.desc n
  let s := match x.ended with | some (s, _) => s | none => 0
  let r := match x.ended with | some (_, r) => r | none => 0
  let a := match x.at_ with | some (a, _) => a | none => 0xFF
  let c := match x.at_ with | some (_, c) => c | none => 0
  leBytes 1 0x83 ++ leBytes 1 s ++ leBytes 2 n ++ leBytes 4 x.tag ++
    leBytes 4 (if s = stDone then r else 0) ++ leBytes 1 a ++ leBytes 1 c ++ leBytes 2 d.heat

/-- Writes the record of an ended task, whose descriptor becomes FREE (R340). -/
def Device.writeRecord (d : Device) (n : Nat) : Device :=
  let x := d.desc n
  let s := match x.ended with | some (s, _) => s | none => 0
  let e := d.hwPush x.cq (d.doneRecord n)
  let e := e.doIf (s = stCancelled || s = stAborted) fun y => y.count DSP_CANCELLED
  let e := e.doIf (s = stFaulted) fun y => y.count DSP_FAULTED
  let e := e.setDesc n { x with st := 0, flags := x.flags % 4 }
  { e with dsp := { e.dsp with recs := e.dsp.recs.filter (· ≠ n), freed := e.dsp.freed ++ [n] } }

/-- The first ended task, in order of completion, whose completion queue takes its record; a disabled queue takes it as
R325 states. -/
def Device.recordDue (d : Device) : Option Nat :=
  d.dsp.recs.find? fun n => let c := (d.desc n).cq; !(d.q c).on || 1 ≤ queueCredit (d.q c)

/-- Moves the list of an anvil to the tail of its hearth list (R334). -/
def Device.spillAnvil (d : Device) (a : Nat) : Device :=
  (d.ready a).foldl (fun e n => e.toList n (64 + a / 8)) (d.setReady a [])

/-- The lists of a hearth that goes down: its anvils' lists to its own, and what is not HEARTH_ONLY to the global one
(R334). -/
def Device.spillHearth (d : Device) (h : Nat) : Device :=
  let e := d.forEach (List.range 8) fun i x => x.spillAnvil (8 * h + i)
  let l := e.ready (64 + h)
  let stay := l.filter fun n => bitOf (e.desc n).flags 0
  let go := l.filter fun n => !bitOf (e.desc n).flags 0
  go.foldl (fun x n => x.toList n 72) (e.setReady (64 + h) stay)

/-- The lowest context of an anvil that holds no task. -/
def Device.freeCtx (d : Device) (a : Nat) : Option Nat :=
  (List.range 4).find? fun c => ((d.anv a).rset (c + 1)).task = none

/-- The list from which an anvil would take a task (R335). -/
def Device.takesFrom (d : Device) (a : Nat) : Option Nat :=
  [a, 64 + a / 8, 72].find? fun l => d.ready l ≠ []

/-- Whether an anvil is eligible and finds a task (R335). -/
def Device.eligible (d : Device) (a : Nat) : Bool :=
  !d.fenced a && d.hearthUp (a / 8) && (d.freeCtx a).isSome && (d.takesFrom a).isSome

/-- The eligible anvil of a hearth that has waited longest since its last placement, ties to the lowest (R335). -/
def Device.placeAt (d : Device) (h : Nat) : Option Nat :=
  let l := ((List.range 8).map (8 * h + ·)).filter d.eligible
  let last (a : Nat) : Nat := Tab.getD d.dsp.placed a 0
  l.find? fun a => l.all fun b => last a ≤ last b

/-- The bin of a wait (R343). -/
def waitBin (ns : Nat) : Nat :=
  if ns < 1000 then 0 else ((List.range 14).find? fun i => ns < 1000 * 2 ^ (i + 1)).map (· + 1) |>.getD 15

/-- Counts a wait against a list (R343). -/
def statWait (s : ListStat) (ns : Nat) : ListStat :=
  let b := waitBin ns
  { s with
      wmax := Nat.max s.wmax ns, wsum := s.wsum + ns, wn := s.wn + 1
      hist := (List.range 16).map fun i => let c := s.hist.getD i 0; if i = b then holdAt 0xFFFFFFFF (c + 1) else c }

/-- The register set of a task at its placement (R336). -/
def placedSet (a n : Nat) (x : Desc) (now : Nat) : RSet :=
  let r := { rsetOff with pc := x.entry, ready := now, task := some n }
  (((r.wx 1 (crucibleBase a + x.entry) false).wx 10 x.arg false).wx 11 n false).wx 12 x.tag false

/-- Places the head of a list in a context (R335, R336). -/
def Device.place (d : Device) (a c l n : Nat) : Device :=
  let x := d.desc n
  let wait := (d.baseNs 0 + 2 ^ 32 - x.stamp % 2 ^ 32) % 2 ^ 32
  let e := d.setReady l ((d.ready l).filter (· ≠ n))
  let y : Dsp := { e.dsp with
    stats := Tab.upd e.dsp.stats l statNone (statWait · wait)
    count := e.dsp.count + 1
    placed := Tab.put e.dsp.placed a (e.dsp.count + 1)
    since := Tab.put e.dsp.since (a * 4 + c) e.upNs
    lastOf := if bitOf x.trig 7 then Tab.put e.dsp.lastOf (x.trig % 16) a else e.dsp.lastOf }
  let e := { e with dsp := y }
  let v := e.anv a
  let e := e.setAnv a (v.setR (c + 1) (placedSet a n x v.now))
  e.setDesc n { x with st := 2, at_ := some (a, c) }

/-- One dispatch by a hearth (R335). -/
def Device.dispatch (d : Device) (h : Nat) : Device :=
  match d.placeAt h with
  | none => d
  | some a =>
    match d.freeCtx a, d.takesFrom a with
    | some c, some l => match d.ready l with | n :: _ => (d.place a c l n).bpTest | [] => d
    | _, _ => d

/-- A write of DSP_TRIG_Q[k] (R337, R344): enabling fails unless the queue's consumer is the fabric contexts and its
BP_EN is 1. A trigger takes the packets that become visible after its enable. -/
def Device.trigWrite (d : Device) (k value : Nat) : Device :=
  let q := bitsOf value 0 8
  let was := d.bit (DSP_TRIG_Q k) 14
  let e := d.wrN (DSP_TRIG_Q k) (bitsOf value 0 14)
  if ¬ bitOf value 14 then e
  else if d.fld (QUE_CFG q) 16 8 = 0x40 ∧ d.bit (QUE_CFG q) 24 then
    let e := e.wbit (DSP_TRIG_Q k) 14 true
    if was ∧ d.fld (DSP_TRIG_Q k) 0 8 = q then e
    else { e with dsp := { e.dsp with made := Tab.put e.dsp.made k (e.q q).vis } }
  else e.raise DSP_INT_STAT 4

/-- One packet of a trigger's queue becomes a task (R337); it waits while no descriptor is FREE. -/
def Device.trigTask (d : Device) (k : Nat) : Device :=
  let q := d.fld (DSP_TRIG_Q k) 0 8
  let made := Tab.getD d.dsp.made k 0
  if d.bit (DSP_TRIG_Q k) 14 ∧ made < (d.q q).vis then
    let home := Tab.getD d.dsp.lastOf k (d.fld (DSP_TRIG_Q k) 8 6)
    match d.postTask (d.rdN (DSP_TRIG_ADDR k)) home (home / 8) (0x80 + k) with
    | (st, _, e) =>
      if st = stNoCapacity then e
      else { e with dsp := { e.dsp with made := Tab.put e.dsp.made k (made + 1) } }
  else d

/-- What each list and anvil counted in the heat becomes readable, and the counts restart (R343). -/
def Device.dspHeat (d : Device) : Device :=
  let e := d.forEach (d.dsp.since.map (·.1)) fun k x =>
    let y := x.loadAdd (k / 4) (k % 4)
    { y with dsp := { y.dsp with since := Tab.put y.dsp.since k y.upNs } }
  let e := e.forEach (List.range 73) fun l x =>
    let s := Tab.getD x.dsp.stats l statNone
    let x := ((x.wfld (DSP_DEPTH l) 16 13 s.depth).wrN (DSP_WMAX l) (holdAt 0xFFFFFFFF s.wmax)).wrN (DSP_WMEAN l)
      (if s.wn = 0 then 0 else s.wsum / s.wn)
    x.forEach (List.range 16) fun i y => y.wrN (DSP_HIST l i) (s.hist.getD i 0)
  let e := e.forEach (List.range 64) fun a x =>
    x.wfld (DSP_LOAD a) 0 19 (holdAt 0x7FFFF (Tab.getD x.dsp.load a 0 * rungMhz x.rung / 1000 / 1024))
  { e with dsp := { e.dsp with
      load := [], stats := (e.dsp.lists.filter fun p => p.2 ≠ []).map fun p => (p.1, { statNone with depth := p.2.length }) } }

/-- Whether the bellows enqueues and dispatches (R344). -/
def Device.dspOn (d : Device) : Bool := d.bit DSP_CTRL 0

/-- TRIGGER_ENABLE (R337). -/
def execTriggerEnable (k value : Nat) (s : State) : Host.Outcome State Fault Refusal :=
  .next { s with dev := s.dev.trigWrite k value }

/-- TRIGGER_TASK (R337). -/
def execTriggerTask (k : Nat) (s : State) : Host.Outcome State Fault Refusal :=
  .next { s with dev := if s.dev.dspOn then s.dev.trigTask k else s.dev }

/-- NOT_BEFORE_WAKE (R333). -/
def execNotBeforeWake (n : Nat) (s : State) : Host.Outcome State Fault Refusal :=
  let d := s.dev
  let x := d.desc n
  .next { s with dev := if d.dspOn ∧ x.st = 3 ∧ ¬ d.later x.nbHeat x.nbStroke then (d.becomeReady n x).bpTest else d }

/-- TASK_DISPATCH (R335, R336). -/
def execTaskDispatch (h : Nat) (s : State) : Host.Outcome State Fault Refusal :=
  .next { s with dev := if s.dev.dspOn then s.dev.dispatch h else s.dev }

/-- COMPLETION_RECORD (R340, R342). -/
def execCompletionRecord (s : State) : Host.Outcome State Fault Refusal :=
  .next { s with dev := match s.dev.recordDue with | some n => s.dev.writeRecord n | none => s.dev }

end Sys2Proof.Machine
end

