-- ==== Sys2Proof/Machine/Image.lean ====
section
/-!
DEFINITION. Machine/Image.lean: the body of a schedule image (R286 to R295) as its bytes, and the admission checks of
R297 and R306.
-/
namespace Sys2Proof.Machine

/-- An image's body and the offset of one of its variants (R286, R289). -/
structure Variant where
  /-- The body. -/
  b : Bytes
  /-- The offset of the variant in the body. -/
  at_ : Nat
  deriving DecidableEq, Repr

/-- A field of the body. -/
def Variant.u (v : Variant) (off n : Nat) : Nat := uAt v.b off n

/-- A field of the variant's header. -/
def Variant.h (v : Variant) (off n : Nat) : Nat := uAt v.b (v.at_ + off) n

/-- The variant of a rung, if the image holds one (R286). -/
def variantOf (b : Bytes) (r : Nat) : Option Variant :=
  if bitOf (uAt b 2 1) r then some ⟨b, uAt b (24 + 8 * r) 4⟩ else none

/-- A block record (R291). -/
structure BlockRec where
  /-- Block ID. -/
  id : Nat
  /-- Stroke. -/
  stroke : Nat
  /-- Anvil. -/
  anvil : Nat
  /-- Start cycle. -/
  start : Nat
  /-- Declared cycles. -/
  declared : Nat
  /-- Stand-in start. -/
  stand : Nat
  /-- Footprint offset. -/
  foot : Nat
  /-- Footprint length. -/
  len : Nat
  /-- Standby offset. -/
  stdby : Nat
  /-- First queue use. -/
  use0 : Nat
  /-- Queue uses. -/
  uses : Nat
  /-- Flags. -/
  flags : Nat
  deriving DecidableEq, Repr

/-- A block is marked SHED (R291). -/
def BlockRec.shed (k : BlockRec) : Bool := k.stand = 0xFFFFFFFF

/-- The blocks of a variant, in table order. -/
def Variant.blocks (v : Variant) : List BlockRec :=
  (List.range (v.h 4 2)).map fun i =>
    let o := v.at_ + v.h 12 4 + 32 * i
    ⟨v.u o 2, v.u (o + 2) 1, v.u (o + 3) 1, v.u (o + 4) 4, v.u (o + 8) 4, v.u (o + 12) 4, v.u (o + 16) 4, v.u (o + 20) 4,
     v.u (o + 24) 4, v.u (o + 28) 2, v.u (o + 30) 1, v.u (o + 31) 1⟩

/-- A queue-use record (R292). -/
structure UseRec where
  /-- The queue. -/
  q : Nat
  /-- Byte 1. -/
  dir : Nat
  /-- Greatest packets. -/
  pk : Nat
  /-- Greatest granules. -/
  gr : Nat
  /-- The credit budget. -/
  credit : Nat
  deriving DecidableEq, Repr

/-- The queue uses of a block. -/
def Variant.usesOf (v : Variant) (k : BlockRec) : List UseRec :=
  (List.range k.uses).map fun i =>
    let o := v.at_ + v.h 16 4 + 8 * (k.use0 + i)
    ⟨v.u o 1, v.u (o + 1) 1, v.u (o + 2) 2, v.u (o + 4) 2, v.u (o + 6) 2⟩

/-- A field of a stroke record (R290). -/
def Variant.str (v : Variant) (stroke anvil off n : Nat) : Nat :=
  v.u (v.at_ + v.h 8 4 + 32 * (stroke * 64 + anvil) + off) n

/-- The stand-in of an anvil in a stroke. -/
def Variant.standIn (v : Variant) (stroke anvil : Nat) : Nat := v.str stroke anvil 16 1 % 64

/-- The byte of a stroke's port map for a hearth port (R293). -/
def Variant.hearthSlot (v : Variant) (stroke h port pos : Nat) : Nat :=
  v.u (v.at_ + v.h 20 4 + 512 * stroke + h * 32 + port * 8 + pos) 1

/-- The byte of a stroke's port map for a forge port (R293). -/
def Variant.forgeSlot (v : Variant) (stroke port pos : Nat) : Nat :=
  v.u (v.at_ + v.h 20 4 + 512 * stroke + 256 + port * 16 + pos) 1

/-- The power-gate window of a hearth in a stroke: start and length (R294). -/
def Variant.gate (v : Variant) (stroke h : Nat) : Nat × Nat :=
  let o := v.at_ + v.h 24 4 + 8 * (stroke * 8 + h)
  (v.u o 4, v.u (o + 4) 4)

/-- The load list of a body: destination, length, source (R287). -/
def loadList (b : Bytes) : List (Nat × Nat × Nat) :=
  (List.range (uAt b 12 4)).map fun i =>
    let o := uAt b 8 4 + 16 * i
    (uAt b o 8, uAt b (o + 8) 4, uAt b (o + 12) 4)

/-- The queue table of a body: queue, byte 1, producer, consumer, level, reserved (R288). -/
def queueTable (b : Bytes) : List (Nat × Nat × Nat × Nat × Nat × Nat) :=
  (List.range (uAt b 20 4)).map fun i =>
    let o := uAt b 16 4 + 8 * i
    (uAt b o 1, uAt b (o + 1) 1, uAt b (o + 2) 1, uAt b (o + 3) 1, uAt b (o + 4) 2, uAt b (o + 6) 2)

/-- Whether two ranges given by start and length overlap. -/
def spansMeet (a n b m : Nat) : Bool := a < b + m && b < a + n

/-- A part of a body lies inside it, at a multiple of 16. -/
def inside (size off len : Nat) : Bool := off % 16 = 0 && off + len ≤ size

/-- The strokes and anvils of a stroke table. -/
def strokeAnvils : List (Nat × Nat) := (List.range 10).flatMap fun s => (List.range 64).map fun a => (s, a)

/-- No block named. -/
def noBlock : Nat := 0xFFFF

/-- The first block of a list that fails a test, by ID. -/
def firstBad (l : List BlockRec) (ok : BlockRec → Bool) : Option Nat := (l.find? fun k => !ok k).map (·.id)

/-- A failure that names no block. -/
def failIf (bad : Bool) : Option Nat := if bad then some noBlock else none

/-- Check 1, the directory and the tables (R286 to R289). -/
def dirOk (b : Bytes) (ovl : Bool) : Bool :=
  let n := b.length
  uAt b 0 1 = 0x91 && uAt b 1 1 = 1 && uAt b 2 1 < 16 && uAt b 3 1 = b2n ovl && (ovl || uAt b 4 4 = 0) &&
  inside n (uAt b 8 4) (16 * uAt b 12 4) && uAt b 20 4 ≤ 256 && inside n (uAt b 16 4) (8 * uAt b 20 4) && 64 ≤ n &&
  ((List.range 4).all fun r =>
    if bitOf (uAt b 2 1) r then inside n (uAt b (24 + 8 * r) 4) (uAt b (28 + 8 * r) 4) else uAt b (24 + 8 * r) 8 = 0) &&
  uAt b 56 8 = 0 &&
  ((loadList b).all fun e => e.1 < 2 ^ 40 && e.2.1 % 16 = 0 && inside n e.2.2 e.2.1) &&
  ((queueTable b).all fun e =>
    e.2.1 ≤ 8 && e.2.2.2.2.2 = 0 && (fabricCode e.2.2.1 || engineCode e.2.2.1) &&
    (fabricCode e.2.2.2.1 || engineCode e.2.2.2.1))

/-- Check 1, the variant's header and tables (R289 to R294). -/
def Variant.headOk (v : Variant) (r : Nat) : Bool :=
  let n := v.u (28 + 8 * r) 4
  v.h 0 1 = r && v.h 1 1 = 0 && 1 ≤ v.h 2 2 && v.h 2 2 ≤ 500 && 1 ≤ v.h 4 2 && v.h 4 2 ≤ 4096 &&
  inside n (v.h 8 4) (640 * 32) && inside n (v.h 12 4) (32 * v.h 4 2) && inside n (v.h 16 4) (8 * v.h 6 2) &&
  inside n (v.h 20 4) 5120 && inside n (v.h 24 4) 640 && allZero (sliceB v.b (v.at_ + 28) 36) &&
  (strokeAnvils.all fun p =>
    v.str p.1 p.2 16 1 < 64 && v.str p.1 p.2 17 1 ≤ 16 && v.str p.1 p.2 20 4 = 0 && v.str p.1 p.2 24 8 = 0) &&
  ((List.range 5120).all fun i => !bitOf (v.u (v.at_ + v.h 20 4 + i) 1) 6)

/-- Check 1, a block record and its queue uses (R291, R292). -/
def Variant.blockOk (v : Variant) (k : BlockRec) : Bool :=
  k.stroke ≤ 9 && k.anvil < 64 && 1 ≤ k.declared && k.uses ≤ 16 && k.use0 + k.uses ≤ v.h 6 2 && k.flags < 4 &&
  ((v.usesOf k).all fun u => u.dir < 2 && (u.dir = 1 || u.credit = 0)) &&
  (v.blocks.filter fun j => j.id = k.id).length = 1

/-- Check 1. -/
def Variant.check1 (v : Variant) (r : Nat) (ovl : Bool) : Option Nat :=
  if ¬ dirOk v.b ovl ∨ ¬ v.headOk r then some noBlock else firstBad v.blocks v.blockOk

/-- Where a load-list destination may lie (R287). -/
def destOk (a n : Nat) : Bool :=
  match memAt a n with
  | some .forge => 0x00104A0000 ≤ a
  | some _ => true
  | none => false

/-- No two of a list of ranges overlap. -/
def apart : List (Nat × Nat) → Bool
  | [] => true
  | (a, n) :: t => (t.all fun e => !spansMeet a n e.1 e.2) && apart t

/-- Check 2. -/
def Variant.check2 (v : Variant) : Option Nat :=
  let l := loadList v.b
  failIf (!((l.all fun e => destOk e.1 e.2.1) && apart (l.map fun e => (e.1, e.2.1))))

/-- The blocks of an anvil in a stroke. -/
def blocksAt (l : List BlockRec) (s a : Nat) : List BlockRec := l.filter fun k => k.stroke = s && k.anvil = a

/-- Check 3, for one stroke record. -/
def Variant.recOk (v : Variant) (l : List BlockRec) (n s a : Nat) : Bool :=
  let ks := blocksAt l s a
  v.str s a 0 4 + v.str s a 4 4 + v.str s a 12 4 = n &&
  v.str s a 0 4 = (ks.map (·.declared)).foldl (· + ·) 0 && v.str s a 17 1 = ks.length &&
  (ks = [] || (l.drop (v.str s a 18 2)).take ks.length = ks)

/-- The first of the stroke records that fails a test, by its first block. -/
def firstRec (l : List BlockRec) (ok : Nat → Nat → Bool) : Option Nat :=
  (strokeAnvils.find? fun p => !ok p.1 p.2).map fun p =>
    match blocksAt l p.1 p.2 with | k :: _ => k.id | [] => noBlock

/-- Check 3. -/
def Variant.check3 (v : Variant) (n : Nat) : Option Nat := firstRec v.blocks (v.recOk v.blocks n)

/-- Bytes of a range that the load list's destinations cover. -/
def covered (l : List (Nat × Nat × Nat)) (a n : Nat) : Nat :=
  (l.map fun e => Nat.min (a + n) (e.1 + e.2.1) - Nat.max a e.1).foldl (· + ·) 0

/-- Check 4; `more` is the load list of the stock schedule that an overlay extends. -/
def Variant.check4 (v : Variant) (n : Nat) (more : List (Nat × Nat × Nat)) : Option Nat :=
  let l := v.blocks
  firstBad l fun k =>
    k.start + k.declared ≤ n &&
    ((blocksAt l k.stroke k.anvil).all fun j => j.id = k.id || !spansMeet k.start k.declared j.start j.declared) &&
    k.foot + k.len ≤ 0x40000 && k.len % 16 = 0 &&
    (k.len ≤ covered (loadList v.b) (crucibleBase k.anvil + k.foot) k.len ||
      k.len ≤ covered more (crucibleBase k.anvil + k.foot) k.len)

/-- Check 5. -/
def Variant.check5 (v : Variant) (n : Nat) : Option Nat :=
  firstRec v.blocks fun s a =>
    let ks := blocksAt v.blocks s a
    let rs := v.str s a 8 4
    let rl := v.str s a 12 4
    ceilDiv n 10 ≤ rl && (ks.all fun k => k.declared + 15 ≤ rl && k.start + k.declared ≤ rs) && rs + rl ≤ n

/-- Check 6, for one block that is not SHED. -/
def Variant.standOk (v : Variant) (n : Nat) (k : BlockRec) : Bool :=
  let l := v.blocks
  let t := v.standIn k.stroke k.anvil
  let others := l.filter fun j => j.id ≠ k.id && !j.shed && v.standIn j.stroke j.anvil = t
  k.stand % 16 = k.start % 16 && k.stand + k.declared ≤ n &&
  ((blocksAt l k.stroke t).all fun j => !spansMeet k.stand k.declared j.start j.declared) &&
  !spansMeet k.stand k.declared (v.str k.stroke t 8 4) (v.str k.stroke t 12 4) &&
  (others.all fun j => j.stroke ≠ k.stroke || !spansMeet k.stand k.declared j.stand j.declared) &&
  k.stdby + k.len ≤ 0x40000 &&
  ((l.filter fun j => j.anvil = t).all fun j => !spansMeet k.stdby k.len j.foot j.len) &&
  (others.all fun j => !spansMeet k.stdby k.len j.stdby j.len)

/-- Check 6. -/
def Variant.check6 (v : Variant) (n : Nat) : Option Nat :=
  match firstRec v.blocks fun s a => v.standIn s a / 8 = a / 8 && v.standIn s a ≠ a with
  | some x => some x
  | none => firstBad v.blocks fun k => k.shed || v.standOk n k

/-- Check 7. -/
def Variant.check7 (v : Variant) : Option Nat :=
  failIf (!((List.range 10).all fun s => (List.range 8).all fun h => (List.range 4).all fun p => (List.range 8).all fun o =>
    let x := v.hearthSlot s h p o
    bitOf x 7 || x % 64 / 8 = h))

/-- Check 8. -/
def Variant.check8 (v : Variant) : Option Nat :=
  let qt := queueTable v.b
  firstBad v.blocks fun k => (v.usesOf k).all fun u =>
    match qt.find? fun e => e.1 = u.q with
    | none => false
    | some e =>
      let g := bankG (e.2.1 % 16)
      rolesAgree u.q e.2.2.1 e.2.2.2.1 && (if u.dir = 0 then e.2.2.2.1 = k.anvil else e.2.2.1 = k.anvil) &&
      u.credit ≤ g && u.gr ≤ g

/-- Check 9. -/
def Variant.check9 (v : Variant) (n mhz : Nat) : Option Nat :=
  let l := v.blocks
  failIf (!((List.range 10).all fun s => (List.range 8).all fun h =>
    let g := v.gate s h
    g.2 = 0 || (mhz * 2000 ≤ g.2 && g.1 + g.2 ≤ n &&
      (l.all fun k => k.stroke ≠ s || k.anvil / 8 ≠ h ||
        (!spansMeet g.1 g.2 k.start k.declared && (k.shed || !spansMeet g.1 g.2 k.stand k.declared))) &&
      ((List.range 8).all fun i => !spansMeet g.1 g.2 (v.str s (8 * h + i) 8 4) (v.str s (8 * h + i) 12 4)))))

/-- Check 10. -/
def Device.check10 (d : Device) (v : Variant) : Option Nat :=
  firstBad v.blocks fun k =>
    k.shed || (d.bit FAB_CTRL (8 + k.anvil / 8) && (!d.fenced k.anvil || !d.fenced (v.standIn k.stroke k.anvil)))

/-- Whether a queue is open to the overlay block that fills a RESERVED span (R306). -/
def overlayQueue (q : Nat) : Bool := 240 ≤ q || (q < 64 && 8 ≤ q % 16)

/-- Whether an overlay block obeys R306 toward the stock variant. -/
def overlayBlockOk (o s : Variant) (k : BlockRec) : Bool :=
  match s.blocks.find? fun j => j.id = k.id with
  | none => false
  | some j =>
    k.stroke = j.stroke && k.anvil = j.anvil && k.start = j.start && k.declared = j.declared && k.stand = j.stand &&
    k.stdby = j.stdby && j.foot ≤ k.foot && k.foot + k.len ≤ j.foot + j.len &&
    (if bitOf j.flags 0 then (o.usesOf k).all fun u => overlayQueue u.q
     else if bitOf j.flags 1 then
       (o.usesOf k).all fun u => (s.usesOf j).any fun w =>
         w.q = u.q && w.dir = u.dir && u.pk ≤ w.pk && u.gr ≤ w.gr && u.credit ≤ w.credit
     else false)

/-- Check 11, for an overlay over a stock variant of a version. -/
def check11 (o s : Variant) (ver : Nat) : Option Nat :=
  if uAt o.b 4 4 ≠ ver then some noBlock else firstBad o.blocks (overlayBlockOk o s)

/-- Check 12. -/
def Device.check12 (d : Device) (v : Variant) (r : Nat) : Option Nat :=
  failIf (toSigned 16 (d.fld (AGE_PRED r) 0 16) < (v.h 2 2 : Int))

/-- The first failing check of a variant, with its block (R297); `stock` is the stock variant where the variant is an
overlay's. -/
def Device.admission (d : Device) (v : Variant) (r : Nat) (stock : Option Variant) : Option (Nat × Nat) :=
  let n := rungN r
  let more := match stock with | some s => loadList s.b | none => []
  let run : List (Nat × (Unit → Option Nat)) :=
    [(1, fun _ => v.check1 r stock.isSome), (2, fun _ => v.check2), (3, fun _ => v.check3 n),
     (4, fun _ => v.check4 n more), (5, fun _ => v.check5 n), (6, fun _ => v.check6 n), (7, fun _ => v.check7),
     (8, fun _ => v.check8), (9, fun _ => v.check9 n (rungMhz r)), (10, fun _ => d.check10 v),
     (11, fun _ => match stock with | some s => check11 v s d.fab.ver | none => none), (12, fun _ => d.check12 v r)]
  run.findSome? fun c => (c.2 ()).map fun k => (c.1, k)

/-- The variants in force at the running rung: the stock one, and the overlay's if it runs (R299). -/
def Device.stockVar (d : Device) : Option Variant := d.fab.stock.bind fun b => variantOf b d.rung
/-- The overlay's variant in force. -/
def Device.overVar (d : Device) : Option Variant :=
  if d.bit FAB_ADM_STAT 2 then d.fab.overlay.bind fun b => variantOf b d.rung else none

/-- The blocks in force, each with the variant that gives its queue uses: an overlay block takes over the stock block
whose ID it carries (R306). -/
def Device.blocks (d : Device) : List (BlockRec × Variant) :=
  match d.stockVar with
  | none => []
  | some s =>
    s.blocks.map fun k =>
      match d.overVar with
      | some o => match o.blocks.find? fun j => j.id = k.id with | some j => (j, o) | none => (k, s)
      | none => (k, s)

/-- The anvils for which anvil `a` stands in a stroke: itself, and the fenced anvils whose remap to it took place
(R303). -/
def Device.roles (d : Device) (s a : Nat) : List Nat :=
  a :: ((List.range 8).map (8 * (a / 8) + ·)).filter fun b =>
    b ≠ a && d.fenced b && !(d.fab.fences.any fun f => f.1 = b) &&
    (match d.stockVar with | some v => v.standIn s b = a | none => false)

/-- Whether an anvil holds a port slot at a cycle of the stroke (R225): hearth memory has an 8-cycle wheel of four ports,
forge memory a 16-cycle wheel of sixteen. -/
def Device.holdsSlot (d : Device) (a : Nat) (forge : Bool) (cyc : Nat) : Bool :=
  match d.stockVar with
  | none => false
  | some v =>
    let s := d.tim.stroke
    let mine (x : Nat) : Bool := !bitOf x 7 && (d.roles s a).contains (x % 64)
    if forge then (List.range 16).any fun p => mine (v.forgeSlot s p (cyc % 16))
    else (List.range 4).any fun p => mine (v.hearthSlot s (a / 8) p (cyc % 8))

/-- Cycles until the anvil's next slot, 0 if it holds one now; none where it holds none (R226). -/
def Device.slotIn (d : Device) (a : Nat) (forge : Bool) (cyc : Nat) : Option Nat :=
  (List.range 16).find? fun k => d.holdsSlot a forge (cyc + k)

end Sys2Proof.Machine
end

