-- ==== Sys2Proof/Machine/Fabric.lean ====
section
/-!
DEFINITION. Machine/Fabric.lean: what the contract does to anvils and blocks: fences (R237, R238), the stroke audit (R300
to R302), stand-in remapping (R303), admission and the start of a variant (R298, R299, R304), power-gate windows (R236).
-/
namespace Sys2Proof.Machine

/-! ## Queues of a block (R301) -/

/-- Discards the sealed and the open packet of a failed block (R301). -/
def queueDiscard (q : Queue) : Queue :=
  let o := match q.opn with | some x => granules x.data | none => 0
  let h := (q.held.map Packet.len).foldl (· + ·) 0
  { q with held := [], opn := none, fin := q.fin - h - o }

/-- Returns a queue to its audit mark (R301). -/
def queueToMark (q : Queue) : Queue :=
  match q.audit with
  | some m => { q with pos := Nat.max m q.rel, audit := none }
  | none => q

/-- The queue uses of a block that is in force. -/
def Device.usesById (d : Device) (id : Nat) : List UseRec :=
  match d.blocks.find? fun p => p.1.id = id with | some (k, v) => v.usesOf k | none => []

/-- A block's queues after its failure (R301). -/
def Device.queuesFail (d : Device) (r : BlockRun) : Device :=
  d.forEach (d.usesById r.id) fun u e =>
    if u.dir = 1 then (e.setQ u.q (queueDiscard (e.q u.q))).settleQ u.q
    else (e.setQ u.q (queueToMark (e.q u.q))).flushWaiting u.q

/-- A block's queues after its pass (R301): its packets become visible in seal order, and the deferred releases take
effect. -/
def Device.queuesPass (d : Device) (r : BlockRun) : Device :=
  let e := d.forEach (d.usesById r.id) fun u e =>
    let q := e.q u.q
    if u.dir = 1 then (e.setQ u.q { q with held := [] }).show u.q q.held else e.setQ u.q { q with audit := none }
  e.forEach r.rel fun p x => (x.setQ p.1 (queueRelease (x.q p.1) p.2)).flushWaiting p.1

/-! ## Governor write buffers (R279) -/

/-- The fleet-table offset of a governor input field code, and its width in bits. -/
def gwrField (c : Nat) : Nat × Nat :=
  if c = 0 then (80, 4) else if c = 1 then (81, 8) else (82 + 2 * (c - 2), 16)

/-- Performs the `n` oldest writes of an anvil's governor write buffer. -/
def Device.drainGwr (d : Device) (a n : Nat) : Device :=
  let v := d.anv a
  let e := d.setAnv a { v with gwr := v.gwr.drop n }
  e.forEach (v.gwr.take n) fun w x => x.govInput w.mach (gwrField w.fld).1 w.val

/-- The anvil's cycle becomes `t`: results due before it land, and its governor write buffer drains one write for each
forge port slot that has passed. -/
def Device.anvTo (d : Device) (a t : Nat) : Device :=
  let v := d.anv a
  let n := if v.gwr = [] then 0
    else ((List.range (Nat.min 64 (t - v.now))).filter fun k => d.holdsSlot a true (v.cyc + k)).length
  let e := d.setAnv a (v.cycleTo t)
  if n = 0 then e else e.drainGwr a n

/-! ## Fences (R237, R238) -/

/-- The context of an AUDIT record (R522). -/
def auditCtx (id kind stroke start : Nat) : Bytes :=
  leBytes 2 id ++ leBytes 1 kind ++ leBytes 1 stroke ++ leBytes 4 start

/-- A fenced anvil stops at a bundle boundary: its block's effects on its queues are undone, each task in its contexts
ends FAULTED, and its ready list spills. -/
def Device.fenceSettle (d : Device) (a : Nat) : Device :=
  let v := d.anv a
  let e := match v.run with | some r => d.queuesFail r | none => d
  let e := e.setAnv a { e.anv a with run := none, fails := [] }
  let e := e.drainGwr a 4
  let e := e.forEach [1, 2, 3, 4] fun k x =>
    match ((x.anv a).rset k).task with
    | some n => x.endTask n stFaulted 0
    | none => x
  e.spillAnvil a

/-- Fences an anvil for a cause of FAB_FENCE_CAUSE. -/
def Device.fence (d : Device) (a cause : Nat) : Device :=
  if d.fenced a then d
  else
    let e := if a < 32 then d.raise FAB_FENCE_LO a else d.raise FAB_FENCE_HI (a - 32)
    let e := (e.wrN FAB_FENCE_CAUSE (a + cause * 256)).raise FAB_INT_STAT 0
    let e := e.slag 0x0B 0x0103 a 4 (leBytes 1 cause)
    let e := { e with fab := { e.fab with
      fences := if e.bit FAB_STAT 2 then e.fab.fences ++ [(a, e.upNs)] else e.fab.fences } }
    if (e.anv a).bund = none then e.fenceSettle a else e

/-! ## The stroke audit (R300 to R302) -/

/-- FAB_AUD_LAST. -/
def audLast (id kind pass stroke a : Nat) : Nat := id + kind * 2 ^ 16 + pass * 2 ^ 19 + stroke * 2 ^ 20 + a * 2 ^ 24

/-- A block passes the audit. -/
def Device.passBlock (d : Device) (a : Nat) (r : BlockRun) : Device :=
  let s := d.tim.stroke
  let e := d.queuesPass r
  let e := { e with fab := { e.fab with passes := e.fab.passes + 1 } }
  let v := e.anv a
  let e := e.setAnv a { v with run := none, reEnd := if r.again then v.cyc + 1 else v.reEnd }
  if r.again then
    let e := e.transient (some FAB_AUD_TRANSIENT) 0x0B 0x0104 a
      (auditCtx r.id r.first s (r.start - v.stroke0)) true
    (e.wrN FAB_AUD_LAST (audLast r.id r.first 1 s a)).raise FAB_AUD_INT_STAT 1
  else e

/-- A block fails: 1 OVERRUN, 2 UNDERRUN, 3 EXCESS, 4 FAULT. Its re-run is due, or it was the re-run, and the fault is
lasting. -/
def Device.failBlock (d : Device) (a : Nat) (r : BlockRun) (kind : Nat) : Device :=
  let s := d.tim.stroke
  let e := d.queuesFail r
  let e := (e.wrN FAB_AUD_LAST (audLast r.id kind 0 s a)).raise FAB_AUD_INT_STAT 0
  let v := e.anv a
  let v := { v with run := none, failures := v.failures + 1, reEnd := if r.again then v.cyc + 1 else v.reEnd }
  if r.again then
    let e := (e.setAnv a v).lasting (some FAB_AUD_LASTING) 0x0B 0x0104 a
      (auditCtx r.id kind s (r.start - v.stroke0)) true
    (e.raise FAB_AUD_INT_STAT 2).fence a 1
  else e.setAnv a { v with fails := v.fails ++ [⟨r.id, kind, s⟩] }

/-- A failed block that is not re-run (R302). -/
def Device.unretried (d : Device) (a : Nat) (f : FailedBlock) : Device :=
  ((d.count FAB_AUD_UNRETRIED).raise FAB_AUD_INT_STAT 3).slag 0x0B 0x0104 a 3 (auditCtx f.id f.kind f.stroke 0xFFFFFFFF)

/-- A block starts (R296, R301): its audit marks are set, and an output queue short of its credit budget counts a
starve. -/
def Device.startBlock (d : Device) (a id start declared base : Nat) (again : Bool) (first : Nat) : Device :=
  let e := d.forEach (d.usesById id) fun u e =>
    let q := e.q u.q
    if u.dir = 0 then e.setQ u.q { q with audit := some q.pos }
    else e.doIf (queueCredit q < u.credit) fun x => (x.count FAB_AUD_STARVE).raise FAB_AUD_INT_STAT 4
  let v := e.anv a
  let r := v.rset 0
  let r := { (r.wx 1 (crucibleBase a + base) false) with pc := base, loops := [] }
  e.setAnv a { v.setR 0 r with
    run := some ⟨id, start, declared, again, first, base, [], []⟩
    started := if again then v.started else id :: v.started
    reruns := if again then v.reruns + 1 else v.reruns }

/-- Where a block runs: its anvil, start cycle and crucible offset, or nowhere (R303). -/
def Device.runsAt (d : Device) (k : BlockRec) : Option (Nat × Nat × Nat) :=
  match Tab.find d.fab.remap k.id, d.stockVar with
  | some 1, some v =>
    let t := v.standIn k.stroke k.anvil
    if d.fenced t then none else some (t, k.stand, k.stdby)
  | some _, _ => none
  | none, _ => if d.fenced k.anvil then none else some (k.anvil, k.start, k.foot)

/-- The TB0 instant of a cycle of the current stroke, ns. -/
def Device.cycleTime (d : Device) (c : Nat) : Nat :=
  (d.tb0 / 100000000) * 100000000 + d.tim.stroke * 10000000 + c * 1000 / rungMhz d.rung

/-- BLOCK_START (R296): the block starts at its declared cycle, if that has not passed. -/
def Device.blockStart (d : Device) (id : Nat) : Device :=
  match d.blocks.find? fun p => p.1.id = id with
  | none => d
  | some (k, _) =>
    match d.runsAt k with
    | none => d
    | some (a, start, base) =>
      let v := d.anv a
      let ok : Bool := d.fabRuns && d.tim.heats && k.stroke = d.tim.stroke && d.hearthUp (a / 8) && v.run = none &&
        v.bund = none && v.cyc ≤ start && !v.started.contains id
      if ok then
        let e := (d.advanceTo (d.cycleTime start)).anvTo a (v.stroke0 + start)
        e.startBlock a id (v.stroke0 + start) k.declared base false 0
      else d

/-- OVERRUN (R300): the count reaches the declared cycles and no ENDS has issued. -/
def Device.overrun (d : Device) (a : Nat) : Device :=
  let v := d.anv a
  match v.run with
  | none => d
  | some r =>
    if v.bund ≠ none then d
    else
      let t := r.start + r.declared
      let e := (d.advanceTo (d.cycleTime (t - v.stroke0))).anvTo a (Nat.max v.now t)
      e.failBlock a r 1

/-- RERUN (R302): the oldest failed block of the anvil is re-run in the reserve, or has no cycle to start at. -/
def Device.rerun (d : Device) (a : Nat) : Device :=
  let v := d.anv a
  match v.fails, d.stockVar with
  | f :: rest, some sv =>
    if v.run ≠ none ∨ v.bund ≠ none ∨ d.fenced a then d
    else
      let e := d.setAnv a { v with fails := rest }
      match (d.blocks.find? fun p => p.1.id = f.id).map (·.1), d.tim.stroke with
      | some k, s =>
        let rs := sv.str s a 8 4
        let rl := sv.str s a 12 4
        let c0 := Nat.max (Nat.max rs v.reEnd) v.cyc
        let c := c0 + (k.start + 16 - c0 % 16) % 16
        let base := if k.anvil = a then k.foot else k.stdby
        if c + k.declared ≤ rs + rl then
          ((e.advanceTo (e.cycleTime c)).anvTo a (v.stroke0 + c)).startBlock a f.id (v.stroke0 + c) k.declared base true
            f.kind
        else e.unretried a f
      | none, _ => e.unretried a f
  | _, _ => d

/-- What a stroke boundary does to the anvils: a block that has not ended has overrun, a failed block that was not re-run
has no cycle left, and the cycles of the stroke count from 0. -/
def Device.fabStroke (d : Device) : Device :=
  d.forEach (d.fab.anvils.map (·.1)) fun a e =>
    let e := e.overrun a
    let e := e.forEach (e.anv a).fails fun f x => x.unretried a f
    let v := e.anv a
    let t := Nat.max v.now (v.stroke0 + rungN e.rung)
    let e := e.anvTo a t
    e.setAnv a { e.anv a with stroke0 := t, fails := [], reEnd := 0 }

/-- What the fabric counted in the heat becomes readable, and the counts restart (R239, R307). -/
def Device.fabHeat (d : Device) : Device :=
  let e := (d.wrN FAB_STALL (holdAt 0xFFFFFFFF d.fab.stalls)).wrN FAB_PG
    (holdAt 0xFF d.fab.gated + holdAt 0xFF d.fab.skipped * 256)
  let e := (e.wrN FAB_TONGS_BYTES (holdAt 0xFFFFFFFF d.fab.bytes)).wrN FAB_AUD_PASS d.fab.passes
  let e := { e with fab := { e.fab with stalls := 0, gated := 0, skipped := 0, bytes := 0, passes := 0 } }
  e.forEach (List.range 64) fun a x =>
    let v := x.anv a
    let x := (x.wrN (FAB_BUSY a) (holdAt 0x1FFFF (v.busy / 1024))).wrN (FAB_RERUN a)
      (holdAt 0xFF v.reruns + holdAt 0xFF v.failures * 256)
    if Tab.find x.fab.anvils a = none then x
    else x.setAnv a { v with busy := 0, reruns := 0, failures := 0, started := [] }

/-! ## Loading (R287, R299) and remapping (R303) -/

/-- Writes the parts of a load list that lie in a range, moved to another place. -/
def Device.copyLoads (d : Device) (b : Bytes) (from_ n dst : Nat) : Device :=
  d.forEach (loadList b) fun l e =>
    let lo := Nat.max from_ l.1
    let hi := Nat.min (from_ + n) (l.1 + l.2.1)
    if lo < hi then e.memWrite (dst + (lo - from_)) (sliceB b (l.2.2 + (lo - l.1)) (hi - lo)) false else e

/-- Writes a whole load list. -/
def Device.writeLoads (d : Device) (b : Bytes) : Device :=
  d.forEach (loadList b) fun l e => e.memWrite l.1 (sliceB b l.2.2 l.2.1) false

/-- The lowest base at which the banks of a queue fit (log entry 24). -/
def Device.freeBase (d : Device) (n g : Nat) : Option Nat :=
  ((List.range (131072 / g)).map (· * 2 * g)).find? fun b => !d.overlaps n b g

/-- Places the queues of an image's queue table (R288, R310): a queue that is enabled already must agree with its
entry. -/
def Device.placeQueues : List (Nat × Nat × Nat × Nat × Nat × Nat) → Device → Option Device
  | [], d => some d
  | (n, k, p, c, lv, _) :: t, d =>
    if (d.q n).on then
      if d.fld (QUE_CFG n) 1 4 = k ∧ d.fld (QUE_CFG n) 8 8 = p ∧ d.fld (QUE_CFG n) 16 8 = c then
        Device.placeQueues t (d.wrN (QUE_LEVEL n) lv)
      else none
    else
      match d.freeBase n (bankG k) with
      | none => none
      | some b =>
        let e := (((d.wfld (QUE_CFG n) 1 4 k).wfld (QUE_CFG n) 8 8 p).wfld (QUE_CFG n) 16 8 c).wfld (QUE_CFG n) 25 4
          (engineOf p)
        Device.placeQueues t (((e.wrN (QUE_BASE n) b).wrN (QUE_LEVEL n) lv).enableQ n)

/-- The solve slots of a rung with the anvils fenced now (R73, R305). -/
def Device.slotsAt (d : Device) (r : Nat) : Nat := (64 * (16 - 2 * r)) * (64 - d.fencedN) / 64

/-- Drops a block that is not SHED (R303). -/
def Device.dropBlock (d : Device) (k : BlockRec) : Device :=
  let e := { d with fab := { d.fab with remap := Tab.put d.fab.remap k.id 3 } }
  (e.raise FAB_AUD_INT_STAT 6).slag 0x0B 0x0108 k.anvil 0 (leBytes 2 k.id)

/-- Moves one block of a fenced anvil to its stand-in, sheds it or drops it (R303). -/
def Device.moveBlock (d : Device) (sv : Variant) (k : BlockRec) (v : Variant) : Device :=
  let t := sv.standIn k.stroke k.anvil
  if (Tab.find d.fab.remap k.id).isSome then d
  else if k.shed then { d with fab := { d.fab with remap := Tab.put d.fab.remap k.id 2 } }
  else if d.fenced t then d.dropBlock k
  else
    let e := d.copyLoads sv.b (crucibleBase k.anvil + k.foot) k.len (crucibleBase t + k.stdby)
    let e := e.doIf (v ≠ sv) fun x => x.copyLoads v.b (crucibleBase k.anvil + k.foot) k.len (crucibleBase t + k.stdby)
    { e with fab := { e.fab with remap := Tab.put e.fab.remap k.id 1 } }.raise FAB_AUD_INT_STAT 5

/-- Flushes every input queue of which every consumer block is shed (R303). -/
def Device.flushShed (d : Device) : Device :=
  let l := d.blocks
  let ins := l.flatMap fun p => ((p.2.usesOf p.1).filter fun u => u.dir = 0).map fun u => (u.q, p.1.id)
  d.forEach (ins.map (·.1)).eraseDups fun q e =>
    if ins.all fun x => x.1 ≠ q || Tab.find e.fab.remap x.2 = some 2 then e.flushQ q true else e

/-- The remap of a fenced anvil (R303): its blocks move, and a block that already ran on it as a stand-in is dropped. -/
def Device.remapAnvil (d : Device) (a : Nat) : Device :=
  match d.stockVar with
  | none => d
  | some sv =>
    let e := { d with fab := { d.fab with fences := d.fab.fences.filter fun f => f.1 ≠ a } }
    let e := e.forEach e.blocks fun p x =>
      if p.1.anvil = a then x.moveBlock sv p.1 p.2
      else if Tab.find x.fab.remap p.1.id = some 1 ∧ sv.standIn p.1.stroke p.1.anvil = a then x.dropBlock p.1
      else x
    (e.flushShed).setSlots (e.slotsAt e.rung)

/-- STAND_IN_REMAP (R303): the heat began at least 5 ms after the fence. -/
def Device.standIn (d : Device) (a : Nat) : Device :=
  match d.fab.fences.find? fun f => f.1 = a with
  | some (_, t) => if d.tim.heats ∧ t + 5000000 ≤ d.upNs - d.inHeat then d.remapAnvil a else d
  | none => d

/-- FAB_REMAP (R307). -/
def Device.fabRemap (d : Device) : Nat :=
  let n (p : Nat → Bool) : Nat := holdAt 0x1FF (d.fab.remap.filter fun e => p e.2).length
  n (· = 1) + n (2 ≤ ·) * 2 ^ 16

/-! ## Admission (R298, R299, R304) -/

/-- Begins an admission that tries rungs in order (R298). -/
def Device.admitStart (d : Device) (tries : List Nat) (down : Bool) : Device :=
  let e := { d with fab := { d.fab with adm := some ⟨tries, down, none, false, 0⟩ } }
  (e.wfld FAB_ADM_STAT 0 2 1).wfld FAB_ADM_STAT 4 2 (tries.head?.getD 0)

/-- A variant fails admission (R298). -/
def Device.admFails (d : Device) (r check block : Nat) (ovl : Bool) : Device :=
  let e := (d.raise FAB_AUD_INT_STAT 7).slag 0x0B 0x0106 r 0 (leBytes 1 check ++ leBytes 1 (b2n ovl) ++ leBytes 2 block)
  e.wfld FAB_ADM_VARIANTS (8 + r) 1 (if ovl then e.fld FAB_ADM_VARIANTS (8 + r) 1 else 0)

/-- The first failing check of the stock variant of a rung, and the device's placing of its queues (R310). -/
def Device.admStock (d : Device) (b : Bytes) (r : Nat) : Option (Nat × Nat) :=
  match variantOf b r with
  | none => some (1, noBlock)
  | some v =>
    match d.admission v r none with
    | some x => some x
    | none => if (Device.placeQueues (queueTable b) d).isNone then some (8, noBlock) else none

/-- Whether the overlay's variant of a rung passes with the stock variant (R299): its first failing check, if it has a
variant. -/
def Device.admOverlay (d : Device) (b : Bytes) (r : Nat) : Option (Option (Nat × Nat)) :=
  match d.fab.overlay with
  | none => none
  | some o =>
    match variantOf o r, variantOf b r with
    | some v, some s =>
      match d.admission v r (some s) with
      | some x => some (some x)
      | none => if (Device.placeQueues (queueTable b ++ queueTable o) d).isNone then some (some (8, noBlock)) else some none
    | _, _ => none

/-- Tries the rungs in order (R299, R304): the first that passes waits for the heat boundary. -/
def Device.tryRungs : List Nat → Bytes → Device → Bool × Device
  | [], _, d => (false, (d.wfld FAB_ADM_STAT 0 2 3))
  | r :: t, b, d =>
    match d.admStock b r with
    | some (c, k) =>
      let e := d.admFails r c k false
      Device.tryRungs t b (((e.wfld FAB_ADM_STAT 8 4 c).wfld FAB_ADM_STAT 16 16 k).wfld FAB_ADM_STAT 4 2 r)
    | none =>
      let e := d.wfld FAB_ADM_VARIANTS (8 + r) 1 1
      let e := (((e.wfld FAB_ADM_STAT 0 2 2).wfld FAB_ADM_STAT 4 2 r).wfld FAB_ADM_STAT 8 4 0).wfld FAB_ADM_STAT 16 16 noBlock
      let (ok, e) : Bool × Device := match e.admOverlay b r with
        | some none => (true, e)
        | some (some x) => (false, e.admFails r x.1 x.2 true)
        | none => (false, e.raiseIf e.fab.overlay.isSome FAB_AUD_INT_STAT 7)
      let down := match e.fab.adm with | some a => a.down | none => false
      (true, { e with fab := { e.fab with adm := some ⟨[], down, some r, ok, e.tb0 / 100000000⟩ } })

/-- The checks of an admission end (R298): whether a variant passed. -/
def Device.admitEnds (d : Device) : Option (Bool × Device) :=
  match d.fab.adm with
  | none => none
  | some a =>
    if a.rung.isSome then none
    else
      let b := d.fab.stock.getD []
      let tries := if d.bit FAB_STAT 2 ∧ ¬ a.down then a.tries else a.tries.filter (bitOf (uAt b 2 1))
      match Device.tryRungs tries b d with
      | (true, e) => some (true, e)
      | (false, e) => some (false, { e with fab := { e.fab with adm := none } })

/-- The variant that passed starts (R298, R222): the rung changes, the loader writes the load lists before the first heat
of an image, the remaps stay, and the solve slots follow. -/
def Device.variantStart (d : Device) : Device :=
  match d.fab.adm with
  | none => d
  | some a =>
    match a.rung with
    | none => d
    | some r =>
      if ¬ d.tim.heats ∨ d.tb0 / 100000000 ≤ a.heat then d
      else
        let b := d.fab.stock.getD []
        let o := if a.ovl then d.fab.overlay.getD [] else []
        let first := !d.bit FAB_STAT 2
        let old := d.rung
        let e := if first then
            let e := d.writeLoads b
            if a.ovl then e.writeLoads o else e
          else d
        let e := (Device.placeQueues (queueTable b ++ (if a.ovl then queueTable o else [])) e).getD e
        let e := ((e.wfld FAB_STAT 0 2 r).wbit FAB_STAT 2 true).raiseIf (!first && old ≠ r) FAB_INT_STAT 6
        let e := (e.wbit FAB_ADM_STAT 2 a.ovl).wrN FAB_ADM_HEAT e.heat
        let e := e.wrN FAB_MARGIN_REQ (match variantOf b r with | some v => v.h 2 2 | none => 0)
        let e := { e with fab := { e.fab with adm := none } }
        let e := if a.down then
            (e.raise FAB_AUD_INT_STAT 8).slag 0x0B 0x0107 r 0 (leBytes 1 old ++ leBytes 2 (e.fld (AGE_PRED old) 0 16))
          else e
        let e := if first then e.forEach ((List.range 64).filter e.fenced) fun x y => y.remapAnvil x else e
        e.setSlots (e.slotsAt r)

/-! ## Power-gate windows (R236) -/

/-- Whether a range of addresses touches the memories of a hearth. -/
def touchesHearth (h a n : Nat) : Bool :=
  spansMeet a n (hearthBase h) 0x400000 || spansMeet a n (crucibleBase (8 * h)) 0x200000

/-- Whether a transfer of the tongs touches the memories of a hearth. -/
def Device.tongsTouch (d : Device) (h : Nat) : Bool :=
  d.fab.tongs.any fun e => match e.2.run with | some r => touchesHearth h r.die (r.len * r.rows) | none => false

/-- Whether a context of a hearth holds a task. -/
def Device.hearthBusy (d : Device) (h : Nat) : Bool :=
  (List.range 8).any fun i => (List.range 4).any fun c => ((d.anv (8 * h + i)).rset (c + 1)).task.isSome

/-- The window of a hearth starts, or is skipped. -/
def Device.gateStart (d : Device) (h : Nat) : Device :=
  match d.stockVar with
  | none => d
  | some v =>
    let g := v.gate d.tim.stroke h
    let ok : Bool := d.fabRuns && d.hearthUp h && g.2 ≠ 0 && d.tb0 ≤ d.cycleTime (g.1 + g.2)
    if ¬ ok then d
    else
      let e := d.advanceTo (d.cycleTime g.1)
      if e.hearthBusy h ∨ e.tongsTouch h then
        { e with fab := { e.fab with skipped := e.fab.skipped + 1 } }.raise FAB_INT_STAT 5
      else
        ({ e with fab := { e.fab with gated := e.fab.gated + 1 } }.raise FAB_STAT (16 + h)).spillHearth h

/-- The window ends: the hearth is usable. -/
def Device.gateEnd (d : Device) (h : Nat) : Device :=
  if ¬ d.bit FAB_STAT (16 + h) then d
  else
    let e := match d.stockVar with
      | some v => d.advanceTo (d.cycleTime ((v.gate d.tim.stroke h).1 + (v.gate d.tim.stroke h).2))
      | none => d
    e.wbit FAB_STAT (16 + h) false

/-- BLOCK_START (R296, R301). -/
def execBlockStart (id : Nat) (s : State) : Host.Outcome State Fault Refusal := .next { s with dev := s.dev.blockStart id }

/-- OVERRUN (R300). -/
def execOverrun (a : Nat) (s : State) : Host.Outcome State Fault Refusal := .next { s with dev := s.dev.overrun a }

/-- RERUN (R302). -/
def execRerun (a : Nat) (s : State) : Host.Outcome State Fault Refusal := .next { s with dev := s.dev.rerun a }

/-- FAB_FENCE (R237): the warden writes the anvil's bit. -/
def execFabFence (a : Nat) (s : State) : Host.Outcome State Fault Refusal :=
  .next { s with dev := if a < 64 then s.dev.fence a 4 else s.dev }

/-- STAND_IN_REMAP (R303). -/
def execStandInRemap (a : Nat) (s : State) : Host.Outcome State Fault Refusal := .next { s with dev := s.dev.standIn a }

/-- ADMIT (R298, R307): TARGET_RUNG is written unless it is locked, and its variant is checked. -/
def execAdmitVariant (value : Nat) (s : State) : Host.Outcome State Fault Refusal :=
  let d := s.dev
  let e := if d.bit FAB_ADM_CTRL 3 then d else d.wfld FAB_ADM_CTRL 0 2 (bitsOf value 0 2)
  let e := e.raiseIf (bitOf value 3) FAB_ADM_CTRL 3
  .next { s with dev := e.admitStart [e.fld FAB_ADM_CTRL 0 2] false }

/-- POWER_GATE_WINDOW (R236). -/
def execPowerGateWindow (h : Nat) (s : State) : Host.Outcome State Fault Refusal :=
  .next { s with dev := s.dev.gateStart h }

/-- POWER_GATE_END (R236). -/
def execPowerGateEnd (h : Nat) (s : State) : Host.Outcome State Fault Refusal := .next { s with dev := s.dev.gateEnd h }

end Sys2Proof.Machine
end

