-- ==== Sys2Proof/Machine/Float.lean ====
section
/-!
DEFINITION. Machine/Float.lean: binary32 and binary64 arithmetic of the anvils, computed exactly and rounded once
(R267 to R269).
-/
namespace Sys2Proof

/-- A binary format: exponent bits and fraction bits. -/
structure Fmt where
  /-- Exponent bits. -/
  w : Nat
  /-- Fraction bits. -/
  p : Nat
  deriving DecidableEq, Repr

/-- binary64. -/
def f64 : Fmt := ⟨11, 52⟩
/-- binary32. -/
def f32 : Fmt := ⟨8, 23⟩

/-- A value read from its bits. `fin s m e` is ± m × 2^e. -/
inductive FVal where
  | nan (signalling : Bool)
  | inf (neg : Bool)
  | fin (neg : Bool) (m : Nat) (e : Int)
  deriving DecidableEq, Repr

/-- The flag NV. The flags are numbered as FPCSR[6:2] lists them (log entry 24). -/
def flNV : Nat := 1
/-- The flag DZ. -/
def flDZ : Nat := 2
/-- The flag OF. -/
def flOF : Nat := 4
/-- The flag UF. -/
def flUF : Nat := 8
/-- The flag NX. -/
def flNX : Nat := 16

/-- Union of flags. -/
def flOr (a b : Nat) : Nat := Nat.lor a b

/-- The bias. -/
def Fmt.bias (f : Fmt) : Int := ((2 ^ (f.w - 1) : Nat) : Int) - 1
/-- The exponent of the least quantum. -/
def Fmt.qmin (f : Fmt) : Int := 1 - f.bias - (f.p : Int)
/-- The infinity of a sign. -/
def Fmt.infB (f : Fmt) (neg : Bool) : Nat := (b2n neg * 2 ^ f.w + (2 ^ f.w - 1)) * 2 ^ f.p
/-- The canonical quiet NaN. -/
def Fmt.qnan (f : Fmt) : Nat := (2 ^ f.w - 1) * 2 ^ f.p + 2 ^ (f.p - 1)
/-- The largest finite value of a sign. -/
def Fmt.maxB (f : Fmt) (neg : Bool) : Nat := f.infB neg - 1
/-- The zero of a sign. -/
def Fmt.zeroB (f : Fmt) (neg : Bool) : Nat := b2n neg * 2 ^ (f.w + f.p)
/-- The bits of a value of the format. -/
def Fmt.width (f : Fmt) : Nat := 1 + f.w + f.p

/-- Reads a value. -/
def Fmt.read (f : Fmt) (x : Nat) : FVal :=
  let neg := bitOf x (f.w + f.p)
  let e := bitsOf x f.p f.w
  let m := bitsOf x 0 f.p
  if e = 2 ^ f.w - 1 then (if m = 0 then .inf neg else .nan (!bitOf x (f.p - 1)))
  else if e = 0 then .fin neg m f.qmin
  else .fin neg (m + 2 ^ f.p) (f.qmin + e - 1)

/-- Whether a quotient and remainder round up, by mode: 0 to nearest even, 1 toward zero, 2 down, 3 up, 4 to nearest,
ties away. -/
def roundUp (rm : Nat) (neg : Bool) (k rem d : Nat) : Bool :=
  if rem = 0 then false
  else if rm = 0 then d < 2 * rem || (d = 2 * rem && k % 2 = 1)
  else if rm = 1 then false
  else if rm = 2 then neg
  else if rm = 3 then !neg
  else d ≤ 2 * rem

/-- `n / d × 2^q` as a quotient. -/
def scaleQ (n d : Nat) (q : Int) : Nat × Nat := if 0 ≤ q then (n * 2 ^ q.toNat, d) else (n, d * 2 ^ (-q).toNat)

/-- The exponent of the leading bit of a quotient that is not 0. -/
def leadExp (n d : Nat) : Int :=
  let e : Int := (n.log2 : Int) - d.log2
  match scaleQ n d (-e) with | (a, b) => if a < b then e - 1 else e

/-- Rounds a quotient of exact magnitude `n / d` to a format: the bits and the flags. -/
def Fmt.round (f : Fmt) (rm : Nat) (neg : Bool) (n d : Nat) : Nat × Nat :=
  if n = 0 then (f.zeroB neg, 0)
  else
    let lead := leadExp n d
    let at_ (q : Int) : Nat × Bool :=
      match scaleQ n d (-q) with
      | (a, b) => (a / b + b2n (roundUp rm neg (a / b) (a % b) b), a % b ≠ 0)
    let qn := lead - f.p
    let q := if qn < f.qmin then f.qmin else qn
    match at_ q with
    | (k, inexact) =>
      let tinyBefore := lead < 1 - f.bias
      let tinyA := tinyBefore && (match at_ qn with | (kk, _) => kk < 2 ^ (f.p + 1) || qn + 1 < f.qmin)
      let tiny := if Config.tinyAfter then tinyA else tinyBefore
      let fl := (if inexact then flNX else 0) + (if inexact && tiny then flUF else 0)
      let (k, q) := if 2 ^ (f.p + 1) ≤ k then (k / 2, q + 1) else (k, q)
      let e : Int := if k < 2 ^ f.p then 0 else q - f.qmin + 1
      if ((2 ^ f.w - 1 : Nat) : Int) ≤ e then
        let toInf := rm = 0 || rm = 4 || (rm = 2 && neg) || (rm = 3 && !neg)
        (if toInf then f.infB neg else f.maxB neg, flOF + flNX)
      else (f.zeroB neg + e.toNat * 2 ^ f.p + k % 2 ^ f.p, fl)

/-- Rounds `i × 2^e`; a zero sum takes the sign of R267's standard: +0, or -0 when rounding down. -/
def Fmt.roundInt (f : Fmt) (rm : Nat) (i : Int) (e : Int) : Nat × Nat :=
  if i = 0 then (f.zeroB (rm = 2), 0)
  else match scaleQ i.natAbs 1 e with | (n, d) => f.round rm (i < 0) n d

/-- Whether a value is a signalling NaN. -/
def FVal.isSig : FVal → Bool | .nan s => s | _ => false
/-- Whether a value is a NaN. -/
def FVal.isNan : FVal → Bool | .nan _ => true | _ => false
/-- A signed mantissa. -/
def sgn (neg : Bool) (m : Nat) : Int := if neg then -(m : Int) else m

/-- The NaN result of an operation with NaN inputs. -/
def Fmt.nanOf (f : Fmt) (sig : Bool) : Nat × Nat := (f.qnan, if sig then flNV else 0)

/-- The sum of two finite values. -/
def Fmt.addFin (f : Fmt) (rm : Nat) (s : Bool) (m : Nat) (e : Int) (t : Bool) (n : Nat) (g : Int) : Nat × Nat :=
  if m = 0 ∧ n = 0 then (f.zeroB (if s = t then s else rm = 2), 0)
  else
    let q := if e < g then e else g
    f.roundInt rm (sgn s (m * 2 ^ (e - q).toNat) + sgn t (n * 2 ^ (g - q).toNat)) q

/-- FADD, and FSUB with the second input negated. -/
def Fmt.add (f : Fmt) (rm : Nat) (x y : FVal) : Nat × Nat :=
  match x, y with
  | .nan a, y => f.nanOf (a || y.isSig)
  | x, .nan b => f.nanOf (x.isSig || b)
  | .inf s, .inf t => if s = t then (f.infB s, 0) else (f.qnan, flNV)
  | .inf s, .fin _ _ _ => (f.infB s, 0)
  | .fin _ _ _, .inf t => (f.infB t, 0)
  | .fin s m e, .fin t n g => f.addFin rm s m e t n g

/-- The value with its sign inverted. -/
def FVal.neg : FVal → FVal
  | .nan a => .nan a
  | .inf s => .inf (!s)
  | .fin s m e => .fin (!s) m e

/-- FMUL. -/
def Fmt.mul (f : Fmt) (rm : Nat) (x y : FVal) : Nat × Nat :=
  match x, y with
  | .nan a, y => f.nanOf (a || y.isSig)
  | x, .nan b => f.nanOf (x.isSig || b)
  | .inf s, .inf t => (f.infB (xor s t), 0)
  | .inf s, .fin t n _ => if n = 0 then (f.qnan, flNV) else (f.infB (xor s t), 0)
  | .fin s m _, .inf t => if m = 0 then (f.qnan, flNV) else (f.infB (xor s t), 0)
  | .fin s m e, .fin t n g =>
    match scaleQ (m * n) 1 (e + g) with | (a, b) => f.round rm (xor s t) a b

/-- FDIV. -/
def Fmt.div (f : Fmt) (rm : Nat) (x y : FVal) : Nat × Nat :=
  match x, y with
  | .nan a, y => f.nanOf (a || y.isSig)
  | x, .nan b => f.nanOf (x.isSig || b)
  | .inf _, .inf _ => (f.qnan, flNV)
  | .inf s, .fin t _ _ => (f.infB (xor s t), 0)
  | .fin s _ _, .inf t => (f.zeroB (xor s t), 0)
  | .fin s m e, .fin t n g =>
    if n = 0 then (if m = 0 then (f.qnan, flNV) else (f.infB (xor s t), flDZ))
    else match scaleQ m n (e - g) with | (a, b) => f.round rm (xor s t) a b

/-- FSQRT. -/
def Fmt.sqrt (f : Fmt) (rm : Nat) (x : FVal) : Nat × Nat :=
  match x with
  | .nan a => f.nanOf a
  | .inf s => if s then (f.qnan, flNV) else (f.infB false, 0)
  | .fin s m e =>
    if m = 0 then (f.zeroB s, 0)
    else if s then (f.qnan, flNV)
    else
      -- an even exponent, and bits enough that a sticky bit settles the rounding
      let k : Nat := 2 * (f.p + 4) + (if (e % 2) = 0 then 0 else 1)
      let n := m * 2 ^ k
      let r := isqrt n
      let h := (e - k) / 2
      match scaleQ (2 * r + b2n (r * r ≠ n)) 1 (h - 1) with | (a, b) => f.round rm false a b

/-- The fused forms (R267): x × y + z with one rounding. -/
def Fmt.fma (f : Fmt) (rm : Nat) (x y z : FVal) : Nat × Nat :=
  let sig := x.isSig || y.isSig || z.isSig
  let badProd : Bool := match x, y with
    | .inf _, .fin _ n _ => n = 0
    | .fin _ m _, .inf _ => m = 0
    | _, _ => false
  if x.isNan ∨ y.isNan then f.nanOf sig
  else if badProd then
    if z.isNan then f.nanOf (sig || Config.fmaNanInvalid) else (f.qnan, flNV)
  else
    match x, y, z with
    | _, _, .nan _ => f.nanOf sig
    | .fin s m e, .fin t n g, .fin u k h =>
      if m * n = 0 ∧ k = 0 then (f.zeroB (if xor s t = u then u else rm = 2), 0)
      else f.addFin rm (xor s t) (m * n) (e + g) u k h
    | .fin _ _ _, .fin _ _ _, .inf u => (f.infB u, 0)
    | x, y, z =>
      let neg : FVal → Bool := fun v => match v with | .inf s => s | .fin s _ _ => s | .nan _ => false
      let p := xor (neg x) (neg y)
      match z with
      | .inf u => if p = u then (f.infB u, 0) else (f.qnan, flNV)
      | _ => (f.infB p, 0)

/-- The order of two values that are no NaN: -1, 0 or 1. -/
def FVal.cmp (x y : FVal) : Int :=
  match x, y with
  | .inf s, .inf t => if s = t then 0 else if s then -1 else 1
  | .inf s, _ => if s then -1 else 1
  | _, .inf t => if t then 1 else -1
  | .fin s m e, .fin t n g =>
    let q := if e < g then e else g
    let a := sgn s (m * 2 ^ (e - q).toNat)
    let b := sgn t (n * 2 ^ (g - q).toNat)
    if a < b then -1 else if a = b then 0 else 1
  | _, _ => 0

/-- FMIN and FMAX (R268): with one NaN the other input; -0 is less than +0. -/
def Fmt.minMax (f : Fmt) (max : Bool) (a b : Nat) : Nat × Nat :=
  let x := f.read a
  let y := f.read b
  let fl := if x.isSig ∨ y.isSig then flNV else 0
  if x.isNan ∧ y.isNan then (f.qnan, fl)
  else if x.isNan then (b, fl)
  else if y.isNan then (a, fl)
  else
    let c := x.cmp y
    let aLess := c < 0 || (c = 0 && bitOf a (f.w + f.p))
    ((if aLess ≠ max then a else b), fl)

/-- An FP condition (R252, R268): the result and the flags. -/
def Fmt.cond (f : Fmt) (c a b : Nat) : Bool × Nat :=
  let x := f.read a
  let y := f.read b
  let un := x.isNan || y.isNan
  let fl := if x.isSig ∨ y.isSig ∨ (un ∧ 2 ≤ c ∧ c ≤ 5) then flNV else 0
  let o := if un then 0 else x.cmp y
  let r :=
    if c = 0 then !un && o = 0
    else if c = 1 then un || o ≠ 0
    else if c = 2 then !un && o < 0
    else if c = 3 then !un && 0 ≤ o
    else if c = 4 then !un && o ≤ 0
    else if c = 5 then !un && 0 < o
    else if c = 6 then un
    else !un
  (r, fl)

/-- A finite value rounded to an integer, and whether that was inexact. -/
def toInt (rm : Nat) (neg : Bool) (m : Nat) (e : Int) : Int × Bool :=
  match scaleQ m 1 e with
  | (a, b) => (sgn neg (a / b + b2n (roundUp rm neg (a / b) (a % b) b)), a % b ≠ 0)

/-- FCVT to a signed integer of `w` bits (R268). -/
def Fmt.toSignedInt (f : Fmt) (rm w : Nat) (a : Nat) : Int × Nat :=
  let hi : Int := ((2 ^ (w - 1) : Nat) : Int) - 1
  let lo : Int := -((2 ^ (w - 1) : Nat) : Int)
  match f.read a with
  | .nan _ => (hi, flNV)
  | .inf s => (if s then lo else hi, flNV)
  | .fin s m e =>
    match toInt rm s m e with
    | (i, x) => if i < lo then (lo, flNV) else if hi < i then (hi, flNV) else (i, if x then flNX else 0)

/-- FCVT between the two formats (R268). -/
def fconv (src dst : Fmt) (rm : Nat) (a : Nat) : Nat × Nat :=
  match src.read a with
  | .nan s => dst.nanOf s
  | .inf s => (dst.infB s, 0)
  | .fin s m e => match scaleQ m 1 e with | (n, d) => dst.round rm s n d

/-- FRND (R268): to an integral value, only NV and NX. -/
def Fmt.integral (f : Fmt) (rm : Nat) (a : Nat) : Nat × Nat :=
  match f.read a with
  | .nan s => f.nanOf s
  | .inf s => (f.infB s, 0)
  | .fin s m e =>
    match toInt rm s m e with
    | (i, x) => ((if i = 0 then f.zeroB s else (f.roundInt 1 i 0).1), if x then flNX else 0)

/-- The operations of FOP.D and VOP.S, VOP.D by FN 0 to 9 (R249, R268). -/
def Fmt.fop (f : Fmt) (rm fn a b : Nat) : Nat × Nat :=
  let x := f.read a
  let y := f.read b
  let top := 2 ^ (f.w + f.p)
  if fn = 0 then f.add rm x y
  else if fn = 1 then f.add rm x y.neg
  else if fn = 2 then f.mul rm x y
  else if fn = 3 then f.div rm x y
  else if fn = 4 then f.sqrt rm x
  else if fn = 5 then f.minMax false a b
  else if fn = 6 then f.minMax true a b
  else if fn = 7 then (a % top, 0)
  else if fn = 8 then (a % top + (if bitOf a (f.w + f.p) then 0 else top), 0)
  else (a % top + (if bitOf b (f.w + f.p) then top else 0), 0)

/-- The four fused forms by FN (R249, R267). -/
def Fmt.fmaOp (f : Fmt) (rm fn a b c : Nat) : Nat × Nat :=
  let x := f.read a
  let y := f.read b
  let z := f.read c
  if fn = 0 then f.fma rm x y z
  else if fn = 1 then f.fma rm x y z.neg
  else if fn = 2 then f.fma rm x.neg y z.neg
  else f.fma rm x.neg y z

/-- fl() of a value of exact arithmetic, to nearest even. -/
def fl64 (r : Nat × Nat) : FVal := f64.read r.1

/-- TWOSUM (R269). -/
def twoSum (a b : Nat) : Nat × Nat × Nat :=
  let x := f64.read a
  let y := f64.read b
  match f64.add 0 x y with
  | (s, fl) =>
    match x, y, f64.read s with
    | .fin p m e, .fin q n g, .fin r k h =>
      let lo := if e < g then e else g
      let lo := if h < lo then h else lo
      let v := sgn p (m * 2 ^ (e - lo).toNat) + sgn q (n * 2 ^ (g - lo).toNat) - sgn r (k * 2 ^ (h - lo).toNat)
      (s, (f64.roundInt 0 v lo).1, fl)
    | _, _, z => (s, (f64.add 0 (fl64 (f64.add 0 x z.neg)) y).1, fl)

/-- TWOPROD (R269). -/
def twoProd (a b : Nat) : Nat × Nat × Nat :=
  let x := f64.read a
  let y := f64.read b
  match f64.mul 0 x y with
  | (s, fl) => (s, (f64.fma 0 x y (f64.read s).neg).1, fl)

/-- CYCSPLIT (R269): the nearest integer and the exact rest. -/
def cycSplit (a : Nat) : Nat × Nat × Nat :=
  match f64.read a with
  | .fin s m e =>
    match toInt 0 s m e with
    | (i, _) =>
      if 2 ^ 63 ≤ i.natAbs then (2 ^ 63, f64.qnan, flNV)
      else
        let lo : Int := if e < 0 then e else 0
        let v := sgn s (m * 2 ^ (e - lo).toNat) - i * ((2 ^ (0 - lo).toNat : Nat) : Int)
        (ofSigned 64 i, if i = 0 then a else (f64.roundInt 0 v lo).1, 0)
  | _ => (2 ^ 63, f64.qnan, flNV)

/-! ## Lattice steps (R271 to R273), on lists of four FP64 bit patterns -/

/-- Element `i`. -/
def ln (l : List Nat) (i : Nat) : Nat := l.getD i 0

/-- An integer as FP64. -/
def ofInt64 (i : Int) : Nat := if i = 0 then 0 else (f64.roundInt 0 i 0).1

/-- ZRED GAUSS (R271). -/
def zGauss (a b : List Nat) : List Nat × Nat :=
  let x := f64.read (ln a 0)
  let y := f64.read (ln b 0)
  let zero : Bool := match y with | .fin _ m _ => m = 0 | _ => false
  let fin (n : Int) (fl : Nat) : List Nat × Nat :=
    let nn := f64.read (ofInt64 n)
    let r := [1, 2, 3].map fun k => f64.fma 0 nn.neg (f64.read (ln b k)) (f64.read (ln a k))
    (ofInt64 n :: r.map (·.1), r.foldl (fun s e => flOr s e.2) fl)
  if zero ∨ x.isNan ∨ y.isNan then fin 0 flNV
  else
    match f64.div 0 x y with
    | (q, fl) =>
      match f64.read q with
      | .fin s m e =>
        match toInt 4 s m e with
        | (i, _) =>
          if 2147483648 < i then fin 2147483648 (flOr fl flNV)
          else if i < -2147483648 then fin (-2147483648) (flOr fl flNV)
          else fin i fl
      | .inf s => fin (if s then -2147483648 else 2147483648) (flOr fl flNV)
      | .nan _ => fin 0 flNV

/-- Whether one FP64 value is less than another. -/
def lt64 (a b : Nat) : Bool := (f64.cond 2 a b).1

/-- ZRED SWAP (R272). -/
def zSwap (a : List Nat) : List Nat × Nat :=
  let r (i : Nat) : FVal := f64.read (ln a i)
  let one := ofInt64 1
  if (r 0).isNan ∨ (r 1).isNan ∨ (r 2).isNan then ([ln a 0, ln a 1, ln a 2, 0], flNV)
  else
    let s := f64.mul 0 (r 2) (r 2)
    let de := f64.fma 0 (f64.read s.1) (r 1) (r 0)
    if lt64 de.1 (ln a 1) then
      let eta := f64.div 0 (r 0) (f64.read de.1)
      let d0 := f64.mul 0 (f64.read eta.1) (r 1)
      let pl := f64.mul 0 (r 1) (r 2)
      let d2 := f64.div 0 (f64.read pl.1) (f64.read de.1)
      ([d0.1, de.1, d2.1, one], [s.2, de.2, eta.2, d0.2, pl.2, d2.2].foldl flOr 0)
    else ([ln a 0, ln a 1, ln a 2, 0], flOr s.2 de.2)

/-- The norm and verdict of a candidate z with step i (R273). -/
def zTail (a : List Nat) (z i : FVal) (zb ib fl : Nat) : List Nat × Nat :=
  let c := f64.read (ln a 0)
  let d := f64.read (ln a 1)
  let t := f64.read (ln a 2)
  let e := f64.add 0 z c.neg
  let ee := f64.mul 0 (f64.read e.1) (f64.read e.1)
  let q := f64.div 0 (f64.read ee.1) d
  let t' := f64.add 0 (f64.read q.1) t
  let big : Bool := match z with
    | .fin _ m g => (match scaleQ m 1 g with | (n, dd) => 2147483648 * dd ≤ n)
    | _ => true
  let dBad : Bool := !(f64.cond 5 (ln a 1) 0).1
  let bad := big || dBad || c.isNan || d.isNan || t.isNan || (f64.read (ln a 3)).isNan || z.isNan || i.isNan
  let ok := !bad && (f64.cond 4 t'.1 (ln a 3)).1
  let fl := [e.2, ee.2, q.2, t'.2].foldl flOr fl
  ([zb, ib, t'.1, if ok then ofInt64 1 else 0], if bad then flOr fl flNV else fl)

/-- ZSRCH INIT (R273). -/
def zInit (a : List Nat) : List Nat × Nat :=
  let zb := (f64.integral 4 (ln a 0)).1
  let ib := if (f64.cond 3 (ln a 0) zb).1 then ofInt64 1 else ofInt64 (-1)
  zTail a (f64.read zb) (f64.read ib) zb ib 0

/-- ZSRCH STEP (R273). -/
def zStep (a b : List Nat) : List Nat × Nat :=
  let i := f64.read (ln b 1)
  let one := f64.read (ofInt64 1)
  let z := f64.add 0 (f64.read (ln b 0)) i
  let pos := (f64.cond 5 (ln b 1) 0).1
  let n := if pos then f64.add 0 i one else f64.add 0 i one.neg
  let ib := ((f64.read n.1).neg)
  let bits := match ib with
    | .fin s m e => if m = 0 then f64.zeroB s else (f64.roundInt 0 (sgn s m) e).1
    | .inf s => f64.infB s
    | .nan _ => f64.qnan
  zTail a (f64.read z.1) ib z.1 bits (flOr z.2 n.2)

end Sys2Proof
end

