-- ==== Sys2Proof/Machine/Issue.lean ====
section
/-!
DEFINITION. Machine/Issue.lean: how an anvil issues a bundle (R243 to R247, R258, R260, R264), what a bundle that raises
an exception does (R284, R285), and the end of an anvil's cycle: the bundle commits and results land (R245, R263).
-/
namespace Sys2Proof.Machine

/-- What one operation gives its bundle. -/
structure Slot where
  /-- The word is illegal whatever its guard (R247, R260). -/
  ill : Bool := false
  /-- The registers that its fields name: kind and number (R264). -/
  uses : List (Nat × Nat) := []
  /-- The destinations that its fields name (R245). -/
  dsts : List (Nat × Nat) := []
  /-- The exception that it raises when its guard is 1: 0 FETCH, 2 POISON, 3 ACCESS (R284). -/
  exc : Option Nat := none
  /-- The register set waits (R226, R277, R316). -/
  wait : Bool := false
  /-- Its results. -/
  new : List Pend := []
  /-- FPCSR flags. -/
  flags : Nat := 0
  /-- What it leaves for the end of the cycle. -/
  upd : Bundle → Bundle := id
  /-- What it does at once, if nothing in the bundle stands against it. -/
  act : Device → List Pend × Device := fun d => ([], d)

/-- A bundle that has issued nothing. -/
def bundleOff (set : Nat) : Bundle :=
  { set := set, slot := 0, exc := none, wait := false, dests := [], new := [], flags := 0, jump := none, extra := false
    loop := none, mts := none, ends := false, pad := 0, stall := 0, excess := false }

/-- The guard of an operation: the bits of predicate PG, inverted when PN is 1 (R244). -/
def guardOf (r : RSet) (i : Iss) : Nat := if i.pn then 255 - r.pr i.pg else r.pr i.pg

/-- Whether a register set of an anvil may issue a bundle (R220, R237, R261): the static set in its block's span, a
context that holds a task and is ready in an open-slot cycle. -/
def Device.mayIssue (d : Device) (a k : Nat) : Bool :=
  let v := d.anv a
  d.fabRuns && !d.fenced a && d.hearthUp (a / 8) &&
  (if k = 0 then
     match v.run with | some r => r.start ≤ v.now && v.now < r.start + r.declared | none => false
   else k ≤ 4 && v.run = none && (v.rset k).task.isSome && (v.rset k).ready ≤ v.now)

/-- The bundle that the operation joins: the one in progress, if it is of the same set and its slot has not passed, or a
new one. A program counter outside the crucible raises FETCH (R254). -/
def Device.bundleFor (d : Device) (i : Iss) (slot : Nat) : Option Bundle :=
  let v := d.anv i.anvil
  match v.bund with
  | some b => if b.set = i.set ∧ b.slot ≤ slot then some b else none
  | none =>
    if i.anvil < 64 ∧ d.mayIssue i.anvil i.set then
      let b := bundleOff i.set
      some (if (v.rset i.set).pc < 0x40000 then b else { b with exc := some (0, 0) })
    else none

/-- The exception that is recorded of two (R284): the first kind in the table's order, and the first slot within it. -/
def worse (a : Option (Nat × Nat)) (k slot : Nat) : Option (Nat × Nat) :=
  match a with
  | none => some (k, slot)
  | some (j, t) => if j < k ∨ (j = k ∧ t ≤ slot) then some (j, t) else some (k, slot)

/-- The bundle with what one slot gives: `on` is the guard. -/
def Bundle.join (b : Bundle) (slot : Nat) (s : Slot) (on hazard rsv : Bool) : Bundle :=
  let clash := s.dsts.any b.dests.contains || !(s.dsts.eraseDups.length = s.dsts.length)
  let b := if s.ill || clash || rsv then { b with exc := worse b.exc 1 slot } else b
  let b := match on, s.exc with
    | true, some k => { b with exc := worse b.exc k slot }
    | _, _ => b
  let b := { b with slot := slot + 1, dests := b.dests ++ s.dsts, wait := b.wait || hazard || (on && s.wait) }
  if on then s.upd { b with new := b.new ++ s.new, flags := flOr b.flags s.flags } else b

/-- Whether a register that an operation of a context names has a result pending (R264). -/
def RSet.hazard (r : RSet) (s : Slot) : Bool := r.pend.any fun p => (s.uses ++ s.dsts).contains (p.kind, p.reg)

/-- Issues one operation in a slot (R243 to R247). `vec` says that it is governed lane by lane; `f` gives what it does
from the device, the anvil, its register set and the guard. -/
def Device.issue (d : Device) (i : Iss) (slot : Nat) (vec : Bool) (f : Anvil → RSet → Nat → Slot) : Device :=
  match d.bundleFor i slot with
  | none => d
  | some b =>
    let v := d.anv i.anvil
    let r := v.rset i.set
    let g := guardOf r i
    let s := f v r g
    let on := if vec then g % 256 ≠ 0 else bitOf g 0
    let b := b.join slot s on (i.set ≠ 0 && r.hazard { s with uses := (2, i.pg) :: s.uses }) i.rsv
    if on ∧ b.exc = none ∧ ¬ b.wait then
      match s.act (d.setAnv i.anvil { v with bund := some b }) with
      | (l, e) =>
        let w := e.anv i.anvil
        e.setAnv i.anvil { w with bund := w.bund.map fun c => { c with new := c.new ++ l } }
    else d.setAnv i.anvil { v with bund := some b }

/-- A scalar operation. -/
def Device.issueS (d : Device) (i : Iss) (slot : Nat) (f : Anvil → RSet → Slot) : Device :=
  d.issue i slot false fun v r _ => f v r

/-- A result of latency `n` (R263). -/
def Anvil.res (v : Anvil) (kind reg val bad mask n : Nat) : Pend := ⟨kind, reg, val, bad, mask, some (v.now + n - 1)⟩

/-- A scalar result in an x register, of latency `n`. -/
def Anvil.xres (v : Anvil) (reg val : Nat) (bad : Bool) (n : Nat) : Pend := v.res 0 reg (val % 2 ^ 64) (b2n bad) 0 n

/-- An exception of a bundle (R285): nothing of it commits; its record is written, and its block counts as faulted or its
task ends FAULTED. -/
def Device.raiseExc (d : Device) (a : Nat) (b : Bundle) (kind slot : Nat) : Device :=
  let v := d.anv a
  let r := v.rset b.set
  let n := if b.set = 0 then 0xFFFF else r.task.getD 0xFFFF
  let e := d.slagB .fab 0x0105 a
    (leBytes 1 kind ++ leBytes 1 slot ++ leBytes 1 b.set ++ zeros 1 ++ leBytes 4 r.pc ++ leBytes 2 n)
  if b.set = 0 then match v.run with | some run => e.failBlock a run 4 | none => e
  else match r.task with | some t => e.endTask t stFaulted 0 | none => e

/-- What the loops do at the end of a bundle at `p` (R256, R257): the innermost loop that ends there is tested first, and
an outer one advances only when the inner one has finished. -/
def loopsEnd (p : Nat) : List HwLoop → List HwLoop × Option Nat
  | [] => ([], none)
  | l :: t =>
    if l.last = p then
      if 1 < l.n then ({ l with n := l.n - 1 } :: t, some l.first) else loopsEnd p t
    else (l :: t, none)

/-- The program counter and the loops after a bundle (R254, R256, R257): a taken branch ends the loops whose body its
target leaves; a count of 0 skips the body. -/
def RSet.next (r : RSet) (b : Bundle) : RSet :=
  match b.jump, b.loop with
  | some t, _ => { r with pc := t, loops := r.loops.filter fun l => l.first ≤ t && t ≤ l.last }
  | none, some (lc, n, len) =>
    let last := r.pc + 16 * len
    let r := { r with lend := Tab.put r.lend lc last }
    if n = 0 then
      match loopsEnd last r.loops with
      | (ls, some t) => { r with loops := ls, pc := t }
      | (ls, none) => { r with loops := ls, pc := last + 16 }
    else { r with loops := ⟨lc, n, r.pc + 16, last⟩ :: r.loops, pc := r.pc + 16 }
  | none, none =>
    match loopsEnd r.pc r.loops with
    | (ls, some t) => { r with loops := ls, pc := t }
    | (ls, none) => { r with loops := ls, pc := r.pc + 16 }

/-- Commits a bundle: its results are in flight, its flags are set, MTS takes effect for the next bundle, and the program
counter moves on. -/
def RSet.commit (r : RSet) (b : Bundle) : RSet :=
  let base := b.mts.getD r.fpcsr
  let r := r.next b
  { r with pend := r.pend ++ b.new, fpcsr := Nat.lor base (b.flags * 4) }

/-- The end of a cycle in which a bundle of the static set issued (R258, R261, R262): the audit judges its ENDS. -/
def Device.endStatic (d : Device) (a : Nat) (b : Bundle) : Device :=
  let v := d.anv a
  let v1 := { v.setR 0 ((v.rset 0).commit b) with bund := none, busy := v.busy + 1 }
  let count (r : BlockRun) : Nat := v.now - r.start + 1
  let t := v.now + 1 + b2n b.extra + b.pad + b.stall
  let e := { d with fab := { d.fab with stalls := d.fab.stalls + b.stall } }.setAnv a v1
  match v.run with
  | none => e.anvTo a (v.now + 1)
  | some r =>
    if b.excess then (e.failBlock a r 3).anvTo a (v.now + 1)
    else if b.ends then
      (if count r = r.declared then e.passBlock a r else e.failBlock a r 2).anvTo a (v.now + 1)
    else e.anvTo a (Nat.min t (r.start + r.declared))

/-- The end of a cycle in which a bundle of a context issued: the context is not ready while it stalls (R226), and it
stops if it was cancelled (R341). The bundle of a task that has ended leaves nothing in flight (R280). -/
def Device.endContext (d : Device) (a : Nat) (b : Bundle) : Device :=
  let v := d.anv a
  match (v.rset b.set).task with
  | none => (d.setAnv a { v with bund := none, busy := v.busy + 1 }).anvTo a (v.now + 1)
  | some n =>
    let r := (v.rset b.set).commit b
    let r := { r with ready := v.now + 1 + b2n b.extra + b.pad + b.stall }
    let e := (d.setAnv a { v.setR b.set r with bund := none, busy := v.busy + 1 }).anvTo a (v.now + 1)
    if bitOf (e.desc n).flags 2 then e.endTask n stAborted 0 else e

/-- What register-file parity finds in a cycle (R229, R237): 1 a clean re-read, 2 a lasting fault, which fences. -/
def Device.parityCheck (d : Device) (a par : Nat) : Device :=
  if par = 1 then d.transient (some FAB_TRANSIENT) 0x0B 0x0101 a (leBytes 1 3) false
  else if par = 2 then ((d.count FAB_LASTING).lasting none 0x0B 0x0101 a (leBytes 1 3) true).fence a 3
  else d

/-- The end of an anvil's cycle (R245, R263): the bundle of the cycle commits, waits or raises its exception, and the
results due land. -/
def Device.cycleEnd (d : Device) (a par : Nat) : Device :=
  let v := d.anv a
  let e := match v.bund with
    | none => d.anvTo a (v.now + 1)
    | some b =>
      let none_ := (d.setAnv a { v with bund := none })
      match b.exc with
      | some (k, s) => if b.wait then none_.anvTo a (v.now + 1) else (none_.raiseExc a b k s).anvTo a (v.now + 1)
      | none =>
        if b.wait then
          let e := if b.set = 0 then { none_ with fab := { none_.fab with stalls := none_.fab.stalls + 1 } } else none_
          let e := e.anvTo a (v.now + 1)
          match ((e.anv a).rset b.set).task with
          | some n => if b.set ≠ 0 ∧ bitOf (e.desc n).flags 2 then e.endTask n stAborted 0 else e
          | none => e
        else if b.set = 0 then d.endStatic a b
        else d.endContext a b
  let e := e.parityCheck a par
  if v.bund ≠ none ∧ e.fenced a then e.fenceSettle a else e

/-- NOP (R248): it does nothing, whatever PN and PG; a word with a bit of [27:0] set is illegal. -/
def execNop (i : Iss) (slot : Nat) (s : State) : Host.Outcome State Fault Refusal :=
  .next { s with dev := if slot < 4 then s.dev.issueS { i with pn := false, pg := 0 } slot fun _ _ => {} else s.dev }

/-- RESULT_WRITEBACK (R263): the anvil's cycle ends. -/
def execResultWriteback (a par : Nat) (s : State) : Host.Outcome State Fault Refusal :=
  .next { s with dev := if a < 64 then s.dev.cycleEnd a par else s.dev }

end Sys2Proof.Machine
end

