-- ==== Sys2Proof/Machine/AnvilInt.lean ====
section
/-!
DEFINITION. Machine/AnvilInt.lean: the operations of slot S0 and the integer operations of slot S1 (R248, R249, R252 to
R257, R266): arithmetic, compares, predicates, constants, branches, loops and status registers.
-/
namespace Sys2Proof.Machine

/-- 2^64. -/
def m64 : Nat := 2 ^ 64

/-- A 64-bit pattern from an integer. -/
def w64 (i : Int) : Nat := ofSigned 64 i

/-- A 64-bit pattern as a signed integer. -/
def s64 (x : Nat) : Int := toSigned 64 x

/-- Bits [31:0] sign-extended to 64 bits. -/
def sext32 (x : Nat) : Nat := w64 (toSigned 32 x)

/-- An arithmetic shift right of a `w`-bit pattern. -/
def sraN (w x k : Nat) : Nat := ofSigned w (toSigned w x / ((2 ^ k : Nat) : Int))

/-- Leading zeros of a 64-bit pattern (R266). -/
def clz64 (x : Nat) : Nat := if x % m64 = 0 then 64 else 63 - Nat.log2 (x % m64)

/-- The complement of a `w`-bit pattern. -/
def compl (w x : Nat) : Nat := 2 ^ w - 1 - x % 2 ^ w

/-- The ALU functions of R248 on 64-bit patterns. -/
def alu (fn a b : Nat) : Nat :=
  match fn with
  | 0 => (a + b) % m64
  | 1 => (a + m64 - b % m64) % m64
  | 2 => Nat.land a b
  | 3 => Nat.lor a b
  | 4 => Nat.xor a b
  | 5 => Nat.land a (compl 64 b)
  | 6 => a * 2 ^ (b % 64) % m64
  | 7 => a / 2 ^ (b % 64)
  | 8 => sraN 64 a (b % 64)
  | 9 => if s64 a ≤ s64 b then a else b
  | 10 => if s64 a ≤ s64 b then b else a
  | 11 => Nat.min a b
  | 12 => Nat.max a b
  | 13 => sext32 (a + b)
  | 14 => sext32 (a + m64 - b % m64)
  | 15 => clz64 a
  | _ => countBits 64 a

/-- The MUL functions of R249 and R266. -/
def mulOp (fn a b : Nat) : Nat :=
  match fn with
  | 0 => a * b % m64
  | 1 => ofSigned 64 (s64 a * s64 b / ((m64 : Nat) : Int))
  | 2 => a * b / m64
  | 3 => if b = 0 then m64 - 1 else w64 (Int.tdiv (s64 a) (s64 b))
  | 4 => if b = 0 then m64 - 1 else a / b
  | 5 => if b = 0 then a else w64 (Int.tmod (s64 a) (s64 b))
  | _ => if b = 0 then a else a % b

/-- The integer conditions of R252 on `w`-bit patterns. -/
def icond (w c a b : Nat) : Bool :=
  match c with
  | 0 => a = b
  | 1 => a ≠ b
  | 2 => toSigned w a < toSigned w b
  | 3 => toSigned w b ≤ toSigned w a
  | 4 => a < b
  | 5 => b ≤ a
  | 6 => Nat.land a b ≠ 0
  | _ => Nat.land a b = 0

/-- A compare's new predicate bits (R252): MODE 0 sets, 1 ANDs, 2 ORs. -/
def modeBits (mode old res : Nat) : Nat :=
  if mode = 0 then res else if mode = 1 then Nat.land old res else Nat.lor old res

/-- The latency of a shift-free S0 operation (R265). -/
def lat1 : Nat := 1

/-- A scalar operation on one or two x registers: a poisoned source poisons the result (R282). -/
def binX (ill : Bool) (d a b lat : Nat) (f : Nat → Nat → Nat) (v : Anvil) (r : RSet) : Slot :=
  { ill := ill, uses := [(0, a), (0, b)], dsts := [(0, d)]
    new := [v.xres d (f (r.xv a) (r.xv b)) ((r.xr a).bad || (r.xr b).bad) lat] }

/-- A scalar operation on a register and an immediate. -/
def immX (ill : Bool) (d a lat : Nat) (f : Nat → Nat) (v : Anvil) (r : RSet) : Slot :=
  { ill := ill, uses := [(0, a)], dsts := [(0, d)], new := [v.xres d (f (r.xv a)) (r.xr a).bad lat] }

/-- The 12-bit immediate sign-extended to 64 bits (R253). -/
def imm12 (imm : Nat) : Nat := w64 (toSigned 12 imm)

/-- A scalar compare into a predicate (R242, R252): all eight bits; a poisoned source raises POISON (R283). -/
def cmpS (ill : Bool) (pd mode lat : Nat) (srcs : List Nat) (res : RSet → Bool × Nat) (v : Anvil) (r : RSet) : Slot :=
  let x := res r
  { ill := ill || mode = 3, uses := (2, pd) :: srcs.map fun k => (0, k), dsts := [(2, pd)]
    exc := if srcs.any fun k => (r.xr k).bad then some 2 else none
    new := [v.res 2 pd (modeBits mode (r.pr pd) (if x.1 then 0xFF else 0)) 0 0xFF lat], flags := x.2 }

/-- A branch to a program counter (R254). -/
def branchTo (t : Int) (extra : Bool) : Slot :=
  if 0 ≤ t ∧ t < 0x40000 then { upd := fun b => { b with jump := some t.toNat, extra := extra } } else { exc := some 0 }

/-- The target of BR and BRL: OFS bundles from the program counter. -/
def brTarget (r : RSet) (ofs : Nat) : Int := (r.pc : Int) + toSigned 22 ofs * 16

/-- A loop set-up (R256, R257): illegal with LEN 0, on an active counter, or with a body that leaves an active body. -/
def loopSet (ill : Bool) (lc len n : Nat) (r : RSet) : Slot :=
  let last := r.pc + 16 * len
  { ill := ill || len = 0 || r.loops.any fun l => l.lc = lc || l.last < last
    upd := fun b => { b with loop := some (lc, n, len) } }

/-- The value of a status register, if SREG names one (R255). -/
def Device.sreg (d : Device) (a k : Nat) (v : Anvil) (r : RSet) (x : Nat) : Option Nat :=
  if x = 0 then some v.cyc
  else if x = 1 then some d.tim.stroke
  else if x = 2 then some d.heat
  else if x = 3 then some a
  else if x = 4 then some k
  else if x = 5 then some d.rung
  else if x = 8 then some r.fpcsr
  else if 0x10 ≤ x ∧ x < 0x14 then some (match r.loops.find? fun l => l.lc = x - 0x10 with | some l => l.n | none => 0)
  else if 0x14 ≤ x ∧ x < 0x18 then some (Tab.getD r.lend (x - 0x14) 0)
  else if x = 0x20 then some (if k = 0 then 0xFFFF else r.task.getD 0xFFFF)
  else none

/-- ALU (R248, R266). -/
def execAlu (i : Iss) (s1 : Bool) (fn d a b : Nat) (s : State) : Host.Outcome State Fault Refusal :=
  .next { s with dev := s.dev.issueS i (b2n s1) (binX (16 < fn || (15 ≤ fn && b ≠ 0)) d a b lat1 (alu fn)) }

/-- ADDI (R253). -/
def execAddi (i : Iss) (s1 : Bool) (d a imm : Nat) (s : State) : Host.Outcome State Fault Refusal :=
  .next { s with dev := s.dev.issueS i (b2n s1) (immX false d a lat1 fun x => alu 0 x (imm12 imm)) }

/-- ANDI (R253). -/
def execAndi (i : Iss) (d a imm : Nat) (s : State) : Host.Outcome State Fault Refusal :=
  .next { s with dev := s.dev.issueS i 0 (immX false d a lat1 fun x => alu 2 x (imm12 imm)) }

/-- ORI (R253). -/
def execOri (i : Iss) (d a imm : Nat) (s : State) : Host.Outcome State Fault Refusal :=
  .next { s with dev := s.dev.issueS i 0 (immX false d a lat1 fun x => alu 3 x (imm12 imm)) }

/-- XORI (R253). -/
def execXori (i : Iss) (d a imm : Nat) (s : State) : Host.Outcome State Fault Refusal :=
  .next { s with dev := s.dev.issueS i 0 (immX false d a lat1 fun x => alu 4 x (imm12 imm)) }

/-- SHI (R248): IMM[5:0] is the amount, IMM[7:6] the shift; 3 and a bit of IMM[11:8] are reserved. -/
def execShi (i : Iss) (d a imm : Nat) (s : State) : Host.Outcome State Fault Refusal :=
  let d' := s.dev.issueS i 0
    (immX (bitsOf imm 6 2 = 3 || bitsOf imm 8 4 ≠ 0) d a lat1 fun x => alu (6 + bitsOf imm 6 2) x (bitsOf imm 0 6))
  .next { s with dev := d' }

/-- CMP (R252). -/
def execCmp (i : Iss) (pd mode a b cond : Nat) (s : State) : Host.Outcome State Fault Refusal :=
  let d' := s.dev.issueS i 0
    (cmpS (7 < cond) pd mode lat1 [a, b] fun r => (icond 64 cond (r.xv a) (r.xv b), 0))
  .next { s with dev := d' }

/-- CMPI (R252): IMM8 sign-extended. -/
def execCmpi (i : Iss) (pd mode a cond imm : Nat) (s : State) : Host.Outcome State Fault Refusal :=
  let d' := s.dev.issueS i 0
    (cmpS (7 < cond) pd mode lat1 [a] fun r => (icond 64 cond (r.xv a) (w64 (toSigned 8 imm)), 0))
  .next { s with dev := d' }

/-- The predicate logic of R248. -/
def plogOp (lop a b : Nat) : Nat :=
  if lop = 0 then Nat.land a b else if lop = 1 then Nat.lor a b else if lop = 2 then Nat.xor a b
  else Nat.land a (compl 8 b)

/-- PLOG (R248). -/
def execPlog (i : Iss) (pd pa pb lop : Nat) (s : State) : Host.Outcome State Fault Refusal :=
  .next { s with dev := s.dev.issueS i 0 fun v r =>
    { uses := [(2, pa), (2, pb)], dsts := [(2, pd)], new := [v.res 2 pd (plogOp lop (r.pr pa) (r.pr pb)) 0 0xFF lat1] } }

/-- MOVQ (R253): with K 0 the constant in its quarter and 0 elsewhere, with K 1 the quarter replaced. -/
def execMovq (i : Iss) (n d : Nat) (k : Bool) (imm : Nat) (s : State) : Host.Outcome State Fault Refusal :=
  .next { s with dev := s.dev.issueS i 0 fun v r =>
    { uses := if k then [(0, d)] else [], dsts := [(0, d)]
      new := [v.xres d (if k then setBits (r.xv d) (16 * n) 16 imm else imm % 65536 * 2 ^ (16 * n)) (k && (r.xr d).bad) lat1] } }

/-- BR (R254, R258): a taken one costs a cycle more; the static set may branch forward only (R260). -/
def execBr (i : Iss) (ofs : Nat) (s : State) : Host.Outcome State Fault Refusal :=
  .next { s with dev := s.dev.issueS i 0 fun _ r =>
    { branchTo (brTarget r ofs) true with ill := i.set = 0 && toSigned 22 ofs ≤ 0 } }

/-- BRL (R254): contexts only (R260); x31 gets the address of the following bundle. -/
def execBrl (i : Iss) (ofs : Nat) (s : State) : Host.Outcome State Fault Refusal :=
  .next { s with dev := s.dev.issueS i 0 fun v r =>
    { branchTo (brTarget r ofs) false with
      ill := i.set = 0, dsts := [(0, 31)], new := [v.xres 31 (r.pc + 16) false lat1] } }

/-- JR (R254): contexts only (R260); bits [3:0] of x[A] are ignored; a poisoned target raises POISON (R283). -/
def execJr (i : Iss) (a : Nat) (s : State) : Host.Outcome State Fault Refusal :=
  .next { s with dev := s.dev.issueS i 0 fun _ r =>
    let b := branchTo ((r.xv a / 16 * 16 : Nat) : Int) false
    { b with ill := i.set = 0, uses := [(0, a)], exc := if (r.xr a).bad then some 2 else b.exc } }

/-- LOOP (R256): contexts only (R260); the count is x[A][31:0], and a poisoned one raises POISON (R283). -/
def execLoop (i : Iss) (lc a len : Nat) (s : State) : Host.Outcome State Fault Refusal :=
  .next { s with dev := s.dev.issueS i 0 fun _ r =>
    { loopSet (i.set = 0) lc len (r.xv a % 2 ^ 32) r with
      uses := [(0, a)], exc := if (r.xr a).bad then some 2 else none } }

/-- LOOPI (R256). -/
def execLoopi (i : Iss) (lc count len : Nat) (s : State) : Host.Outcome State Fault Refusal :=
  .next { s with dev := s.dev.issueS i 0 fun _ r => loopSet false lc len count r }

/-- MFS (R255): a reserved SREG is illegal. -/
def execMfs (i : Iss) (d sreg : Nat) (s : State) : Host.Outcome State Fault Refusal :=
  .next { s with dev := s.dev.issueS i 0 fun v r =>
    let x := s.dev.sreg i.anvil i.set v r sreg
    { ill := x.isNone, dsts := [(0, d)], new := [v.xres d (x.getD 0) false lat1] } }

/-- MTS (R255, R265): FPCSR alone may be written; it takes effect for the next bundle. A poisoned source raises POISON
(R283). -/
def execMts (i : Iss) (a sreg : Nat) (s : State) : Host.Outcome State Fault Refusal :=
  .next { s with dev := s.dev.issueS i 0 fun _ r =>
    { ill := sreg ≠ 8, uses := [(0, a)], exc := if (r.xr a).bad then some 2 else none
      upd := fun b => { b with mts := some (r.xv a % 128) } } }

/-- PAD (R258): N - 1 more cycles, whatever its guard. -/
def execPad (i : Iss) (n : Nat) (s : State) : Host.Outcome State Fault Refusal :=
  .next { s with dev := s.dev.issueS { i with pn := false, pg := 0 } 0 fun _ _ =>
    { upd := fun b => { b with pad := n } } }

/-- ENDS (R261): closes the stroke block; a context may not issue it (R260). -/
def execEnds (i : Iss) (s : State) : Host.Outcome State Fault Refusal :=
  .next { s with dev := s.dev.issueS i 0 fun _ _ => { ill := i.set ≠ 0, upd := fun b => { b with ends := true } } }

/-- MUL (R266): MUL, MULH and MULHU in 3 cycles, the divisions in 18 (R265). -/
def execMul (i : Iss) (fn d a b : Nat) (s : State) : Host.Outcome State Fault Refusal :=
  .next { s with dev := s.dev.issueS i 1 (binX (6 < fn) d a b (if fn ≤ 2 then 3 else 18) (mulOp fn)) }

/-- ILLEGAL_BUNDLE (R247): a reserved OP or field, or a breach of R245, R257 or R261, whatever the guard; the bundle ends
in the ILLEGAL exception at its RESULT_WRITEBACK (R284). -/
def execIllegalBundle (i : Iss) (slot : Nat) (s : State) : Host.Outcome State Fault Refusal :=
  .next { s with dev := s.dev.issueS i slot fun _ _ => { ill := true } }

end Sys2Proof.Machine
end

