-- ==== Sys2Proof/Machine/AnvilFp.lean ====
section
/-!
DEFINITION. Machine/AnvilFp.lean: the floating-point operations of slot S1 (R249, R267 to R269).
-/
namespace Sys2Proof.Machine

/-- The rounding mode of FPCSR (R267). -/
def RSet.rm (r : RSet) : Nat := r.fpcsr % 4

/-- A scalar floating-point operation on registers: its result and flags; a poisoned source poisons the result. -/
def fpX (ill : Bool) (d lat : Nat) (srcs : List Nat) (f : RSet → Nat × Nat) (v : Anvil) (r : RSet) : Slot :=
  let x := f r
  { ill := ill, uses := srcs.map fun k => (0, k), dsts := [(0, d)]
    new := [v.xres d x.1 (srcs.any fun k => (r.xr k).bad) lat], flags := x.2 }

/-- Whether a function of FOP.D takes one operand, with B 0 (R249). -/
def fopUnary (fn : Nat) : Bool := fn = 4 || fn = 7 || fn = 8

/-- The latency of a function of FOP.D, VOP.S and VOP.D (R265). -/
def fopLat (fn : Nat) : Nat := if fn ≤ 2 then 4 else if fn = 3 then 20 else if fn = 4 then 24 else 1

/-- FOP_D (R267, R268). -/
def execFopD (i : Iss) (fn d a b : Nat) (s : State) : Host.Outcome State Fault Refusal :=
  let f := fpX (9 < fn || (fopUnary fn && b ≠ 0)) d (fopLat fn) [a, b] fun r => f64.fop r.rm fn (r.xv a) (r.xv b)
  .next { s with dev := s.dev.issueS i 1 f }

/-- FMA_D (R267). -/
def execFmaD (i : Iss) (fn d a b c : Nat) (s : State) : Host.Outcome State Fault Refusal :=
  let f := fpX false d 5 [a, b, c] fun r => f64.fmaOp r.rm fn (r.xv a) (r.xv b) (r.xv c)
  .next { s with dev := s.dev.issueS i 1 f }

/-- An integer rounded to a format. -/
def fmtOfInt (f : Fmt) (rm : Nat) (x : Int) : Nat × Nat := if x = 0 then (0, 0) else f.roundInt rm x 0

/-- The conversions of R268. -/
def fcvtOp (rm fn a : Nat) : Nat × Nat :=
  match fn with
  | 0 => fmtOfInt f64 rm (s64 a)
  | 1 => match f64.toSignedInt rm 64 a with | (x, fl) => (w64 x, fl)
  | 2 => fmtOfInt f64 rm (toSigned 32 a)
  | 3 => match f64.toSignedInt rm 32 a with | (x, fl) => (w64 x, fl)
  | 4 => fconv f32 f64 rm (a % 2 ^ 32)
  | _ => fconv f64 f32 rm a

/-- FCVT (R268). -/
def execFcvt (i : Iss) (fn d a b : Nat) (s : State) : Host.Outcome State Fault Refusal :=
  .next { s with dev := s.dev.issueS i 1 (fpX (5 < fn || b ≠ 0) d 3 [a] fun r => fcvtOp r.rm fn (r.xv a)) }

/-- FCMP (R252, R268). -/
def execFcmp (i : Iss) (pd mode a b cond : Nat) (s : State) : Host.Outcome State Fault Refusal :=
  .next { s with dev := s.dev.issueS i 1 (cmpS (7 < cond) pd mode 2 [a, b] fun r => f64.cond cond (r.xv a) (r.xv b)) }

/-- FRND (R268). -/
def execFrnd (i : Iss) (fn d a b : Nat) (s : State) : Host.Outcome State Fault Refusal :=
  .next { s with dev := s.dev.issueS i 1 (fpX (4 < fn || b ≠ 0) d 2 [a] fun r => f64.integral fn (r.xv a)) }

/-- An operation that writes x[D] and x[D + 1] (R269): an odd D is illegal. -/
def fxt (ill : Bool) (d lat : Nat) (srcs : List Nat) (f : RSet → Nat × Nat × Nat) (v : Anvil) (r : RSet) : Slot :=
  let x := f r
  let bad := srcs.any fun k => (r.xr k).bad
  { ill := ill || d % 2 = 1, uses := srcs.map fun k => (0, k), dsts := [(0, d), (0, d + 1)]
    new := [v.xres d x.1 bad lat, v.xres (d + 1) x.2.1 bad lat], flags := x.2.2 }

/-- TWOSUM (R269). -/
def execTwosum (i : Iss) (d a b : Nat) (s : State) : Host.Outcome State Fault Refusal :=
  .next { s with dev := s.dev.issueS i 1 (fxt false d 6 [a, b] fun r => twoSum (r.xv a) (r.xv b)) }

/-- TWOPROD (R269). -/
def execTwoprod (i : Iss) (d a b : Nat) (s : State) : Host.Outcome State Fault Refusal :=
  .next { s with dev := s.dev.issueS i 1 (fxt false d 6 [a, b] fun r => twoProd (r.xv a) (r.xv b)) }

/-- CYCSPLIT (R269). -/
def execCycsplit (i : Iss) (d a b : Nat) (s : State) : Host.Outcome State Fault Refusal :=
  .next { s with dev := s.dev.issueS i 1 (fxt (b ≠ 0) d 5 [a] fun r => cycSplit (r.xv a)) }

end Sys2Proof.Machine
end

