-- ==== Sys2Proof/Machine/AnvilVec.lean ====
section
/-!
DEFINITION. Machine/AnvilVec.lean: the operations of slot V (R242, R250, R266 to R273, R282).
-/
namespace Sys2Proof.Machine

/-- The 32-bit lanes that a guard opens: for 64-bit lanes bit 2k governs lane k (R242). -/
def laneMask (wide : Bool) (g : Nat) : Nat :=
  if wide then (List.range 4).foldl (fun s k => s + b2n (bitOf g (2 * k)) * 3 * 4 ^ k) 0 else g % 256

/-- Lane `k` of a register. -/
def VWord.lane (x : VWord) (wide : Bool) (k : Nat) : Nat := if wide then lane64 x.v.toNat k else lane32 x.v.toNat k

/-- The lanes that a guard opens, by number. -/
def lanesOn (wide : Bool) (g : Nat) : List Nat :=
  if wide then (List.range 4).filter fun k => bitOf g (2 * k) else (List.range 8).filter (bitOf g)

/-- A 256-bit value from its lanes. -/
def ofLanes (wide : Bool) (l : List Nat) : Nat := if wide then ofLanes64 l else ofLanes32 l

/-- Lanes of a register. -/
def laneN (wide : Bool) : Nat := if wide then 4 else 8

/-- The quarters of which one of some registers holds a poisoned word. -/
def badOf (r : RSet) (srcs : List Nat) : Nat := srcs.foldl (fun s k => Nat.lor s (r.vr k).bad) 0

/-- Every quarter is poisoned when a source word is (R282). -/
def allBad (b : Bool) : Nat := if b then 15 else 0

/-- A result in a v register under lane guards. -/
def vres (ill : Bool) (d lat : Nat) (uses : List (Nat × Nat)) (val bad mask fl : Nat) (v : Anvil) : Slot :=
  { ill := ill, uses := uses, dsts := [(1, d)], new := [v.res 1 d val bad mask lat], flags := fl }

/-- The v registers that an operation names. -/
def vuses (l : List Nat) : List (Nat × Nat) := l.map fun k => (1, k)

/-- An operation lane by lane (R242): a quarter is poisoned when a source register's same quarter is (R282); the flags
are those of the lanes whose guard is 1 (R267). -/
def vecOp (ill wide : Bool) (d lat : Nat) (srcs : List Nat) (f : RSet → List Nat → Nat × Nat) (v : Anvil) (r : RSet)
    (g : Nat) : Slot :=
  let out := (List.range (laneN wide)).map fun k => f r (srcs.map fun s => (r.vr s).lane wide k)
  let fl := (lanesOn wide g).foldl (fun s k => flOr s (out.getD k (0, 0)).2) 0
  vres ill d lat (vuses srcs) (ofLanes wide (out.map (·.1))) (badOf r srcs) (laneMask wide g) fl v

/-- The functions of VOP.I on 32-bit lanes (R250, R266). -/
def vopI (fn a b : Nat) : Nat :=
  match fn with
  | 0 => (a + b) % 2 ^ 32
  | 1 => (a + 2 ^ 32 - b) % 2 ^ 32
  | 2 => Nat.land a b
  | 3 => Nat.lor a b
  | 4 => Nat.xor a b
  | 5 => Nat.land a (compl 32 b)
  | 6 => a * 2 ^ (b % 32) % 2 ^ 32
  | 7 => a / 2 ^ (b % 32)
  | 8 => sraN 32 a (b % 32)
  | 9 => if toSigned 32 a ≤ toSigned 32 b then a else b
  | 10 => if toSigned 32 a ≤ toSigned 32 b then b else a
  | _ => a * b % 2 ^ 32

/-- VOP_I (R266). -/
def execVopI (i : Iss) (fn d a b : Nat) (s : State) : Host.Outcome State Fault Refusal :=
  let f := vecOp (11 < fn) false d (if fn = 11 then 3 else 1) [a, b] fun _ l => (vopI fn (l.getD 0 0) (l.getD 1 0), 0)
  .next { s with dev := s.dev.issue i 2 true f }

/-- A floating-point operation of FOP.D's functions 0 to 8, lane by lane. -/
def vopF (fmt : Fmt) (wide : Bool) (fn d a b : Nat) : Anvil → RSet → Nat → Slot :=
  vecOp (8 < fn || (fopUnary fn && b ≠ 0)) wide d (fopLat fn) [a, b] fun r l => fmt.fop r.rm fn (l.getD 0 0) (l.getD 1 0)

/-- VOP_S (R267). -/
def execVopS (i : Iss) (fn d a b : Nat) (s : State) : Host.Outcome State Fault Refusal :=
  .next { s with dev := s.dev.issue i 2 true (vopF f32 false fn d a b) }

/-- VOP_D (R267). -/
def execVopD (i : Iss) (fn d a b : Nat) (s : State) : Host.Outcome State Fault Refusal :=
  .next { s with dev := s.dev.issue i 2 true (vopF f64 true fn d a b) }

/-- A fused multiply-add, lane by lane. -/
def vfma (fmt : Fmt) (wide : Bool) (fn d a b c : Nat) : Anvil → RSet → Nat → Slot :=
  vecOp false wide d 5 [a, b, c] fun r l => fmt.fmaOp r.rm fn (l.getD 0 0) (l.getD 1 0) (l.getD 2 0)

/-- VFMA_S (R267). -/
def execVfmaS (i : Iss) (fn d a b c : Nat) (s : State) : Host.Outcome State Fault Refusal :=
  .next { s with dev := s.dev.issue i 2 true (vfma f32 false fn d a b c) }

/-- VFMA_D (R267). -/
def execVfmaD (i : Iss) (fn d a b c : Nat) (s : State) : Host.Outcome State Fault Refusal :=
  .next { s with dev := s.dev.issue i 2 true (vfma f64 true fn d a b c) }

/-- A vector compare (R242, R252): one bit per 32-bit lane, both bits of a 64-bit lane; a poisoned source of a lane whose
guard is 1 raises POISON (R283). -/
def vcmp (wide : Bool) (pd mode a b cond : Nat) (f : Nat → Nat → Bool × Nat) (v : Anvil) (r : RSet) (g : Nat) : Slot :=
  let on := lanesOn wide g
  let out := (List.range (laneN wide)).map fun k => f ((r.vr a).lane wide k) ((r.vr b).lane wide k)
  let bit (k : Nat) : Bool := (out.getD (if wide then k / 2 else k) (false, 0)).1
  let res := (List.range 8).foldl (fun s k => s + b2n (bit k) * 2 ^ k) 0
  let bad := badOf r [a, b]
  { ill := mode = 3 || 7 < cond, uses := (2, pd) :: vuses [a, b], dsts := [(2, pd)]
    exc := if on.any fun k => bitOf bad (if wide then k else k / 2) then some 2 else none
    new := [v.res 2 pd (modeBits mode (r.pr pd) res) 0 (laneMask wide g) 2]
    flags := on.foldl (fun s k => flOr s (out.getD k (false, 0)).2) 0 }

/-- VCMP_I (R252). -/
def execVcmpI (i : Iss) (pd mode a b cond : Nat) (s : State) : Host.Outcome State Fault Refusal :=
  let f := vcmp false pd mode a b cond fun x y => (icond 32 cond x y, 0)
  .next { s with dev := s.dev.issue i 2 true f }

/-- VCMP_S (R268). -/
def execVcmpS (i : Iss) (pd mode a b cond : Nat) (s : State) : Host.Outcome State Fault Refusal :=
  .next { s with dev := s.dev.issue i 2 true (vcmp false pd mode a b cond (f32.cond cond)) }

/-- VCMP_D (R268). -/
def execVcmpD (i : Iss) (pd mode a b cond : Nat) (s : State) : Host.Outcome State Fault Refusal :=
  .next { s with dev := s.dev.issue i 2 true (vcmp true pd mode a b cond (f64.cond cond)) }

/-- The conversions of VCVT (R250, R270): D.S widens lanes 0 to 3; S.D narrows into lanes 0 to 3 and writes 0 to lanes 4
to 7. -/
def vcvt (fn d a b : Nat) (v : Anvil) (r : RSet) (g : Nat) : Slot :=
  let x := r.vr a
  let rm := r.rm
  let wide := fn = 2
  let one (k : Nat) : Nat × Nat :=
    match fn with
    | 0 => fmtOfInt f32 rm (toSigned 32 (x.lane false k))
    | 1 => match f32.toSignedInt rm 32 (x.lane false k) with | (i, fl) => (ofSigned 32 i, fl)
    | 2 => fconv f32 f64 rm (x.lane false k)
    | _ => if k < 4 then fconv f64 f32 rm (x.lane true k) else (0, 0)
  let out := (List.range (laneN wide)).map one
  let fl := (lanesOn wide g).foldl (fun s k => flOr s (out.getD k (0, 0)).2) 0
  let bad := if fn = 2 then x.bad % 4 ≠ 0 else x.bad ≠ 0
  vres (3 < fn || b ≠ 0) d 3 (vuses [a]) (ofLanes wide (out.map (·.1))) (allBad bad) (laneMask wide g) fl v

/-- VCVT (R270). -/
def execVcvt (i : Iss) (fn d a b : Nat) (s : State) : Host.Outcome State Fault Refusal :=
  .next { s with dev := s.dev.issue i 2 true (vcvt fn d a b) }

/-- The sum of two values of a format with the flags so far. -/
def sumF (f : Fmt) (rm : Nat) (x y : Nat × Nat) : Nat × Nat :=
  match f.fop rm 0 x.1 y.1 with | (z, fl) => (z, flOr fl (flOr x.2 y.2))

/-- SUM.S and SUM.D: the fixed tree, lanes left out counted as +0 (R270). -/
def treeSum (f : Fmt) (rm : Nat) : List Nat → Nat × Nat
  | [a, b, c, d] => sumF f rm (sumF f rm (a, 0) (b, 0)) (sumF f rm (c, 0) (d, 0))
  | [a, b, c, d, e, g, h, i] =>
    sumF f rm (sumF f rm (sumF f rm (a, 0) (b, 0)) (sumF f rm (c, 0) (d, 0)))
      (sumF f rm (sumF f rm (e, 0) (g, 0)) (sumF f rm (h, 0) (i, 0)))
  | _ => (0, 0)

/-- MIN and MAX over the lanes that enter (R268, R270). -/
def foldMin (f : Fmt) (mx : Bool) : List Nat → Nat × Nat
  | [] => (0, 0)
  | a :: t => t.foldl (fun s x => match f.minMax mx s.1 x with | (z, fl) => (z, flOr fl s.2)) (a, 0)

/-- VRED (R250, R270): the guarded lanes reduced into lane 0, and 0 in every other guarded lane. -/
def vred (fn d a b : Nat) (v : Anvil) (r : RSet) (g : Nat) : Slot :=
  let wide := fn = 2 || fn = 5 || fn = 6
  let x := r.vr a
  let on := lanesOn wide g
  let all := (List.range (laneN wide)).map fun k => if on.contains k then x.lane wide k else 0
  let part := on.map (x.lane wide)
  let res : Nat × Nat := match fn with
    | 0 => (part.foldl (· + ·) 0 % 2 ^ 32, 0)
    | 1 => treeSum f32 r.rm all
    | 2 => treeSum f64 r.rm all
    | 3 => foldMin f32 false part
    | 4 => foldMin f32 true part
    | 5 => foldMin f64 false part
    | _ => foldMin f64 true part
  let bad := on.any fun k => bitOf x.bad (if wide then k else k / 2)
  vres (6 < fn || b ≠ 0) d 6 (vuses [a]) res.1 (allBad bad) (laneMask wide g) res.2 v

/-- VRED (R270). -/
def execVred (i : Iss) (fn d a b : Nat) (s : State) : Host.Outcome State Fault Refusal :=
  .next { s with dev := s.dev.issue i 2 true (vred fn d a b) }

/-- VPERM (R250, R270): lane k of D is the lane of A that lane k of B selects. -/
def vperm (fn d a b : Nat) (v : Anvil) (r : RSet) (g : Nat) : Slot :=
  let wide := fn = 1
  let out := (List.range (laneN wide)).map fun k => (r.vr a).lane wide ((r.vr b).lane wide k % laneN wide)
  vres (1 < fn) d 2 (vuses [a, b]) (ofLanes wide out) (allBad (badOf r [a, b] ≠ 0)) (laneMask wide g) 0 v

/-- VPERM (R270). -/
def execVperm (i : Iss) (fn d a b : Nat) (s : State) : Host.Outcome State Fault Refusal :=
  .next { s with dev := s.dev.issue i 2 true (vperm fn d a b) }

/-- VBCAST (R270): a scalar into every guarded lane. -/
def execVbcast (i : Iss) (fn d a b : Nat) (s : State) : Host.Outcome State Fault Refusal :=
  let wide := fn = 1
  let f : Anvil → RSet → Nat → Slot := fun v r g =>
    vres (1 < fn || b ≠ 0) d 1 [(0, a)] (ofLanes wide (List.replicate (laneN wide) (r.xv a))) (allBad (r.xr a).bad)
      (laneMask wide g) 0 v
  .next { s with dev := s.dev.issue i 2 true f }

/-- Whether the FN of VMOVX and VINS names a lane: a 64-bit lane is 0 to 3, and bits [6:4] are 0 (R250). -/
def laneFnOk (fn : Nat) : Bool := fn < 12

/-- VMOVX (R250, R270): one lane into an x register, a 32-bit one sign-extended. It is a scalar operation. -/
def execVmovx (i : Iss) (fn d a b : Nat) (s : State) : Host.Outcome State Fault Refusal :=
  let wide := bitOf fn 3
  let k := fn % 8
  let f : Anvil → RSet → Slot := fun v r =>
    let x := r.vr a
    let val := if wide then x.lane true k else sext32 (x.lane false k)
    { ill := !laneFnOk fn || b ≠ 0, uses := [(1, a)], dsts := [(0, d)]
      new := [v.xres d val (bitOf x.bad (if wide then k else k / 2)) 1] }
  .next { s with dev := s.dev.issueS i 2 f }

/-- VINS (R250, R270): a scalar into one lane, under that lane's guard. -/
def execVins (i : Iss) (fn d a b : Nat) (s : State) : Host.Outcome State Fault Refusal :=
  let wide := bitOf fn 3
  let k := fn % 8
  let f : Anvil → RSet → Nat → Slot := fun v r g =>
    let lane := if wide then 3 * 4 ^ k else 2 ^ k
    vres (!laneFnOk fn || b ≠ 0) d 1 [(0, a)] (ofLanes wide (List.replicate (laneN wide) (r.xv a))) (allBad (r.xr a).bad)
      (Nat.land lane (laneMask wide g)) 0 v
  .next { s with dev := s.dev.issue i 2 true f }

/-- A lattice step on four FP64 lanes (R271 to R273). -/
def lattice (ill : Bool) (d lat : Nat) (srcs : List Nat) (f : List (List Nat) → List Nat × Nat) (v : Anvil) (r : RSet)
    (g : Nat) : Slot :=
  match f (srcs.map fun k => (List.range 4).map fun j => (r.vr k).lane true j) with
  | (l, fl) => vres ill d lat (vuses srcs) (ofLanes64 l) (allBad (badOf r srcs ≠ 0)) (laneMask true g) fl v

/-- ZRED_GAUSS (R271). -/
def execZredGauss (i : Iss) (d a b : Nat) (s : State) : Host.Outcome State Fault Refusal :=
  let f := lattice false d 26 [a, b] fun l => zGauss (l.getD 0 []) (l.getD 1 [])
  .next { s with dev := s.dev.issue i 2 true f }

/-- ZRED_SWAP (R272). -/
def execZredSwap (i : Iss) (d a b : Nat) (s : State) : Host.Outcome State Fault Refusal :=
  .next { s with dev := s.dev.issue i 2 true (lattice (b ≠ 0) d 30 [a] fun l => zSwap (l.getD 0 [])) }

/-- ZSRCH_INIT (R273). -/
def execZsrchInit (i : Iss) (d a b : Nat) (s : State) : Host.Outcome State Fault Refusal :=
  .next { s with dev := s.dev.issue i 2 true (lattice (b ≠ 0) d 28 [a] fun l => zInit (l.getD 0 [])) }

/-- ZSRCH_STEP (R273). -/
def execZsrchStep (i : Iss) (d a b : Nat) (s : State) : Host.Outcome State Fault Refusal :=
  let f := lattice false d 28 [a, b] fun l => zStep (l.getD 0 []) (l.getD 1 [])
  .next { s with dev := s.dev.issue i 2 true f }

end Sys2Proof.Machine
end

