-- ==== Sys2Proof/Machine/AnvilMem.lean ====
section
/-!
DEFINITION. Machine/AnvilMem.lean: loads and stores (R223 to R227, R229, R251, R253, R274, R281 to R283).
-/
namespace Sys2Proof.Machine

/-- The address of a load or store: x[A] + IMM × size (R253, R274). -/
def memAddr (r : RSet) (a imm size : Nat) : Nat := ofSigned 64 ((r.xv a : Int) + toSigned 12 imm * (size : Int))

/-- The memory that an access of an anvil reaches (R223): its own crucible, its own hearth memory or forge memory, at an
aligned address. -/
def reach (an addr size : Nat) : Option MemKind :=
  if addr % size ≠ 0 then none
  else match memAt addr size with
    | some (.crucible c) => if c = an then some (.crucible c) else none
    | some (.hearth h) => if h = an / 8 then some (.hearth h) else none
    | some .forge => some .forge
    | none => none

/-- Whether bytes lie in the governor inputs of a fleet-table entry, which a plain store may not write (R274). -/
def govBytes (addr size : Nat) : Bool :=
  lies addr size forgeBase 0x200000 && spansMeet (addr % 512) size 80 64

/-- The latency of a memory (R223). -/
def memLat : MemKind → Nat
  | .crucible _ => 2
  | .hearth _ => 6
  | .forge => 14

/-- The cycles until the access is served (R226); none where the anvil holds no slot. -/
def Device.memStall (d : Device) (an cyc : Nat) : MemKind → Option Nat
  | .crucible _ => some 0
  | .hearth _ => d.slotIn an false cyc
  | .forge => d.slotIn an true cyc

/-- An access: its exception, its stall, and what it does when it is served after `k` cycles in the memory. A poisoned
address raises POISON (R283). -/
def Device.access (d : Device) (an size a imm : Nat) (bar : Nat → Bool) (v : Anvil) (r : RSet)
    (go : MemKind → Nat → Nat → Slot) : Slot :=
  let addr := memAddr r a imm size
  if (r.xr a).bad then { exc := some 2 }
  else match reach an addr size with
    | none => { exc := some 3 }
    | some m =>
      if bar addr then { exc := some 3 }
      else match d.memStall an v.cyc m with
        | none => { wait := true }
        | some k =>
          let s := go m addr k
          { s with upd := fun b => { b with stall := k } }

/-- What ECC finds at a read, and the fence of the anvil after a lasting fault of its crucible (R229, R237). -/
def Device.eccAt (d : Device) (an : Nat) (m : MemKind) (addr ecc : Nat) : Device :=
  let e := d.eccRead m addr ecc
  match m, ecc with
  | .crucible _, 3 => e.fence an 2
  | _, _ => e

/-- The access size of LB to LD and of SB to SD (R274). -/
def loadSize (op : Nat) : Nat := if op ≤ 2 then 1 else if op ≤ 4 then 2 else if op ≤ 6 then 4 else 8

/-- A loaded value: LB, LH, LW and LD sign-extend, LBU, LHU and LWU do not (R274). -/
def loadVal (op : Nat) (b : Bytes) : Nat :=
  let n := 8 * loadSize op
  if op = 2 ∨ op = 4 ∨ op = 6 then leNat b else w64 (toSigned n (leNat b))

/-- SCALAR_LOAD (R274). -/
def execScalarLoad (i : Iss) (op d a imm ecc : Nat) (s : State) : Host.Outcome State Fault Refusal :=
  let size := loadSize op
  let f : Anvil → RSet → Slot := fun v r =>
    let x := s.dev.access i.anvil size a imm (fun _ => false) v r fun m addr k =>
      { act := fun e =>
          let e := e.eccAt i.anvil m addr ecc
          ([v.xres d (loadVal op (e.memRead addr size)) (e.memBad addr size) (k + memLat m)], e) }
    { x with ill := op = 0 || 7 < op, uses := [(0, a)], dsts := [(0, d)] }
  .next { s with dev := s.dev.issueS i 3 f }

/-- SCALAR_STORE (R274). -/
def execScalarStore (i : Iss) (op src a imm : Nat) (s : State) : Host.Outcome State Fault Refusal :=
  let size := 2 ^ (op % 4)
  let f : Anvil → RSet → Slot := fun v r =>
    let x := s.dev.access i.anvil size a imm (fun addr => govBytes addr size) v r fun _ addr _ =>
      { act := fun e => ([], e.memWrite addr (leBytes size (r.xv src)) (r.xr src).bad) }
    { x with ill := op < 8 || 11 < op, uses := [(0, src), (0, a)] }
  .next { s with dev := s.dev.issueS i 3 f }

/-- VLD (R274). -/
def execVld (i : Iss) (d a imm ecc : Nat) (s : State) : Host.Outcome State Fault Refusal :=
  let f : Anvil → RSet → Nat → Slot := fun v r g =>
    let x := s.dev.access i.anvil 32 a imm (fun _ => false) v r fun m addr k =>
      { act := fun e =>
          let e := e.eccAt i.anvil m addr ecc
          let bad := (List.range 4).foldl (fun t j => t + b2n (e.memBad (addr + 8 * j) 8) * 2 ^ j) 0
          ([v.res 1 d (leNat (e.memRead addr 32)) bad (laneMask false g) (k + memLat m)], e) }
    { x with uses := [(0, a)], dsts := [(1, d)] }
  .next { s with dev := s.dev.issue i 3 true f }

/-- Stores the lanes of a register that a guard opens: a lane of a poisoned quarter marks the word it touches (R282). -/
def Device.storeLanes (d : Device) (addr : Nat) (x : VWord) (g : Nat) : Device :=
  d.forEach (lanesOn false g) fun k e =>
    e.memWrite (addr + 4 * k) (leBytes 4 (x.lane false k)) (bitOf x.bad (k / 2))

/-- VST (R274), under its lane guards. -/
def execVst (i : Iss) (src a imm : Nat) (s : State) : Host.Outcome State Fault Refusal :=
  let f : Anvil → RSet → Nat → Slot := fun v r g =>
    let bar (addr : Nat) : Bool := (lanesOn false g).any fun k => govBytes (addr + 4 * k) 4
    let x := s.dev.access i.anvil 32 a imm bar v r fun _ addr _ =>
      { act := fun e => ([], e.storeLanes addr (r.vr src) g) }
    { x with uses := [(1, src), (0, a)] }
  .next { s with dev := s.dev.issue i 3 true f }

end Sys2Proof.Machine
end

