-- ==== Sys2Proof/Machine/AnvilQueue.lean ====
section
/-!
DEFINITION. Machine/AnvilQueue.lean: the queue operations of slot M (R246, R276, R277, R300, R301, R316 to R319, R326).
-/
namespace Sys2Proof.Machine

/-- Whether a producer or consumer code of R288 names an anvil's register set: the fabric contexts, the anvil itself, or
a fenced anvil for which it stands in (R303). -/
def Device.inRole (d : Device) (code an set : Nat) : Bool :=
  (code = 0x40 && set ≠ 0) || (code < 64 && (d.roles d.tim.stroke an).contains code)

/-- Whether the producer of a queue is the register set. -/
def Device.isProd (d : Device) (q an set : Nat) : Bool := d.inRole (d.fld (QUE_CFG q) 8 8) an set
/-- Whether the consumer of a queue is the register set. -/
def Device.isCons (d : Device) (q an set : Nat) : Bool := d.inRole (d.fld (QUE_CFG q) 16 8) an set

/-- The packets and granules that a block has used of a queue in a direction. -/
def Anvil.usedOf (v : Anvil) (q dir : Nat) : Nat × Nat :=
  match v.run with | some r => Tab.getD r.used (2 * q + dir) (0, 0) | none => (0, 0)

/-- Whether an operation of the static set stays within the block's declarations (R300): the queue is declared in the
direction, and the packets and granules that it adds do not pass a maximum. Direction 2 is any. -/
def Device.within (d : Device) (v : Anvil) (q dir pk gr : Nat) : Bool :=
  match v.run with
  | none => false
  | some r => (d.usesById r.id).any fun u =>
      u.q = q && (dir = 2 || (u.dir = dir && (v.usedOf q dir).1 + pk ≤ u.pk && (v.usedOf q dir).2 + gr ≤ u.gr))

/-- Counts what an operation of the static set used. -/
def Device.useAdd (d : Device) (an set q dir pk gr : Nat) : Device :=
  let v := d.anv an
  match v.run with
  | some r =>
    if set ≠ 0 then d
    else
      let u := v.usedOf q dir
      d.setAnv an { v with run := some { r with used := Tab.put r.used (2 * q + dir) (u.1 + pk, u.2 + gr) } }
  | none => d

/-- What a queue operation is, before what it does: the roles that may issue it (0 the consumer, 1 the producer, 2
either), and the packets and granules that it adds. -/
structure QueueOp where
  /-- The greatest FN that is not reserved. -/
  fns : Nat
  /-- The role. -/
  dir : Nat
  /-- Packets that it adds. -/
  pk : Queue → Nat
  /-- Granules that it adds. -/
  gr : Queue → Nat
  /-- It waits on the queue (R277). -/
  wait : Queue → Bool

/-- A queue operation in format Q (R246, R276): with IND the queue number is x[A][7:0] and QN is 0, otherwise A is 0; a
queue that is disabled or of another role raises ACCESS (R276, R325); an operation of the static set past its
declarations is not performed and fails the block (R300); a context waits for the owner of a packet (R316). -/
def Device.queueOp (d : Device) (i : Iss) (fn a qn : Nat) (ind : Bool) (o : QueueOp) (v : Anvil) (r : RSet)
    (go : Nat → Device → List Pend × Device) : Slot :=
  let n := if ind then r.xv a % 256 else qn
  let q := d.q n
  let me := ownerOf i.anvil i.set
  let prod := d.isProd n i.anvil i.set
  let cons := d.isCons n i.anvil i.set
  let role : Bool := match o.dir with | 0 => cons | 1 => prod | _ => cons || prod
  let shared := d.fld (QUE_CFG n) (if o.dir = 1 then 8 else 16) 8 = 0x40
  let other : Bool := match o.dir with
    | 0 => shared && (match q.owner with | some w => w ≠ me | none => false)
    | 1 => shared && (match q.opn with | some p => p.owner ≠ me | none => false)
    | _ => false
  let ill := o.fns < fn || (if ind then qn ≠ 0 else a ≠ 0)
  let uses := if ind then [(0, a)] else []
  if ind ∧ (r.xr a).bad then { ill := ill, uses := uses, exc := some 2 }
  else if ¬ role ∨ ¬ q.on then { ill := ill, uses := uses, exc := some 3 }
  else if i.set = 0 ∧ ¬ d.within v n o.dir (o.pk q) (o.gr q) then
    { ill := ill, uses := uses, upd := fun b => { b with excess := true } }
  else if other ∨ o.wait q then { ill := ill, uses := uses, wait := true }
  else { ill := ill, uses := uses, act := fun e => go n (e.useAdd i.anvil i.set n o.dir (o.pk q) (o.gr q)) }

/-- A queue operation that returns a status in x[D] (R265, R275). -/
def Device.queueStat (d : Device) (i : Iss) (fn dst a qn : Nat) (ind : Bool) (o : QueueOp)
    (go : Nat → Device → Nat × Device) : Device :=
  d.issueS i 3 fun v r =>
    let s := d.queueOp i fn a qn ind o v r fun n e =>
      match go n e with | (x, f) => ([v.xres dst x false 10], f)
    { s with dsts := [(0, dst)] }

/-- An operation that adds nothing and never waits. -/
def plainOp (fns dir : Nat) : QueueOp := ⟨fns, dir, fun _ => 0, fun _ => 0, fun _ => false⟩

/-- Appends granules to the open packet of a queue, opening one where none is open; a push that finds too few credits
writes nothing and marks the packet failed (R312, R313). -/
def Device.pushGran (d : Device) (n me : Nat) (data : Bytes) (bad : List Nat) : Device :=
  let q := d.q n
  let k := granules data
  let o : OpenPacket := q.opn.getD ⟨[], [], false, false, me⟩
  if queueCredit q < k then d.setQ n { q with opn := some { o with failed := true } }
  else
    let e := d.respare n q.fin k
    let q := e.q n
    let at_ := granules o.data
    let w : OpenPacket := { o with data := o.data ++ data, bad := o.bad ++ bad.map (at_ + ·) }
    e.setQ n { q with fin := q.fin + k, opn := some w }

/-- The poisoned granules of a v register's quarters (R282). -/
def badGran (bad n : Nat) : List Nat := (List.range n).filter fun k => bad / 4 ^ k % 4 ≠ 0

/-- QPUSH (R276). -/
def execQpush (i : Iss) (fn d a qn : Nat) (ind : Bool) (s : State) : Host.Outcome State Fault Refusal :=
  let k := 1 + fn % 2
  let f : Anvil → RSet → Slot := fun v r =>
    let o : QueueOp := ⟨1, 1, fun _ => 0, fun _ => k, fun _ => false⟩
    let x := s.dev.queueOp i fn a qn ind o v r fun n e =>
      ([], e.pushGran n (ownerOf i.anvil i.set) (leBytes (16 * k) (r.vr d).v.toNat) (badGran (r.vr d).bad k))
    { x with uses := (1, d) :: x.uses }
  .next { s with dev := s.dev.issueS i 3 f }

/-- Seals the open packet of a queue (R276, R313, R322): the status and the device. A packet of a stroke block stays
invisible until the block passes (R301). -/
def Device.sealPkt (d : Device) (n : Nat) (hold : Bool) : Nat × Device :=
  let q := d.q n
  match q.opn with
  | none => (stRejected, d)
  | some o =>
    if o.dropped then (stDone, (d.setQ n (queueDiscardOpen q)).settleQ n)
    else if o.failed then (stNoCapacity, ((d.setQ n (queueDiscardOpen q)).dropPkt n).raise QUE_INT_STAT 2)
    else
      let p : Packet := ⟨q.fin - granules o.data, o.data, o.bad⟩
      if hold then (stDone, d.setQ n { q with opn := none, held := q.held ++ [p] })
      else (stDone, (d.setQ n { q with opn := none }).show n [p])

/-- QSEAL (R276). -/
def execQseal (i : Iss) (fn d a qn : Nat) (ind : Bool) (s : State) : Host.Outcome State Fault Refusal :=
  let o : QueueOp := ⟨0, 1, fun q => b2n q.opn.isSome, fun _ => 0, fun _ => false⟩
  .next { s with dev := s.dev.queueStat i fn d a qn ind o fun n e => e.sealPkt n (i.set = 0) }

/-- What parity finds at a read of a granule of a queue (R326): whether it reads as poison, and the device. -/
def Device.parityRead (d : Device) (n k par : Nat) : Bool × Device :=
  let q := d.q n
  let ph := queuePhys q k
  if par = 1 then
    (false, (d.transient (some QUE_TRANSIENT) 0x09 0x0101 n (leBytes 4 (d.fld (QUE_BASE n) 0 18 + ph)) false).raise QUE_INT_STAT 3)
  else if par = 2 ∨ q.parity.contains ph then
    let e := d.setQ n { q with parity := if q.parity.contains ph then q.parity else ph :: q.parity }
    let spare := d.fld QUE_SPARE 0 7 < 64
    (true, ((e.lasting (some QUE_LASTING) 0x09 0x0101 n
      (leBytes 4 (d.fld (QUE_BASE n) 0 18 + ph) ++ leBytes 1 (b2n spare)) spare).raise QUE_INT_STAT 4))
  else (false, d)

/-- Takes `k` granules, or the one that is left, of the current packet of a queue (R277, R317): the bytes, the quarters
that are poison and the device. -/
def Device.popGran (d : Device) (n me k : Nat) (par : List Nat) : Nat × Nat × Device :=
  let q := d.q n
  match queueCurrent q with
  | none => (0, 15, d)
  | some p =>
    let at_ := q.pos - p.start
    let m := Nat.min k (p.len - at_)
    let read (x : Nat × Device) (j : Nat) : Nat × Device :=
      match x.2.parityRead n (q.pos + j) (par.getD j 0) with
      | (bad, e) => (x.1 + (if bad || p.bad.contains (at_ + j) then 3 * 4 ^ j else 0), e)
    let (bad, e) := (List.range m).foldl read (0, d)
    let bad := if m < k then bad + 12 else bad
    let fin := q.pos + m
    let q := { e.q n with pos := fin, owner := if p.start + p.len ≤ fin then none else some me }
    (leNat (sliceB p.data (16 * at_) (16 * m)), bad, (e.setQ n q).flushWaiting n)

/-- Granules that a QPOP of `k` takes of a queue. -/
def popTakes (k : Nat) (q : Queue) : Nat := Nat.min k (queueLeft q)

/-- Whether a QPOP enters a packet. -/
def popEnters (q : Queue) : Nat := match queueCurrent q with | some p => b2n (p.start = q.pos) | none => 0

/-- QPOP (R277): with WAIT a context waits until a granule is visible; the static set may not wait (R260). One granule
goes to bits [127:0]; with nothing visible all four quarters are poison. -/
def execQpop (i : Iss) (fn d a qn : Nat) (ind : Bool) (par : List Nat) (s : State) : Host.Outcome State Fault Refusal :=
  let k := 1 + fn % 2
  let wait := bitOf fn 1
  let f : Anvil → RSet → Slot := fun v r =>
    let o : QueueOp := ⟨3, 0, popEnters, popTakes k, fun q => wait && queueLeft q = 0⟩
    let x := s.dev.queueOp i fn a qn ind o v r fun n e =>
      let none_ := queueLeft (e.q n) = 0
      match e.popGran n (ownerOf i.anvil i.set) k par with
      | (val, bad, g) => ([v.res 1 d val bad (if none_ || k = 2 then 0xFF else 0x0F) 10], g)
    { x with ill := x.ill || (wait && i.set = 0), dsts := [(1, d)] }
  .next { s with dev := s.dev.issueS i 3 f }

/-- QMARK (R318). -/
def execQmark (i : Iss) (fn d a qn : Nat) (ind : Bool) (s : State) : Host.Outcome State Fault Refusal :=
  .next { s with dev := s.dev.queueStat i fn d a qn ind (plainOp 0 0) fun n e =>
    (stDone, e.setQ n { e.q n with mark := some (e.q n).pos }) }

/-- Returns to the read point (R318); a context that returns into a packet owns it. -/
def Device.rewind (d : Device) (n me : Nat) : Nat × Device :=
  let q := d.q n
  match q.mark with
  | none => (stNotFound, d)
  | some m =>
    let q := { q with pos := m }
    let inside : Bool := match queueCurrent q with | some p => p.start ≠ m | none => false
    (stDone, d.setQ n { q with owner := if inside then some me else none })

/-- QRWND (R318). -/
def execQrwnd (i : Iss) (fn d a qn : Nat) (ind : Bool) (s : State) : Host.Outcome State Fault Refusal :=
  .next { s with dev := s.dev.queueStat i fn d a qn ind (plainOp 0 0) fun n e => e.rewind n (ownerOf i.anvil i.set) }

/-- Releases up to the current position (R319); the static set's release is deferred to the end of its block (R301). -/
def Device.releaseTo (d : Device) (an set n : Nat) : Nat × Device :=
  let q := d.q n
  let v := d.anv an
  match set, v.run with
  | 0, some r =>
    let last := (r.rel.filter fun p => p.1 = n).foldl (fun m p => Nat.max m p.2) q.rel
    if q.pos ≤ last then (stNotFound, d)
    else (stDone, d.setAnv an { v with run := some { r with rel := r.rel ++ [(n, q.pos)] } })
  | _, _ => if q.pos ≤ q.rel then (stNotFound, d) else (stDone, d.setQ n (queueRelease q q.pos))

/-- QREL (R319). -/
def execQrel (i : Iss) (fn d a qn : Nat) (ind : Bool) (s : State) : Host.Outcome State Fault Refusal :=
  .next { s with dev := s.dev.queueStat i fn d a qn ind (plainOp 0 0) fun n e => e.releaseTo i.anvil i.set n }

/-- QSTAT (R276): credits held, consumer-visible fill, or granules left in the current packet. -/
def execQstat (i : Iss) (fn d a qn : Nat) (ind : Bool) (s : State) : Host.Outcome State Fault Refusal :=
  .next { s with dev := s.dev.queueStat i fn d a qn ind (plainOp 2 2) fun n e =>
    let q := e.q n
    (if fn = 0 then queueCredit q else if fn = 1 then queueFill q else queueLeft q, e) }

end Sys2Proof.Machine
end

