-- ==== Sys2Proof/Machine/AnvilEngine.lean ====
section
/-!
DEFINITION. Machine/AnvilEngine.lean: the operations of slot M on the reservation store, the governor's inputs and the
dispatcher (R278 to R280), and the operations that waited for the end of the fold (R145).
-/
namespace Sys2Proof.Machine

/-- The machine whose hold has an ID, present or last committed. -/
def Device.machOfHold (d : Device) (id : Nat) : Nat :=
  match d.rsv.holds.find? fun e => e.2.id = id with
  | some e => e.1
  | none => match d.rsv.done.find? fun e => e.2 = id with | some e => e.1 | none => 4096

/-- The detail of a CONFLICT answer (R278): entry, machine, exit + g. -/
def Device.conflictWord (d : Device) (seg i : Nat) (y : RsvEntry) : Nat :=
  stConflict + i * 2 ^ 8 + y.mach * 2 ^ 28 + (y.exit + d.guard seg y.seg) % 2 ^ 24 * 2 ^ 40

/-- One RSV operation served (R278): 0 QUERY, 1 HOLD, 2 COMMIT, 3 ABANDON. -/
def Device.rsvServe (d : Device) (fn word xb : Nat) : Nat × Device :=
  let c := entryOf word
  let id := xb % 65536
  match fn with
  | 0 =>
    if ¬ d.bit RSV_CTRL 0 then (stBusy, d)
    else match d.queryStore c with
      | (some (i, y), e) => (d.conflictWord c.seg i y, e)
      | (none, e) => (stDone, e)
  | 1 =>
    match d.holdOne c id (bitOf xb 16) with
    | (a, e) =>
      (if a.st = stDone then stDone + a.id * 2 ^ 8 + a.ix * 2 ^ 24
       else match a.with_ with | some y => d.conflictWord c.seg a.ix y | none => a.st, e)
  | 2 => match d.commitHold (d.machOfHold id) id with | (st, e) => (if st = stLate then stNotFound else st, e)
  | _ => d.abandonHold (d.machOfHold id) id

/-- An RSV operation of a context (R260, R278, R283): a query or a hold that arrives during the fold waits for its end
(R145). -/
def Device.rsvOp (d : Device) (i : Iss) (fn dst a b : Nat) : Device :=
  d.issueS i 3 fun v r =>
    let x := r.vr a
    let word := x.v.toNat % 2 ^ 128
    let bad := x.bad % 4 ≠ 0 || (r.xr b).bad
    { ill := i.set = 0, uses := [(1, a), (0, b)], dsts := [(0, dst)], exc := if bad then some 2 else none
      act := fun e =>
        if e.folding ∧ fn < 2 then
          ([⟨0, dst, 0, 0, 0, none⟩],
           { e with rsv := { e.rsv with waits := e.rsv.waits ++ [⟨i.anvil, i.set, dst, fn, word, r.xv b⟩] } })
        else match e.rsvServe fn word (r.xv b) with
          | (z, f) => ([v.xres dst z false 1], f) }

/-- RSV_QUERY (R130, R278). -/
def execRsvQuery (i : Iss) (d a b : Nat) (s : State) : Host.Outcome State Fault Refusal :=
  .next { s with dev := s.dev.rsvOp i 0 d a b }

/-- RSV_HOLD (R131, R278). -/
def execRsvHold (i : Iss) (d a b : Nat) (s : State) : Host.Outcome State Fault Refusal :=
  .next { s with dev := s.dev.rsvOp i 1 d a b }

/-- RSV_COMMIT (R133, R278). -/
def execRsvCommit (i : Iss) (d a b : Nat) (s : State) : Host.Outcome State Fault Refusal :=
  .next { s with dev := s.dev.rsvOp i 2 d a b }

/-- RSV_ABANDON (R134, R278). -/
def execRsvAbandon (i : Iss) (d a b : Nat) (s : State) : Host.Outcome State Fault Refusal :=
  .next { s with dev := s.dev.rsvOp i 3 d a b }

/-- The answer of an operation that waited goes to its context, if the result is still awaited. -/
def RSet.answered (r : RSet) (dst val now : Nat) : List Pend → List Pend
  | [] => []
  | p :: t =>
    if p.due = none ∧ p.kind = 0 ∧ p.reg = dst then { p with val := val, due := some now } :: t
    else p :: RSet.answered r dst val now t

/-- Serves the operations that waited for the fold, in order of arrival. -/
def Device.serveWaits (d : Device) : Device :=
  let e := { d with rsv := { d.rsv with waits := [] } }
  e.forEach d.rsv.waits fun w x =>
    match x.rsvServe w.fn w.word w.xb with
    | (z, f) =>
      let v := f.anv w.anvil
      let r := v.rset w.set
      f.setAnv w.anvil (v.setR w.set { r with pend := r.answered w.dst z v.now r.pend })

/-- FOLD_COMPLETE (R145). -/
def execFoldComplete (s : State) : Host.Outcome State Fault Refusal :=
  .next { s with dev := if s.dev.folding then s.dev.foldEnd.serveWaits else s.dev }

/-- GWR (R279): posted to the anvil's buffer of four writes; one that finds it full stalls the register set. -/
def execGwr (i : Iss) (src a imm : Nat) (s : State) : Host.Outcome State Fault Refusal :=
  let f : Anvil → RSet → Slot := fun v r =>
    let val := r.xv src
    let m := r.xv a
    let barred := 7 ≤ imm || 4096 ≤ m || 2 ^ (gwrField imm).2 ≤ val
    { uses := [(0, src), (0, a)]
      exc := if (r.xr src).bad || (r.xr a).bad then some 2 else if barred then some 3 else none
      wait := 4 ≤ v.gwr.length
      act := fun e => ([], e.setAnv i.anvil { e.anv i.anvil with gwr := (e.anv i.anvil).gwr ++ [⟨m, imm, val⟩] }) }
  .next { s with dev := s.dev.issueS i 3 f }

/-- A TASK operation of a context (R260, R280, R283); it waits while the bellows is disabled (R344). -/
def Device.taskOp (d : Device) (i : Iss) (ill : Bool) (dsts : List (Nat × Nat)) (a b : Nat)
    (go : RSet → Device → List Pend × Device) : Device :=
  d.issueS i 3 fun _ r =>
    { ill := ill || i.set = 0, uses := [(0, a), (0, b)], dsts := dsts, wait := !d.dspOn
      exc := if (r.xr a).bad || (r.xr b).bad then some 2 else none
      act := go r }

/-- ANVIL_TASK_POST (R280, R330, R332). -/
def execAnvilTaskPost (i : Iss) (d a b : Nat) (s : State) : Host.Outcome State Fault Refusal :=
  let go : RSet → Device → List Pend × Device := fun r e =>
    let x := r.xv b
    let home := if bitOf x 6 then 64 else bitsOf x 0 6
    match e.postTask (r.xv a) home (i.anvil / 8) 0 with
    | (st, n, f) =>
      ([(f.anv i.anvil).xres d (st + (if st = stDone then n * 256 else 0)) false 1],
       f.doIf (st = stNoCapacity) fun y => y.count DSP_POST_FAIL)
  .next { s with dev := s.dev.taskOp i false [(0, d)] a b go }

/-- ANVIL_TASK_CANCEL (R280, R341). -/
def execAnvilTaskCancel (i : Iss) (d a b : Nat) (s : State) : Host.Outcome State Fault Refusal :=
  let go : RSet → Device → List Pend × Device := fun r e =>
    match e.cancelTask (r.xv a % 4096) with
    | (st, f) => ([(f.anv i.anvil).xres d st false 1], f)
  .next { s with dev := s.dev.taskOp i false [(0, d)] a b go }

/-- TASK_END (R280, R340): the commit point of the running task. -/
def execTaskEnd (i : Iss) (d a b : Nat) (s : State) : Host.Outcome State Fault Refusal :=
  let go : RSet → Device → List Pend × Device := fun r e =>
    match r.task with
    | some n => ([], if bitOf (e.desc n).flags 2 then e else (e.endTask n stDone (r.xv a % 2 ^ 32)).bpTest)
    | none => ([], e)
  .next { s with dev := s.dev.taskOp i (d ≠ 0 || b ≠ 0) [] a b go }

end Sys2Proof.Machine
end

