-- ==== Sys2Proof/Machine/Radio.lean ====
section
/-!
DEFINITION. Machine/Radio.lean: the radio MAC (chapter 16): frames received, acknowledgements, polls and the indirect
store, direct frames, association, relays, lost nodes and the transceiver interface.
-/
namespace Sys2Proof.Machine

/-! ## Nodes of a port -/

/-- The node number of a short address on a port. -/
def nodeNum (p short : Nat) : Nat := p * 65536 + short

/-- Whether a node is sleepy (R108, byte 6). -/
def Device.sleepy (d : Device) (n : Nat) : Bool := bitOf (d.nd n 6) 0

/-- Whether a node's record is secured. -/
def Device.securedRec (d : Device) (n : Nat) : Bool := d.nkind n ≠ 0 && bitOf (d.nd n 6) 2

/-- The relay above a node, if the device is not its parent. -/
def Device.relayOf (d : Device) (n : Nat) : Option Nat :=
  let par := d.nd n 16
  if par % 65536 = 0 then none else some par

/-- Direct children of a PAN (R361). -/
def Device.children (d : Device) (p : Nat) : Nat :=
  (d.flt.nodes.filter fun e => panOf e.1 = p ∧ recGet e.2 4 ≠ 0 ∧ recGet e.2 16 % 65536 = 0).length

/-- MAC_IND_USED (R366). -/
def Device.macUsed (d : Device) (p : Nat) : Nat := (d.port p).store.length + 2 ^ 16 * (d.port p).peak

/-- MAC_CHILDREN (R366). -/
def Device.macChildren (d : Device) (p : Nat) : Nat := d.children p + 2 ^ 16 * d.nodesOf p 2

/-- MAC_PEND[k] (R356): bit j is the pending bit of short address 32k + j. -/
def Device.macPend (d : Device) (p k : Nat) : Nat :=
  (List.range 32).foldl
    (fun a j => if (d.port p).store.any fun h => h.short = 32 * k + j then a + 2 ^ j else a) 0

/-- MAC_STAT (R366). -/
def Device.macStat (d : Device) (p : Nat) : Nat :=
  let (a, b) := d.reservation p d.tb0
  let tx := match (d.port p).air with | some x => decide (d.tb0 < x.fin) | none => false
  b2n (d.bit (MAC_CTRL p) 0) + 2 * b2n (d.port p).locked + 4 * b2n tx +
    8 * b2n (decide (a ≤ d.tb0) && decide (d.tb0 < b))

/-- The pending-data flag and the pending-frame count of every node record follow the bitmap at a heat boundary
(R356). -/
def Device.pendBoundary (d : Device) : Device :=
  { d with flt := { d.flt with nodes := d.flt.nodes.map fun e =>
    let c := ((d.port (panOf e.1)).store.filter fun h => h.short = e.1 % 65536).length
    (e.1, recSets e.2 [(6, setBits (recGet e.2 6) 1 1 (b2n (c ≠ 0))), (46, c)]) } }

/-! ## Frames received -/

/-- Whether a port receives a frame: it runs, it is in lock and it does not transmit (R345, R351). A unit without the
claim takes no MAC frame (log entry 26). -/
def Device.hears (d : Device) (p sfd : Nat) : Bool :=
  let free := match (d.port p).air with | some x => decide (x.fin ≤ sfd) | none => true
  p < 4 && d.bit (MAC_CTRL p) 0 && (d.port p).locked && !(d.port p).fault && d.pair.claim && free

/-- The addressing of R348. -/
def Device.addrOk (d : Device) (p : Nat) (m : Mpdu) (assoc : Bool) : Bool :=
  let pan := d.fld (MAC_PAN p) 0 16
  let here := m.dstPan = pan || (assoc && m.dstPan = 0xFFFF)
  if m.dst = 0 then m.srcPan = pan
  else if m.dst = 1 then here && (m.dstAddr = 0 || m.dstAddr = 0xFFFF)
  else here && m.dstAddr = d.rdN (MAC_EUI_LO p) + 2 ^ 32 * d.rdN (MAC_EUI_HI p)

/-- Discards a received frame (R347, R348). -/
def Device.macDrop (d : Device) (p : Nat) : Device := d.count (MAC_RX_DROP p)

/-- Whether a secured frame from a node passes R349. -/
def Device.secOk (d : Device) (n : Nat) (m : Mpdu) : Bool :=
  d.securedRec n && m.slot = d.nd n 45 && (d.slot m.slot).st = 1 && d.keyed && d.nd n 32 < m.ctr && m.mic

/-- A frame's security and addressing (R348, R349): whether it is accepted, and the device with the discarded frame
counted. A frame without security is accepted only as an association request from an extended address. -/
def Device.mpduTake (d : Device) (p : Nat) (m : Mpdu) (assoc : Bool) : Bool × Device :=
  let n := nodeNum p m.src
  if ¬ m.feature ∨ ¬ d.addrOk p m assoc then (false, d.macDrop p)
  else if m.secured then
    if m.src < 0xFFFE ∧ d.secOk n m then (true, (d.setNds n [(32, m.ctr)]).count (MAC_RX_OK p))
    else (false, (d.macDrop p).raise (MAC_INT_STAT p) 0)
  else if assoc ∧ m.src = 0xFFFF then (true, d.count (MAC_RX_OK p))
  else (false, d.macDrop p)

/-- A node was heard (R108): the last contact, RSSI and LQI; a joining or resyncing node is active. -/
def Device.nodeHeard (d : Device) (n rssi lqi : Nat) : Device :=
  let st := d.nd n 5
  d.setNds n [(24, d.heat), (43, rssi % 256), (44, lqi % 256), (42, 0), (5, if st = 3 then 3 else 1)]

/-- Owes an acknowledgement to an accepted frame (R350). -/
def Device.oweAck (d : Device) (f : RxFrame) (poll pending : Bool) : Device :=
  if f.mpdu.ackReq then
    let m := d.port f.port
    d.setPort f.port { m with
      acks := m.acks ++ [⟨f.mpdu.src, f.mpdu.eui, f.fin, poll, pending, false, f.mpdu.secured && f.mpdu.v2⟩] }
  else d

/-- A frame arrives on a port: whether it is accepted, and the device at the frame's end (R348, R349). -/
def Device.rx (d : Device) (f : RxFrame) (assoc : Bool) : Bool × Device :=
  let d := d.advanceTo f.fin
  if ¬ d.hears f.port f.sfd then (false, d)
  else if ¬ f.fcs then (false, d.macDrop f.port)
  else
    match d.mpduTake f.port f.mpdu assoc with
    | (true, e) => (true, if f.mpdu.src < 0xFFFE then e.nodeHeard (nodeNum f.port f.mpdu.src) f.rssi f.lqi else e)
    | (false, e) => (false, e)

/-! ## Frames sent -/

/-- Whether a frame to a node can be secured as its record says (R349). -/
def Device.canSecure (d : Device) (n : Nat) : Bool :=
  !d.securedRec n || ((d.slot (d.nd n 45)).st = 1 && d.keyed && d.nd n 36 < 0xFFFFFFFF)

/-- The frame counter out rises before a secured frame to a node (R349). -/
def Device.secureOut (d : Device) (n : Nat) : Device :=
  if d.securedRec n then d.setNds n [(36, d.nd n 36 + 1)] else d

/-- A frame to a node as `out` shows it: the short address, the frame-pending bit, the frame counter of its security
(0 without), then the payload in clear (log entry 6). -/
def Device.frameOut (d : Device) (n : Nat) (pending : Bool) (body : Bytes) : Bytes :=
  leBytes 2 n ++ leBytes 1 (b2n pending) ++ leBytes 4 (if d.securedRec n then d.nd n 36 else 0) ++ body

/-- ACKNOWLEDGEMENT (R350, R352): the oldest acknowledgement owed goes out 1 ms after its frame's end, or is skipped. -/
def Device.ackSend (d : Device) (p air : Nat) : Device :=
  match (d.port p).acks with
  | [] => d
  | a :: rest =>
    let e := d.advanceTo (a.fin + 1000000)
    let e := e.setPort p { e.port p with acks := rest }
    let (lo, hi) := e.reservation p (a.fin + 1000000)
    let start := a.fin + 1000000
    let next := if start < lo then lo else lo + 100000000
    let clash := !((start < lo || hi ≤ start) && start + air ≤ next)
    if ¬ e.portUp p then e
    else if clash then (e.count (MAC_ACK_SKIP p)).raise (MAC_INT_STAT p) 3
    else if ¬ e.mayAir p start air then e
    else
      let n := nodeNum p a.short
      let e := if a.secured ∧ e.canSecure n then e.secureOut n else e
      let body := leBytes 2 a.short ++ leBytes 1 (b2n a.pending) ++
        leBytes 4 (if a.secured then e.nd n 36 else 0) ++ (if a.short = 0xFFFF then leBytes 8 a.eui else [])
      let e := e.radioSend p 3 start air 0x02 body
      if a.poll ∧ a.pending then e.setPort p { e.port p with polled := some ⟨a.short, start + air, a.gone⟩ } else e

/-- The frames a port holds for a short address, in the order of sending (R356). A relay's copies are not answered by
the device. -/
def Device.heldFor (d : Device) (p short : Nat) : List Held :=
  (d.port p).store.filter fun h => h.short = short ∧ h.relay = none

/-- DATA_REQUEST (R350, R357): the poll is accepted, and its acknowledgement carries the frame-pending bit. -/
def Device.poll (d : Device) (f : RxFrame) (ackAir heldAir : Nat) : Device :=
  match d.rx f false with
  | (false, e) => e
  | (true, e) =>
    let p := f.port
    let (lo, _) := e.reservation p f.fin
    let next := if f.fin < lo then lo else lo + 100000000
    let fits := f.fin + 1000000 + ackAir + heldAir ≤ next
    let m := e.port p
    let again := { m with store := m.store.map fun h => if h.short = f.mpdu.src then { h with onAir := false } else h }
    (e.setPort p again).oweAck f true (e.heldFor p f.mpdu.src ≠ [] && fits)

/-- Marks the first frame that satisfies a test. -/
def markFirst (l : List Held) (t : Held → Bool) (g : Held → Held) : List Held :=
  match l with
  | [] => []
  | h :: r => if t h then g h :: r else h :: markFirst r t g

/-- Removes the first frame that satisfies a test. -/
def dropFirst (l : List Held) (t : Held → Bool) : List Held :=
  match l with
  | [] => []
  | h :: r => if t h then r else h :: dropFirst r t

/-- INDIRECT_DATA (R357, R358): the first held frame, within 5 ms of the acknowledgement's end; an empty data frame
when that frame has expired meanwhile. -/
def Device.indirect (d : Device) (p start air : Nat) : Device :=
  let d := d.advanceTo start
  match (d.port p).polled with
  | none => d
  | some q =>
    let n := nodeNum p q.short
    if start < q.ended ∨ q.ended + 5000000 < start then d.setPort p { d.port p with polled := none }
    else if ¬ d.mayAir p start air ∨ ¬ d.canSecure n then d
    else
      let e := d.secureOut n
      let e := e.setPort p { e.port p with polled := none }
      match (if q.gone then none else (e.heldFor p q.short).head?) with
      | none => e.radioSend p 4 start air 0x01 (e.frameOut n false [])
      | some h =>
        let more := 1 < (e.heldFor p q.short).length
        let mine (x : Held) : Bool := x.short = q.short && x.relay.isNone
        let e := e.setPort p { e.port p with
          store := markFirst (e.port p).store mine fun x => { x with onAir := true } }
        e.radioSend p 4 start air 0x01 (e.frameOut n more h.data)

/-- FRAME_EXPIRY (R358): a held frame whose persistence has elapsed, and which is not on air, is reported EXPIRED. -/
def Device.expire (d : Device) (p k : Nat) : Device :=
  match (d.port p).store[k]? with
  | none => d
  | some h =>
    let e := d.advanceUp h.expiry
    let m := e.port p
    let flying := h.onAir && (match m.air with | some x => decide (e.tb0 < x.fin) | none => false)
    if flying then e
    else
      let first := (m.store.take k).all fun x => x.short ≠ h.short
      let m := { m with
        store := m.store.take k ++ m.store.drop (k + 1)
        acks := m.acks.map fun a => if first ∧ a.short = h.short then { a with gone := a.gone || a.pending } else a
        polled := match m.polled with
          | some q => if first ∧ q.short = h.short then some { q with gone := true } else some q
          | none => none }
      let e := ((e.setPort p m).count (MAC_EXPIRED p)).raise (MAC_INT_STAT p) 2
      e.nodeTxEvent h.part (nodeNum p h.short) h.tag 1

/-- Puts a direct frame in the queue of a port (R351, priority 6). -/
def Device.addDirect (d : Device) (p : Nat) (x : Direct) : Device :=
  d.setPort p { d.port p with direct := (d.port p).direct ++ [x] }

/-- A direct data frame. -/
def directData (short tag : Nat) (part : Option Nat) (data : Bytes) : Direct :=
  { short := short, eui := 0, cmd := false, tag := tag, part := part, data := data, backoffs := 0, retries := 0,
    sent := none }

/-- Drops the direct frame at the head of a port's queue; one that came from NODE_SEND is reported NO_ACK (R353). -/
def Device.directFails (d : Device) (p : Nat) (x : Direct) : Device :=
  let e := d.setPort p { d.port p with direct := (d.port p).direct.drop 1 }
  match x.part with
  | some part => e.nodeTxEvent part (nodeNum p x.short) x.tag 2
  | none => e

/-- CSMA_CA (R353, R354): the direct frame at the head of the queue attempts channel access. A frame sent and not
acknowledged by then counts one retry. -/
def Device.csma (d : Device) (p start air : Nat) (clear : Bool) : Device :=
  let d := d.advanceTo start
  match (d.port p).direct with
  | [] => d
  | x :: rest =>
    let late := match x.sent with | some t => decide (t + 1050000 ≤ start) | none => false
    let x := if late then { x with sent := none, retries := x.retries + 1, backoffs := 0 } else x
    if x.sent.isSome then d
    else if d.fld (MAC_CSMA p) 11 3 < x.retries then d.directFails p x
    else
      let d := d.setPort p { d.port p with direct := x :: rest }
      let n := nodeNum p x.short
      if ¬ clear then
        if d.fld (MAC_CSMA p) 8 3 < x.backoffs + 1 then d.directFails p x
        else d.setPort p { d.port p with direct := { x with backoffs := x.backoffs + 1 } :: rest }
      else if ¬ d.mayAir p start air ∨ (x.short < 0xFFFE ∧ ¬ d.canSecure n) then d
      else
        let d := if x.short < 0xFFFE then d.secureOut n else d
        let body := if x.short < 0xFFFE then d.frameOut n false x.data
          else leBytes 2 0xFFFF ++ leBytes 1 0 ++ leBytes 4 0 ++ leBytes 8 x.eui ++ x.data
        let d := d.setPort p { d.port p with direct := { x with sent := some (start + air) } :: rest }
        d.radioSend p 6 start air (if x.cmd then 0x03 else 0x01) body

/-- ACKNOWLEDGEMENT_RECEIVED (R357, R359): the held frame or the direct frame that waits for it is delivered. -/
def Device.acked (d : Device) (p short fin : Nat) : Device :=
  let d := d.advanceTo fin
  let m := d.port p
  let mine (x : Held) : Bool := x.short = short && x.onAir
  if ¬ d.bit (MAC_CTRL p) 0 ∨ ¬ m.locked ∨ m.fault then d
  else
    match m.store.find? mine with
    | some h => (d.setPort p { m with store := dropFirst m.store mine }).nodeTxEvent h.part (nodeNum p short) h.tag 0
    | none =>
      match m.direct with
      | [] => d
      | x :: rest =>
        if x.short = short ∧ x.sent.isSome then
          let e := d.setPort p { m with direct := rest }
          match x.part with
          | some part => e.nodeTxEvent part (nodeNum p short) x.tag 0
          | none => e
        else d

/-! ## NODE_SEND -/

/-- A relay envelope (R362). -/
def relayEnvelope (ty status child seq per : Nat) (mpdu : Bytes) : Bytes :=
  leBytes 1 ty ++ leBytes 1 status ++ leBytes 2 child ++ leBytes 2 seq ++ leBytes 2 per ++ mpdu

/-- Forwards a stored frame to the relay above its node in a 0xA4 (R362): the sequence given, and the device. -/
def Device.forward (d : Device) (p relay short left : Nat) (body : Bytes) : Nat × Device :=
  let seq := ((d.port p).relaySeq + 1) % 65536
  let n := nodeNum p short
  let e := d.secureOut n
  let e := e.setPort p { e.port p with relaySeq := seq }
  (seq, e.addDirect p (directData (relay % 65536) 0 none (relayEnvelope 0xA4 0 short seq left (e.frameOut n false body))))

/-- Holds a frame in the indirect store (R356). -/
def Device.hold (d : Device) (p : Nat) (h : Held) : Device :=
  let m := d.port p
  let st := m.store ++ [h]
  d.setPort p { m with store := st, peak := Nat.max m.peak st.length }

/-- NODE_SEND when it is taken (R355): the rights, the body, the record, then the frame held or sent. -/
def Device.nodeSend (c : Cmd) (d : Device) : Device :=
  let b := c.body
  let n := uAt b 0 4
  let per := uAt b 4 2
  let len := uAt b 6 2
  let tag := uAt b 8 4
  let p := panOf n
  let s := n % 65536
  let data := sliceB b 12 len
  if b.length < 12 ∨ len = 0 ∨ 200 < len ∨ b.length ≠ 12 + len then d.answer c stRejected []
  else if ¬ d.right c.part rPlan then d.answer c stDenied []
  else if 0x40000 ≤ n ∨ nodeReserved n then d.answer c stRejected []
  else if d.nkind n = 0 ∨ d.nd n 5 ≠ 1 then d.answer c stNotFound []
  else if bitsOf (d.nd n 7) 0 2 ≠ c.part then d.answer c stDenied []
  else if d.sleepy n ∧ d.nkind n ≠ 2 then
    if per = 0 ∨ 3600 < per then d.answer c stRejected []
    else if 16384 ≤ (d.port p).store.length then (d.raise (MAC_INT_STAT p) 1).answer c stNoCapacity []
    else if 16 ≤ ((d.port p).store.filter fun h => h.short = s).length then d.answer c stNoCapacity []
    else
      let (seq, e) := match d.relayOf n with
        | some r => let (q, e) := d.forward p r s per data; (some q, e)
        | none => (none, d)
      (e.hold p ⟨s, e.upNs + per * 1000000000, tag, c.part, data, seq, false⟩).answer c stDone []
  else
    match d.relayOf n with
    | some r =>
      let e := d.secureOut n
      (e.addDirect p (directData (r % 65536) tag (some c.part)
        (relayEnvelope 0xA4 0 s 0 0 (e.frameOut n false data)))).answer c stDone []
    | none => (d.addDirect p (directData s tag (some c.part) data)).answer c stDone []

/-! ## Data frames -/

/-- A data frame of a sensor or a relay goes to its owner's node queue behind the header of R360. -/
def Device.nodeData (d : Device) (n sfdNs rssi lqi : Nat) (body : Bytes) : Device :=
  d.hwPush (16 * bitsOf (d.nd n 7) 0 2 + 4)
    (leBytes 1 0xA2 ++ leBytes 1 body.length ++ zeros 2 ++ leBytes 4 n ++ leBytes 4 sfdNs ++ leBytes 1 rssi ++
      leBytes 1 lqi ++ zeros 2 ++ body)

/-- A class 0 datagram goes to its consumer by payload byte 0; any other value is counted in NET_RX_DROP (R373). `rf`
says that a radio data frame carried it (R360). -/
def Device.machIngress (d : Device) (rf : Bool) (k : MachPkt) : Device :=
  let ty := uAt k.body 0 1
  if ty = 0x21 then d.hello rf k
  else if ty = 0x31 then d.obsFrame rf k
  else if ty = 0x33 then d.posReport rf k
  else if ty = 0x52 then d.taskReport rf k
  else
    match d.acceptMach rf k with
    | (none, e) => e
    | (some _, e) => e.count NET_RX_DROP

/-- The frame of a node, accepted: a datagram of a machine, or data for the owner. -/
def Device.nodeFrame (d : Device) (p n : Nat) (f : RxFrame) (body : Bytes) (rssi lqi seq : Nat) (tagOk : Bool) :
    Device :=
  if d.nkind n = 3 then d.machIngress true ⟨n, seq, tagOk, f.sfd, body⟩
  else
    let ns := ofSigned 32 ((d.baseNs (2 + p) : Int) + f.sfd - d.tb0)
    d.nodeData n ns rssi lqi body

/-- A 0xA5 report ends the device's copy of a forwarded frame (R362, R359). -/
def Device.relayReport (d : Device) (p : Nat) (b : Bytes) : Device :=
  let child := uAt b 2 2
  let seq := uAt b 4 2
  let st := uAt b 1 1
  let m := d.port p
  let mine (h : Held) : Bool := h.short = child && h.relay = some seq
  if b.length ≠ 8 ∨ 2 < st then d.macDrop p
  else
    match m.store.find? mine with
    | none => d
    | some h =>
      let e := d.setPort p { m with store := dropFirst m.store mine }
      let e := if st = 1 then (e.count (MAC_EXPIRED p)).raise (MAC_INT_STAT p) 2 else e
      e.nodeTxEvent h.part (nodeNum p child) h.tag st

/-- A 0xA6 envelope carries a child's complete frame (R362): it is accepted as a frame of its own. -/
def Device.relayUp (d : Device) (f : RxFrame) (seq : Nat) (tagOk : Bool) : Device :=
  let b := f.mpdu.body
  match f.child with
  | none => d.macDrop f.port
  | some m =>
    match d.mpduTake f.port m false with
    | (false, e) => e
    | (true, e) =>
      let n := nodeNum f.port m.src
      (e.nodeHeard n (uAt b 6 1) (uAt b 7 1)).nodeFrame f.port n f m.body (uAt b 6 1) (uAt b 7 1) seq tagOk

/-- DATA_FRAME (R347 to R349, R360, R362). -/
def Device.dataFrame (d : Device) (f : RxFrame) (seq : Nat) (tagOk : Bool) : Device :=
  match d.rx f false with
  | (false, e) => e
  | (true, e) =>
    let e := e.oweAck f false false
    let n := nodeNum f.port f.mpdu.src
    let ty := uAt f.mpdu.body 0 1
    if e.nkind n = 2 ∧ ty = 0xA5 then e.relayReport f.port f.mpdu.body
    else if e.nkind n = 2 ∧ ty = 0xA6 then e.relayUp f seq tagOk
    else e.nodeFrame f.port n f f.mpdu.body f.rssi f.lqi seq tagOk

/-! ## Association -/

/-- Whether a record 0x72 is valid (R361). -/
def rec72Ok (b : Bytes) : Bool :=
  let k := uAt b 1 1
  let relay := k = 2
  b.length = 10 && uAt b 0 1 = 0x72 && 1 ≤ k && k ≤ 3 && uAt b 9 1 = 0 &&
    (!relay || (1 ≤ uAt b 6 1 && uAt b 6 1 ≤ 100 && uAt b 7 1 ≤ 99 && 4 ≤ uAt b 8 1 && uAt b 8 1 ≤ 96))

/-- The record 0x73 of a response (R361): the parent is the device, or a relay with its declared window. -/
def Device.rec73 (d : Device) (p : Nat) (parent : Option Nat) : Bytes :=
  let (eps, w) := match parent with
    | none => (if d.fld GNS_STAT 0 2 = 1 then 10 else 100, (1, 0, 100))
    | some r => (d.nd r 40, Tab.getD (d.port p).relays (r % 65536) (1, 0, 100))
  leBytes 1 0x73 ++ zeros 1 ++ leBytes 2 (d.fld (MAC_GUARD p) 0 16) ++ leBytes 2 eps ++ leBytes 1 w.1 ++
    leBytes 1 w.2.1 ++ leBytes 1 w.2.2 ++ zeros 1

/-- Answers an association request: 0 success, 1 PAN at capacity, 2 access denied (R116, R361). The response is an
association response command (0x02) with the short address, the status and the record 0x73. -/
def Device.assocAnswer (d : Device) (p eui short status : Nat) (parent : Option Nat) : Device :=
  let rsp := leBytes 1 0x02 ++ leBytes 2 short ++ leBytes 1 status ++ d.rec73 p parent
  match parent with
  | none => d.addDirect p { directData 0xFFFF 0 none rsp with eui := eui, cmd := true }
  | some r => d.addDirect p (directData (r % 65536) 0 none (relayEnvelope 0xA4 0 0xFFFF 0 0 rsp))

/-- Whether a PAN's policy lets an EUI-64 join (R116). -/
def Device.policyLets (d : Device) (p eui : Nat) : Bool :=
  d.policy p = 0 || (d.policy p = 1 && d.flt.allow.contains (p, eui))

/-- The node number and the kind of an association: the record that the EUI-64 already has on the PAN, or a new
address (R102, R115, R364). -/
def Device.assocNode (d : Device) (p eui : Nat) : Option Nat := (d.nodeOfEui p eui).orElse fun _ => d.allocNode p

/-- Frames still held for a node go to its new parent (R364). -/
def Device.reparent (d : Device) (p short : Nat) (parent : Option Nat) : Device :=
  let l := (d.port p).store.filter fun h => h.short = short
  let e := d.setPort p { d.port p with store := (d.port p).store.filter fun h => h.short ≠ short }
  e.forEach l fun h x =>
    match parent with
    | none => x.hold p { h with relay := none, onAir := false }
    | some r =>
      let left := (h.expiry - x.upNs) / 1000000000
      let (q, y) := x.forward p r short left h.data
      y.hold p { h with relay := some q, onAir := false }

/-- Makes or renews the record of a node that joins (R108, R361). -/
def Device.joinRecord (d : Device) (p n kind eui : Nat) (parent : Option Nat) (sleepy : Bool) (slot : Option Nat)
    (own mach : Nat) (b : Bytes) : Device :=
  let old := d.nkind n ≠ 0
  let moved := old ∧ d.nd n 16 ≠ parent.getD (p * 65536)
  let flags := b2n sleepy + 2 * b2n (bitOf (d.nd n 6) 1) + 4 * b2n slot.isSome
  let e := d.setNds n [(0, n), (4, kind), (5, 0), (6, flags), (7, own), (8, eui), (16, parent.getD (p * 65536)),
    (20, mach), (22, uAt b 2 2), (24, d.heat), (28, d.heat), (40, uAt b 4 2), (42, 0), (45, slot.getD 0)]
  let e := if kind = 2 then
      e.setPort p { e.port p with relays := Tab.put (e.port p).relays (n % 65536) (uAt b 6 1, uAt b 7 1, uAt b 8 1) }
    else e
  if moved then e.reparent p (n % 65536) parent else e

/-- An association request that was accepted, from the device's own reach or through a relay (R113, R115, R116,
R361). -/
def Device.associate (d : Device) (p eui : Nat) (parent : Option Nat) (sleepy : Bool) (slot : Option Nat) (b : Bytes) :
    Device :=
  let kind := uAt b 1 1
  let mach := d.machOf eui
  let known := (d.nodeOfEui p eui).isSome
  let stays := match d.nodeOfEui p eui with | some n => (d.relayOf n).isNone | none => false
  let full := (parent.isNone && !stays && 8192 ≤ d.children p && !(mach.isSome && kind = 3)) ||
    (kind = 2 && !known && 1024 ≤ d.nodesOf p 2)
  let denied := match mach with
    | some m => kind ≠ 3 || d.mstate m = 4
    | none => kind = 3 || (!known && !d.policyLets p eui) || (kind = 2 && (sleepy || parent.isSome))
  if denied then d.assocAnswer p eui 0xFFFF 2 parent
  else if full then (d.raise (MAC_INT_STAT p) 4).assocAnswer p eui 0xFFFF 1 parent
  else
    match d.assocNode p eui with
    | none => d.assocAnswer p eui 0xFFFF 1 parent
    | some n =>
      match mach with
      | some m =>
        let e := d.joinRecord p n 3 eui parent sleepy (some (d.fe m 22)) (d.fe m 3) m b
        let e := { e with flt := { e.flt with joins := e.flt.joins ++ [(⟨m, p, false⟩ : Join)] } }
        e.assocAnswer p eui (n % 65536) 0 parent
      | none =>
        (d.joinRecord p n kind eui parent sleepy slot (d.sensorOwner p) 0xFFFF b).assocAnswer p eui (n % 65536) 0 parent

/-- ASSOCIATION_REQUEST (R116, R348, R361): from the port itself, or out of a relay's 0xA6. -/
def Device.assocRequest (d : Device) (f : RxFrame) (sleepy : Bool) (slot : Option Nat) : Device :=
  match f.child with
  | none =>
    match d.rx f true with
    | (false, e) => e
    | (true, e) =>
      if ¬ rec72Ok f.mpdu.body then e
      else (e.oweAck f false false).associate f.port f.mpdu.eui none sleepy slot f.mpdu.body
  | some m =>
    match d.rx f false with
    | (false, e) => e
    | (true, e) =>
      let r := nodeNum f.port f.mpdu.src
      let e := e.oweAck f false false
      if e.nkind r ≠ 2 ∨ uAt f.mpdu.body 0 1 ≠ 0xA6 then e
      else
        match e.mpduTake f.port m true with
        | (false, e) => e
        | (true, e) => if rec72Ok m.body then e.associate f.port m.eui (some r) sleepy slot m.body else e

/-- DISASSOCIATION (R116): the node goes to leaving and is freed at the next heat boundary. A machine's record follows
its fleet entry alone. -/
def Device.disassociate (d : Device) (f : RxFrame) : Device :=
  match d.rx f false with
  | (false, e) => e
  | (true, e) =>
    let e := e.oweAck f false false
    let n := nodeNum f.port f.mpdu.src
    if 1 ≤ e.nkind n ∧ e.nkind n ≤ 2 then e.nodeLeaves n else e

/-! ## Lost nodes and the transceiver -/

/-- NODE_RESYNC (R364): a record with no frame for two wake periods goes to resyncing, and each further wake period
without a frame counts one failure. -/
def Device.resync (d : Device) (n : Nat) : Device :=
  let gap := diff32 d.heat (d.nd n 24)
  let w : Int := ((d.nd n 22 * 10 : Nat) : Int)
  let st := d.nd n 5
  let fails : Int := ((d.nd n 42 : Nat) : Int)
  if d.nkind n = 0 ∨ nodeReserved n ∨ w = 0 ∨ ¬ d.pair.claim then d
  else if st = 1 ∧ 2 * w ≤ gap then d.setNds n [(5, 2)]
  else if st = 2 ∧ (3 + fails) * w ≤ gap then d.setNds n [(42, holdAt 255 (d.nd n 42 + 1))]
  else d

/-- A transceiver interface fault (R345, R346): 0 a marker error, 1 a PLL unlock. -/
def Device.trxFault (d : Device) (p kind : Nat) : Device :=
  (d.raise (MAC_INT_STAT p) 5).slag (0x10 + p) 0x0101 p 0 (leBytes 1 kind)

/-- A write of MAC_CTRL (R346, R358, R366): ENABLE is refused while the region disables the radio; the first enable
releases the transceivers' reset; LOCK is set and stays; IND_FLUSH discards every held frame. -/
def Device.macCtrl (d : Device) (p value : Nat) : Device :=
  let code := d.fld (MAC_REGION p) 0 4
  let may := code = 1 || code = 2
  let en := bitOf value 0 && may
  let e := (d.wbit (MAC_CTRL p) 0 en).raiseIf (bitOf value 1) (MAC_CTRL p) 1
  let e := if en then e.setPin pinRfRst 1
    else e.setPort p { e.port p with air := none, acks := [], polled := none }
  if bitOf value 2 then e.flushHeld p fun _ => true else e

/-! ## Commands -/

/-- MAC_ENABLE (R346). -/
def execMacEnable (p value : Nat) (s : State) : Host.Outcome State Fault Refusal :=
  .next { s with dev := if p < 4 then s.dev.macCtrl p (setBits value 0 1 1) else s.dev }

/-- IND_FLUSH (R358). -/
def execIndFlush (p value : Nat) (s : State) : Host.Outcome State Fault Refusal :=
  .next { s with dev := if p < 4 then s.dev.macCtrl p (setBits value 2 1 1) else s.dev }

/-- NODE_SEND (R355). -/
def execNodeSend (h : HostPkt) (s : State) : Host.Outcome State Fault Refusal :=
  .next { s with dev := s.dev.hostCmd 0x040A h (ifHolder Device.nodeSend) }

/-- DATA_FRAME (R360). -/
def execDataFrame (f : RxFrame) (seq : Nat) (tagOk : Bool) (s : State) : Host.Outcome State Fault Refusal :=
  .next { s with dev := s.dev.dataFrame f seq tagOk }

/-- ACKNOWLEDGEMENT (R350). -/
def execAcknowledgement (p air : Nat) (s : State) : Host.Outcome State Fault Refusal :=
  .next { s with dev := s.dev.ackSend p air }

/-- DATA_REQUEST (R357). -/
def execDataRequest (f : RxFrame) (ackAir heldAir : Nat) (s : State) : Host.Outcome State Fault Refusal :=
  .next { s with dev := s.dev.poll f ackAir heldAir }

/-- INDIRECT_DATA (R357). -/
def execIndirectData (p start air : Nat) (s : State) : Host.Outcome State Fault Refusal :=
  .next { s with dev := s.dev.indirect p start air }

/-- FRAME_EXPIRY (R358). -/
def execFrameExpiry (p k : Nat) (s : State) : Host.Outcome State Fault Refusal :=
  .next { s with dev := s.dev.expire p k }

/-- CSMA_CA (R353). -/
def execCsmaCa (p start air : Nat) (clear : Bool) (s : State) : Host.Outcome State Fault Refusal :=
  .next { s with dev := s.dev.csma p start air clear }

/-- ASSOCIATION_REQUEST (R116). -/
def execAssociationRequest (f : RxFrame) (sleepy : Bool) (slot : Option Nat) (s : State) :
    Host.Outcome State Fault Refusal :=
  .next { s with dev := s.dev.assocRequest f sleepy slot }

/-- DISASSOCIATION (R116). -/
def execDisassociation (f : RxFrame) (s : State) : Host.Outcome State Fault Refusal :=
  .next { s with dev := s.dev.disassociate f }

/-- RELAY_REPORT (R362). -/
def execRelayReport (f : RxFrame) (s : State) : Host.Outcome State Fault Refusal :=
  let d := s.dev
  let r : Device :=
    match d.rx f false with
    | (false, e) => e
    | (true, e) =>
      let e := e.oweAck f false false
      if e.nkind (nodeNum f.port f.mpdu.src) = 2 ∧ uAt f.mpdu.body 0 1 = 0xA5 then e.relayReport f.port f.mpdu.body
      else e
  .next { s with dev := r }

/-- NODE_RESYNC (R364). -/
def execNodeResync (n : Nat) (s : State) : Host.Outcome State Fault Refusal :=
  .next { s with dev := s.dev.resync n }

/-- MARKER_ERROR (R345): a marker error in lock stops the port until the markers match again. -/
def execMarkerError (p : Nat) (s : State) : Host.Outcome State Fault Refusal :=
  let d := s.dev
  let r : Device :=
    if (d.port p).locked then (d.setPort p { d.port p with locked := false, fault := true, air := none }).trxFault p 0
    else d
  .next { s with dev := r }

/-- MARKER_LOCK (R345): the markers of 32 consecutive words match. -/
def execMarkerLock (p : Nat) (s : State) : Host.Outcome State Fault Refusal :=
  .next { s with dev := s.dev.setPort p { s.dev.port p with locked := true, fault := false } }

/-- TRANSCEIVER_PLL_UNLOCK (R346). -/
def execTransceiverPllUnlock (p : Nat) (s : State) : Host.Outcome State Fault Refusal :=
  .next { s with dev := s.dev.trxFault p 1 }

/-- ACKNOWLEDGEMENT_RECEIVED (R357). -/
def execAcknowledgementReceived (p short fin : Nat) (s : State) : Host.Outcome State Fault Refusal :=
  .next { s with dev := s.dev.acked p short fin }

end Sys2Proof.Machine
end

