-- ==== Sys2Proof/Machine/Sessions.lean ====
section
/-!
DEFINITION. Machine/Sessions.lean: links, host sessions, PING, the multicast key, class 4 datagrams in, datagrams to a
host, the host SPI port, rejected datagrams and neighbour discovery (chapter 17).
-/
namespace Sys2Proof.Machine

/-! ## Links -/

/-- NET_STAT (R384). -/
def Device.netStat (d : Device) : Nat := b2n (d.linkUp 0) + 2 * b2n (d.linkUp 1) + 4 * b2n (d.linkUp 2)

/-- LINK_CHANGE (R368). -/
def Device.linkChange (d : Device) (k : Nat) (up : Bool) : Device :=
  if 3 ≤ k ∨ d.linkUp k = up then d
  else
    let e := ({ d with hst := { d.hst with link := Tab.put d.hst.link k up } }).raise NET_INT_STAT k
    e.raiseIf (!e.linkUp 0 && !e.linkUp 1) NET_INT_STAT 3

/-! ## Sessions -/

/-- The device's answer to an open (R375): a device nonce under the host key, on the port the open came by. -/
def Device.sendAccept (d : Device) (h : HostPkt) : Device :=
  let (nonce, e) := d.drawBytes 16
  match e.nextSeq (keyHost h.part) with
  | (none, e) => e
  | (some seq, e) =>
    let body := packetBytes 0x8001 h.req stDone nonce
    let data := fdpHeader 2 true body.length 0 seq h.part 0 ++ body
    if h.spi then
      ({ e with hst := { e.hst with spiOut := e.hst.spiOut ++ [data] } }).setPin pinHsIrq 0
    else (e.count NET_TX).send .netHost h.part 2 data

/-- SESSION_OPEN (R375): an open under the host key leaves a session that waits for its first datagram. An open that
fails its tag, or for a partition without a record, is not answered. -/
def Device.sessionOpen (d : Device) (h : HostPkt) : Device :=
  if ¬ d.hostPort h then d.discard false false
  else if ¬ h.tagOk ∨ ¬ d.keyed then (d.discard false true).raise HST_INT_STAT 8
  else if ¬ replayOk (d.replay (keyHost h.part)) h.seq then d.discard true false
  else if h.body.length ≠ 16 then d.discard false false
  else
    let e := (d.count NET_RX_OK).mark (keyHost h.part) h.seq
    if ¬ (e.part h.part).prov then e
    else
      let e := e.setSess h.part { e.sess h.part with waiting := some h.spi }
      let e := { e with hst := { e.hst with replay := Tab.del e.hst.replay (keyWaiting h.part) } }
      (e.sendAccept h).countCmd h.part stDone

/-- SESSION_CLOSE when it is taken (R376). -/
def Device.sessionClose (c : Cmd) (d : Device) : Device := (d.answer c stDone []).closeSess c.part

/-- SESSION_TIMEOUT (R376): 30 s without an accepted datagram. -/
def Device.sessionTimeout (d : Device) (p : Nat) : Device :=
  if (d.sess p).open_ ∧ d.since (d.sess p).lastRx 30000000000 then d.closeSess p else d

/-- HST_PART[p] (R385). -/
def Device.hstPart (d : Device) (p : Nat) : Nat :=
  b2n (d.part p).prov + 2 * b2n (d.sess p).open_ + 4 * b2n ((d.sess p).open_ && (d.sess p).spi) +
    16 * (if (d.part p).prov then (d.part p).rights % 16 else 0)

/-- HST_CMDS[p] (R385). -/
def Device.hstCmds (d : Device) (p : Nat) : Nat :=
  let c := Tab.getD d.hst.done p (0, 0)
  c.1 + 2 ^ 16 * c.2

/-- MCAST_KEY at the heat boundary (R374): it names the key that takes effect there. -/
def Device.mcastKeyCmd (c : Cmd) (d : Device) : Device :=
  let s := uAt c.body 0 1
  let i := uAt c.body 1 1
  if ¬ d.right c.part rPlan then d.answer c stDenied []
  else if uAt c.body 2 2 ≠ 0 ∨ i = 0 ∨ 128 ≤ s then d.answer c stRejected []
  else
    let k := d.slot s
    if k.st = 0 then d.answer c stNotFound []
    else if k.owner ≠ c.part ∨ k.attr ≠ 0 ∨ k.alg ≠ 1 ∨ k.st ≠ 1 then d.answer c stDenied []
    else ({ d with hst := { d.hst with mkeyNext := some ⟨c.part, s, i⟩ } }).answer c stDone []

/-- A named multicast key takes effect at the heat boundary (R374). -/
def Device.mcastKeyTakes (d : Device) : Device :=
  match d.hst.mkeyNext with
  | none => d
  | some k => { d with hst := { d.hst with mkey := some k, mkeyNext := none } }

/-! ## Packets in and out -/

/-- A class 4 datagram (R377): one packet on the kernel queue; one for a queue that is not enabled is dropped and
counted. -/
def Device.kernelData (d : Device) (h : HostPkt) (sub : Nat) : Device :=
  match d.accept h with
  | (false, e) => e
  | (true, e) =>
    let n := 16 * h.part + 8 + sub % 4
    if (e.q n).on ∧ h.body ≠ [] then e.hwPush n h.body else e.count NET_RX_DROP

/-- HS_IRQ_N is low while an egress datagram waits (R383). -/
def Device.spiIrq (d : Device) : Device := d.setPin pinHsIrq (b2n (d.hst.spiOut = []))

/-- The queues whose packets leave to a host (R377). -/
def egressQueue (i : Nat) : Bool := (1 ≤ i && i ≤ 5) || (12 ≤ i && i ≤ 15)

/-- Sends the oldest packet of a device-to-host queue to the session's address and releases it (R377). A packet's length
stands in its header: a solution packet has R93's, node data have R360's, the others R378's. A packet with a poisoned
granule is discarded whole (R326). -/
def Device.egress (d : Device) (p i : Nat) : Device :=
  let x := d.sess p
  let n := 16 * p + i
  let ready := egressQueue i && x.open_ && (d.slot (2 * p)).st = 1 && d.keyed && (x.spi || d.netUp)
  match (d.q n).pkts.find? fun k => (d.q n).pos < k.start + k.len with
  | none => d
  | some k =>
    if ¬ ready then d
    else if k.bad ≠ [] then (d.hwPop n).2
    else
      match d.nextSeq (keySession p) with
      | (none, e) => e
      | (some seq, e) =>
        let e := (e.hwPop n).2
        let len := if i = 3 then 8 + 40 * uAt k.data 2 2 else if i = 4 then 16 + uAt k.data 1 1
          else if i ≤ 5 then 8 + uAt k.data 4 2 else k.data.length
        let body := k.data.take len
        let cls := if i ≤ 5 then 2 else 4
        let data := fdpHeader cls true body.length 0 seq p (if i ≤ 5 then 0 else i - 12) ++ body
        if x.spi then ({ e with hst := { e.hst with spiOut := e.hst.spiOut ++ [data] } }).spiIrq
        else (e.count NET_TX).send .netHost p cls data

/-- SPI_READ_DATAGRAM (R383): the length, 0 when none waits, then the datagram. -/
def Device.spiRead (d : Device) : Device :=
  if ¬ d.bit HST_SPI_CFG 0 then d
  else
    match d.hst.spiOut with
    | [] => d.send .spi 0 0x03 (leBytes 2 0)
    | b :: rest =>
      (({ d with hst := { d.hst with spiOut := rest } }).send .spi 0 0x03 (leBytes 2 b.length ++ b)).spiIrq

/-- Whether a port takes datagrams: a NET port that is enabled with the engine running, or the host SPI port. -/
def Device.portTakes (d : Device) (port : Nat) : Bool :=
  if port < 3 then d.bit NET_CTRL 0 && d.bit NET_CTRL (1 + port) else d.bit HST_SPI_CFG 0

/-- DATAGRAM_REJECTED (R372, R373). -/
def Device.rejected (d : Device) (port why : Nat) (k : Option MachPkt) : Device :=
  if ¬ d.portTakes port then d
  else
    match k with
    | some p => d.machIngress false p
    | none => d.discard (why = 2) (why = 1)

/-- The device's own address (R384). -/
def Device.ownAddr (d : Device) (v6 : Bool) : Nat :=
  if v6 then (List.range 4).foldl (fun a k => a * 2 ^ 32 + d.rdN (NET_IPV6 k)) 0 else d.rdN NET_IPV4

/-- NEIGHBOUR_DISCOVERY (R367): a request for the device's own address is answered. -/
def Device.neighbour (d : Device) (port : Nat) (v6 : Bool) (target : Nat) (asker : Bytes) : Device :=
  if d.portTakes port ∧ port < 3 ∧ d.linkUp port ∧ target = d.ownAddr v6 then
    d.send .netArp port (b2n v6) (Config.message 0x100 (leBytes 1 (b2n v6) ++ leBytes 16 target ++ asker))
  else d

/-! ## Commands -/

/-- LINK_CHANGE (R368). -/
def execLinkChange (k : Nat) (up : Bool) (s : State) : Host.Outcome State Fault Refusal :=
  .next { s with dev := s.dev.linkChange k up }

/-- SESSION_OPEN (R375): inside a session it is answered REJECTED. -/
def execSessionOpen (h : HostPkt) (enc : Bool) (s : State) : Host.Outcome State Fault Refusal :=
  let d := s.dev
  let r : Device := if enc then d.hostCmd 0x0001 h fun c x => x.answer c stRejected [] else d.sessionOpen h
  .next { s with dev := r }

/-- SESSION_CLOSE (R376). -/
def execSessionClose (h : HostPkt) (s : State) : Host.Outcome State Fault Refusal :=
  .next { s with dev := s.dev.hostCmd 0x0002 h (withLen 0 Device.sessionClose) }

/-- SESSION_TIMEOUT (R376). -/
def execSessionTimeout (p : Nat) (s : State) : Host.Outcome State Fault Refusal :=
  .next { s with dev := s.dev.sessionTimeout p }

/-- PING (R376). -/
def execPing (h : HostPkt) (s : State) : Host.Outcome State Fault Refusal :=
  .next { s with dev := s.dev.hostCmd 0x0003 h (withLen 0 fun c x => x.answer c stDone []) }

/-- MCAST_KEY (R374). -/
def execMcastKey (h : HostPkt) (s : State) : Host.Outcome State Fault Refusal :=
  .next { s with dev := s.dev.hostCmd 0x0103 h (withLen 4 holdIt) }

/-- KERNEL_DATA (R377). -/
def execKernelData (h : HostPkt) (sub : Nat) (s : State) : Host.Outcome State Fault Refusal :=
  .next { s with dev := s.dev.kernelData h sub }

/-- SPI_READ_DATAGRAM (R383). -/
def execSpiReadDatagram (s : State) : Host.Outcome State Fault Refusal :=
  .next { s with dev := s.dev.spiRead }

/-- SPI_STATUS (R383). -/
def execSpiStatus (busy : Bool) (s : State) : Host.Outcome State Fault Refusal :=
  let d := s.dev
  let r : Device :=
    if d.bit HST_SPI_CFG 0 then
      d.send .spi 0 0x05 (leBytes 1 (b2n (d.hst.spiOut ≠ []) + 2 * b2n (!busy)))
    else d
  .next { s with dev := r }

/-- DATAGRAM_REJECTED (R372). -/
def execDatagramRejected (port why : Nat) (k : Option MachPkt) (s : State) : Host.Outcome State Fault Refusal :=
  .next { s with dev := s.dev.rejected port why k }

/-- NEIGHBOUR_DISCOVERY (R367). -/
def execNeighbourDiscovery (port : Nat) (v6 : Bool) (target : Nat) (asker : Bytes) (s : State) :
    Host.Outcome State Fault Refusal :=
  .next { s with dev := s.dev.neighbour port v6 target asker }

end Sys2Proof.Machine
end

