-- ==== Sys2Proof/Machine/KeyCmds.lean ====
section
/-!
DEFINITION. Machine/KeyCmds.lean: the key commands (R435 to R438), the tamper response (R442) and the end of the cinder
state (R445).
-/
namespace Sys2Proof.Machine

/-- The domain of a parent: itself, or the one under which a register was taken (R429). -/
def Device.domainOf (d : Device) (k : Nat) : Option Nat :=
  if k < 8 then some k else (Tab.find d.keys.regs k).map (·.domain)

/-- Whether a partition may name a parent (R435). -/
def Device.mayParent (d : Device) (p k : Nat) : Bool := d.domainOf k = some (1 + p)

/-- Whether a parent can unwrap now: a domain, or a register whose WRAP key is loaded (R436). -/
def Device.parentLoaded (d : Device) (k : Nat) : Bool :=
  k < 8 || d.keys.slots.any fun e => e.2.st = 1 && e.2.own = k

/-- Whether a partition may load or clear a slot (R432). -/
def Device.maySlot (d : Device) (p s : Nat) : Bool :=
  16 ≤ s && ((d.slot s).st = 0 || (d.slot s).owner = p)

/-- Whether attribute, algorithm, register and twin flag of a key agree (R430, R431, R433, R436). -/
def keyShapeOk (slot flags attr alg own : Nat) : Bool :=
  flags < 2 && keyCombo alg attr && (flags = 0 || (attr = 0 && slot % 2 = 0)) &&
    (own = 0xFF || (8 ≤ own && own < 64 && attr = 2 && alg = 2))

/-- Whether a blob's fixed fields are valid (R430). -/
def blobOk (b : Bytes) : Bool :=
  b.length = 96 && uAt b 0 1 = 0xD1 && uAt b 1 1 = 1 && uAt b 2 1 < 64 && uAt b 3 1 < 4 && uAt b 8 1 ≤ 4 &&
    allZero (sliceB b 9 7) && uAt b 76 4 = 0

/-- The preliminaries of a key command: cinder and missing root (R426, R444), the right (R435). -/
def keyCmd (right : Bool) (f : Cmd → Device → Device) (c : Cmd) (d : Device) : Device :=
  if ¬ d.keyed then d.answer c stDenied []
  else if right ∧ ¬ d.right c.part rPlan then d.answer c stDenied []
  else f c d

/-- Puts a key into a slot in place of what it held (R436). -/
def Device.placeKey (d : Device) (s : Nat) (k : KeySlot) : Device := (d.clearSlot s).loadKey s k

/-- KEY_LOAD when it is taken (R436): the checks in their order, the first failure named. -/
def Device.keyLoad (tagOk : Bool) (c : Cmd) (d : Device) : Device :=
  let s := uAt c.body 0 1
  let fl := uAt c.body 1 1
  let b := c.body.drop 4
  let par := uAt b 2 1
  let attr := uAt b 3 1
  let alg := uAt b 6 1
  let own := uAt b 7 1
  let fail (st why : Nat) : Device := d.answer c st (leBytes 1 why)
  if 128 ≤ s ∨ 2 ≤ fl ∨ uAt c.body 2 2 ≠ 0 then d.answer c stRejected []
  else if ¬ d.maySlot c.part s ∨ (fl = 1 ∧ ¬ d.maySlot c.part (s + 1)) then d.answer c stDenied []
  else if ¬ blobOk b ∨ ¬ keyShapeOk s fl attr alg own then fail stRejected 1
  else if ¬ d.mayParent c.part par then fail stDenied 5
  else if ¬ d.parentLoaded par then fail stNotFound 2
  else if uAt b 4 2 ≠ d.gen par then fail stRejected 3
  else if ¬ tagOk then fail stRejected 4
  else
    (d.placeKey s ⟨1, attr, alg, uAt b 8 1, fl = 1, par, d.gen par, own⟩).answer c stDone (leBytes 1 0)

/-- KEY_UNLOAD when it is taken (R435). -/
def Device.keyUnload (c : Cmd) (d : Device) : Device :=
  let s := uAt c.body 0 1
  if 128 ≤ s ∨ uAt c.body 1 3 ≠ 0 then d.answer c stRejected []
  else if ¬ d.maySlot c.part s then d.answer c stDenied []
  else if (d.slot s).st = 0 then d.answer c stNotFound []
  else (d.clearSlot s).answer c stDone []

/-- KEY_GENERATE and KEY_IMPORT when they are taken (R435): the key is loaded and its blob returned; a WRAP key with a
register takes the register (R429). Nonce, ciphertext and tag are free values (log entry 6). -/
def Device.keyMake (c : Cmd) (d : Device) : Device :=
  let s := uAt c.body 0 1
  let fl := uAt c.body 1 1
  let par := uAt c.body 2 1
  let attr := uAt c.body 3 1
  let alg := uAt c.body 4 1
  let own := uAt c.body 5 1
  if 128 ≤ s ∨ uAt c.body 6 2 ≠ 0 ∨ 64 ≤ par ∨ ¬ keyShapeOk s fl attr alg own then d.answer c stRejected []
  else if ¬ d.maySlot c.part s ∨ (fl = 1 ∧ ¬ d.maySlot c.part (s + 1)) then d.answer c stDenied []
  else if ¬ d.mayParent c.part par then d.answer c stDenied []
  else if ¬ d.parentLoaded par then d.answer c stNotFound []
  else if own ≠ 0xFF ∧ (Tab.find d.keys.regs own).isSome then d.answer c stInUse []
  else
    let (rnd, e) := d.drawBytes 76
    let blob := leBytes 1 0xD1 ++ leBytes 1 1 ++ leBytes 1 par ++ leBytes 1 attr ++ leBytes 2 (e.gen par) ++
      leBytes 1 alg ++ leBytes 1 own ++ leBytes 1 c.part ++ zeros 7 ++ rnd.take 60 ++ zeros 4 ++ rnd.drop 60
    let e := e.placeKey s ⟨1, attr, alg, c.part, fl = 1, par, e.gen par, own⟩
    let e : Device := if own = 0xFF then e
      else { e with keys := { e.keys with regs := Tab.put e.keys.regs own ⟨par, 1 + c.part⟩ } }
    e.answer c stDone blob

/-- The hardware sweep (R438): every loaded slot recorded under an older generation of a parent reached is cleared. -/
def Device.sweepSlots (d : Device) (reached : List Nat) : Device :=
  let old := (d.keys.slots.filter fun e => e.2.st ≠ 0 ∧ reached.contains e.2.parent ∧ e.2.gen < d.gen e.2.parent).map (·.1)
  (d.forEach old fun s e => e.clearSlot s).raise KEY_INT_STAT 2

/-- KEY_INVALIDATE when it is taken (R438). -/
def Device.keyInvalidate (c : Cmd) (d : Device) : Device :=
  let k := uAt c.body 0 1
  if 64 ≤ k ∨ uAt c.body 1 3 ≠ 0 then d.answer c stRejected []
  else if ¬ d.mayParent c.part k then d.answer c stDenied []
  else
    let reached := cascade d.keys.regs 56 [k]
    if reached.any fun x => d.gen x = 0xFFFF then (d.raise KEY_INT_STAT 3).answer c stNoCapacity []
    else
      let g := reached.foldl (fun t x => Tab.put t x (Tab.getD t x 0 + 1)) d.keys.gens
      let freed := Tab.keep d.keys.regs fun x _ => x = k || !reached.contains x
      let e := { d with keys := { d.keys with gens := g, regs := freed } }
      (e.sweepSlots reached).answer c stDone (leBytes 2 (e.gen k))

/-- KEY_STATUS when it is taken (R435). -/
def Device.keyStatus (c : Cmd) (d : Device) : Device :=
  d.answer c stDone ((List.range 128).map fun s =>
    BitVec.ofNat 8 (if (d.slot s).st ≠ 0 ∧ (d.slot s).owner = c.part then keySlotWord (d.slot s) % 256 else 0))

/-! ## The tamper response -/

/-- Whether a source is armed (R440): the four inputs by TMP_CFG.IN_EN, every other always. -/
def Device.armed (d : Device) (src : Nat) : Bool := src ≤ 10 && (4 ≤ src || d.bit TMP_CFG src)

/-- The tamper response to one source (R442): scrub, zero the root key, clear every slot, log, enter the cinder state;
with VIN present the stop arises, TAMPER is latched and every session closes. In the cinder state an event is only
logged (R444). -/
def Device.tamper (d : Device) (src detail : Nat) (op vin : Bool) : Device :=
  let flags := b2n (op && !d.tmp.cinder) + 2 * b2n (!d.tmp.rtcValid) + 4 * b2n d.keys.rootOk
  let was := d.tmp.cinder
  let e := ({ d with keys := { d.keys with rootOk := false } }).clearSlots
  let e := e.tamperLog src detail flags
  let e := e.raise TMP_INT_STAT 0
  let e := if vin then e.slagB .tmp 0x0101 src (leBytes 4 e.tmp.count) else e
  if was then e
  else
    let e := { e with tmp := { e.tmp with cinder := true } }
    let e := { e with boot := { e.boot with
      recovery := e.boot.recovery || (d.pwr.starting && vin), warden := e.boot.warden && !(d.pwr.starting && vin) } }
    if vin then (e.latchCause 7).closeAll else e

/-- TAMPER_EVENT (R440, R442): the sources that fire, in ascending code. -/
def Device.tamperEvent (d : Device) (fired : List (Nat × Nat)) (active : Nat) (op vin : Bool) : Device :=
  let e := { d with tmp := { d.tmp with active := active % 2 ^ 11 } }
  let hit (s : Nat) : Option (Nat × Nat) := fired.find? fun f => f.1 = s
  e.forEach (List.range 11) fun s x =>
    match hit s with
    | some f => if x.armed s then x.tamper s (f.2 % 256) op vin else x
    | none => x

/-- Re-provisioning (R445): a new root key, generation 0 for every parent, no register, no cinder state. -/
def Device.newRoot (d : Device) : Device :=
  { d with
      keys := { d.keys with rootOk := true, root := d.keys.root + 1, gens := [], regs := [] }
      tmp := { d.tmp with cinder := false }
      hst := { d.hst with
        replay := Tab.keep d.hst.replay fun k _ => k < 1030
        seqs := Tab.keep d.hst.seqs fun k _ => k < 1030 } }

/-! ## Commands -/

/-- KEY_LOAD (R436). -/
def execKeyLoad (h : HostPkt) (tagOk : Bool) (s : State) : Host.Outcome State Fault Refusal :=
  .next { s with dev := s.dev.hostCmd 0x0900 h (withLen 100 (keyCmd true (Device.keyLoad tagOk))) }

/-- KEY_UNLOAD (R435). -/
def execKeyUnload (h : HostPkt) (s : State) : Host.Outcome State Fault Refusal :=
  .next { s with dev := s.dev.hostCmd 0x0901 h (withLen 4 (keyCmd true Device.keyUnload)) }

/-- KEY_GENERATE (R435). -/
def execKeyGenerate (h : HostPkt) (s : State) : Host.Outcome State Fault Refusal :=
  .next { s with dev := s.dev.hostCmd 0x0902 h (withLen 8 (keyCmd true Device.keyMake)) }

/-- KEY_IMPORT (R435). -/
def execKeyImport (h : HostPkt) (s : State) : Host.Outcome State Fault Refusal :=
  .next { s with dev := s.dev.hostCmd 0x0903 h (withLen 56 (keyCmd true Device.keyMake)) }

/-- KEY_INVALIDATE (R438). -/
def execKeyInvalidate (h : HostPkt) (s : State) : Host.Outcome State Fault Refusal :=
  .next { s with dev := s.dev.hostCmd 0x0904 h (withLen 4 (keyCmd true Device.keyInvalidate)) }

/-- KEY_STATUS (R435). -/
def execKeyStatus (h : HostPkt) (s : State) : Host.Outcome State Fault Refusal :=
  .next { s with dev := s.dev.hostCmd 0x0905 h (withLen 0 (keyCmd false Device.keyStatus)) }

/-- TAMPER_EVENT (R442). -/
def execTamperEvent (fired : List (Nat × Nat)) (active : Nat) (op vin : Bool) (s : State) :
    Host.Outcome State Fault Refusal :=
  .next { s with dev := s.dev.tamperEvent fired active op vin }

end Sys2Proof.Machine
end

