-- ==== Sys2Proof/Machine/Pair.lean ====
section
/-!
DEFINITION. Machine/Pair.lean: redundant pair operation (chapter 21): readiness and the claim, the takeover, heartbeats,
the state mirror, forwarded commands, revert and release; and the governor sample as a whole.
-/
namespace Sys2Proof.Machine

/-! ## Readiness and the claim (R451 to R456) -/

/-- Whether the unit runs alone: PAIR_CTRL.ENABLE is 0, it is strapped home and it is unbound (R448; log entry 29). -/
def Device.standalone (d : Device) : Bool := !d.bit PAIR_CTRL 0 && !d.pair.away && !d.pair.bound

/-- Whether TB0 is locked, or in holdover with an estimate of at most 10,000 ns (R453). -/
def Device.tb0Good (d : Device) : Bool := d.tim.valid && (!(d.base 0).hold || (d.base 0).est ≤ 10000)

/-- Whether the warden has served its watchdog within the last 500 ms (R453, R545). -/
def Device.served (d : Device) : Bool := d.pwr.armed && d.upNs ≤ d.pwr.served + 500000000

/-- Whether the unit is ready (R453). -/
def Device.pairReady (d : Device) : Bool :=
  (d.bit PAIR_CTRL 0 || d.standalone) && d.tb0Good && d.bit FAB_STAT 2 && d.canSeal && d.mayRun &&
    !bitOf d.stp.latch 11 && !d.stp.engineFault && d.served && d.fld PWR_STATE 4 3 = 0

/-- Drives PAIR_OK_OUT with the readiness (R448). -/
def Device.showReady (d : Device) : Device := d.setPin pinPairOk (b2n d.pairReady)

/-- Whether a holder refreshes its claim: while it is ready, and in the cinder state until the service technician ends
it (R454). -/
def Device.refreshes (d : Device) : Bool := !d.pair.released && (d.pairReady || d.tmp.cinder)

/-- What a unit that held the claim takes with it: its own counters stand as the mirrored ones. -/
def Device.keepOwn (d : Device) : Device :=
  let slots := nub ((d.machines).map fun m => d.fe m 22)
  { d with
      pair := { d.pair with
        mirrored := true, mFc := (List.range 4).map d.liveCtr, mLatch := d.stp.latch, mPhase := d.stp.phase
        mMcast := match d.hst.mkey with | some k => Tab.getD d.hst.seqs k.slot 0 | none => 0 }
      flt := { d.flt with mirSeq := slots.foldl (fun t s => Tab.put t s (Tab.getD d.hst.seqs s 0)) d.flt.mirSeq } }

/-- The claim falls (R451): CLAIM_OUT goes low, and the gate closes with it. -/
def Device.claimFalls (d : Device) : Device :=
  let e := d.keepOwn
  let e := { e with pair := { e.pair with
      claim := false, confirm := false, lows := 0, bothAt := none, releasing := false, lastMirror := false
      mirrorOk := false, swept := false, sweeping := false, rcvd := none, got := true, opened := none } }
  ((e.setPin pinClaimOut 0).setPin pinPermitOut 0).raise PAIR_INT_STAT 2

/-- The context of the PAIR fault records: the last mirror sequence (R522). -/
def Device.pairCtx (d : Device) : Bytes := leBytes 4 d.pair.seq

/-- Latches PAIR for a pair stop condition (R463), with its PAIR_INT_STAT bit and fault record. -/
def Device.pairStop (d : Device) (bit code : Nat) : Device :=
  ((d.latchCause 6).raise PAIR_INT_STAT bit).slag (blkNum .pair) code noUnit 8 d.pairCtx

/-- The always-on time of a TB0 instant that lies back. -/
def Device.upAt (d : Device) (tb : Nat) : Nat := d.upNs - (d.tb0 - tb)

/-- The TB0 instant of a mirrored heat counter and TB0 nanoseconds (R458, section 0x05). -/
def Device.mirrorInstant (d : Device) : Nat :=
  ((d.heatAbs : Int) + diff32 d.pair.mPhaseAt.1 d.heat).toNat * 100000000 + d.pair.mPhaseAt.2 % 100000000

/-- The present tables, as a mirror leaves them. -/
def Device.snapNow (d : Device) : MirrorSnap :=
  ⟨d.flt.tab, d.rsv.ents, d.flt.nodes, d.alo.tasks, d.rsv.segs, d.rsv.juncs, d.gov.coef,
    (d.cor.kid, d.cor.kFirst, d.cor.nextFirst)⟩

/-- Applies the counter offsets of R450 to a new holder. -/
def Device.offsets (d : Device) : Device :=
  let fc := (List.range 4).foldl (fun t p => Tab.put t p (d.pair.mFc.getD p 0 + 64)) d.stp.fc
  let nodes := d.flt.nodes.map fun e => (e.1, recSet e.2 36 (recGet e.2 36 + 64))
  let seqs := d.flt.mirSeq.foldl (fun t e => Tab.put t e.1 (e.2 + 65536)) d.hst.seqs
  let seqs := match d.hst.mkey with | some k => Tab.put seqs k.slot (d.pair.mMcast + 65536) | none => seqs
  { d with
      stp := { d.stp with fc := fc }
      flt := { d.flt with nodes := nodes }
      hst := { d.hst with seqs := seqs } }

/-- Seeds an enrolled machine's filter from its mirrored record, every ambiguity float (R461). -/
def Device.seedFilter (m : Nat) (d : Device) : Device :=
  let s (o w : Nat) : Int := toSigned w (d.fe m o)
  let st := d.fe m 42 % 4
  let f : Filter :=
    if st = 0 then { filterNew with reset := true }
    else { filterNew with
      fix := Nat.min 2 st, pos := [s 48 32, s 52 32, s 56 32], vel := [s 70 16, s 72 16, s 74 16]
      cov := [(d.fe m 60 : Nat), (d.fe m 62 : Nat), (d.fe m 64 : Nat), s 66 8, s 67 8, s 68 8]
      upd := some ((d.heatAbs : Int) + diff32 (d.fe m 44) d.heat).toNat, reset := true }
  d.setFilter m f

/-- The phase in which a new holder goes on (R461). -/
def Device.resumePhase (d : Device) : Device :=
  let t := d.mirrorInstant
  if d.stp.latch ≠ 0 then d.beginStopping
  else if d.pair.mPhase = 2 then
    { d with stp := { d.stp with phase := 2, phaseTb := t, phaseUp := d.upAt t } }
  else if d.pair.mPhase = 1 then
    { d with stp := { d.stp with
        phase := 1, phaseTb := t, phaseUp := d.upAt t, first := [], firstUp := some (d.upAt t), grid := []
        byStopTest := true } }
  else { d with stp := { d.stp with phase := 0 } }

/-- The takeover (R461), at the cycle in which the gate of a new holder opens. A unit whose PAIR_CTRL.ENABLE is 0 has no
peer to take over from: it goes on as it is (R195). -/
def Device.takeClaim (d : Device) : Device :=
  let e := (d.raise PAIR_INT_STAT 1).count PAIR_TAKEOVERS
  let e := { e with pair := { e.pair with gapOpen := true, opened := some e.tb0 } }
  if ¬ e.bit PAIR_CTRL 0 then e
  else
    let blind := !e.pair.mirrorOk
    let e := if e.pair.mirrored then e.offsets else e
    let both := (List.range 12).foldl
      (fun a i => if i ≠ 8 ∧ i ≠ 11 ∧ bitOf e.pair.mLatch i then setBits a i 1 1 else a) e.stp.latch
    let e := { e with stp := { e.stp with latch := both } }
    let e := if blind then e.pairStop 6 0x0104 else e
    let e := e.resumePhase
    let e := e.forEach e.enrolled Device.seedFilter
    let back := !e.pair.away && e.pair.revertReq
    let e := { e with pair := { e.pair with
        mirrorOk := false, swept := false, sweeping := false, revertReq := false, sweepOut := 0, cfgs := []
        snap := e.snapNow } }
    e.raiseIf back PAIR_INT_STAT 7

/-- The instant of the unit's next sample (R455): the first of the whole multiples of 50 µs of TB0, for the away unit
25 µs after, that is not past, and the one after it where that sample has been taken. -/
def Device.nextSample (d : Device) : Nat :=
  let o := if d.pair.away then 25000 else 0
  let t := (d.tb0 + 99999 - o) / 50000 * 50000 + o - 50000
  if d.pair.sampledAt = some t then t + 50000 else t

/-- PEER_CLAIM_IN takes a level (R463: since when both claims are high; R462: when the peer's claim fell). -/
def Device.peerLevel (d : Device) (level : Bool) : Device :=
  let p := d.pair
  { d with pair := { p with
      peerClaim := level
      fellAt := if p.peerClaim && !level then d.upNs else p.fellAt
      bothAt := if p.claim && level then some (p.bothAt.getD d.upNs) else none } }

/-- CLAIM_OUT goes high (R451, R455). The home unit's gate opens at once, the away unit waits for its confirming
sample. -/
def Device.assertClaim (d : Device) : Device :=
  let e := { d with pair := { d.pair with
      claim := true, refreshAt := d.upNs, lows := 0, released := false, confirm := d.pair.away } }
  let e := e.setPin pinClaimOut 1
  if e.pair.away then e else e.takeClaim

/-- The next sample of PEER_CLAIM_IN: its instant has come and the pin's level is taken. -/
def Device.sampled (d : Device) (level : Bool) : Device :=
  let d := d.advanceTo d.nextSample
  { d.peerLevel level with pair := { (d.peerLevel level).pair with sampledAt := some d.tb0 } }

/-- A sample of PEER_CLAIM_IN (R455). -/
def Device.claimSample (d : Device) (level : Bool) : Device :=
  if d.pair.claim ∧ ¬ d.pair.confirm then d.peerLevel level
  else
    let d := d.sampled level
    if d.pair.confirm then
      if level then d.claimFalls else ({ d with pair := { d.pair with confirm := false } }).takeClaim
    else if ¬ d.pairReady ∨ level then { d with pair := { d.pair with lows := 0 } }
    else if (if d.pair.away then 6 else 2) ≤ d.pair.lows + 1 then d.assertClaim
    else { d with pair := { d.pair with lows := d.pair.lows + 1 } }

/-! ## Heartbeats (R457) -/

/-- The bound peer's unit ID, or this unit's, as bytes. -/
def Device.idBytes (d : Device) (a b c : Reg) : Bytes := leBytes 4 (d.rdN a) ++ leBytes 4 (d.rdN b) ++ leBytes 4 (d.rdN c)

/-- Sends the heartbeat of a stroke start. -/
def Device.heartbeatSend (d : Device) : Device :=
  let p := d.pair
  let flags := b2n p.away + 2 * b2n p.claim + 4 * b2n p.peerClaim + 8 * b2n d.pairReady + 16 * b2n p.mirrorOk +
    32 * b2n p.revertReq + 64 * b2n p.releasing
  d.toPeer 0xE1 (leBytes 1 0xE1 ++ leBytes 1 1 ++ leBytes 1 flags ++ leBytes 1 (d.inHeat / 10000000) ++ leBytes 4 d.heat ++
    leBytes 4 (d.baseNs 0) ++ leBytes 4 p.seq ++ d.idBytes OTP_UNIT_ID0 OTP_UNIT_ID1 OTP_UNIT_ID2 ++
    leBytes 4 d.fab.ver ++ leBytes 4 d.stp.latch)

/-- 3 whole strokes in a row without an accepted heartbeat clear PEER_SEEN (R457): the fourth stroke start since it. -/
def Device.hbLost (d : Device) : Device :=
  if ¬ d.pair.seen ∨ d.pair.quiet < 4 then d
  else
    let e := { d with pair := { d.pair with seen := false } }
    ((e.raise PAIR_INT_STAT 0).count PAIR_HB_LOST).slagB .pair 0x0101 noUnit e.pairCtx

/-- A stroke start of a bound unit: its heartbeat goes out, and one more stroke starts without the peer's. -/
def Device.pairStroke (d : Device) : Device :=
  let d := d.showReady
  if ¬ d.pair.bound then d
  else ({ d with pair := { d.pair with quiet := holdAt 4 (d.pair.quiet + 1) } }).heartbeatSend

/-- The acceptance test of a class 5 datagram (R372, R449): replay state is kept for the other rank alone. -/
def Device.acceptPeer (d : Device) (p : PeerPkt) : Bool × Device :=
  let own := p.rank == d.pair.away
  if ¬ d.pairLink then (false, d.discard false false)
  else if ¬ p.tagOk then (false, d.discard false true)
  else if ¬ own ∧ ¬ replayOk (d.replay keyPair) p.seq then (false, d.discard true false)
  else (true, (d.count NET_RX_OK).doIf (!own) fun e => e.mark keyPair p.seq)

/-- Whether a payload is a heartbeat of the bound peer. -/
def Device.heartbeatOk (d : Device) (b : Bytes) : Bool :=
  b.length = 36 && uAt b 0 1 = 0xE1 && uAt b 1 1 = 1 && uAt b 2 1 < 128 && uAt b 3 1 < 10 && uAt b 32 4 < 4096 &&
    sliceB b 16 12 = d.idBytes PAIR_PEER_ID0 PAIR_PEER_ID1 PAIR_PEER_ID2

/-- A heartbeat (R457, R459, R463, R464). -/
def Device.heartbeat (d : Device) (p : PeerPkt) : Device :=
  match d.acceptPeer p with
  | (false, e) => e
  | (true, e) =>
    if ¬ e.heartbeatOk p.body then e.discard false false
    else
      let f := uAt p.body 2 1
      let clash := bitOf f 0 == e.pair.away
      let new := clash && !e.pair.rankClash
      let mir := bitOf f 4
      let asks := e.pair.away && e.pair.claim && bitOf f 5 && bitOf f 3
      let e := { e with pair := { e.pair with
          seen := true, quiet := 0, peerReady := bitOf f 3, peerMirror := mir, peerRevert := bitOf f 5
          peerSeq := uAt p.body 12 4, rankClash := clash
          sweepOut := if e.pair.claim && !mir then 1 else e.pair.sweepOut
          releasing := (e.pair.releasing || asks) && mir
          lastMirror := e.pair.lastMirror && mir } }
      if new then e.pairStop 4 0x0103 else e

/-! ## The state mirror, sent (R458) -/

/-- The keys whose values differ between two tables. -/
def tabDiff {α : Type} [DecidableEq α] (old new : Tab α) : List Nat :=
  ((new.filter fun e => Tab.find old e.1 ≠ some e.2).map (·.1)) ++
    ((old.filter fun e => (Tab.find new e.1).isNone).map (·.1))

/-- The TASK_POST body of a task (R148). -/
def taskBody (k : Task) : Bytes :=
  leBytes 1 k.kind ++ leBytes 1 (k.prio + 4 * b2n k.pin.isSome) ++ leBytes 2 k.start ++ leBytes 2 k.fin ++
    leBytes 2 k.work ++ leBytes 4 k.mask ++ leBytes 4 k.earliest ++ leBytes 4 k.deadline ++ leBytes 2 k.energy ++
    leBytes 2 (k.pin.getD 0) ++ leBytes 4 k.tag ++ zeros 4

/-- A task's record (R458, section 0x06): the posting partition stands above the state, and each exclusion has its
machine and the heat in which it ends (log entry 29). -/
def Device.taskRecord (d : Device) (t : Nat) : Bytes :=
  match d.task t with
  | none => leBytes 2 t ++ zeros 4 ++ zeros 32 ++ zeros 1
  | some k =>
    leBytes 2 t ++ leBytes 1 (k.st + 16 * k.part) ++ leBytes 1 k.tries ++ leBytes 2 k.mach ++ taskBody k ++
      leBytes 1 k.excl.length ++ (k.excl.map fun e => leBytes 2 e.1 ++ leBytes 4 (e.2.getD 0xFFFFFFFF)).flatten

/-- Section 0x05. -/
def Device.stopSection (d : Device) : Bytes :=
  let ph := d.stp.phase
  let on := ph = 1 || ph = 2
  leBytes 4 d.stp.latch ++ ((List.range 8).map fun k => leBytes 4 (d.stpList k)).flatten ++
    ((List.range 4).map fun p => leBytes 4 (d.liveCtr p)).flatten ++ leBytes 4 (d.rdN RSV_PAUSE_BASE) ++
    leBytes 4 (d.rdN RSV_PAUSE_OFS) ++
    leBytes 4 (match d.hst.mkey with | some k => Tab.getD d.hst.seqs k.slot 0 | none => 0) ++ leBytes 1 ph ++
    leBytes 4 (if on then d.stp.phaseTb / 100000000 % 2 ^ 32 else 0) ++ leBytes 4 (if on then d.stp.phaseTb % 2 ^ 32 else 0)

/-- Section 0x0B: the current broadcast key when it is new, else the next one once it was generated (R69). -/
def Device.keySection (d : Device) : List Bytes :=
  let o := d.pair.snap.key
  (if (o.1, o.2.1) ≠ (d.cor.kid, d.cor.kFirst) ∧ d.cor.kid ≠ 0 then
    [leBytes 1 d.cor.kid ++ leBytes 4 d.cor.kFirst ++ zeros 16] else []) ++
  (match d.cor.nextFirst with
    | some h => if o.2.2 ≠ some h then [leBytes 1 (d.cor.kid % 255 + 1) ++ leBytes 4 h ++ zeros 16] else []
    | none => [])

/-- The records of a sample's mirror, each with its section type. `sweep` adds the full sweep of R459. -/
def Device.mirrorItems (d : Device) (k : Nat) (skip : List Nat) (sweep : Bool) : List (Nat × Bytes) :=
  let o := d.pair.snap
  let all {α : Type} [DecidableEq α] (old new : Tab α) : List Nat :=
    nub (tabDiff old new ++ (if sweep then new.map (·.1) else []))
  let sec (ty : Nat) (l : List Bytes) : List (Nat × Bytes) := l.map fun b => (ty, b)
  let cells := if k ≤ 3 then Nat.min 32 d.cells else 0
  sec 1 ((all o.tab d.flt.tab).map fun m => leBytes 2 m ++ (d.entryBytes m).take 344) ++
  sec 2 (((d.machines.filter d.governed).filter fun m => !skip.contains m).map fun m => leBytes 2 m ++ d.govStateBytes m) ++
  sec 3 ((all o.ents d.rsv.ents).map fun i => leBytes 4 i ++ leBytes 16 (d.entryWord i)) ++
  sec 4 ((all o.nodes d.flt.nodes).map d.nodeBytes) ++
  sec 5 [d.stopSection] ++
  sec 6 ((all o.tasks d.alo.tasks).map d.taskRecord) ++
  sec 7 (d.pair.cfgs.map fun c => leBytes 1 c.1 ++ leBytes 2 c.2.1 ++ c.2.2) ++
  sec 8 ((tabDiff o.segs d.rsv.segs).map fun i => zeros 2 ++ leBytes 2 i ++ layBytes laySeg 32 (d.seg i)) ++
  sec 8 ((tabDiff o.juncs d.rsv.juncs).map fun i =>
    leBytes 1 1 ++ zeros 1 ++ leBytes 2 i ++ layBytes layJunc 16 (Tab.getD d.rsv.juncs i [])) ++
  sec 9 ((List.range cells).map fun j =>
    let c := (d.pair.cell + j) % d.cells
    leBytes 2 c ++ d.cellBytes c) ++
  sec 10 ((tabDiff o.coef d.gov.coef).map fun x =>
    leBytes 1 (x / 256 % 16) ++ leBytes 1 (x / 16 % 16) ++ leBytes 1 (x % 16) ++ zeros 1 ++
      layBytes (layCoef (x % 16)) (coefLen (x % 16)) (Tab.getD d.gov.coef x [])) ++
  sec 11 d.keySection

/-- A section under construction: its type and its records, newest first. -/
abbrev Sec := Nat × List Bytes

/-- Bytes of a section. -/
def secSize (s : Sec) : Nat := s.2.foldl (fun a b => a + b.length) 4

/-- Adds a record to the newest fragment, or opens one more: a payload holds at most 1,420 bytes (R370), 16 of them
the mirror's header. -/
def packRec (l : List (List Sec)) (it : Nat × Bytes) : List (List Sec) :=
  match l with
  | [] => [[(it.1, [it.2])]]
  | f :: t =>
    let size := f.foldl (fun a s => a + secSize s) 0
    match f with
    | [] => [(it.1, [it.2])] :: t
    | s :: u =>
      if s.1 = it.1 ∧ size + it.2.length ≤ 1404 then ((s.1, it.2 :: s.2) :: u) :: t
      else if size + 4 + it.2.length ≤ 1404 then ((it.1, [it.2]) :: f) :: t
      else [(it.1, [it.2])] :: f :: t

/-- The bytes of a section. -/
def secBytes (s : Sec) : Bytes := leBytes 1 s.1 ++ zeros 1 ++ leBytes 2 s.2.length ++ s.2.reverse.flatten

/-- Sends the mirror of a sample (R458, R459). No section is deferred (log entry 29). -/
def Device.mirrorSend (d : Device) (k : Nat) (skip : List Nat) : Device :=
  if ¬ (d.pair.bound ∧ d.pair.claim ∧ ¬ d.tmp.cinder) then d
  else
    let sweep := d.pair.sweepOut ≠ 0
    let frags := (((d.mirrorItems k skip sweep).foldl packRec []).reverse)
    let seq := (d.pair.seq + 1) % 2 ^ 32
    let head (i n secs : Nat) : Bytes :=
      leBytes 1 0xE2 ++ leBytes 1 (b2n (i + 1 = n) + 2 * b2n sweep + 4 * b2n (sweep && i + 1 = n)) ++ leBytes 2 secs ++
        leBytes 4 d.heat ++ leBytes 1 k ++ zeros 1 ++ leBytes 2 i ++ leBytes 4 seq
    let e := d.forEach ((List.range frags.length).zip frags) fun x y =>
      y.toPeer 0xE2 (head x.1 frags.length x.2.length ++ (x.2.reverse.map secBytes).flatten)
    let cells := if k ≤ 3 then Nat.min 32 d.cells else 0
    { e with pair := { e.pair with
        seq := seq, sweepOut := 0, cfgs := [], snap := e.snapNow
        cell := if d.cells = 0 then 0 else (d.pair.cell + cells) % d.cells
        lastMirror := e.pair.lastMirror || (e.pair.releasing && k = 4) } }

/-! ## The state mirror, applied (R459, R460) -/

/-- What applies a mirrored configuration command. -/
def cfgMeaning (code : Nat) : Cmd → Device → Device :=
  match code with
  | 0x0200 => Device.corrProfile
  | 0x0301 => Device.solverProfile
  | 0x0407 => Device.nodeAllow
  | 0x0408 => Device.fleetCfg
  | 0x0501 => Device.graphCheckCmd
  | 0x0603 => Device.allotProfile
  | 0x0604 => Device.dockCfg
  | 0x0605 => Device.siteLoad
  | 0x0701 => Device.govSwap
  | 0x0705 => Device.zonePost
  | _ => fun _ d => d

/-- Runs something without its answers: the partitions' queues and counters stay as they were. -/
def Device.silently (d : Device) (f : Device → Device) : Device :=
  let e := f d
  { e with
      que := d.que, regs := setTabOf e.regs .que (tabOf d.regs .que)
      hst := { e.hst with owed := d.hst.owed, done := d.hst.done } }

/-- The stop list of its eight registers (R218). -/
def listOf (b : Bytes) : List StopEntry :=
  (List.range 16).filterMap fun i =>
    let w := uAt b (2 * i) 2
    if bitOf w 15 then some ⟨bitsOf w 0 12, 2 ^ bitsOf w 12 3⟩ else none

/-- Adopts the mirrored latch set but for MON and BOOT (R215): what the holder has cleared goes, what only this unit has
latched stays, and its own BOOT clears. -/
def Device.adoptLatch (d : Device) (m : Nat) : Device :=
  let now (i : Nat) : Bool :=
    if i = 8 then false
    else if i = 11 then bitOf d.stp.latch 11
    else bitOf m i || (bitOf d.stp.latch i && !bitOf d.pair.mLatch i)
  let l := (List.range 12).foldl (fun a i => if now i then a + 2 ^ i else a) 0
  { d with stp := { d.stp with latch := l }, pair := { d.pair with mLatch := m } }

/-- Applies section 0x05 (R215, R458): the mirrored phase stands while no cause but the mirrored ones is latched. -/
def Device.stopIn (d : Device) (b : Bytes) : Device :=
  let e := d.adoptLatch (uAt b 0 4)
  let e := { e with
      stp := { e.stp with list := listOf (sliceB b 4 32) }
      pair := { e.pair with
        mFc := (List.range 4).map fun p => uAt b (36 + 4 * p) 4
        mMcast := uAt b 60 4, mPhase := uAt b 64 1, mPhaseAt := (uAt b 65 4, uAt b 69 4) } }
  let e := (e.wrN RSV_PAUSE_BASE (uAt b 52 4)).wrN RSV_PAUSE_OFS (uAt b 56 4)
  let own := (List.range 12).any fun i => i ≠ 8 && bitOf e.stp.latch i && !bitOf e.pair.mLatch i
  if own then e else { e with stp := { e.stp with phase := e.pair.mPhase } }

/-- The state of a machine in the governor, from its 80 bytes (R187). -/
def Device.govIn (d : Device) (m : Nat) (b : Bytes) : Device :=
  let g := d.gm m
  d.setGm m { g with
    integ := (List.range 7).map fun i => sAt b (4 * i) 4
    prop := (List.range 8).map fun i => uAt b (32 + 2 * i) 2
    err := (List.range 8).map fun i => sAt b (48 + 4 * i) 4 }

/-- A task of a record of section 0x06. -/
def Device.taskIn (d : Device) (b : Bytes) : Device :=
  let t := uAt b 0 2
  let st := uAt b 2 1 % 16
  if st = 0 then { d with alo := { d.alo with tasks := Tab.del d.alo.tasks t } }
  else
    let ex := (List.range (uAt b 38 1)).map fun i =>
      let h := uAt b (41 + 6 * i) 4
      (uAt b (39 + 6 * i) 2, if h = 0xFFFFFFFF then none else some ((d.heatAbs : Int) + diff32 h d.heat).toNat)
    d.setTask t { taskOfBody (sliceB b 6 32) (uAt b 2 1 / 16) with
      st := st, tries := uAt b 3 1, mach := uAt b 4 2, excl := ex }

/-- A broadcast key of the holder (R458, section 0x0B): a key whose first heat has come goes into slot 11, a later one
into slot 12. -/
def Device.keyIn (d : Device) (b : Bytes) : Device :=
  let h := ((d.heatAbs : Int) + diff32 (uAt b 1 4) d.heat).toNat
  if d.heatAbs < h then
    let e := d.loadSlot 12 d.broadcastKey
    { e with cor := { e.cor with nextFirst := some h } }
  else
    let e := d.loadSlot 11 d.broadcastKey
    { e with cor := { e.cor with kid := uAt b 0 1, kFirst := h } }

/-- Applies one record of a section (R458). -/
def Device.mirrorRec (ty : Nat) (b : Bytes) (d : Device) : Device :=
  match ty with
  | 1 =>
    let m := uAt b 0 2
    let r := layRead layFleet (b.drop 2)
    let s := recGet r 22
    let e := if recGet r 2 = 0 then { d with flt := { d.flt with tab := Tab.del d.flt.tab m } } else d.setEntry m r
    let sq := if recGet r 2 = 0 then e.flt.mirSeq
      else Tab.put e.flt.mirSeq s (Nat.max (Tab.getD e.flt.mirSeq s 0) (recGet r 336))
    { e with
        flt := { e.flt with mirSeq := sq }
        pair := { e.pair with mAllow := Tab.put e.pair.mAllow m (recGet r 92) } }
  | 2 => d.govIn (uAt b 0 2) (b.drop 2)
  | 3 =>
    let i := uAt b 0 4
    let w := uAt b 4 16
    let st := bitsOf w 120 2
    let l := if st = 0 then Tab.del d.rsv.ents i else Tab.put d.rsv.ents i { entryOf w with held := st = 1 }
    { d with rsv := { d.rsv with ents := l } }
  | 4 =>
    let n := uAt b 0 4
    if uAt b 4 1 = 0 then { d with flt := { d.flt with nodes := Tab.del d.flt.nodes n } }
    else d.setNode n (layRead layNode b)
  | 5 => d.stopIn b
  | 6 => d.taskIn b
  | 7 => d.silently (cfgMeaning (uAt b 1 2) ⟨uAt b 0 1, uAt b 1 2, 0, b.drop 3, d.heat⟩)
  | 8 =>
    let i := uAt b 2 2
    if uAt b 0 1 = 0 then { d with rsv := { d.rsv with segs := Tab.put d.rsv.segs i (layRead laySeg (b.drop 4)) } }
    else { d with rsv := { d.rsv with juncs := Tab.put d.rsv.juncs i (layRead layJunc (b.drop 4)) } }
  | 9 => d.forEach (List.range 1296) fun j e => e.setWeight (uAt b 0 2) j (uAt b (2 + j) 1)
  | 10 =>
    let t := uAt b 2 1
    let key := coefKey (1 - d.bankOn) (uAt b 0 1) (uAt b 1 1) t
    { d with gov := { d.gov with coef := Tab.put d.gov.coef key (layRead (layCoef t) (b.drop 4)) } }
  | 11 => d.keyIn b
  | _ => d

/-- A gap (R459): MIRROR_OK clears, and with it a revert request (R464). -/
def Device.mirrorGap (d : Device) : Device :=
  ({ d with pair := { d.pair with
      mirrorOk := false, swept := false, sweeping := false, revertReq := false } }).raise PAIR_INT_STAT 5

/-- Applies a mirror: coefficient records before the configuration commands, then the allowances (R460). -/
def Device.applyMirror (d : Device) (m : MirrorIn) : Device :=
  let late (ty : Nat) : Bool := ty = 7
  let run (l : List (Nat × List Bytes)) (e : Device) : Device :=
    e.forEach l fun s x => x.forEach s.2 fun b y => y.mirrorRec s.1 b
  let e := run (m.secs.filter fun s => late s.1) (run (m.secs.filter fun s => !late s.1) d)
  let e := e.forEach e.pair.mAllow fun a x => if x.mstate a.1 ≠ 0 then x.setFe a.1 92 a.2 else x
  { e with pair := { e.pair with seq := m.seq, got := true, mirrored := true } }

/-- A mirror at the standby (R459). -/
def Device.stateMirror (d : Device) (m : MirrorIn) : Device :=
  if ¬ d.pairLink ∨ ¬ d.standby then d.addHold NET_RX_DROP m.frags
  else
    let d := (d.addHold NET_RX_OK m.frags).mark keyPair m.last
    if ¬ m.complete then d.mirrorGap
    else
      let joined := match d.pair.rcvd with | some (s, _) => m.seq = (s + 1) % 2 ^ 32 | none => true
      let mid := match d.pair.rcvd with | some (_, x) => x | none => false
      let follows := m.seq = (d.pair.seq + 1) % 2 ^ 32 ∨ ¬ d.pair.mirrored
      let d := if follows then d else d.mirrorGap
      let begins := m.sweep && joined && !mid
      let sweeping := begins || (d.pair.sweeping && joined)
      let e := if follows ∨ (m.sweep ∧ sweeping) then d.applyMirror m else d
      { e with pair := { e.pair with
          rcvd := some (m.seq, m.sweep && !m.sweepEnd), sweeping := sweeping && !m.sweepEnd
          swept := e.pair.swept || (m.sweepEnd && sweeping) } }

/-- What a sample does at the standby (R459): a mirror that did not come is a gap; MIRROR_OK returns at the first sample
after the sweep's end. -/
def Device.standbySample (d : Device) : Device :=
  if ¬ d.standby ∨ ¬ d.pair.bound then d
  else
    let d := if d.pair.got ∨ ¬ d.pair.mirrorOk then d else d.mirrorGap
    let back := d.pair.swept && !d.pair.mirrorOk
    { d with pair := { d.pair with
        got := false, mirrorOk := d.pair.mirrorOk || back, swept := false
        okAt := if back then d.upNs else d.pair.okAt } }

/-- A governor sample (R168): the standby's books of the mirror, the allowances and their frames, the holder's
mirror. -/
def Device.sample (d : Device) (k : Nat) (late : List Nat) (ecc : List (Nat × Nat × Bool)) (sent : Bool) (lat : Nat) :
    Device :=
  let d := d.advanceTo (d.heatAbs * 100000000 + k * 20000000)
  if ¬ d.sampleDue k then d
  else ((d.standbySample).govSample k late ecc sent lat).mirrorSend k late

/-! ## Forwarded commands (R460) -/

/-- The holder applies a stop or resume that the standby forwarded, and answers it; the standby posts the answer. The
two payloads are log entry 29. -/
def Device.forwarded (d : Device) (p : PeerPkt) (reply : Bool) : Device :=
  match d.acceptPeer p with
  | (false, e) => e
  | (true, e) =>
    let b := p.body
    let code := uAt b 0 2
    let part := uAt b 2 1 % 4
    if reply then
      if b.length = 6 ∧ e.standby then e.post part code (uAt b 3 2) (uAt b 5 1) [] else e.discard false false
    else if b.length ≠ 17 ∨ ¬ (code = 0x0100 ∨ code = 0x0101) ∨ e.standby then e.discard false false
    else
      let r := e.right part rStop
      let (st, e') := if code = 0x0101 then e.applyResume part r (b.drop 5) else e.applyStop part r (b.drop 5)
      e'.toPeer 0xE4 (leBytes 2 code ++ leBytes 1 part ++ leBytes 2 (uAt b 3 2) ++ leBytes 1 st)

/-! ## Revert and release (R464, R465) -/

/-- PAIR_CTRL.RELEASE (R465). -/
def Device.release (d : Device) : Device :=
  let p := d.pair
  if p.claim ∧ p.seen ∧ p.peerReady ∧ p.peerMirror then { d with pair := { p with releasing := true } }
  else d.slagB .pair 0x0105 noUnit d.pairCtx

/-- What the heat boundary does: a holder that is releasing and has sent the mirror of sample 4 drops its claim
(R464). -/
def Device.pairBoundary (d : Device) : Device :=
  if d.pair.claim ∧ d.pair.releasing ∧ d.pair.lastMirror then
    (d.claimFalls).raiseIf (d.pair.away && d.pair.peerRevert) PAIR_INT_STAT 7
  else d

/-- Whether a home standby may ask for its claim back (R464). -/
def Device.mayRevert (d : Device) : Bool :=
  !d.pair.away && !d.pair.claim && d.bit PAIR_CTRL 1 && d.bit PAIR_CTRL 0 && d.pairReady && d.pair.peerClaim &&
    d.pair.mirrorOk && !d.pair.revertReq

/-- PAIR_STAT (R467). -/
def Device.pairStat (d : Device) : Nat :=
  let p := d.pair
  b2n p.away + 2 * b2n p.claim + 4 * b2n p.peerClaim + 8 * b2n d.gate + 16 * b2n d.pairReady + 32 * b2n p.seen +
    64 * b2n p.mirrorOk + 128 * b2n p.bound + 256 * b2n p.revertReq

/-! ## Commands -/

/-- CLAIM_REFRESH (R451, R454): 1 ms after the last one. -/
def execClaimRefresh (s : State) : Host.Outcome State Fault Refusal :=
  let d := s.dev
  let r : Device :=
    if ¬ d.pair.claim ∨ ¬ d.refreshes then d
    else
      let e := d.advanceUp (d.pair.refreshAt + 1000000)
      { e with pair := { e.pair with refreshAt := e.upNs } }
  .next { s with dev := r }

/-- CLAIM_DROP (R451): the refreshes have stopped, and CLAIM_OUT falls within 2 ms of the last one. -/
def execClaimDrop (s : State) : Host.Outcome State Fault Refusal :=
  let d := s.dev
  let r : Device :=
    if ¬ d.pair.claim ∨ d.refreshes then d else (d.advanceUp (d.pair.refreshAt + 2000000)).claimFalls
  .next { s with dev := r }

/-- CLAIM_SAMPLE (R455). -/
def execClaimSample (level : Bool) (s : State) : Host.Outcome State Fault Refusal :=
  .next { s with dev := s.dev.claimSample level }

/-- CLAIM_CONFLICT (R463): both claims are high for 1 ms without a break. -/
def execClaimConflict (s : State) : Host.Outcome State Fault Refusal :=
  let d := s.dev
  let r : Device :=
    match d.pair.bothAt with
    | none => d
    | some t =>
      if d.pair.claim ∧ d.pair.peerClaim then (d.advanceUp (t + 1000000)).pairStop 3 0x0102 else d
  .next { s with dev := r }

/-- HEARTBEAT (R457). -/
def execHeartbeat (p : PeerPkt) (s : State) : Host.Outcome State Fault Refusal :=
  .next { s with dev := s.dev.heartbeat p }

/-- HB_LOST (R457). -/
def execHbLost (s : State) : Host.Outcome State Fault Refusal :=
  .next { s with dev := s.dev.hbLost }

/-- STATE_MIRROR (R459). -/
def execStateMirror (m : MirrorIn) (s : State) : Host.Outcome State Fault Refusal :=
  .next { s with dev := s.dev.stateMirror m }

/-- FORWARDED_COMMAND (R460). -/
def execForwardedCommand (p : PeerPkt) (reply : Bool) (s : State) : Host.Outcome State Fault Refusal :=
  .next { s with dev := s.dev.forwarded p reply }

/-- REVERT_REQ (R464): MIRROR_OK has held for REVERT_HOLD. -/
def execRevertReq (s : State) : Host.Outcome State Fault Refusal :=
  let d := s.dev
  let r : Device :=
    if ¬ d.mayRevert then d
    else
      let e := d.advanceUp (d.pair.okAt + d.fld PAIR_CFG 0 10 * 1000000000)
      if e.mayRevert then { e with pair := { e.pair with revertReq := true } } else e
  .next { s with dev := r }

/-- RELEASE (R465). -/
def execRelease (s : State) : Host.Outcome State Fault Refusal := .next { s with dev := s.dev.release }

/-- GOVERNOR_SAMPLE (R168). -/
def execGovernorSample (k : Nat) (late : List Nat) (ecc : List (Nat × Nat × Bool)) (sent : Bool) (lat : Nat) (s : State) :
    Host.Outcome State Fault Refusal :=
  .next { s with dev := s.dev.sample k late ecc sent lat }

end Sys2Proof.Machine
end

