-- ==== Sys2Proof/Machine/Metering.lean ====
section
/-!
DEFINITION. Machine/Metering.lean: samples and accumulators, ranges, faulted inputs, interval and gap records, the power
summary and the meter commands (chapter 19). The signal chain of R410 gives its results as operands (log entry 5).
-/
namespace Sys2Proof.Machine

/-! ## Feeds -/

/-- A phase without energy. -/
def phaseZero : MeterPhase :=
  { acc := List.replicate 8 0, side := none, window := [], held := (0, 0, 0), sum := 0, noLoad := false }

/-- A feed without energy. -/
def feedZero : MeterFeed :=
  { phases := [phaseZero, phaseZero, phaseZero], closed := List.replicate 8 0, fine := false, blank := 0, due := none,
    low := 0, irms := [], count := 0, reversals := 0, switches := 0, flags := 0 }

/-- Feed `f`. -/
def Device.feed (d : Device) (f : Nat) : MeterFeed := Tab.getD d.mtr.feeds f feedZero

/-- Replaces feed `f`. -/
def Device.setFeed (d : Device) (f : Nat) (x : MeterFeed) : Device :=
  { d with mtr := { d.mtr with feeds := Tab.put d.mtr.feeds f x } }

/-- Adds two lists of numbers place by place. -/
def addLists (a b : List Nat) : List Nat := List.zipWith (· + ·) a b

/-- The feed accumulators: the exact sums of the phases' (R413). -/
def MeterFeed.total (x : MeterFeed) : List Nat := x.phases.foldl (fun a p => addLists a p.acc) (List.replicate 8 0)

/-- The feeds enabled, rising. -/
def Device.feedsOn (d : Device) : List Nat := (List.range 8).filter fun f => d.bit (MTR_FEED_CFG f) 0

/-- The busbar of a feed (R406). -/
def Device.busOf (d : Device) (f : Nat) : Nat := d.fld (MTR_FEED_CFG f) 1 2

/-- Whether a feed is metered: the domain and the block run, the feed is enabled and its busbar is clocked (R407). -/
def Device.metered (d : Device) (f : Nat) : Bool :=
  f < 8 && d.mtr.on && d.bit MTR_CTRL 0 && d.bit (MTR_FEED_CFG f) 0 && d.bit (MTR_BUS_CFG (d.busOf f)) 12

/-- Whether a phase of a feed is faulted: its current input or its voltage input holds one level (R408). -/
def Device.phaseFault (d : Device) (f ph : Nat) : Bool :=
  d.mtr.faults.contains (3 * f + ph) || d.mtr.faults.contains (24 + 3 * d.busOf f + ph)

/-- MTR_FEED_STAT[f] (R425). -/
def Device.feedStat (d : Device) (f : Nat) : Nat :=
  let x := d.feed f
  let nl := (List.range 3).foldl (fun a i => a + b2n (x.phases.getD i phaseZero).noLoad * 2 ^ (2 + i)) 0
  let cf := (List.range 3).foldl (fun a i => a + b2n (d.phaseFault f i) * 2 ^ (5 + i)) 0
  b2n x.fine + 2 * b2n (x.blank ≠ 0) + nl + cf + 2 ^ 8 * holdAt 255 x.reversals

/-- MTR_PMAX[f] (R425): 3 V_FS I_FS,coarse / 2, W. -/
def Device.mtrPmax (d : Device) (f : Nat) : Nat :=
  3 * d.rdN (MTR_CH_FS (24 + 3 * d.busOf f)) * d.rdN (MTR_CH_FS (3 * f)) / 20000

/-- An accumulator in µWh (R412): `s` is 0 to 2 for a phase, 3 for the feed. -/
def Device.mtrAcc (d : Device) (f s k : Nat) : Nat :=
  let x := d.feed f
  (if s = 3 then x.total else (x.phases.getD s phaseZero).acc).getD k 0 / 2 ^ 32 % 2 ^ 64

/-- MTR_STAT (R425). -/
def Device.mtrStat (d : Device) : Nat :=
  b2n (d.mtr.on && d.bit MTR_CTRL 0) + 2 * b2n (d.baseValid 6) + 4 * b2n (d.keyIs 10 0 && d.keyed) +
    8 * b2n d.mtr.retained

/-! ## Samples -/

/-- The energy of one sample in 2^-32 µWh (R412): a power in µW over 125 µs. -/
def sampleEnergy (p : Nat) : Nat := p * 125 * 2 ^ 32 / 3600000000

/-- The quadrant's accumulator of R412. -/
def quadrant (p q : Int) : Nat := if 0 ≤ p then (if 0 ≤ q then 2 else 5) else (if 0 ≤ q then 3 else 4)

/-- Adds to place `k` of a list. -/
def addAt (l : List Nat) (k v : Nat) : List Nat := l.set k (l.getD k 0 + v)

/-- Accumulates a sample of a phase (R412, R414, R415): the phase and whether the sample was a reversal. -/
def phaseSample (x : MeterPhase) (p q : Int) (s : Nat) (nlOn : Bool) (limit : Nat) (hold : Bool) : MeterPhase × Bool :=
  let w := (p :: x.window).take 8000
  let mean := (w.foldl (· + ·) 0).natAbs
  let nl := nlOn && mean < limit * w.length
  let y := { x with window := w, noLoad := nl, sum := x.sum + p, held := if hold then x.held else (p, q, s) }
  if nl then (y, false)
  else
    let imp := decide (0 ≤ p)
    let acc := addAt (addAt (addAt x.acc (if imp then 0 else 1) (sampleEnergy p.natAbs)) (quadrant p q)
      (sampleEnergy q.natAbs)) (if imp then 6 else 7) (sampleEnergy s)
    let rev := p ≠ 0 && (match x.side with | some b => b != imp | none => false)
    ({ y with acc := acc, side := if p = 0 then x.side else some imp }, rev)

/-- What a phase's sample is: zero while its input is faulted, the held values during a blank (R408, R416). -/
def Device.phaseIn (d : Device) (f i : Nat) (x : MeterPhase) (m : MeterSample) (blank : Bool) : Int × Int × Nat :=
  if d.phaseFault f i then (0, 0, 0) else if blank then x.held else (m.p, m.q, m.s)

/-- The range logic of R416 at a sample. -/
def Device.rangeLogic (d : Device) (f : Nat) (x : MeterFeed) (irms peak : Nat) : MeterFeed :=
  let fs := d.rdN (MTR_CH_FS (3 * f)) * 10000
  let fsf := d.rdN (MTR_CH_FSF (3 * f)) * 10000
  let w := (irms :: x.irms).take 8000
  let low := if irms * 100 < 8 * fs then x.low + 1 else 0
  let y := { x with irms := w, low := low }
  if ¬ d.bit (MTR_FEED_CFG f) 3 then y
  else if x.fine ∧ (10 * fs * w.length < w.foldl (· + ·) 0 * 100 ∨ 90 * fsf < peak * 100) then { y with due := some false }
  else if ¬ x.fine ∧ 8000 ≤ low then { y with due := some true }
  else y

/-- METER_SAMPLE (R412 to R416). -/
def Device.meterSample (d : Device) (f : Nat) (ph : List MeterSample) : Device :=
  if ¬ d.metered f then d
  else
    let x := d.feed f
    let blank := decide (0 < x.blank)
    let limit := d.fld (MTR_FEED_CFG f) 8 8 * d.rdN (MTR_FEED_NOM f) * 100
    let nlOn := d.bit (MTR_FEED_CFG f) 4
    let zero : MeterSample := ⟨0, 0, 0, 0, 0⟩
    let rs := (List.range 3).map fun i =>
      let y := x.phases.getD i phaseZero
      let v := d.phaseIn f i y (ph.getD i zero) blank
      phaseSample y v.1 v.2.1 v.2.2 nlOn limit blank
    let nl := rs.any fun r => r.1.noLoad
    let cf := (List.range 3).any fun i => d.phaseFault f i
    let flags := if nl then setBits x.flags 5 1 1 else x.flags
    let flags := if cf then setBits flags 8 1 1 else flags
    let y := { x with
      phases := rs.map (·.1), blank := x.blank - 1, count := x.count + 1, flags := flags
      reversals := x.reversals + (rs.filter (·.2)).length }
    let irms := (ph.take 3).foldl (fun a m => Nat.max a m.irms) 0
    let peak := (ph.take 3).foldl (fun a m => Nat.max a m.peak) 0
    let e := d.setFeed f (d.rangeLogic f y irms peak)
    { e with mtr := { e.mtr with lastRtc := e.rtcNow / 32768 } }

/-- CH_FAULT (R408): an input held for 1 ms is faulted until it toggles again. -/
def Device.chFault (d : Device) (n : Nat) (level held : Bool) : Device :=
  if 36 ≤ n ∨ ¬ d.mtr.on then d
  else if held then
    if d.mtr.faults.contains n then d
    else
      let e := { d with mtr := { d.mtr with faults := n :: d.mtr.faults } }
      (e.raise MTR_INT_STAT 3).slagB .mtr 0x0101 n (leBytes 1 (b2n level))
  else { d with mtr := { d.mtr with faults := d.mtr.faults.filter (· ≠ n) } }

/-- RANGE_SELf, as a pin. -/
def pinRange (f : Nat) : Nat := 16 + f

/-- RANGE_SWITCH (R416): at a sample boundary; a switch to fine waits for a blank to end; with AUTO 0 the range is
FINE's. -/
def Device.rangeSwitch (d : Device) (f : Nat) : Device :=
  let x := d.feed f
  let cfgFine := d.bit (MTR_FEED_CFG f) 5
  let want : Option Bool :=
    if d.bit (MTR_FEED_CFG f) 3 then x.due else if x.fine = cfgFine then none else some cfgFine
  match want with
  | none => d
  | some fine =>
    if ¬ d.metered f ∨ (fine ∧ 0 < x.blank) then d
    else
      let y := { x with
        fine := fine, blank := 32, due := none, low := 0, switches := x.switches + 1, flags := setBits x.flags 4 1 1 }
      ((d.setFeed f y).raise MTR_INT_STAT 4).setPin (pinRange f) (b2n fine)

/-! ## TB6 -/

/-- TB6 time since the TB0 epoch, ns (R390). -/
def Device.tb6Ns (d : Device) : Nat :=
  let b := d.base 6
  if b.master = 3 ∧ b.joining.isNone then ((d.tb0 : Int) + b.ofs).toNat else b.acc / 2 ^ 32

/-- TB6 seconds. -/
def Device.tb6Sec (d : Device) : Nat := d.tb6Ns / 1000000000

/-- TB6 is in holdover. -/
def Device.tb6Hold (d : Device) : Bool := (d.base 6).hold || ((d.base 6).master = 3 && (d.base 0).hold)

/-- Lets time pass until a TB6 second. -/
def Device.advanceTb6 (d : Device) (t : Nat) : Device := d.advanceTo (d.tb0 + (t * 1000000000 - d.tb6Ns))

/-- The first instant from `a` on at which an interval closes (R417). -/
def closeFrom (len : Nat) (align : Int) (a : Nat) : Nat :=
  let l := 60 * (if len = 0 then 1 else len)
  let r := (((a : Int) + align) % (l : Int)).toNat
  if r = 0 then a else a + (l - r)

/-! ## Records -/

/-- The ring's address of a record (R418). -/
def Device.ringAddr (d : Device) (seq : Nat) : Nat :=
  d.rdN MTR_RING_BASE * 256 + seq % (if d.fld MTR_RING_LEN 0 17 = 0 then 1 else d.fld MTR_RING_LEN 0 17) * 128

/-- Writes one record (R418, R420): the next sequence, the signature or UNSIGNED, the ring, and queue 5 of every
partition that holds the meter-read right. `mk` gives bytes 0-63 from the flags and the sequence. -/
def Device.meterRecord (d : Device) (flags tag : Nat) (mk : Nat → Nat → Bytes) : Device :=
  let seq := (d.rdN MTR_SEQ + 1) % 2 ^ 32
  let d := d.wrN MTR_SEQ seq
  let (st, d) := d.useKey 10 0 tag
  let signed := st = stDone
  let d := d.raiseIf (!signed) MTR_INT_STAT 2
  let body := mk (if signed then flags else setBits flags 2 1 1) seq
  let (sig, d) := if signed then d.drawBytes 64 else (zeros 64, d)
  let rec_ := padTo 64 body ++ sig
  let d := d.memWrite (d.ringAddr seq) rec_ false
  d.forEach [0, 1, 2, 3] fun p e =>
    if e.right p rMeter then e.hwPush (16 * p + 5) (packetBytes (0xF000 + 0xB1) 0xFFFF 0 rec_) else e

/-- Bytes 0 to 63 of an INTERVAL record (R419). -/
def intervalBytes (f sec span : Nat) (x : MeterFeed) (flags seq : Nat) : Bytes :=
  leBytes 1 0xB1 ++ leBytes 1 (4 * f) ++ leBytes 2 flags ++ leBytes 4 seq ++ leBytes 4 sec ++ leBytes 2 span ++
    leBytes 1 (holdAt 255 x.reversals) ++ leBytes 1 (holdAt 255 x.switches) ++
    (x.total.map fun a => leBytes 6 (a / 2 ^ 32 / 1000)).flatten

/-- Saves the metering data to flash (R421). -/
def Device.meterSave (d : Device) : Device :=
  ({ d with mtr := { d.mtr with saved := some (d.tb6Sec, d.mtr.feeds) } }).wrN MTR_SAVE_S d.tb6Sec

/-- INTERVAL_CLOSE (R417, R418, R421). -/
def Device.intervalClose (d : Device) (tags : List Nat) : Device :=
  if ¬ d.baseValid 6 ∨ ¬ d.mtr.on ∨ ¬ d.bit MTR_CTRL 0 then d
  else
    let last := d.mtr.lastClose.getD 0
    let t := closeFrom d.mtr.len d.mtr.align (Nat.max (last + 1) d.tb6Sec)
    let d := d.advanceTb6 t
    let span := holdAt 0xFFFF ((t - last) / 60)
    let common := 2 * b2n d.mtr.partial_ + 64 * b2n d.tb6Hold
    let fs := d.feedsOn
    let e := d.forEach (List.zip fs (List.range 8)) fun fi x =>
      let v := x.feed fi.1
      let flags := Nat.lor (Nat.lor v.flags common) (b2n (v.reversals ≠ 0))
      let x := x.meterRecord flags (tags.getD fi.2 0) (intervalBytes fi.1 t span v)
      x.setFeed fi.1 { v with closed := v.total, reversals := 0, switches := 0, flags := 0 }
    let len := e.fld MTR_INTERVAL 0 6
    let align := toSigned 32 (e.rdN MTR_ALIGN)
    let next := closeFrom len align (t + 1)
    let e := { e with mtr := { e.mtr with
      lastClose := some t, len := len, align := align, partial_ := decide (next - t < 60 * len) } }
    (e.meterSave).raise MTR_INT_STAT 0

/-- Bytes 0 to 63 of a GAP record (R419, R422). -/
def gapBytes (f sec lastSave restart bound flags seq : Nat) : Bytes :=
  leBytes 1 0xB1 ++ leBytes 1 (1 + 4 * f) ++ leBytes 2 flags ++ leBytes 4 seq ++ leBytes 4 sec ++ leBytes 2 0 ++
    leBytes 1 0 ++ leBytes 1 0 ++ leBytes 4 lastSave ++ leBytes 4 restart ++ leBytes 6 bound

/-- Writes the GAP records of a start once TB6 is valid (R422). -/
def Device.gapRecords (d : Device) (tags : List Nat) : Device :=
  match d.mtr.gap with
  | none => d
  | some (startUp, lastSave, kept, bounded) =>
    if ¬ d.baseValid 6 then d
    else
      let now := d.tb6Sec
      let restart := now - (d.upNs - startUp) / 1000000000
      let fs := d.feedsOn
      let e := d.forEach (List.zip fs (List.range 8)) fun fi x =>
        let bound := if bounded then Nat.min (2 ^ 48 - 1) (ceilDiv (x.mtrPmax fi.1 * (restart - lastSave) * 1000) 3600)
          else 2 ^ 48 - 1
        x.meterRecord (512 * b2n kept) (tags.getD fi.2 0) (gapBytes fi.1 now lastSave restart bound)
      let first := e.mtr.lastClose.isNone
      let e := { e with mtr := { e.mtr with
        gap := none, lastClose := if first then some restart else e.mtr.lastClose
        partial_ := first || e.mtr.partial_ } }
      e.raise MTR_INT_STAT 1

/-- METERING_START (R422): the accumulators continue from VBAT SRAM, or from the flash save, or from 0. -/
def Device.meteringStart (d : Device) (vbat flash : Bool) (tags : List Nat) : Device :=
  let (feeds, last, bounded) : Tab MeterFeed × Nat × Bool :=
    if vbat then (d.mtr.feeds, d.mtr.lastRtc, true)
    else
      match (if flash then d.mtr.saved else none) with
      | some (t, x) => (x, t, true)
      | none => ([], 0, false)
  let fresh (f : Nat) : Nat × MeterFeed :=
    let x := Tab.getD feeds f feedZero
    (f, { x with
      fine := false, blank := 0, due := none, low := 0, irms := [], count := 0, flags := setBits x.flags 3 1 1
      phases := x.phases.map fun p => { p with window := [], sum := 0, noLoad := false } })
  let e := { d with mtr := { d.mtr with
    on := true, feeds := (List.range 8).map fresh, faults := [], gap := some (d.upNs, last, vbat, bounded), retained := vbat
    len := d.fld MTR_INTERVAL 0 6, align := toSigned 32 (d.rdN MTR_ALIGN)
    lastClose := if vbat ∨ bounded then d.mtr.lastClose else none } }
  e.gapRecords tags

/-! ## The power summary -/

/-- POWER_SUMMARY (R423): at the next whole TB6 second. -/
def Device.powerSummary (d : Device) : Device :=
  if ¬ d.baseValid 6 ∨ ¬ d.mtr.on ∨ ¬ d.bit MTR_CTRL 0 then d
  else
    let t := Nat.max (d.mtr.lastSum + 1) d.tb6Sec
    let d := d.advanceTb6 t
    let fs := d.feedsOn
    let mean (e : Device) (f i : Nat) : Int :=
      let x := e.feed f
      if x.count = 0 then 0 else roundDiv (x.phases.getD i phaseZero).sum (x.count * 1000000)
    let body (f : Nat) : Bytes :=
      let x := d.feed f
      let nl := (List.range 3).foldl (fun a i => a + b2n (x.phases.getD i phaseZero).noLoad * 2 ^ (1 + i)) 0
      let cf := (List.range 3).foldl (fun a i => a + b2n (d.phaseFault f i) * 2 ^ (4 + i)) 0
      leBytes 1 f ++ leBytes 1 (b2n x.fine + nl + cf) ++ zeros 2 ++
        ((List.range 3).map fun i => leBytes 4 (ofSigned 32 (mean d f i))).flatten
    let pkt := leBytes 1 0xB2 ++ leBytes 1 fs.length ++ zeros 2 ++ leBytes 4 t ++ (fs.map body).flatten
    let e := d.forEach fs fun f x =>
      let v := x.feed f
      let y := x.forEach [0, 1, 2] fun i z => z.wrN (MTR_P1S f i) (ofSigned 32 (mean x f i))
      y.setFeed f { v with count := 0, phases := v.phases.map fun p => { p with sum := 0 } }
    let e := { e with mtr := { e.mtr with lastSum := t } }
    let ok := e.canPush 69 pkt
    (e.hwPush 69 pkt).raiseIf (!ok) MTR_INT_STAT 5

/-! ## Commands of the partitions -/

/-- Whether a record is in the ring (R418, R424). -/
def Device.inRing (d : Device) (seq : Nat) : Bool :=
  let last := d.rdN MTR_SEQ
  let b := d.memRead (d.ringAddr seq) 8
  1 ≤ seq && seq ≤ last && last < seq + d.fld MTR_RING_LEN 0 17 && uAt b 0 1 = 0xB1 && uAt b 4 4 = seq

/-- METER_READ when it is taken (R424). -/
def Device.meterRead (c : Cmd) (d : Device) : Device :=
  let seq := uAt c.body 0 4
  let n := uAt c.body 4 1
  if n = 0 ∨ 8 < n ∨ uAt c.body 5 3 ≠ 0 then d.answer c stRejected []
  else if ¬ d.inRing seq then d.answer c stNotFound []
  else
    let l := ((List.range n).map (seq + ·)).takeWhile d.inRing
    d.answer c stDone (l.map fun q => d.memRead (d.ringAddr q) 128).flatten

/-- METER_PUBKEY when it is taken (R424): the key that the meter key gives is a free value of the root key and the
generation (log entry 6). -/
def Device.meterPubkey (c : Cmd) (d : Device) : Device :=
  if ¬ d.keyed ∨ ¬ d.keyIs 10 0 then d.answer c stNotFound []
  else d.answer c stDone (padTo 64 (Config.message 0x101 (leBytes 4 d.keys.root ++ leBytes 2 (d.gen 6))))

/-- METER_NOW when it is taken (R424). -/
def Device.meterNow (c : Cmd) (d : Device) : Device :=
  let f := uAt c.body 0 1
  if 8 ≤ f ∨ uAt c.body 1 3 ≠ 0 then d.answer c stRejected []
  else
    d.answer c stDone (leBytes 4 d.tb6Sec ++
      ((List.range 32).map fun i => leBytes 8 (d.mtrAcc f (i / 8) (i % 8))).flatten)

/-! ## Commands -/

/-- METER_SAMPLE (R412). -/
def execMeterSample (f : Nat) (ph : List MeterSample) (s : State) : Host.Outcome State Fault Refusal :=
  .next { s with dev := s.dev.meterSample f ph }

/-- CH_FAULT (R408). -/
def execChFault (n : Nat) (level held : Bool) (s : State) : Host.Outcome State Fault Refusal :=
  .next { s with dev := s.dev.chFault n level held }

/-- RANGE_SWITCH (R416). -/
def execRangeSwitch (f : Nat) (s : State) : Host.Outcome State Fault Refusal :=
  .next { s with dev := s.dev.rangeSwitch f }

/-- INTERVAL_CLOSE (R418). -/
def execIntervalClose (tags : List Nat) (s : State) : Host.Outcome State Fault Refusal :=
  .next { s with dev := s.dev.intervalClose tags }

/-- POWER_SUMMARY (R423). -/
def execPowerSummary (s : State) : Host.Outcome State Fault Refusal := .next { s with dev := s.dev.powerSummary }

/-- METERING_START (R422). -/
def execMeteringStart (vbat flash : Bool) (tags : List Nat) (s : State) : Host.Outcome State Fault Refusal :=
  .next { s with dev := s.dev.meteringStart vbat flash tags }

/-- METER_READ (R424). -/
def execMeterRead (h : HostPkt) (s : State) : Host.Outcome State Fault Refusal :=
  .next { s with dev := s.dev.hostCmd 0x0800 h (withLen 8 (withRight rMeter Device.meterRead)) }

/-- METER_PUBKEY (R424). -/
def execMeterPubkey (h : HostPkt) (s : State) : Host.Outcome State Fault Refusal :=
  .next { s with dev := s.dev.hostCmd 0x0801 h (withLen 0 (withRight rMeter Device.meterPubkey)) }

/-- METER_NOW (R424). -/
def execMeterNow (h : HostPkt) (s : State) : Host.Outcome State Fault Refusal :=
  .next { s with dev := s.dev.hostCmd 0x0802 h (withLen 4 (withRight rMeter Device.meterNow)) }

/-- PFAIL_N (R491, R421): PFAIL is set, and the metering data are saved. -/
def execPfailN (s : State) : Host.Outcome State Fault Refusal :=
  let d := s.dev.raise PWR_INT_STAT 0
  .next { s with dev := if d.mtr.on then d.meterSave else d }

end Sys2Proof.Machine
end

