-- ==== Sys2Proof/Machine/Reset.lean ====
section
/-!
DEFINITION. Machine/Reset.lean: the configuration of OTP (R468), images and sets (R473 to R475), and the reset of the
device with what each retention domain keeps through it.
-/
namespace Sys2Proof.Machine

/-! ## OTP (R468) -/

/-- Whether a generation is valid: it was written right and its CRC-32 matches. -/
def otpValid (g : Bytes × Bool) : Bool := g.2 && g.1.length = 64 && uAt g.1 60 4 = crc32 (g.1.take 60)

/-- The generations that are valid, as bits. -/
def Boot.valid (b : Boot) : Nat :=
  ((List.range b.otp.length).zip b.otp).foldl (fun a g => if otpValid g.2 then a + 2 ^ g.1 else a) 0

/-- The highest valid generation. -/
def Boot.highest (b : Boot) : Nat := (((List.range 4).reverse.find? fun g => bitOf b.valid g)).getD 0

/-- The bytes of the active generation. -/
def Boot.rec_ (b : Boot) : Bytes := ((b.otp[b.gen]?).map (·.1)).getD (zeros 64)

/-- A bit of the debug policy, in effect when any valid generation sets it. -/
def Boot.policy (b : Boot) (i : Nat) : Bool := b.otp.any fun g => otpValid g && bitOf (uAt g.1 1 1) i

/-- The boot source; reserved codes read as 2. -/
def Boot.source (b : Boot) : Nat := Nat.min 2 (uAt b.rec_ 0 1)

/-- UNIT_BIND (bit 0) and OWNER_KEY (bit 1). -/
def Boot.flag (b : Boot) (i : Nat) : Bool := bitOf (uAt b.rec_ 2 1) i

/-- OTP_STAT (R487). -/
def Boot.otpStat (b : Boot) : Nat :=
  b.gen % 4 + 4 * (b.valid % 16) + 64 * b.source + 256 * b2n (b.policy 0) + 512 * b2n (b.policy 1) +
    1024 * b2n (b.flag 0) + 2048 * b2n (b.flag 1) + 4096 * (uAt b.rec_ 3 1 % 16)

/-! ## Images and sets (R473 to R475) -/

/-- The version of an image. -/
def imgVer (b : Bytes) : Nat := uAt b 8 4

/-- The compatibility entries of an image in use: kind, minimum and maximum version. -/
def imgCompat (b : Bytes) : List (Nat × Nat × Nat) :=
  ((List.range 8).map fun i => (uAt b (40 + 12 * i) 1, uAt b (44 + 12 * i) 4, uAt b (48 + 12 * i) 4)).filter (·.1 ≠ 0)

/-- Whether a header holds no reserved encoding (R473). -/
def headerOk (b : Bytes) (kind : Nat) : Bool :=
  let fl := uAt b 6 1
  512 ≤ b.length && b.take 4 = [0x4E#8, 0x5A#8, 0x49#8, 0x4D#8] && uAt b 4 1 = kind && uAt b 5 1 = 1 && fl < 4 &&
    uAt b 7 1 = 0 && uAt b 16 2 ≤ uAt b 18 2 && (bitOf fl 0 || allZero (sliceB b 20 12)) &&
    uAt b 32 4 = b.length - 512 && uAt b 36 4 = 0 &&
    (List.range 8).all (fun i => uAt b (40 + 12 * i) 1 ≤ 5 && uAt b (41 + 12 * i) 3 = 0) &&
    (bitOf fl 1 || allZero (sliceB b 280 96)) && allZero (sliceB b 376 136)

/-- Whether an image passes R474; `good` lists the kinds whose signatures and body hash verify (log entry 6). -/
def Device.imageOk (d : Device) (kind : Nat) (b : Bytes) (good : List Nat) : Bool :=
  let fl := uAt b 6 1
  let st := d.fld OTP_STEPPING 0 16
  headerOk b kind && good.contains kind && (!d.boot.flag 1 || bitOf fl 1) && uAt b 12 4 = d.rdN OTP_FAMILY &&
    uAt b 16 2 ≤ st && st ≤ uAt b 18 2 &&
    (!bitOf fl 0 || sliceB b 20 12 = leBytes 4 (d.rdN OTP_UNIT_ID0) ++ leBytes 4 (d.rdN OTP_UNIT_ID1) ++
      leBytes 4 (d.rdN OTP_UNIT_ID2)) &&
    (!d.boot.flag 0 || bitOf fl 0)

/-- Whether a set passes R475. -/
def Device.setOk (d : Device) (s : Tab Bytes) (good : List Nat) : Bool :=
  [1, 2, 3, 4].all (fun k => (Tab.find s k).isSome) && s.all (fun e => 1 ≤ e.1 && e.1 ≤ 5 && d.imageOk e.1 e.2 good) &&
    s.all fun e => (imgCompat e.2).all fun c =>
      match Tab.find s c.1 with
      | some b => c.2.1 ≤ imgVer b && imgVer b ≤ c.2.2
      | none => c.1 = 5

/-! ## The reset of the device -/

/-- The registers of a block at some offsets. -/
def keepRegs (t : Tab Word) (l : List Nat) : Tab Word := Tab.keep t fun o _ => l.contains o

/-- The newest profile accepted, whether in effect or due: the warden stores each accepted profile (R59). -/
def newest {α : Type} (cur : Option α) (next : Tab α) : Option α :=
  match next.reverse with | e :: _ => some e.2 | [] => cur

/-- The registers through a reset: factory data and the cause, the retained counters, and, unless PD1 lost its
power or HIBERNATE was entered, the scratch registers (R513, R524). -/
def Device.regsKept (d : Device) (pd1 scratch : Bool) : RegFile :=
  let r := d.regs
  { RegFile.reset with
    otp := r.otp, dbg := r.dbg, pwr := keepRegs r.pwr [PWR_CAUSE.off], tmp := keepRegs r.tmp [TMP_STAT.off]
    mtr := keepRegs r.mtr [MTR_SEQ.off, MTR_SAVE_S.off]
    sys := if scratch then keepRegs r.sys [0x00, 0x10, 0x14, 0x18, 0x1C] else keepRegs r.sys [0x00]
    err := if pd1 then keepRegs r.err [ERR_TRANSIENT.off, ERR_LASTING.off, ERR_OVERWRITE.off] else [] }

/-- Every output pin goes to its reset level; PWR_OK_OUT follows the supply. -/
def Device.pinsReset (d : Device) (old : Tab Nat) : Device :=
  ({ d with pins := old }).forEach old fun p e =>
    if p.1 = pinPwrOk then e else e.setPin p.1 (if p.1 = pinHsIrq then 1 else 0)

/-- The device after a reset (R490, R513, R545): everything at its reset value but what VBAT SRAM, OTP, flash and, while
VIN stays, PD1 keep. `pd1` says that PD1 kept its power, `scratch` that SYS_SCRATCH is kept. Contents of memory are
lost (log entry 30). -/
def Device.reboot (d : Device) (cause : Nat) (pd1 scratch : Bool) : Device :=
  let r := Device.reset
  let b := d.boot
  let stored := newest d.cor.prof d.cor.next
  let sprof := newest d.slv.prof d.slv.next
  let aprof := newest d.alo.prof d.alo.next
  let fcfg := match newest none d.flt.cfgNext with | some c => c | none => d.flt.cfg
  let log := if pd1 then { d.log with picks := [] } else r.log
  let mons := if pd1 then d.age.mons else []
  let pair := { r.pair with away := d.pair.away, bound := d.pair.bound, peerClaim := d.pair.peerClaim }
  let raw := d.stp.raw
  let e := { r with
    regs := d.regsKept pd1 scratch
    tim := { r.tim with up := d.tim.up }
    gns := { r.gns with stored := d.gns.stored }
    cor := { r.cor with prof := stored }
    slv := { r.slv with prof := sprof }
    flt := { r.flt with cfg := fcfg, cfgSet := d.flt.cfgSet || !d.flt.cfgNext.isEmpty }
    alo := { r.alo with prof := aprof }
    log := log
    keys := { d.keys with slots := [] }
    tmp := d.tmp
    hst := { r.hst with parts := d.hst.parts, link := d.hst.link }
    stp := { r.stp with raw := raw, rawAt := d.stp.rawAt }
    pair := pair
    mtr := { d.mtr with on := false }
    boot := { b with
      runKg := false, recovery := false, warden := false, holder := 0, stage := [], restart := false, sess := none
      nonce := false, baud := 0, dbgOpen := false }
    pwr := { r.pwr with off := d.pwr.off, held := d.pwr.held, wakeIn := d.pwr.wakeIn }
    age := { r.age with mons := mons, saved := d.age.saved, drift := d.age.drift }
    out := d.out, bus := d.bus, freeIx := d.freeIx }
  (e.pinsReset d.pins).wfld PWR_CAUSE 0 3 cause

/-- A device reset (PWR_CAUSE 5). -/
def Device.reset5 (d : Device) : Device := d.reboot 5 true true

/-- JTAG_INSTRUCTION (R485): `ins` is 0 BYPASS, 1 IDCODE, 2 SAMPLE/PRELOAD, 3 EXTEST, 4 debug access. IDCODE shifts out
the value of DBG_IDCODE. SAMPLE/PRELOAD changes nothing of the device. EXTEST and debug access under an open
authorisation are the debug unit's own, and the spec does not say what they do. -/
def execJtagInstruction (ins : Nat) (s : State) : Host.Outcome State Fault Refusal :=
  let d := s.dev
  if ins = 1 then .next { s with dev := d.send .jtag 0 1 (leBytes 4 (d.rdN DBG_IDCODE)) }
  else if ins ≤ 2 ∨ ¬ d.boot.dbgOpen ∨ d.boot.policy 0 then .next s
  else .fault .debugAccess

end Sys2Proof.Machine
end

