-- ==== Sys2Proof/Machine/Power.lean ====
section
/-!
DEFINITION. Machine/Power.lean: supplies, device states and wake sources, the resets of the device, the watchdog, margin
monitors, the trend, the trim and the step-down (chapter 23), and the end of an admission.
-/
namespace Sys2Proof.Machine

/-! ## Device states (R492 to R495) -/

/-- PWR_STATE.CURRENT: 0 RUN, 1 IDLE, 2 DOZE, 3 HIBERNATE. -/
def Device.pstate (d : Device) : Nat := d.fld PWR_STATE 4 3

/-- PWR_DOM in a device state (R492). -/
def domains (st : Nat) : Nat := if st ≤ 1 then 0x3FFFF else if st = 2 then 0x1F807 else 3

/-- A request of a state (R493): it waits as TARGET, CHANGING. -/
def Device.request (d : Device) (t : Nat) : Device :=
  let e := (d.wfld PWR_STATE 0 3 t).wbit PWR_STATE 7 (t ≠ d.pstate)
  { e with pwr := { e.pwr with reqHeat := e.heatAbs } }

/-- A write of PWR_STATE (R493, R494). In IDLE and DOZE a write of RUN is a wake source, which PWR_CAUSE names. -/
def Device.stateRequest (d : Device) (value : Nat) : Device :=
  let t := bitsOf value 0 3
  if 4 ≤ t then d.reservedEnc PWR_STATE value
  else
    let e := if t = 0 ∧ d.pstate ≠ 0 then d.wfld PWR_CAUSE 0 3 4 else d
    e.request t

/-- What a state of the device loses (R492): DOZE powers down the hearths and the engines, HIBERNATE everything but the
VBAT and always-on domains. -/
def Device.powerDown (d : Device) (st : Nat) : Device :=
  if st = 2 then
    let lost (a : Nat) : Bool := lies a 1 (hearthBase 0) 0x2000000 || lies a 1 (crucibleBase 0) 0x1000000
    let mem := { d.mem with bytes := Tab.keep d.mem.bytes fun a _ => !lost a }
    let rsv := { d.rsv with ents := [], holds := [], done := [], cur := [], waits := [] }
    let e := { d with
      mem := mem, rsv := rsv, gov := Gov.reset, fab := { d.fab with anvils := [], adm := none } }
    (e.wbit FAB_STAT 2 false).wrN FAB_MARGIN_REQ 0
  else if st = 3 then
    let e := d.reboot (d.fld PWR_CAUSE 0 3) true false
    { e with regs := { e.regs with pwr := keepRegs d.regs.pwr [PWR_WAKE.off, PWR_ALARM.off, PWR_CAUSE.off] } }
  else d

/-- Powers the hearths that FAB_CTRL.HEARTH_EN enables, in RUN and IDLE; the memories of the others are lost (R236, R492). -/
def Device.hearthPower (d : Device) : Device :=
  let on := if d.pstate ≤ 1 then d.fld FAB_CTRL 8 8 else 0
  let lost (a : Nat) : Bool := (List.range 8).any fun h =>
    !bitOf on h && (lies a 1 (hearthBase h) 0x400000 || lies a 1 (crucibleBase (8 * h)) 0x200000)
  let mem := { d.mem with bytes := Tab.keep d.mem.bytes fun a _ => !lost a }
  (({ d with mem := mem }).wfld FAB_STAT 8 8 on).wfld PWR_DOM 3 8 on

/-- Whether a wake source of a state is active while the device enters it (R494, R495). -/
def Device.wakeActive (d : Device) (st : Nat) : Bool :=
  (d.pwr.wakeIn && d.bit PWR_WAKE 0) || (st = 3 && d.bit PWR_WAKE 1 && d.rdN PWR_ALARM ≤ d.rtcNow / 32768)

/-- A requested state takes effect (R493, R495): at a heat boundary while heats run. -/
def Device.stateChange (d : Device) : Device :=
  let t := d.fld PWR_STATE 0 3
  if ¬ d.bit PWR_STATE 7 ∨ (d.tim.heats ∧ d.heatAbs ≤ d.pwr.reqHeat) then d
  else
    let was := d.pstate
    let e := if was = 0 then d.latchCause 8 else d
    if was < t ∧ e.wakeActive t then
      ((e.wfld PWR_STATE 0 3 was).wbit PWR_STATE 7 false).raise PWR_INT_STAT 1
    else
      let e := if was < t then e.powerDown t else e
      let e := ((e.wfld PWR_STATE 0 3 t).wfld PWR_STATE 4 3 t).wbit PWR_STATE 7 false
      let e := ((e.wrN PWR_DOM (domains t)).hearthPower).raise PWR_INT_STAT 2
      if t = 0 ∧ was = 2 then e.admitStart [0, 1, 2, 3] false else e

/-- The device wakes from HIBERNATE: a start follows (R476, R494). -/
def Device.wakeStart (d : Device) (cause : Nat) : Device :=
  let e := ((d.wfld PWR_STATE 0 8 0).wfld PWR_CAUSE 0 3 cause).wrN PWR_DOM 0x3FFFF
  { e with pwr := { e.pwr with started := false, starting := true } }

/-- WAKE_IN takes a level (R494). -/
def Device.wake (d : Device) (level : Bool) : Device :=
  let e := { d with pwr := { d.pwr with wakeIn := level } }
  if ¬ level ∨ ¬ e.bit PWR_WAKE 0 then e
  else if e.pstate = 3 then e.wakeStart 2
  else if e.pstate = 0 then e
  else (e.wfld PWR_CAUSE 0 3 2).request 0

/-! ## Margin monitors, trend and trim (R499 to R504) -/

/-- The nominal voltage of a rung, mV (R499). -/
def rungMv (r : Nat) : Nat := [760, 690, 620, 550].getD r 760

/-- Sets the core set point of the running rung: nominal and trim, at most 0.80 V (R499). -/
def Device.setVcore (d : Device) : Device :=
  d.wrN PWR_VCORE (holdAt 800 (rungMv d.rung + 5 * d.fld (AGE_TRIM d.rung) 0 4))

/-- Whether a monitor takes readings (R500). -/
def Device.monitorOn (d : Device) (m : Nat) : Bool := if m < 64 then !d.fenced m && d.pstate ≤ 1 else m < 96

/-- Enters a value into a list of minima, newest first, of at most `n` periods. -/
def noteMin (l : List (Nat × Int)) (p : Nat) (v : Int) (n : Nat) : List (Nat × Int) :=
  match l with
  | x :: r => if x.1 = p then (p, min x.2 v) :: r else ((p, v) :: x :: r).take n
  | [] => [(p, v)]

/-- A monitor's reading (R500, R501): an hourly minimum that falls below ALARM_PS starts a trend at once. -/
def Device.readMonitor (d : Device) (m : Nat) (v : Int) : Device :=
  let x := Tab.getD d.age.mons m ⟨0, [], [], 0⟩
  let hour := d.upNs / 3600000000000
  let lim : Int := d.fld AGE_CFG 24 8
  let hs := noteMin x.hours hour v 24
  let low (l : List (Nat × Int)) : Bool := l.any fun e => e.1 = hour && decide (e.2 < lim)
  let y := { x with last := v, hours := hs, days := noteMin x.days (d.upNs / 86400000000000) v 90 }
  let ring := low hs && !low x.hours
  let e := { d with age := { d.age with mons := Tab.put d.age.mons m y, alarm := d.age.alarm || ring } }
  e.raiseIf ring AGE_INT_STAT 3

/-- The least-squares line through points, at `at_` (R501). -/
def lineAt (l : List (Nat × Int)) (at_ : Nat) : Frac :=
  let n : Int := l.length
  let sx : Int := l.foldl (fun a e => a + (e.1 : Int)) 0
  let sy : Int := l.foldl (fun a e => a + e.2) 0
  let sxx : Int := l.foldl (fun a e => a + (e.1 : Int) * e.1) 0
  let sxy : Int := l.foldl (fun a e => a + (e.1 : Int) * e.2) 0
  let den := n * sxx - sx * sx
  if den = 0 then ⟨sy, l.length⟩
  else ⟨sy * den + (n * sxy - sx * sy) * (n * at_ - sx), (n * den).toNat⟩

/-- A monitor's prediction (R501): with fewer than 7 daily minima the lowest hourly minimum. -/
def Device.predict (d : Device) (x : Monitor) : Option Int :=
  let today := d.upNs / 86400000000000
  let days := x.days.filter fun e => today < e.1 + d.fld AGE_CFG 0 7
  if days.length < 7 then
    match x.hours with
    | [] => none
    | h :: t => some (t.foldl (fun a e => min a e.2) h.2)
  else some (Frac.round (lineAt days (today + d.fld AGE_CFG 7 7)))

/-- A monitor's prediction at another rung (R501). -/
def Device.predAt (d : Device) (m : Nat) (s : Int) (r : Nat) : Int :=
  let run := d.rung
  let t (x : Nat) : Frac := ⟨1000000, rungMhz x⟩
  let ratio : Frac := ⟨(Config.delayRatio m r : Nat), Config.delayRatio m run⟩
  if r = run then s else Frac.round (Frac.sub (t r) (Frac.mul (Frac.sub (t run) ⟨s, 1⟩) ratio))

/-- Writes AGE_PRED from the monitors' predictions: at each rung the lowest (R501). -/
def Device.setPreds (d : Device) : Device :=
  let ms := d.age.mons.filter fun e => d.monitorOn e.1 && !e.2.hours.isEmpty
  d.forEach [0, 1, 2, 3] fun r e =>
    match ms.map fun x => d.predAt x.1 x.2.pred r with
    | [] => e
    | h :: t => e.wrN (AGE_PRED r) (ofSigned 16 (satSigned 16 (t.foldl min h)))

/-- NO_MARGIN (R503). -/
def Device.noMargin (d : Device) : Device :=
  let e := (d.raise AGE_INT_STAT 2).wbit AGE_STAT 1 false
  e.slagB .age 0x0101 e.rung (leBytes 2 (e.fld (AGE_PRED e.rung) 0 16) ++ leBytes 2 (e.rdN FAB_MARGIN_REQ))

/-- What a prediction leads to (R502, R503): a trim step, the step-down at the cap, or nothing. -/
def Device.decideTrim (d : Device) : Device :=
  let r := d.rung
  let short := toSigned 16 (d.fld (AGE_PRED r) 0 16) < (d.rdN FAB_MARGIN_REQ : Int)
  if ¬ d.bit FAB_STAT 2 ∨ ¬ short then d.wbit AGE_STAT 1 false
  else if d.fld (AGE_TRIM r) 0 4 < d.fld AGE_CFG 14 4 then
    ({ d with age := { d.age with trimDue := true } }).wbit AGE_STAT 1 true
  else if r = 3 then d.noMargin
  else (d.wbit AGE_STAT 1 false).admitStart ((List.range 4).drop (r + 1)) true

/-- The reference drift (R504): the slope of TB0's frequency state over the window's epochs in lock, in 0.001 ppb a
day, once 7 days of lock are fitted. -/
def Device.fitDrift (d : Device) : Device :=
  let today := d.tb0 / 86400000000000
  let l := d.age.drift.filter fun x => today < x.day + d.fld AGE_CFG 0 7
  let d0 := l.foldl (fun a x => Nat.min a x.day) today
  let o (x : DriftDay) : Nat := (x.day - d0) * 864000
  let n := l.foldl (fun a x => a + x.n) 0
  let st := l.foldl (fun a x => a + o x * x.n + x.st) 0
  let stt := l.foldl (fun a x => a + o x * o x * x.n + 2 * o x * x.st + x.stt) 0
  let sf := l.foldl (fun a x => Frac.add a x.sf) ⟨0, 1⟩
  let stf := l.foldl (fun a x => Frac.add a (Frac.add (Frac.mul ⟨o x, 1⟩ x.sf) x.stf)) ⟨0, 1⟩
  let den := n * stt - st * st
  let slope := Frac.mul (Frac.sub (Frac.mul ⟨n, 1⟩ stf) (Frac.mul ⟨st, 1⟩ sf)) ⟨1, den⟩
  let ms : Nat := l.foldl (fun a x => a + x.ms) 0
  if ms < 604800000 ∨ den = 0 then d
  else
    (d.wrN AGE_REF_DRIFT (ofSigned 32 (satSigned 32 (Frac.round (Frac.mul slope ⟨864000 * 10 ^ 12, 1⟩))))).wbit AGE_STAT 0 true

/-- The trend (R501). -/
def Device.trend (d : Device) : Device :=
  let ms := d.age.mons.map fun e =>
    (e.1, if d.monitorOn e.1 then { e.2 with pred := (d.predict e.2).getD e.2.pred } else e.2)
  let held := ms.foldl (fun a e => Nat.max a e.2.days.length) 0
  let e := { d with age := { d.age with
    mons := ms, saved := ms, ran := some d.heatAbs, alarm := false, settle := none, trimDue := false } }
  let e := (e.setPreds.fitDrift).wfld AGE_STAT 2 7 held
  (e.raise AGE_INT_STAT 0).decideTrim

/-- Whether the daily trend, or one that an alarm asked for, is due (R501). -/
def Device.trendDue (d : Device) : Bool :=
  d.bit AGE_CTRL 0 && (d.age.alarm ||
    (d.tim.heats && d.heatAbs % 864000 = d.fld AGE_TREND_AT 0 20 && d.age.ran ≠ some d.heatAbs))

/-- SETTLE_S heats after a trim step (R502): each line is shifted by the change of its monitor's slack. -/
def Device.trimSettle (d : Device) : Device :=
  match d.age.settle with
  | none => d
  | some (h, base) =>
    if d.heatAbs < h + d.fld AGE_CFG 18 6 then d
    else
      let ms := d.age.mons.map fun e => (e.1, { e.2 with pred := e.2.pred + (e.2.last - Tab.getD base e.1 e.2.last) })
      let e := { d with age := { d.age with mons := ms, settle := none } }
      e.setPreds.decideTrim

/-- AGE_SLACK[m] (R507). -/
def Device.ageSlack (d : Device) (m : Nat) : Nat :=
  match Tab.find d.age.mons m with
  | some x => ofSigned 16 (satSigned 16 x.last) + 2 ^ 16 * ofSigned 16 (satSigned 16 x.pred)
  | none => 0

/-! ## The watchdog (R545) -/

/-- Milliseconds since the last service. -/
def Device.wdogMs (d : Device) : Nat := if d.pwr.armed then holdAt 0xFFF ((d.upNs - d.pwr.served) / 1000000) else 0

/-- SYS_WDOG_STAT (R513). -/
def Device.wdogStat (d : Device) : Nat := d.wdogMs + 4096 * b2n d.pwr.armed

/-- A write of SYS_WDOG. -/
def Device.wdogServe (d : Device) (value : Nat) : Device :=
  if value % 65536 = 0x5A5A then { d with pwr := { d.pwr with served := d.upNs } } else d

/-! ## The end of an admission (R298, R303, R477, R503) -/

/-- When no stock variant passes at a start, the set that runs is bad (R477). -/
def Device.setBad (d : Device) : Device :=
  let b := d.boot
  let e := { d with boot := { b with
    activeBad := b.activeBad || !b.runKg, kgBad := b.kgBad || b.runKg, seq := b.seq + 1 } }
  (e.slagB .upd 0x0102 (b2n b.runKg) []).reset5

/-- The checks of an admission end, within 40 ms of their start (R298). -/
def Device.admissionComplete (d : Device) : Device :=
  match d.fab.adm with
  | none => d
  | some a =>
    match d.admitEnds with
    | none => d
    | some (true, e) => e
    | some (false, e) =>
      if a.down then e.noMargin
      else if a.tries = [0, 1, 2, 3] ∧ ¬ d.bit FAB_STAT 2 then e.setBad
      else e

/-! ## Commands -/

/-- RESET_N (R490): low holds the device in reset; from HIBERNATE too it leads to a start (R494). -/
def execResetN (level : Bool) (s : State) : Host.Outcome State Fault Refusal :=
  let d := s.dev
  let r : Device :=
    if level then { d with pwr := { d.pwr with held := false } }
    else if d.pwr.off then { d with pwr := { d.pwr with held := true } }
    else
      let e := d.reboot 1 true true
      { e with pwr := { e.pwr with held := true } }
  .next { s with dev := r }

/-- POWER_ON (R490): PWR_OK_OUT goes high, and the device is released to start. -/
def execPowerOn (s : State) : Host.Outcome State Fault Refusal :=
  let d := s.dev
  let r : Device :=
    if ¬ d.pwr.off then d
    else (({ d with pwr := { d.pwr with off := false } }).wrN PWR_DOM 0x3FFFF).setPin pinPwrOk 1
  .next { s with dev := r }

/-- VIN_LOSS (R535): PWR_OK_OUT falls and the device is reset; what VIN alone keeps is lost. -/
def execVinLoss (s : State) : Host.Outcome State Fault Refusal :=
  let d := s.dev
  let e := ({ d with pwr := { d.pwr with off := true } }).reboot 0 false false
  .next { s with dev := (e.wrN PWR_DOM 1).setPin pinPwrOk 0 }

/-- SYS_RESET (R513). -/
def execSysReset (value : Nat) (s : State) : Host.Outcome State Fault Refusal :=
  .next { s with dev := if value % 65536 = 0xA5A5 then s.dev.reset5 else s.dev }

/-- SYS_WDOG (R545). -/
def execSysWdog (value : Nat) (s : State) : Host.Outcome State Fault Refusal :=
  .next { s with dev := s.dev.wdogServe value }

/-- WATCHDOG_EXPIRY (R545): 2,000 ms after the last service. -/
def execWatchdogExpiry (s : State) : Host.Outcome State Fault Refusal :=
  let d := s.dev
  let r : Device :=
    if ¬ d.pwr.armed ∨ d.pstate = 3 then d
    else
      let e := d.advanceUp (d.pwr.served + 2000000000)
      (e.slagB .sys 0x0101 noUnit (leBytes 4 ((e.upNs - e.pwr.served) / 1000000))).reset5
  .next { s with dev := r }

/-- STATE_REQUEST (R493). -/
def execStateRequest (value : Nat) (s : State) : Host.Outcome State Fault Refusal :=
  .next { s with dev := s.dev.stateRequest value }

/-- STATE_CHANGE (R493, R495). -/
def execStateChange (s : State) : Host.Outcome State Fault Refusal := .next { s with dev := s.dev.stateChange }

/-- WAKE_IN (R494). -/
def execWakeIn (level : Bool) (s : State) : Host.Outcome State Fault Refusal := .next { s with dev := s.dev.wake level }

/-- RTC_ALARM (R494): the RTC reaches PWR_ALARM in HIBERNATE. -/
def execRtcAlarm (s : State) : Host.Outcome State Fault Refusal :=
  let d := s.dev
  let r : Device :=
    if d.pstate ≠ 3 ∨ ¬ d.bit PWR_WAKE 1 then d
    else
      let left := d.rdN PWR_ALARM * 32768 - d.rtcNow
      (d.advanceUp (d.upNs + ceilDiv (left * 1000000000) 32768)).wakeStart 3
  .next { s with dev := r }

/-- PLL_UNLOCK (R498). -/
def execPllUnlock (pll : Nat) (s : State) : Host.Outcome State Fault Refusal :=
  let d := s.dev
  let r : Device :=
    if pll < 3 ∨ 9 < pll then d
    else
      let e := (d.wbit CLK_STAT pll false).raise CLK_INT_STAT 0
      (e.slagB .clk 0x0101 pll []).reset5
  .next { s with dev := r }

/-- MARGIN_READING (R500): at the next whole second. -/
def execMarginReading (l : List (Nat × Int)) (s : State) : Host.Outcome State Fault Refusal :=
  let d := s.dev
  let r : Device :=
    if ¬ d.bit AGE_CTRL 0 then d
    else
      (d.advanceUp ((d.upNs / 1000000000 + 1) * 1000000000)).forEach l fun x e =>
        if e.monitorOn x.1 then e.readMonitor x.1 x.2 else e
  .next { s with dev := r }

/-- TREND (R501). -/
def execTrend (s : State) : Host.Outcome State Fault Refusal :=
  .next { s with dev := if s.dev.trendDue then s.dev.trend else s.dev }

/-- TREND_NOW (R501). -/
def execTrendNow (s : State) : Host.Outcome State Fault Refusal :=
  .next { s with dev := if s.dev.bit AGE_CTRL 0 then s.dev.trend else s.dev }

/-- TRIM_STEP (R502): at the next stroke start. -/
def execTrimStep (s : State) : Host.Outcome State Fault Refusal :=
  let d := s.dev
  let r : Device :=
    if ¬ d.age.trimDue then d
    else
      let e := d.advanceTo (ceilDiv d.tb0 10000000 * 10000000)
      let t := e.rung
      let e := (e.wfld (AGE_TRIM t) 0 4 (holdAt (e.fld AGE_CFG 14 4) (e.fld (AGE_TRIM t) 0 4 + 1))).setVcore
      let base := e.age.mons.map fun x => (x.1, x.2.last)
      ({ e with age := { e.age with trimDue := false, settle := some (e.heatAbs, base) } }).raise AGE_INT_STAT 1
  .next { s with dev := r }

/-- The write of AGE_CTRL.TRIM_CLEAR (R502): every rung but the running one. -/
def Device.trimClear (d : Device) : Device :=
  d.forEach [0, 1, 2, 3] fun r e => if r = d.rung then e else e.wrN (AGE_TRIM r) 0

/-- TRIM_CLEAR (R502). -/
def execTrimClear (s : State) : Host.Outcome State Fault Refusal := .next { s with dev := s.dev.trimClear }

/-- ADMISSION_COMPLETE (R298). -/
def execAdmissionComplete (s : State) : Host.Outcome State Fault Refusal :=
  .next { s with dev := s.dev.admissionComplete }

/-- VARIANT_START (R298, R222), with the set point of the new rung (R503). -/
def execVariantStart (s : State) : Host.Outcome State Fault Refusal :=
  .next { s with dev := s.dev.variantStart.setVcore }

end Sys2Proof.Machine
end

