-- ==== Sys2Proof/Machine/Staging.lean ====
section
/-!
DEFINITION. Machine/Staging.lean: START_OK (R476), the staging lock and the update commands of hosts and of the service
port (R478 to R480), and the service port's frames and sessions (R482, R483).
-/
namespace Sys2Proof.Machine

/-! ## The service port -/

/-- A Haura frame (R482): kind 1 a response, 2 an event. -/
def haura (kind code req : Nat) (body : Bytes) : Bytes :=
  let f := leBytes 1 0xA5 ++ leBytes 1 kind ++ leBytes 2 body.length ++ leBytes 2 code ++ leBytes 2 req ++ body
  f ++ leBytes 4 (crc32 f)

/-- Whether something serves the service port: SVC_EN is high, and the warden or the recovery ROM runs (R483, R484). -/
def Device.svcUp (d : Device) : Bool :=
  d.boot.svcEn && (d.boot.warden || d.boot.recovery) && !d.pwr.off && !d.pwr.held && d.pstate ≤ 2

/-- Answers a command of the service port: byte 0 of the body holds the status (R482). -/
def Device.svcAnswer (d : Device) (code req st : Nat) (body : Bytes) : Device :=
  d.send .svc 0 code (haura 1 code req (leBytes 1 st ++ body))

/-- The rights of the open service session: in recovery ROM mode only update and provision (R484). -/
def Device.svcRights (d : Device) : Nat :=
  match d.boot.sess with
  | none => 0
  | some x => if d.boot.recovery then x.rights % 4 else x.rights

/-- What a command of the service port or an update command answers: its status, its body, and the device after it. -/
abbrev Ans := Nat × Bytes × Device

/-- The answer of a status alone. -/
def ans (st : Nat) (d : Device) : Ans := (st, [], d)

/-- The device after a command that asked for a restart when no heat runs (R479). -/
def Device.restartNow (d : Device) : Device := if d.boot.restart && !d.running then d.reset5 else d

/-- A command of the service port arrives (R482, R483): the frame counts, the session goes on, a missing right is
DENIED, and `f` says the rest. -/
def Device.svcCmd (d : Device) (code req : Nat) (right : Option Nat) (f : Device → Ans) : Device :=
  if ¬ d.svcUp then d
  else
    let e := d.count SVC_FRAMES
    let sess := e.boot.sess.map fun x => { x with last := e.upNs }
    let e := { e with boot := { e.boot with sess := sess } }
    let may : Bool := match right with | none => true | some r => bitOf e.svcRights r
    if ¬ may then e.svcAnswer code req stDenied []
    else
      let (st, b, x) := f e
      x.svcAnswer code req st b

/-- Closes the service session (R483). -/
def Device.svcClose (d : Device) : Device :=
  if d.boot.sess.isSome then ({ d with boot := { d.boot with sess := none } }).raise SVC_INT_STAT 1 else d

/-- SVC_STAT (R488). -/
def Device.svcStat (d : Device) : Nat :=
  let b := d.boot
  b2n b.svcEn + 2 * b2n b.svcBoot + 4 * b2n b.sess.isSome + 8 * (d.svcRights % 32) + 256 * b2n b.recovery +
    512 * (b.baud % 4) + 2048 * b2n (b.holder = 5)

/-- DBG_STAT (R488). -/
def Device.dbgStat (d : Device) : Nat := b2n d.boot.dbgOpen + 2 * b2n (d.boot.policy 0)

/-! ## START_OK and the boot record -/

/-- The warden writes UPD_CTRL.START_OK (R476): the boot record names the set that ran, and the watchdog arms (R545). -/
def Device.startOk (d : Device) : Device :=
  if ¬ d.boot.warden ∨ ¬ d.pwr.starting then d
  else
    let e := { d with
      boot := { d.boot with failed := 0, lastKg := d.boot.runKg, seq := d.boot.seq + 1 }
      pwr := { d.pwr with armed := true, served := d.upNs, starting := false } }
    let e := e.raise UPD_CTRL 0
    if e.tim.valid then e.admitStart [0, 1, 2, 3] false else e

/-- Whether a variant of the stock schedule passes checks 1 to 11 (R297). -/
def Device.stockPasses (d : Device) : Bool :=
  match d.fab.stock with
  | none => false
  | some b => (List.range 4).any fun r =>
      match d.admStock b r with
      | none => true
      | some (c, _) => bitOf (uAt b 2 1) r && 12 ≤ c

/-- UPD_STAT (R486). -/
def Device.updStat (d : Device) : Nat :=
  let b := d.boot
  b2n b.runKg + 2 * b2n b.staged + 4 * b2n b.activeBad + 8 * b2n b.kgBad + 16 * b2n b.kgPresent + 32 * (b.failed % 4) +
    128 * (b.holder % 8)

/-- UPD_IDLE (R486). -/
def Device.updIdle (d : Device) : Nat :=
  if d.boot.holder = 0 then 0 else holdAt 63 ((d.upNs - d.boot.holderAt) / 1000000000)

/-! ## Staging (R478 to R480). Sources 1 to 4 are the partitions, 5 is the service port. -/

/-- The holder's command is noted. -/
def Device.updTouch (d : Device) (src : Nat) : Device :=
  if d.boot.holder = src then { d with boot := { d.boot with holderAt := d.upNs } } else d

/-- Discards the staging area and releases the lock. -/
def Device.updDrop (d : Device) : Device := { d with boot := { d.boot with stage := [], holder := 0 } }

/-- UPD_CLAIM (R478, R480): a service claim aborts a partition's session. -/
def Device.updClaim (d : Device) (src : Nat) (b : Bytes) : Ans :=
  let h := d.boot.holder
  let take (e : Device) : Device :=
    { e with boot := { e.boot with stage := [], holder := src, holderAt := e.upNs, committer := 0 } }
  if b ≠ [] then ans stRejected d
  else if h = 0 ∨ h = src then ans stDone (take d)
  else if src = 5 then ans stDone (take ((d.updDrop.raise UPD_INT_STAT 1).raise SVC_INT_STAT 3))
  else ans stBusy d

/-- The bytes staged for a kind. -/
def Device.staged (d : Device) (k : Nat) : Bytes := Tab.getD d.boot.stage k []

/-- UPD_DATA (R478): appends to the staged image of a kind. The staging area holds 7 MiB (R470; log entry 30). -/
def Device.updData (d : Device) (src : Nat) (b : Bytes) : Ans :=
  let k := uAt b 0 1
  let data := b.drop 8
  if b.length < 9 ∨ 1032 < b.length then ans stRejected d
  else if d.boot.holder ≠ src then ans stNotFound d
  else
    let e := d.updTouch src
    if k = 0 ∨ 5 < k ∨ uAt b 1 3 ≠ 0 ∨ uAt b 4 4 ≠ (e.staged k).length then ans stRejected e
    else if 7 * 1048576 < e.boot.stage.foldl (fun a x => a + x.2.length) 0 + data.length then ans stNoCapacity e
    else ans stDone { e with boot := { e.boot with stage := Tab.put e.boot.stage k (e.staged k ++ data) } }

/-- The candidate set of a commit (R479): the staged images and, for each kind not staged, the image of the set that
LAST_GOOD names. -/
def Device.candidateSet (d : Device) : Tab Bytes :=
  let base := if d.boot.lastKg then d.boot.known else d.boot.active
  [1, 2, 3, 4, 5].foldl (fun t k =>
    match (Tab.find d.boot.stage k).orElse fun _ => Tab.find base k with
    | some b => Tab.put t k b
    | none => t) []

/-- Forms the candidate set, checks it, and commits it (R479, R484). -/
def Device.commit (d : Device) (src : Nat) (restart : Bool) (good : List Nat) : Ans :=
  let c := d.candidateSet
  if ¬ d.setOk c good then ans stRejected d.updDrop
  else
    let b := d.boot
    let e := { d with boot := { b with
      staged := true, cand := c, seq := b.seq + 1, failed := if b.recovery then 0 else b.failed, stage := []
      holder := 0, committer := src, restart := b.restart || restart } }
    ans stDone (e.raise UPD_INT_STAT 0)

/-- UPD_COMMIT (R478, R479). -/
def Device.updCommit (d : Device) (src : Nat) (b : Bytes) (good : List Nat) : Ans :=
  if b.length ≠ 4 ∨ 1 < uAt b 0 1 ∨ uAt b 1 3 ≠ 0 then ans stRejected d
  else if d.boot.holder ≠ src then ans stNotFound d
  else d.commit src (bitOf (uAt b 0 1) 0) good

/-- UPD_ABORT (R480): after the commit point it is LATE. -/
def Device.updAbort (d : Device) (src : Nat) (b : Bytes) : Ans :=
  if b ≠ [] then ans stRejected d
  else if d.boot.holder = src then ans stAborted (d.updDrop.raise UPD_INT_STAT 1)
  else if d.boot.committer = src ∧ d.boot.staged then ans stLate d
  else ans stNotFound d

/-- UPD_STATUS (R478), 16 bytes: the holder, the KiB staged per kind, STAGED, failed starts (log entry 30). -/
def Device.updStatus (d : Device) (src : Nat) (b : Bytes) : Ans :=
  if b ≠ [] then ans stRejected d
  else
    let kib (k : Nat) : Bytes := leBytes 2 (ceilDiv (d.staged k).length 1024)
    (stDone, leBytes 1 d.boot.holder ++ ([1, 2, 3, 4, 5].map kib).flatten ++ leBytes 1 (b2n d.boot.staged) ++
      leBytes 1 d.boot.failed ++ zeros 3, d.updTouch src)

/-- Whether a body has the length of its update command (R478). -/
def updLen (code n : Nat) : Bool :=
  if code = 0x0A01 then 9 ≤ n && n ≤ 1032 else if code = 0x0A02 then n = 4 else n = 0

/-- An update command as a partition's command packet: it needs the update right. -/
def updHost (f : Device → Nat → Bytes → Ans) (c : Cmd) (d : Device) : Device :=
  if ¬ updLen c.code c.body.length then d.answer c stRejected []
  else
    withRight rUpdate (fun c d =>
      let (st, b, e) := f d (1 + c.part) c.body
      (e.answer c st b).restartNow) c d

/-- An update command from either source (R478). -/
def Device.updCmd (d : Device) (code : Nat) (u : UpdFrom) (f : Device → Nat → Bytes → Ans) : Device :=
  match u with
  | .host h => d.hostCmd code h (updHost f)
  | .svc req body => (d.svcCmd code req (some 0) fun e => f e 5 body).restartNow

/-- An idle lock is released, the staging area is discarded and a fault record written (R478). -/
def Device.lockIdle (d : Device) : Device :=
  if d.boot.holder = 0 then d
  else
    let e := d.advanceUp (d.boot.holderAt + 60000000000)
    ((e.slagB .upd 0x0101 e.boot.holder []).updDrop).raise UPD_INT_STAT 2

/-! ## Commands -/

/-- START_OK (R476): the warden writes it when a variant of the stock schedule passes checks 1 to 11. -/
def execStartOk (s : State) : Host.Outcome State Fault Refusal :=
  .next { s with dev := if s.dev.stockPasses then s.dev.startOk else s.dev }

/-- UPD_CLAIM (R478). -/
def execUpdClaim (u : UpdFrom) (s : State) : Host.Outcome State Fault Refusal :=
  .next { s with dev := s.dev.updCmd 0x0A00 u Device.updClaim }

/-- UPD_DATA (R478). -/
def execUpdData (u : UpdFrom) (s : State) : Host.Outcome State Fault Refusal :=
  .next { s with dev := s.dev.updCmd 0x0A01 u Device.updData }

/-- UPD_COMMIT (R479). -/
def execUpdCommit (u : UpdFrom) (good : List Nat) (s : State) : Host.Outcome State Fault Refusal :=
  .next { s with dev := s.dev.updCmd 0x0A02 u fun d src b => d.updCommit src b good }

/-- UPD_ABORT (R480). -/
def execUpdAbort (u : UpdFrom) (s : State) : Host.Outcome State Fault Refusal :=
  .next { s with dev := s.dev.updCmd 0x0A03 u Device.updAbort }

/-- UPD_STATUS (R478). -/
def execUpdStatus (u : UpdFrom) (s : State) : Host.Outcome State Fault Refusal :=
  .next { s with dev := s.dev.updCmd 0x0A04 u Device.updStatus }

/-- LOCK_IDLE (R478). -/
def execLockIdle (s : State) : Host.Outcome State Fault Refusal := .next { s with dev := s.dev.lockIdle }

end Sys2Proof.Machine
end

