-- ==== Sys2Proof/Machine/Tongs.lean ====
section
/-!
DEFINITION. Machine/Tongs.lean: the DMA engine (R230 to R234, R309): requests, aborts, completions and their records.
-/
namespace Sys2Proof.Machine

/-- A request queue with nothing running. -/
def tqNone : TQueue := ⟨none, [], []⟩

/-- Request queue `q`, 0 to 7. -/
def Device.tq (d : Device) (q : Nat) : TQueue := Tab.getD d.fab.tongs q tqNone

/-- Replaces a request queue. -/
def Device.setTq (d : Device) (q : Nat) (t : TQueue) : Device :=
  { d with fab := { d.fab with tongs := Tab.put d.fab.tongs q t } }

/-- The request in a packet (R230). -/
def treqOf (b : Bytes) : TReq :=
  let b := padTo 32 b
  { op := uAt b 0 1 % 4, cq := uAt b 1 1, tag := uAt b 2 2, len := uAt b 4 4, lp := uAt b 8 8, die := uAt b 16 8
    rows := uAt b 24 2, stride := uAt b 28 4, clean := uAt b 0 1 < 4 && uAt b 26 2 = 0 }

/-- Whether a request is valid (R230, R231). -/
def treqOk (r : TReq) : Bool :=
  let last := r.lp + (r.rows - 1) * r.stride + r.len
  r.clean && r.op < 2 && 16 ≤ r.len && r.len ≤ 1048576 && r.len % 16 = 0 && r.lp % 16 = 0 && r.die % 16 = 0 &&
  1 ≤ r.rows && (r.rows = 1 || (r.stride % 16 = 0 && r.len ≤ r.stride)) &&
  lpBase ≤ r.lp && (if r.rows = 1 then r.lp + r.len else last) ≤ 0x0200000000 &&
  (r.op = 0 || lpSchedule ≤ r.lp) && (memAt r.die (r.len * r.rows)).isSome

/-- Whether an ABORT has nothing but its tag and completion queue (R230). -/
def abortOk (r : TReq) : Bool :=
  r.clean && r.len = 0 && r.lp = 0 && r.die = 0 && r.rows = 0 && r.stride = 0

/-- The LPDDR address of a byte of a transfer. -/
def TReq.lpAt (r : TReq) (k : Nat) : Nat := r.lp + k / r.len * r.stride + k % r.len

/-- Whether a request touches a retired page (R234). -/
def Device.badPage (d : Device) (r : TReq) : Bool :=
  d.fab.pages.any fun p => (List.range r.rows).any fun i => spansMeet (r.lp + i * r.stride) r.len (p * 4096) 4096

/-- The completion record of R232. -/
def Device.tongsRecord (d : Device) (r : TReq) (status moved : Nat) : Bytes :=
  leBytes 1 0x82 ++ leBytes 1 status ++ leBytes 2 r.tag ++ leBytes 4 (holdAt 0xFFFFFFFF moved) ++ leBytes 4 d.heat ++ zeros 4

/-- Whether a completion queue's producer engine is the tongs (R309). -/
def Device.tongsQueue (d : Device) (n : Nat) : Bool := 64 ≤ n && n ≤ 127 && d.fld (QUE_CFG n) 8 8 = 0x81

/-- Posts a record, or keeps it while its queue holds no credit (R231). -/
def Device.postRecord (d : Device) (q n : Nat) (b : Bytes) : Device :=
  if (d.q n).on ∧ queueCredit (d.q n) = 0 ∨ (d.tq q).recs ≠ [] then
    d.setTq q { d.tq q with recs := (d.tq q).recs ++ [(n, b)] }
  else d.hwPush n b

/-- Ends a request with a record. -/
def Device.tongsEnd (d : Device) (q : Nat) (r : TReq) (status moved : Nat) : Device :=
  (d.postRecord q r.cq (d.tongsRecord r status moved)).raiseIf (status = stFaulted) FAB_INT_STAT 3

/-- The visible packets of a request queue that were not served ahead, oldest first. -/
def Device.tongsWaiting (d : Device) (q : Nat) : List Packet :=
  let x := d.q (128 + q)
  (x.pkts.filter fun p => x.pos < p.start + p.len).filter fun p => !(d.tq q).served.contains p.start

/-- Takes the packets at the head of a request queue that were served already. -/
def Device.dropServed (d : Device) (q : Nat) : Device :=
  let n := 128 + q
  d.forEach (List.range (d.tq q).served.length) fun _ e =>
    match ((e.q n).pkts.find? fun p => (e.q n).pos < p.start + p.len) with
    | some p =>
      if (e.tq q).served.contains p.start then
        (e.hwPop n).2.setTq q { e.tq q with served := (e.tq q).served.filter (· ≠ p.start) }
      else e
    | none => e

/-- Whether a request waits for a hearth in a power-gate window (R236). -/
def Device.waitsGate (d : Device) (r : TReq) : Bool :=
  (List.range 8).any fun h => d.bit FAB_STAT (16 + h) && touchesHearth h r.die (r.len * r.rows)

/-- TONGS_REQUEST (R231, R234, R309). -/
def Device.tongsRequest (d : Device) (q : Nat) : Device :=
  let d := d.dropServed q
  let t := d.tq q
  let wait := d.tongsWaiting q
  if t.run.isSome ∨ t.recs ≠ [] ∨ (wait.any fun p => (treqOf p.data).op = 2) then d
  else match wait with
    | [] => d
    | p :: _ =>
      let r := treqOf p.data
      let ok := treqOk r
      if ok ∧ p.bad = [] ∧ d.waitsGate r then d
      else
        let e := (d.hwPop (128 + q)).2
        if p.bad ≠ [] then e
        else if ¬ d.tongsQueue r.cq then e.slagB .que 0x0103 (128 + q) (leBytes 1 r.cq ++ zeros 1 ++ leBytes 2 r.tag)
        else if ¬ ok then e.tongsEnd q r stRejected 0
        else if d.badPage r then e.tongsEnd q r stFaulted 0
        else e.setTq q { e.tq q with run := some r }

/-- A waiting request that an ABORT names: the request queue and its packet. -/
def Device.abortTarget (d : Device) (tag cq : Nat) : Option (Nat × Packet) :=
  ((List.range 8).flatMap fun q => (d.tongsWaiting q).map fun p => (q, p)).find? fun x =>
    let r := treqOf x.2.data
    r.op ≠ 2 && r.tag = tag && r.cq = cq

/-- TONGS_ABORT (R233): the oldest ABORT of a request queue, ahead of every request that waits there. -/
def Device.tongsAbort (d : Device) (q : Nat) (begun : Bool) : Device :=
  match (d.tongsWaiting q).find? fun p => (treqOf p.data).op = 2 with
  | none => d
  | some p =>
    let r := treqOf p.data
    let e := d.setTq q { d.tq q with served := (d.tq q).served ++ [p.start] }
    if ¬ d.tongsQueue r.cq then
      (e.slagB .que 0x0103 (128 + q) (leBytes 1 r.cq ++ zeros 1 ++ leBytes 2 r.tag)).dropServed q
    else if ¬ abortOk r then (e.tongsEnd q r stRejected 0).dropServed q
    else
      let hit := d.fab.tongs.find? fun x => match x.2.run with | some y => y.tag = r.tag && y.cq = r.cq | none => false
      let e : Device := match hit with
        | some (k, x) =>
          if begun then e.tongsEnd q r stLate 0
          else
            let y := x.run.getD r
            let e := (e.setTq k { e.tq k with run := none }).tongsEnd k y stAborted 0
            e.tongsEnd q r stDone 0
        | none =>
          match e.abortTarget r.tag r.cq with
          | some (k, w) =>
            let e := (e.setTq k { e.tq k with served := (e.tq k).served ++ [w.start] }).tongsEnd k (treqOf w.data) stAborted 0
            e.tongsEnd q r stDone 0
          | none => e.tongsEnd q r stNotFound 0
      e.dropServed q

/-- Moves bytes of a transfer, word by word with their poison marks. -/
def Device.moveBytes (d : Device) (r : TReq) (n : Nat) : Device :=
  d.forEach (List.range (n / 8)) fun k e =>
    let lp := r.lpAt (8 * k)
    let die := r.die + 8 * k
    if r.op = 0 then e.memWrite die (e.memRead lp 8) (e.memBad lp 8) else e.memWrite lp (e.memRead die 8) (e.memBad die 8)

/-- Retires the page of an LPDDR address (R234). -/
def Device.retirePage (d : Device) (a : Nat) : Device :=
  if d.fab.pages.contains (a / 4096) then d
  else if 64 ≤ d.fab.pages.length then d.raise FAB_INT_STAT 4
  else { d with fab := { d.fab with pages := d.fab.pages ++ [a / 4096] } }

/-- TONGS_COMPLETION (R232, R234): the running transfer ends, or a record that was kept is posted. -/
def Device.tongsComplete (d : Device) (q ecc at_ : Nat) : Device :=
  let t := d.tq q
  match t.run with
  | none =>
    match t.recs with
    | (n, b) :: rest =>
      if (d.q n).on ∧ queueCredit (d.q n) = 0 then d else (d.setTq q { t with recs := rest }).hwPush n b
    | [] => d
  | some r =>
    let size := r.len * r.rows
    let e := d.setTq q { t with run := none }
    let lpFault := r.op = 0 && ecc = 3 && at_ < size
    let n := if lpFault then at_ / 16 * 16 else size
    let ctx := leBytes 8 (r.lpAt n) ++ leBytes 2 r.tag ++ leBytes 1 r.cq
    let e := e.doIf (ecc = 2) fun x => x.transient (some FAB_TRANSIENT) 0x0B 0x0102 (128 + q) ctx false
    let e := match ecc, memAt (r.die + at_) 1 with
      | 4, some m => if r.op = 1 ∧ at_ < size then e.lastingMem m (r.die + at_) else e
      | _, _ => e
    let e := e.moveBytes r n
    let e := { e with fab := { e.fab with bytes := e.fab.bytes + n } }
    if lpFault then
      let full := 64 ≤ e.fab.pages.length
      let e := (e.count FAB_LASTING).lasting none 0x0B 0x0102 (128 + q) ctx (!full)
      (e.retirePage (r.lpAt n)).tongsEnd q r stFaulted n
    else
      let e := e.tongsEnd q r stDone n
      match ecc, memAt (r.die + at_) 1 with
      | 4, some (.crucible a) => if r.op = 1 then e.fence a 2 else e
      | _, _ => e

/-- Requests taken and not complete (R239). -/
def Device.tongsStat (d : Device) : Nat :=
  holdAt 0x1FF (d.fab.tongs.map fun e => b2n e.2.run.isSome + e.2.recs.length).sum + d.fab.pages.length * 2 ^ 16

/-- TONGS_REQUEST (R231). -/
def execTongsRequest (q : Nat) (s : State) : Host.Outcome State Fault Refusal :=
  .next { s with dev := if q < 8 then s.dev.tongsRequest q else s.dev }

/-- TONGS_ABORT (R233). -/
def execTongsAbort (q : Nat) (begun : Bool) (s : State) : Host.Outcome State Fault Refusal :=
  .next { s with dev := if q < 8 then s.dev.tongsAbort q begun else s.dev }

/-- TONGS_COMPLETION (R232). -/
def execTongsCompletion (q ecc row : Nat) (s : State) : Host.Outcome State Fault Refusal :=
  .next { s with dev := if q < 8 then s.dev.tongsComplete q ecc row else s.dev }

end Sys2Proof.Machine
end

