-- ==== Sys2Proof/Machine/Registers.lean ====
section
/-!
DEFINITION. Machine/Registers.lean: what a register reads (views of the device's state), what a write of any register
does (R8 to R12), the warden's accesses to the address map (R508 to R512), and the windows of the partitions (R381).
-/
namespace Sys2Proof.Machine

/-! ## What a register reads

A reader is 0 for the warden, or 1 + p for the window of partition p. -/

/-- SYS registers that mirror state (R513). -/
def Device.viewSys (d : Device) (o : Nat) : Option Nat :=
  if o = 0x00 then some (d.fld OTP_STEPPING 0 16 + 2 ^ 16 * d.fld OTP_FAMILY 0 16)
  else if o = 0x04 then
    some (d.pstate + 8 * b2n d.tmp.cinder + 16 * b2n (stopState d.stp) + 32 * b2n d.gate)
  else if o = 0x24 then some d.wdogStat
  else none

/-- KEY registers that mirror state (R446). -/
def Device.viewKey (d : Device) (o : Nat) : Option Nat :=
  if o = 0x04 then some d.keyStat
  else if 0x400 ≤ o then some (d.keyGenWord ((o - 0x400) / 4))
  else if 0x100 ≤ o then some (keySlotWord (d.slot ((o - 0x100) / 4)))
  else none

/-- TMP registers that mirror state (R447). -/
def Device.viewTmp (d : Device) (o : Nat) : Option Nat :=
  if o = 0x08 then some d.tmpStat
  else if o = 0x0C then some d.tmp.count
  else if o = 0x10 then some (d.rtcNow / 32768 % 2 ^ 32)
  else if o = 0x14 then some (d.rtcNow % 32768)
  else if 0x100 ≤ o then
    match d.tmp.log[(o - 0x100) / 0x20]? with
    | some r => some (uAt (tamperBytes r) ((o - 0x100) % 0x20) 4)
    | none => some 0
  else none

/-- A reader's snapshot (R391). -/
def Device.snapOf (d : Device) (w : Nat) : Snap := Tab.getD d.tim.snaps w ⟨0, []⟩

/-- TIM registers that mirror state (R405). -/
def Device.viewTim (d : Device) (w o : Nat) : Option Nat :=
  if o = 0x04 then some d.timStat
  else if o = 0x14 then some (d.snapOf w).heat
  else if 0x20 ≤ o ∧ o < 0x40 then some ((d.snapOf w).ns.getD ((o - 0x20) / 4) 0)
  else if 0x100 ≤ o ∧ o < 0x200 then
    let b := (o - 0x100) / 0x20
    let v := d.base b
    match (o - 0x100) % 0x20 with
    | 0x00 => some (d.baseNs b)
    | 0x04 => some (ofSigned 32 v.rate)
    | 0x0C => some (ofSigned 32 v.ofs)
    | 0x10 => some (v.joining.getD v.master)
    | 0x14 => some (d.bstat b)
    | 0x18 => some (d.holdEstReg b)
    | 0x1C => some (d.holdSReg b)
    | _ => none
  else none

/-- QUE registers that mirror state (R327). -/
def Device.viewQue (d : Device) (o : Nat) : Option Nat :=
  if o = 0 then some d.queStat
  else if 0x1000 ≤ o ∧ o < 0x1400 then some (queBookA (d.q ((o - 0x1000) / 4)))
  else if 0x1400 ≤ o ∧ o < 0x1800 then some (queBookB (d.q ((o - 0x1400) / 4)))
  else if 0x1C00 ≤ o then some (d.q ((o - 0x1C00) / 4)).drops
  else if 0x1800 ≤ o ∧ o < 0x1C00 then
    let n := (o - 0x1800) / 4
    some (queState (d.q n) (d.bit DSP_STAT 9 && d.bit (QUE_CFG n) 24))
  else none

/-- Contexts that hold tasks (R344). -/
def Device.ctxTasks (d : Device) : Nat :=
  d.fab.anvils.foldl (fun n e => n + ([1, 2, 3, 4].filter fun k => (e.2.rset k).task.isSome).length) 0

/-- DSP registers that mirror state (R344). -/
def Device.viewDsp (d : Device) (o : Nat) : Option Nat :=
  if o = 0x0C then some d.bookA
  else if o = 0x10 then some d.bookB
  else if o = 0x14 then some (d.ctxTasks + 2 ^ 9 * b2n (d.bit DSP_STAT 9))
  else if 0x100 ≤ o ∧ o < 0x300 then
    let l := (o - 0x100) / 4
    some ((d.ready l).length + 2 ^ 16 * d.fld (DSP_DEPTH l) 16 13)
  else none

/-- FAB registers that mirror state (R239, R307). -/
def Device.viewFab (d : Device) (o : Nat) : Option Nat :=
  let has (b : Option Bytes) : Nat := match b with | some x => uAt x 2 1 % 16 | none => 0
  if o = 0x28 then some d.tongsStat
  else if o = 0x40C then some (has d.fab.stock + 16 * has d.fab.overlay + 2 ^ 8 * d.fld FAB_ADM_VARIANTS 8 4)
  else if o = 0x42C then some d.fabRemap
  else none

/-- RSV registers that mirror state (R147). -/
def Device.viewRsv (d : Device) (o : Nat) : Option Nat :=
  if o = 0x0C then some d.storeNow
  else if o = 0x10 then some d.rsv.ents.length
  else if o = 0x14 then some (d.rsv.ents.filter fun e => e.2.held).length
  else none

/-- STP registers that mirror state (R218). -/
def Device.viewStp (d : Device) (o : Nat) : Option Nat :=
  if o = 0x08 then some d.stpStat
  else if o = 0x0C then some d.stp.latch
  else if o = 0x10 then some d.stpSealed
  else if 0x30 ≤ o ∧ o < 0x50 then some (d.stpList ((o - 0x30) / 4))
  else if 0x50 ≤ o ∧ o < 0x60 then some (d.liveCtr ((o - 0x50) / 4))
  else none

/-- MAC registers that mirror state (R366). -/
def Device.viewMac (d : Device) (p o : Nat) : Option Nat :=
  if o = 0x04 then some (d.macStat p)
  else if o = 0x2C then some (d.macUsed p)
  else if o = 0x30 then some (d.macChildren p)
  else if 0x100 ≤ o then some (d.macPend p ((o - 0x100) / 4))
  else none

/-- HST registers that mirror state (R385). -/
def Device.viewHst (d : Device) (o : Nat) : Option Nat :=
  if 0x10 ≤ o ∧ o < 0x50 then
    let p := (o - 0x10) / 0x10
    match o % 0x10 with
    | 0 => some (d.hstPart p)
    | 4 => some (d.sess p).heat
    | 8 => some (d.hstCmds p)
    | _ => none
  else none

/-- MTR registers that mirror state (R425). -/
def Device.viewMtr (d : Device) (o : Nat) : Option Nat :=
  if o = 0x04 then some d.mtrStat
  else if 0x100 ≤ o ∧ o < 0x200 ∧ (o - 0x100) % 0x20 = 0x08 then some (d.feedStat ((o - 0x100) / 0x20))
  else if 0x100 ≤ o ∧ o < 0x200 ∧ (o - 0x100) % 0x20 = 0x18 then some (d.mtrPmax ((o - 0x100) / 0x20))
  else if 0x800 ≤ o then
    let x := o - 0x800
    let v := d.mtrAcc (x / 0x100) (x % 0x100 / 0x40) (x % 0x40 / 8)
    some (if x % 8 = 0 then v % 2 ^ 32 else v / 2 ^ 32 % 2 ^ 32)
  else none

/-- The block of a fault record, where a window exposes it (R521). -/
def Device.recShown (d : Device) (p : Nat) (r : FaultRec) : Bool :=
  let b := r.block
  if b = 0x20 ∨ b = 0x17 ∨ b = 0x0C ∨ b = 0x08 ∨ b = 0x09 ∨ b = 0x0B ∨ b = 0x18 then true
  else if b = 0x0F then d.right p rStop
  else if b = 0x0D then d.right p rPlan
  else if b = 0x0E then
    d.right p rPlan && !((r.code = 0x0101 || r.code = 0x0103) && !d.mayRead p r.unit)
  else if b = 0x15 then d.right p rMeter
  else if b = 0x05 then d.right p rUpdate
  else false

/-- A latched record as a reader sees it (R521). -/
def Device.recFor (d : Device) (w : Nat) (r : FaultRec) : FaultRec :=
  if w = 0 ∨ d.recShown (w - 1) r then r else { r with unit := 0xFFFF, ctx := [] }

/-- ERR registers that mirror state (R524). -/
def Device.viewErr (d : Device) (w o : Nat) : Option Nat :=
  if o = 0x04 then some d.log.ring.length
  else if o = 0x08 then some d.log.seq
  else if o = 0x20 then some (d.picker w).seq
  else if o = 0x24 then some (d.picker w).stat
  else if 0x40 ≤ o ∧ o < 0x60 then
    match (d.picker w).data with
    | some r => some (recWord (d.recFor w r) ((o - 0x40) / 4))
    | none => some 0
  else if 0x2000 ≤ o then
    match Tab.find d.log.ring ((o - 0x2000) / 0x20) with
    | some r => some (recWord r ((o - 0x2000) % 0x20 / 4))
    | none => some 0
  else none

/-- The registers that mirror state, by block. -/
def Device.viewOf (d : Device) (w : Nat) (r : Reg) : Option Nat :=
  let o := r.off
  match r.blk with
  | .sys => d.viewSys o
  | .age => if 0x100 ≤ o then some (d.ageSlack ((o - 0x100) / 4)) else none
  | .otp => if o = 0 then some d.boot.otpStat
      else if 0x40 ≤ o then some (uAt d.boot.rec_ (o - 0x40) 4) else none
  | .upd => if o = 4 then some d.updStat else if o = 8 then some d.updIdle else none
  | .key => d.viewKey o
  | .tmp => d.viewTmp o
  | .tim => d.viewTim w o
  | .que => d.viewQue o
  | .dsp => d.viewDsp o
  | .fab => d.viewFab o
  | .gns => if o = 0x3C then some d.refStat else none
  | .rsv => d.viewRsv o
  | .stp => d.viewStp o
  | .mac0 => d.viewMac 0 o
  | .mac1 => d.viewMac 1 o
  | .mac2 => d.viewMac 2 o
  | .mac3 => d.viewMac 3 o
  | .net => if o = 4 then some d.netStat else none
  | .hst => d.viewHst o
  | .mtr => d.viewMtr o
  | .pair => if o = 8 then some d.pairStat else if o = 0x18 then some d.pair.seq else none
  | .err => d.viewErr w o
  | .svc => if o = 0 then some d.svcStat else none
  | .dbg => if o = 0 then some d.dbgStat else none
  | .pwr => none
  | .clk => none
  | .gov => none

/-- What a register reads. -/
def Device.view (d : Device) (w : Nat) (r : Reg) : Nat := (d.viewOf w r).getD (d.rdN r)

/-- The key of a reader's own latch or view of a register. -/
def readerKey (w : Nat) (r : Reg) : Nat := w * 0x1000000 + blkNum r.blk * 0x10000 + r.off

/-- Whether a register is RC (R11). -/
def isRc (r : Reg) : Bool :=
  match findRow r with | some w => w.fields.any fun f => f.acc = .rc | none => false

/-- Whether a register is the low word of a 64-bit value (R12): GNS_REF_X/Y/Z, MAC_EUI and MTR_ACC. -/
def isLow (r : Reg) : Bool :=
  match r.blk with
  | .gns => r.off = 0x20 || r.off = 0x28 || r.off = 0x30
  | .mtr => 0x800 ≤ r.off && r.off % 8 = 0
  | .mac0 | .mac1 | .mac2 | .mac3 => r.off = 0x14
  | _ => false

/-- Whether a register is the high word of a 64-bit value. -/
def isHigh (r : Reg) : Bool := 4 ≤ r.off && isLow ⟨r.blk, r.off - 4⟩

/-- The read of an RC register (R11, R381): the old value, and then `set` alone, what the hardware sets in that cycle;
a window clears its own view only. -/
def Device.rcRead (d : Device) (w : Nat) (r : Reg) (set : Nat) : Nat × Device :=
  if w = 0 then (d.rdN r, d.wrN r set)
  else
    let k := readerKey w r
    ((Tab.getD d.hst.views k 0).toNat,
      { d with hst := { d.hst with views := Tab.put d.hst.views k (BitVec.ofNat 32 set) } })

/-- The read of a low word (R12): the high word is latched. -/
def Device.lowRead (d : Device) (w : Nat) (r : Reg) : Nat × Device :=
  let h : Reg := ⟨r.blk, r.off + 4⟩
  (d.view w r, { d with hiLatch := Tab.put d.hiLatch (readerKey w h) (BitVec.ofNat 32 (d.view w h)) })

/-- The read of a high word: the latched half, once. -/
def Device.highRead (d : Device) (w : Nat) (r : Reg) : Nat × Device :=
  match Tab.find d.hiLatch (readerKey w r) with
  | some v => (v.toNat, { d with hiLatch := Tab.del d.hiLatch (readerKey w r) })
  | none => (d.view w r, d)

/-- The read of a register that its block names. -/
def Device.regRead (d : Device) (w : Nat) (r : Reg) (set : Nat) : Nat × Device :=
  if isRc r then d.rcRead w r set
  else if isLow r then d.lowRead w r
  else if isHigh r then d.highRead w r
  else (d.view w r, d)

/-! ## What a write does -/

/-- The LOCK bit of a field that RWL guards (R11). -/
def lockOf (r : Reg) : Option (Reg × Nat) :=
  match r.blk with
  | .rsv => some (RSV_CTRL, 2)
  | .gov => some (GOV_CTRL, 1)
  | .stp => some (STP_CTRL, 4)
  | .fab => some (if r.off = 0x400 then (FAB_ADM_CTRL, 3) else (FAB_CTRL, 1))
  | .dsp => some (DSP_CTRL, 1)
  | .mac0 => some (MAC_CTRL 0, 1)
  | .mac1 => some (MAC_CTRL 1, 1)
  | .mac2 => some (MAC_CTRL 2, 1)
  | .mac3 => some (MAC_CTRL 3, 1)
  | .net => some (NET_CTRL, 6)
  | .hst => some (HST_SPI_CFG, 3)
  | .tim => some (TIM_CTRL, 0)
  | .mtr => some (MTR_CTRL, 1)
  | .tmp => some (TMP_CTRL, 0)
  | .pair => some (PAIR_CTRL, 3)
  | .age => some (AGE_CTRL, 3)
  | _ => none

/-- Whether the RWL fields of a register are locked. -/
def Device.locked (d : Device) (r : Reg) : Bool :=
  match lockOf r with | some (c, i) => d.bit c i | none => false

/-- Whether a value of a field is not reserved (R9). -/
def FieldRow.allows (f : FieldRow) (v : Nat) : Bool := f.ok = [] || f.ok.any fun p => p.1 ≤ v && v ≤ p.2

/-- Writes one field (R9, R11): the register's new word, and whether the value was reserved. `set` is what the hardware
sets in the same cycle, which wins over a W1C clear. -/
def FieldRow.write (f : FieldRow) (locked : Bool) (set v : Nat) (x : Nat × Bool) : Nat × Bool :=
  let new := bitsOf v f.lo f.w
  let old := bitsOf x.1 f.lo f.w
  match f.acc with
  | .rw => if f.allows new then (setBits x.1 f.lo f.w new, x.2) else (x.1, true)
  | .rwl =>
    if locked then x
    else if f.allows new then (setBits x.1 f.lo f.w new, x.2) else (x.1, true)
  | .w1c =>
    let keep := (List.range f.w).foldl (fun a i => a + b2n ((bitOf old i && !bitOf new i) || bitOf set (f.lo + i)) * 2 ^ i) 0
    (setBits x.1 f.lo f.w keep, x.2)
  | .w1s => (setBits x.1 f.lo f.w (old ||| new), x.2)
  | .ro | .wo | .rc => x

/-- The fields of a register whose reserved encodings depend on one another, when the word after the write is reserved
(R9): MAC_PHY's MODE and OFDM_OPT, MAC_CSMA's MIN_BE and MAX_BE, DSP_BP_CFG's WATERMARK and HYST. -/
def crossBad (r : Reg) (v : Nat) : List (Nat × Nat) :=
  let mac : Bool := 0x10 ≤ blkNum r.blk && blkNum r.blk ≤ 0x13
  if mac && r.off = 0x08 && bitOf v 3 && (bitsOf v 4 2 = 0 || bitsOf v 4 2 = 3) then [(3, 1), (4, 2)]
  else if mac && r.off = 0x20 && bitsOf v 4 4 < bitsOf v 0 4 then [(0, 4), (4, 4)]
  else if r = DSP_BP_CFG && bitsOf v 0 13 ≤ bitsOf v 16 13 then [(0, 13), (16, 13)]
  else []

/-- Whether a value lies outside the range that the register's table states over other registers (R9): MAC_IND_BASE and
MTR_RING_BASE inside the device region of R511 and clear of what else lies there, DSP_TRIG_ADDR a multiple of 32. -/
def Device.outOfRange (d : Device) (r : Reg) (v : Nat) : Bool :=
  let a := v * 256
  let stores (but : Nat) : List Nat := ((List.range 4).filter (· ≠ but)).map fun p => d.rdN (MAC_IND_BASE p) * 256
  let free (n but : Nat) : Bool :=
    0x0101000000 ≤ a && a + n ≤ 0x0104000000 && (stores but).all fun s => a + n ≤ s || s + 0x400000 ≤ a
  let n := blkNum r.blk
  if 0x10 ≤ n ∧ n ≤ 0x13 ∧ r.off = 0x28 then !(v % 0x4000 = 0 && free 0x400000 (n - 0x10))
  else if r = MTR_RING_BASE then !free (d.fld MTR_RING_LEN 0 17 * 128) 4
  else if r.blk = .dsp ∧ 0x40 ≤ r.off ∧ r.off < 0xC0 ∧ r.off % 8 = 4 then v % 32 ≠ 0
  else false

/-- A plain write under R8 to R11: each field under its access code; what is reserved stays, with a fault record. -/
def Device.plainWrite (d : Device) (r : Reg) (w : RegRow) (set v : Nat) : Device :=
  let old := d.rdN r
  let (x, bad) := w.fields.foldl (fun a f => f.write (d.locked r) set v a) (old, false)
  let cross := crossBad r x
  let y := cross.foldl (fun a f => setBits a f.1 f.2 (bitsOf old f.1 f.2)) x
  let out : Bool := d.outOfRange r v && !d.locked r
  let e := if out then d else d.wrN r y
  e.doIf (bad || cross ≠ [] || out) fun z => z.reservedEnc r v

/-- A write of GNS_REF_CMD (R48, R50, R51). -/
def Device.refCmd (d : Device) (v : Nat) : Device :=
  ((d.doIf (bitOf v 0) Device.refLoad).doIf (bitOf v 1) Device.surveyStart).doIf (bitOf v 2) Device.surveyAbort

/-- A write of FAB_CTRL (R239): HEARTH_EN only while ENABLE is 0 and LOCK is clear. -/
def Device.fabCtrl (d : Device) (v : Nat) : Device :=
  let was := d.bit FAB_CTRL 0
  let locked := d.bit FAB_CTRL 1
  let new := bitsOf v 8 8
  let moved : Bool := !locked && new ≠ d.fld FAB_CTRL 8 8
  let e := (d.wbit FAB_CTRL 0 (bitOf v 0)).raiseIf (bitOf v 1) FAB_CTRL 1
  if ¬ moved then e
  else if was then e.noEffect FAB_CTRL v
  else
    let e := e.wfld FAB_CTRL 8 8 new
    if e.boot.warden then e.hearthPower else e

/-- A write of FAB_FENCE (R238): a 1 fences the anvil, and a fence stays. -/
def Device.fenceWrite (d : Device) (base v : Nat) : Device :=
  d.forEach (setBitsOf 32 v) fun i e => e.fence (base + i) 4

/-- A write of FAB_ADM_CTRL (R298, R307). -/
def Device.admCtrl (d : Device) (v : Nat) : Device :=
  let e := if d.bit FAB_ADM_CTRL 3 then d else d.wfld FAB_ADM_CTRL 0 2 (bitsOf v 0 2)
  let e := e.raiseIf (bitOf v 3) FAB_ADM_CTRL 3
  if bitOf v 2 then e.admitStart [e.fld FAB_ADM_CTRL 0 2] false else e

/-- The feeds whose energy a calibration register concerns (R406). -/
def Device.calFeeds (d : Device) (c : Nat) : List Nat :=
  if c < 24 then [c / 3] else (List.range 8).filter fun f => d.busOf f = (c - 24) / 3

/-- A write of a calibration register (R419, R425): it marks the open interval of its feeds CAL. -/
def Device.calWrite (d : Device) (r : Reg) (w : RegRow) (v : Nat) : Device :=
  let c := (r.off - 0x400) / 0x10
  if d.locked r ∨ (24 ≤ c ∧ r.off % 0x10 = 4) then d
  else
    (d.plainWrite r w 0 v).forEach (d.calFeeds c) fun f e =>
      let x := e.feed f
      { e with mtr := { e.mtr with feeds := Tab.put e.mtr.feeds f { x with flags := x.flags ||| 128 } } }

/-- A write of the low or the high word of a 64-bit value (R12): it takes effect whole on the write of the high word. -/
def Device.pairWrite (d : Device) (w : Nat) (r : Reg) (v : Nat) : Device :=
  if isLow r then { d with loHeld := Tab.put d.loHeld (readerKey w r) (BitVec.ofNat 32 v) }
  else
    let lo : Reg := ⟨r.blk, r.off - 4⟩
    let k := readerKey w lo
    let e := d.wrN r v
    match Tab.find d.loHeld k with
    | some x => { (e.wr lo x) with loHeld := Tab.del d.loHeld k }
    | none => e

/-- A write of PAIR_CTRL (R467). -/
def Device.pairCtrl (d : Device) (w : RegRow) (v : Nat) : Device :=
  let e := d.plainWrite PAIR_CTRL w 0 v
  if bitOf v 2 then e.release else e

/-- A write of AGE_CTRL (R507). -/
def Device.ageCtrl (d : Device) (w : RegRow) (v : Nat) : Device :=
  let e := d.plainWrite AGE_CTRL w 0 v
  let e := if bitOf v 1 ∧ e.bit AGE_CTRL 0 then e.trend else e
  if bitOf v 2 then e.trimClear else e

/-- A write of a TIM register with an effect of its own (R388 to R391, R401, R402); `none`: a plain one. -/
def Device.timWrite (d : Device) (w : Nat) (r : Reg) (v : Nat) : Option Device :=
  let o := r.off
  if o = 0x10 then some (if bitOf v 0 then d.snap w else d)
  else if 0x100 ≤ o ∧ o < 0x200 then
    let b := (o - 0x100) / 0x20
    match (o - 0x100) % 0x20 with
    | 0x04 => some (d.setRate b v)
    | 0x08 => some (d.adjust b (toSigned 32 v))
    | 0x0C => some (d.setOfs b v)
    | 0x10 => some (d.setMaster b (bitsOf v 0 2))
    | _ => none
  else if 0x400 ≤ o ∧ o < 0x500 then some d
  else if 0x500 ≤ o ∧ o < 0x600 ∧ o % 0x10 = 4 then some (d.writeTarget ((o - 0x400) / 0x10) v)
  else none

/-- A write of a register with an effect of its own; `none`: a plain one. `w` is the writer. -/
def Device.special (d : Device) (w : Nat) (r : Reg) (row : RegRow) (v : Nat) : Option Device :=
  let o := r.off
  match r.blk with
  | .sys =>
    if o = 0x08 then some (if v % 65536 = 0xA5A5 then d.reset5 else d)
    else if o = 0x20 then some (d.wdogServe v)
    else none
  | .pwr => if o = 0 then some (d.stateRequest v) else none
  | .age => if o = 0 then some (d.ageCtrl row v) else none
  | .upd => if o = 0 then some (if bitOf v 0 then d.startOk else d) else none
  | .key => if o = 0 then some (if bitOf v 0 then d.clearSlots else d) else none
  | .tmp => if o = 0x18 then some (d.setRtc v) else none
  | .tim => d.timWrite w r v
  | .que =>
    if o = 0x04 then some (if bitOf v 8 then d.flushQ (bitsOf v 0 8) (bitOf v 9) else d)
    else if 0x400 ≤ o ∧ o < 0x800 then some (d.queCfgWrite ((o - 0x400) / 4) v)
    else none
  | .dsp => if 0x40 ≤ o ∧ o < 0xC0 ∧ o % 8 = 0 then some (d.trigWrite ((o - 0x40) / 8) v) else none
  | .fab =>
    if o = 0 then some (d.fabCtrl v)
    else if o = 0x08 then some (d.fenceWrite 0 v)
    else if o = 0x0C then some (d.fenceWrite 32 v)
    else if o = 0x400 then some (d.admCtrl v)
    else none
  | .gns => if o = 0x38 then some (d.refCmd v) else if isLow r ∨ isHigh r then some (d.pairWrite w r v) else none
  | .rsv =>
    if o = 0 then some (d.rsvCtrl v)
    else if o = 0x08 ∧ d.bit RSV_CTRL 0 ∧ ¬ d.locked r then some (d.noEffect r v)
    else none
  | .gov => if o = 0x0C ∧ bitOf v 0 then some ((d.wbit GOV_STAT 1 true).wbit GOV_BANK 0 true) else none
  | .mac0 => if o = 0 then some (d.macCtrl 0 v) else none
  | .mac1 => if o = 0 then some (d.macCtrl 1 v) else none
  | .mac2 => if o = 0 then some (d.macCtrl 2 v) else none
  | .mac3 => if o = 0 then some (d.macCtrl 3 v) else none
  | .mtr => if 0x400 ≤ o ∧ o < 0x800 then some (d.calWrite r row v) else none
  | .pair => if o = 0 then some (d.pairCtrl row v) else none
  | .err =>
    if o = 0 then some (let e := d.wbit ERR_CTRL 0 (bitOf v 0); if bitOf v 1 then e.clearLog else e)
    else if o = 0x20 then some (d.pick w v)
    else none
  | .stp => none
  | .net => none
  | .hst => none
  | .clk => none
  | .otp => none
  | .svc => none
  | .dbg => none

/-- A write of a register that its block names, by a writer. `set` is what the hardware sets in the same cycle. -/
def Device.regWrite (d : Device) (w : Nat) (r : Reg) (set v : Nat) : Device :=
  match findRow r with
  | none => d
  | some row => (d.special w r row (v % 2 ^ 32)).getD (d.plainWrite r row set (v % 2 ^ 32))

/-! ## The warden's accesses (R508 to R512) -/

/-- What an address names. -/
inductive Place where
  | reg (r : Reg) | hole (b : Blk) | mem | books (b : Blk) | inert | bus
  deriving DecidableEq, Repr

/-- The memory map of R508: a register, an offset that a block does not name, memory that the warden writes, memory
that only its engine changes (R509), the boot ROM and VBAT SRAM, or nothing. -/
def placeOf (a : Nat) : Place :=
  if lies a 4 0x0040000000 0x1000000 then
    match blkOf ((a - 0x0040000000) / 0x10000) with
    | some b => if (findRow ⟨b, a % 0x10000⟩).isSome then .reg ⟨b, a % 0x10000⟩ else .hole b
    | none => .bus
  else if (memAt a 4).isSome ∨ lies a 4 lpBase 0x100000000 then .mem
  else if lies a 4 0x0038000000 0x400000 then .books .que
  else if lies a 4 0x003C000000 0x1000000 then .books .rsv
  else if lies a 4 0x003D000000 0x200000 then .books .gov
  else if lies a 4 0 0x20000 ∨ lies a 4 0x0050000000 0x1000 then .inert
  else .bus

/-- The warden writes a word (R508, R509, R512). -/
def Device.busWrite (d : Device) (a set v : Nat) : Device :=
  match placeOf a with
  | .reg r => d.regWrite 0 r set v
  | .hole b => d.slagB b codeUnmapped noUnit (ctxAccess a 4 true)
  | .mem => d.memWrite a (leBytes 4 v) false
  | .books b => d.slagB b codeNoEffect noUnit (ctxWrite a v)
  | .inert => d
  | .bus => d.slag blkBus codeUnmapped noUnit 0 (ctxAccess a 4 true)

/-- A byte of governor state (R181, R182, R187), at an offset; `none`: the spec gives the byte no layout. -/
def Device.govByte (d : Device) (o : Nat) : Option Byte :=
  if o < 0x100000 then some ((padTo 256 (d.govStateBytes (o / 256))).getD (o % 256) 0)
  else if o < 0x180000 then
    let bank := (o - 0x100000) / 0x40000
    let p := o % 0x40000 / 0x4000
    let x := o % 0x4000
    let at_ (r t off : Nat) : Option Byte := some ((layBytes (layCoef t) (coefLen t) (d.coef bank p r t)).getD off 0)
    let z := (x - 0x10) % 0x320
    if x < 0x10 then at_ 0 9 x
    else if 0x3210 ≤ x ∨ 0x2C0 ≤ z then some 0
    else if z < 0x20 then at_ ((x - 0x10) / 0x320) 8 z
    else at_ ((x - 0x10) / 0x320) ((z - 0x20) / 0x60) ((z - 0x20) % 0x60)
  else if o < 0x181000 then none
  else some 0

/-- A byte of queue memory: of a packet that its queue still holds; `none`: what else a granule holds. -/
def Device.queByte (d : Device) (o : Nat) : Option Byte :=
  let g := o / 16
  let inQ (e : Nat × Queue) : Option Byte :=
    let base := d.fld (QUE_BASE e.1) 0 18
    let inP (k : Packet) : Option Byte :=
      match (List.range k.len).find? fun i => base + queuePhys e.2 (k.start + i) = g with
      | some i => k.data[16 * i + o % 16]?
      | none => none
    if e.2.on ∧ base ≤ g ∧ g < base + 2 * e.2.g then (e.2.pkts ++ e.2.held).findSome? inP else none
  d.que.findSome? inQ

/-- A word of queue memory, reservation memory or governor state as the warden reads it (R508). What the spec gives no
layout or no contents is a free value (log entry 31). -/
def Device.booksRead (d : Device) (a : Nat) : Nat × Device :=
  let word (f : Nat → Option Byte) (o : Nat) : Option Nat :=
    match f o, f (o + 1), f (o + 2), f (o + 3) with
    | some w, some x, some y, some z => some (leNat [w, x, y, z])
    | _, _, _, _ => none
  let v : Option Nat :=
    if lies a 4 0x003C000000 0x1000000 then
      some (d.entryWord ((a - 0x003C000000) / 16) / 2 ^ (32 * (a % 16 / 4)) % 2 ^ 32)
    else if lies a 4 0x003D000000 0x200000 then word d.govByte (a - 0x003D000000)
    else word d.queByte (a - 0x0038000000)
  match v with
  | some x => (x, d)
  | none =>
    let (x, e) := d.draw
    (x % 2 ^ 32, e)

/-- What the warden reads at an address, in one aligned access of 32 bits (R508, R512); `set` is what the hardware sets
in an RC register in that cycle. -/
def Device.busRead (d : Device) (a set : Nat) : Nat × Device :=
  match placeOf a with
  | .reg r => d.regRead 0 r set
  | .hole b => (0, d.slagB b codeUnmapped noUnit (ctxAccess a 4 false))
  | .mem => (leNat (d.memRead a 4), d)
  | .books _ => d.booksRead a
  | .inert => (0, d)
  | .bus => (0, d.slag blkBus codeUnmapped noUnit 0 (ctxAccess a 4 false))

/-- The data of a read goes out on the bus. -/
def Device.onBus (x : Nat × Device) : Device := { x.2 with bus := BitVec.ofNat 32 x.1 }

/-- An access that is not an aligned one of 32 bits (R10): without effect, 0 on a read, and a fault record. -/
def Device.misaligned (d : Device) (a len : Nat) (wr : Bool) : Device :=
  if a % 4 = 0 ∧ len = 4 then d
  else
    let done (e : Device) : Device := if wr then e else { e with bus := 0 }
    if lies a 1 0x0040000000 0x1000000 then
      match blkOf ((a - 0x0040000000) / 0x10000) with
      | some b => done (d.slagB b codeBadAccess noUnit (ctxAccess a len wr))
      | none => done (d.slag blkBus codeUnmapped noUnit 0 (ctxAccess a len wr))
    else if placeOf (a / 4 * 4) = .bus then done (d.slag blkBus codeUnmapped noUnit 0 (ctxAccess a len wr))
    else d

/-! ## The windows of the partitions (R381) -/

/-- The slice of a window that an offset lies in: its block, its base and the right it asks for. -/
def sliceOf (o : Nat) : Option (Blk × Nat × Option Nat) :=
  if o < 0x1000 then some (.hst, 0, none)
  else if o < 0x2000 then some (.gns, 0x1000, none)
  else if o < 0x3000 then some (.stp, 0x2000, some rStop)
  else if o < 0x4000 then some (.tim, 0x3000, none)
  else if o < 0x6000 then some (.que, 0x4000, none)
  else if o < 0x7000 then some (.rsv, 0x6000, some rPlan)
  else if o < 0x8000 then some (.gov, 0x7000, some rPlan)
  else if o < 0x9000 then some (.fab, 0x8000, none)
  else if o < 0xA000 then some (.mtr, 0x9000, some rMeter)
  else if o < 0xB000 then some (.upd, 0xA000, some rUpdate)
  else if o < 0xC000 then some (.err, 0xB000, none)
  else none

/-- Whether a slice exposes a register of its block to partition `p` (R381, R404, R425, R486, R521). -/
def exposed (p : Nat) (r : Reg) : Bool :=
  let o := r.off
  match r.blk with
  | .hst => 0x10 + 0x10 * p ≤ o && o < 0x20 + 0x10 * p
  | .gns => true
  | .tim => true
  | .stp => o = 0x08 || o = 0x0C || (0x30 ≤ o && o < 0x50)
  | .que => 0x400 ≤ o && (let n := o % 0x400 / 4; 16 * p ≤ n && n < 16 * p + 16)
  | .rsv => [0x04, 0x0C, 0x10, 0x14, 0x18, 0x1C, 0x20, 0x30, 0x34].contains o
  | .gov => [0x04, 0x10, 0x14, 0x18, 0x1C, 0x20, 0x24, 0x30].contains o
  | .fab => o = 0x04 || (0x400 ≤ o && o ≤ 0x434)
  | .mtr => o = 0x04 || o = 0x08 || o = 0x18 || o = 0x1C || 0x800 ≤ o ||
      (0x100 ≤ o && o < 0x200 && 0x08 ≤ o % 0x20 && o % 0x20 ≤ 0x18)
  | .upd => o = 0x04 || (0x10 ≤ o && o < 0x24)
  | .err => (0x04 ≤ o && o ≤ 0x14) || (0x20 ≤ o && o < 0x60)
  | _ => false

/-- Whether a partition's window writes a register: with the plan right GNSS settings and TB7 with compare units 28 to
31 and capture units 14 and 15, and for any partition its snapshot, QUE_LEVEL and ERR_PICK. -/
def Device.windowWrites (d : Device) (p : Nat) (r : Reg) : Bool :=
  let o := r.off
  match r.blk with
  | .gns => d.right p rPlan &&
      (o = 0x08 || o = 0x0C || (0x20 ≤ o && o ≤ 0x38) || o = 0x40 || (0x70 ≤ o && o < 0xA0))
  | .tim =>
      d.right p rPlan && (o = 0x10 || (0x1E4 ≤ o && o ≤ 0x1F0) || (0x5C0 ≤ o && o < 0x600) || (0x6E0 ≤ o && o < 0x700))
  | .que => 0xC00 ≤ o && o < 0x1000
  | .err => o = 0x20
  | _ => false

/-- The register that an offset of a partition's window reaches, if the window exposes one. -/
def Device.windowReg (d : Device) (p o : Nat) : Option Reg :=
  match sliceOf o with
  | none => none
  | some (b, base, right) =>
    let r : Reg := ⟨b, o - base⟩
    let may : Bool := match right with | none => true | some x => d.right p x
    if may && exposed p r && (findRow r).isSome then some r else none

/-- One access of REG_READ (R382): what is outside the window reads 0 (R13). -/
def Device.windowRead (d : Device) (p o : Nat) : Nat × Device :=
  match d.windowReg p o with
  | some r => d.regRead (1 + p) r 0
  | none => (0, d)

/-- One access of REG_WRITE (R382): what is outside the window, or read-only in it, ignores the write. -/
def Device.windowWrite (d : Device) (p o v : Nat) : Device :=
  match d.windowReg p o with
  | some r => if d.windowWrites p r then d.regWrite (1 + p) r 0 v else d
  | none => d

/-- Whether the range of a REG_READ or REG_WRITE is one that the window has (R382). -/
def rangeOk (o n : Nat) : Bool := o % 4 = 0 && 1 ≤ n && n ≤ 64 && o + 4 * n ≤ 0x10000

/-- REG_READ (R382). -/
def Device.regReadCmd (c : Cmd) (d : Device) : Device :=
  let o := uAt c.body 0 2
  let n := uAt c.body 2 2
  if c.body.length ≠ 4 ∨ ¬ rangeOk o n then d.answer c stRejected []
  else
    let (b, e) := (List.range n).foldl (fun x i =>
      let (v, e) := x.2.windowRead c.part (o + 4 * i)
      (x.1 ++ leBytes 4 v, e)) (([] : Bytes), d)
    e.answer c stDone b

/-- REG_WRITE (R382). -/
def Device.regWriteCmd (c : Cmd) (d : Device) : Device :=
  let o := uAt c.body 0 2
  let n := uAt c.body 2 2
  if c.body.length < 4 ∨ ¬ rangeOk o n ∨ c.body.length ≠ 4 + 4 * n then d.answer c stRejected []
  else
    (d.forEach (List.range n) fun i e => e.windowWrite c.part (o + 4 * i) (uAt c.body (4 + 4 * i) 4)).answer c stDone []

/-! ## Commands -/

/-- REGISTER_WRITE (R9, R11, R12, R508, R509, R512): the warden writes a word. -/
def execRegisterWrite (addr set value : Nat) (s : State) : Host.Outcome State Fault Refusal :=
  .next { s with dev := if addr % 4 = 0 then s.dev.busWrite addr set (value % 2 ^ 32) else s.dev.misaligned addr 4 true }

/-- MISALIGNED_ACCESS (R10). -/
def execMisalignedAccess (addr len : Nat) (wr : Bool) (s : State) : Host.Outcome State Fault Refusal :=
  .next { s with dev := s.dev.misaligned addr len wr }

/-- RC_READ (R11): the warden reads a word; an RC register clears. -/
def execRcRead (addr set : Nat) (s : State) : Host.Outcome State Fault Refusal :=
  .next { s with dev := if addr % 4 = 0 then Device.onBus (s.dev.busRead addr set) else s.dev.misaligned addr 4 false }

/-- LOW_WORD_READ (R12): the warden reads the low word of a register pair. -/
def execLowWordRead (addr : Nat) (s : State) : Host.Outcome State Fault Refusal :=
  .next { s with dev := if addr % 4 = 0 then Device.onBus (s.dev.busRead addr 0) else s.dev.misaligned addr 4 false }

/-- REG_READ (R382). -/
def execRegRead (h : HostPkt) (s : State) : Host.Outcome State Fault Refusal :=
  .next { s with dev := s.dev.hostCmd 0x0010 h Device.regReadCmd }

/-- REG_WRITE (R382). -/
def execRegWrite (h : HostPkt) (s : State) : Host.Outcome State Fault Refusal :=
  .next { s with dev := s.dev.hostCmd 0x0011 h Device.regWriteCmd }

end Sys2Proof.Machine
end

