-- ==== Sys2Proof/Machine/Boot.lean ====
section
/-!
DEFINITION. Machine/Boot.lean: the start of the device (R476, R481, R544) and the commands of the service port (R483).
-/
namespace Sys2Proof.Machine

/-! ## The start (R476) -/

/-- What a loss of VBAT takes: the root key, the generations, the parent registers, the tamper log and the RTC
(R443, R510). -/
def Device.vbatLost (d : Device) : Device :=
  { d with
    keys := { d.keys with rootOk := false, gens := [], regs := [] }
    tmp := { d.tmp with cinder := false, log := [], count := 0, rtcValid := false, rtc := 0, rtcUp := d.upNs } }

/-- Step 2: a root check word that does not match, with a tamper log that holds entries, is tamper source 4 with
RTC_LOST (R442). -/
def Device.rootCheck (d : Device) (bad : Bool) : Device :=
  let e := { d with keys := { d.keys with rootOk := d.keys.rootOk && !bad } }
  if e.keys.rootOk ∨ e.tmp.cinder ∨ e.tmp.log = [] then e
  else (({ e with tmp := { e.tmp with rtcValid := false } }).raise TMP_INT_STAT 1).tamper 4 0 false true

/-- The boot ROM selects the reference frequency (R497); its PLLs lock (log entry 30). -/
def Device.refSelect (d : Device) (ref : Option Nat) : Device :=
  match ref with
  | some f => d.wrN CLK_STAT (Nat.min f 2 + 4 + 0x3F8)
  | none => { (d.wrN CLK_STAT 0) with boot := { d.boot with recovery := true } }

/-- The copy of a committed set (R481). -/
def Device.copySets (d : Device) : Device :=
  let b := d.boot
  if ¬ b.staged then d
  else
    let e := { d with boot := { b with
      known := if b.lastKg then b.known else b.active, kgPresent := b.kgPresent || !b.lastKg, active := b.cand
      cand := [], staged := false, activeBad := false, copy := 0, seq := b.seq + 1, committer := 0 } }
    e.raise UPD_INT_STAT 4

/-- Selects and checks a set: steps 5 and 6. `failed` is the count before this start. -/
def Device.selectSet (d : Device) (failed : Nat) (x : StartIn) : Device :=
  let b := d.boot
  let tryA : Bool := failed ≤ 1 && !b.activeBad
  let okA : Bool := tryA && d.setOk b.active x.active
  let tryK : Bool := !okA && b.kgPresent && !b.kgBad
  let okK : Bool := tryK && d.setOk b.known x.known
  let e := { d with boot := { b with
    activeBad := b.activeBad || (tryA && !okA), kgBad := b.kgBad || (tryK && !okK), runKg := okK
    warden := okA || okK, recovery := !(okA || okK) } }
  e.raiseIf okK UPD_INT_STAT 3

/-- The pair key is loaded as a twin and the peer's unit ID shown (R449). -/
def Device.loadPair (d : Device) : Device :=
  match d.boot.peer with
  | none => d
  | some id =>
    let e := ((d.wrN PAIR_PEER_ID0 (uAt id 0 4)).wrN PAIR_PEER_ID1 (uAt id 4 4)).wrN PAIR_PEER_ID2 (uAt id 8 4)
    let e := { e with pair := { e.pair with bound := true } }
    if e.keyed then e.loadKey 8 ⟨1, 0, 2, 4, true, 7, e.gen 7, 0xFF⟩ else e

/-- The entries of a block configuration record: address and value (R544). -/
def cfgEntries (b : Bytes) : List (Nat × Nat) :=
  (List.range (uAt b 2 2)).map fun i => (0x0040000000 + uAt b (4 + 8 * i) 4, uAt b (8 + 8 * i) 4)

/-- Whether a block configuration record's type, version, count and check hold (R544). -/
def cfgOk (b : Bytes) : Bool :=
  let n := uAt b 2 2
  uAt b 0 1 = 0xF1 && uAt b 1 1 = 1 && n ≤ 510 && b.length = 8 + 8 * n &&
    uAt b (4 + 8 * n) 4 = crc32 (b.take (4 + 8 * n))

/-- The warden performs the entries in record order, as register writes. -/
def Device.applyCfg (d : Device) : Device :=
  match d.boot.cfg with
  | none => d
  | some b =>
    if ¬ cfgOk b then d
    else d.forEach (cfgEntries b) fun a e =>
      if a.1 % 4 = 0 then e.busWrite a.1 0 a.2 else e.misaligned a.1 4 true

/-- The warden self-tests the anvils, loads what the set holds, restores its store and configures the blocks: step 7. -/
def Device.handOver7 (d : Device) (failing : List Nat) : Device :=
  let s := if d.boot.runKg then d.boot.known else d.boot.active
  let body (k : Nat) : Option Bytes := (Tab.find s k).map (·.drop 512)
  let ver (k : Nat) : Nat := match Tab.find s k with | some b => imgVer b | none => 0
  let e := d.forEach [1, 2, 3, 4, 5] fun k x => x.wrN (UPD_VER (k - 1)) (ver k)
  let e := { e with fab := { e.fab with stock := body 4, overlay := body 5, ver := ver 4 } }
  let e : Device := e.hearthPower.forEach (failing.filter (· < 64)) fun a x => x.fence a 5
  let code := uAt e.boot.rec_ 3 1 % 16
  let e := e.forEach [0, 1, 2, 3] fun p x => x.wrN (MAC_REGION p) (code + 16 * b2n (code = 2))
  let gns := match e.gns.stored with
    | some (p, st) => { e.gns with pos := p, refState := st, check := true }
    | none => e.gns
  let e := { e with gns := gns }
  let e := if e.keyed then e.loadSlot 10 ⟨1, 0, 6, 4, false, 6, e.gen 6, 0xFF⟩ else e
  let mons : Tab Monitor := if e.age.mons.isEmpty then e.age.saved else e.age.mons
  let e := ({ e with age := { e.age with mons := mons } }).loadPair
  e.applyCfg

/-- START (R476), of a device that is released from reset and has not yet started. -/
def Device.start (d : Device) (x : StartIn) : Device :=
  if d.pwr.started ∨ d.pwr.off ∨ d.pwr.held then d
  else
    let e := { d with
      pwr := { d.pwr with started := true, starting := true }
      pair := { d.pair with away := x.away }
      boot := { d.boot with svcBoot := x.svcBoot, gen := d.boot.highest } }
    let e := if x.vbat then e else e.vbatLost
    let e := (e.refSelect x.ref).rootCheck x.rootBad
    let b := e.boot
    if b.recovery ∨ x.svcBoot ∨ b.source = 2 ∨ b.failed = 3 then { e with boot := { b with recovery := true } }
    else
      let e := { e with boot := { b with failed := b.failed + 1, seq := b.seq + 1 } }
      let e := e.copySets.selectSet b.failed x
      if e.boot.warden then e.handOver7 x.failing else e

/-! ## Commands of the service port (R483) -/

/-- SVC_AUTH: rights, selector, public key and signature; `ok` is the verdict on the key and the signature. -/
def Device.svcAuth (d : Device) (b : Bytes) (ok : Bool) : Ans :=
  let r := uAt b 0 1
  let had := d.boot.nonce
  let e := { d with boot := { d.boot with nonce := false } }
  if b.length ≠ 194 ∨ 32 ≤ r ∨ 1 < uAt b 1 1 then ans stRejected d
  else if had ∧ ok then
    let x : SvcSession := ⟨r, uAt b 1 1 = 0, e.upNs⟩
    ans stDone (({ e with boot := { e.boot with sess := some x } }).raise SVC_INT_STAT 0)
  else ans stDenied (e.raise SVC_INT_STAT 2)

/-- SVC_RESTORE (R483): the recovery copy is staged and committed. -/
def Device.svcRestore (d : Device) (b : Bytes) (good : List Nat) : Ans :=
  if b ≠ [] then ans stRejected d
  else if d.boot.holder ≠ 0 ∧ d.boot.holder ≠ 5 then ans stBusy d
  else ({ d with boot := { d.boot with stage := d.boot.recov, holder := 5 } }).commit 5 false good

/-- SVC_OTP_WRITE (R469): the lowest unwritten generation; `ok` says that the cells took the bits. -/
def Device.otpWrite (d : Device) (b : Bytes) (ok : Bool) : Ans :=
  if b.length ≠ 64 then ans stRejected d
  else if 4 ≤ d.boot.otp.length then ans stNoCapacity d
  else
    let g := (b, ok)
    ans (if otpValid g then stDone else stFaulted) { d with boot := { d.boot with otp := d.boot.otp ++ [g] } }

/-- SVC_PROVISION (R445, R118): a new root key, the partition records, and the pair unbound (R449). -/
def Device.provision (d : Device) (parts : List (Bool × Nat)) : Ans :=
  if d.tmp.active ≠ 0 then ans stBusy d
  else
    let e := d.newRoot
    let rec_ (p : Nat) : Nat × Partition :=
      let x := parts.getD p (false, 0)
      (p, ⟨x.1, x.2 % 16⟩)
    let e := { e with
      hst := { e.hst with parts := (List.range 4).map rec_ }
      tmp := { e.tmp with count := 0 }
      pair := { e.pair with bound := false }
      boot := { e.boot with peer := none } }
    let e := ((e.wrN PAIR_PEER_ID0 0).wrN PAIR_PEER_ID1 0).wrN PAIR_PEER_ID2 0
    ans stDone ((e.setSlot 8 slotEmpty).setSlot 9 slotEmpty |>.wrN DBG_UNLOCKS 0)

/-- SVC_PAIR_BIND (R449): the peer's unit ID is recorded with the agreed key's blob; `ok` says that the two units
agreed the key over NET2. -/
def Device.pairBind (d : Device) (id : Bytes) (ok : Bool) : Ans :=
  if id.length ≠ 12 then ans stRejected d
  else if ¬ d.keyed then ans stDenied d
  else if ¬ ok then ans stAborted d
  else
    let e := { d with boot := { d.boot with peer := some id }, pair := { d.pair with bound := true } }
    ans stDone (((e.wrN PAIR_PEER_ID0 (uAt id 0 4)).wrN PAIR_PEER_ID1 (uAt id 4 4)).wrN PAIR_PEER_ID2 (uAt id 8 4))

/-- A stop or a resume on the service port (R213); the standby latches it and forwards it (R460). -/
def Device.svcStop (d : Device) (req : Nat) (resume : Bool) (b : Bytes) : Ans :=
  let (st, e) := if resume then d.applyResume 5 true b else d.applyStop 5 true b
  let host := if resume then 0x0101 else 0x0100
  if e.standby ∧ st = stDone then ans st (e.toPeer 0xE3 (leBytes 2 host ++ leBytes 1 5 ++ leBytes 2 req ++ b))
  else ans st e

/-- SVC_CLAIM_RELEASE (R454): ends the claim refresh of a unit of a pair in the cinder state. -/
def Device.claimRelease (d : Device) (b : Bytes) : Ans :=
  if b ≠ [] then ans stRejected d
  else if d.standalone ∨ ¬ d.tmp.cinder then ans stBusy d
  else ans stDone { d with pair := { d.pair with released := true } }

/-- SVC_DEBUG_UNLOCK (R485): the tamper response, then DBG_STAT.OPEN; `ownerOk` is the verdict on the owner's
signature. -/
def Device.debugUnlock (d : Device) (ownerOk : Bool) : Ans :=
  let vendor : Bool := match d.boot.sess with | some x => x.vendor | none => false
  if ¬ vendor ∨ d.boot.policy 0 ∨ (d.boot.policy 1 ∧ ¬ ownerOk) then ans stDenied d
  else
    let e := d.tamper 10 0 false true
    ans stDone (({ e with boot := { e.boot with dbgOpen := true } }).count DBG_UNLOCKS)

/-- SVC_CONFIG_WRITE (R544). -/
def Device.cfgWrite (d : Device) (b : Bytes) : Ans :=
  if cfgOk b then ans stDone { d with boot := { d.boot with cfg := some b } } else ans stRejected d

/-- SVC_CONFIG_READ (R483). -/
def Device.cfgRead (d : Device) (b : Bytes) : Ans :=
  if b ≠ [] then ans stRejected d
  else match d.boot.cfg with | some c => (stDone, c, d) | none => ans stNotFound d

/-- Runs `f` when the body is empty. -/
def whenEmpty (b : Bytes) (f : Device → Ans) (d : Device) : Ans := if b = [] then f d else ans stRejected d

/-! ## Commands -/

/-- START (R476). -/
def execStart (x : StartIn) (s : State) : Host.Outcome State Fault Refusal := .next { s with dev := s.dev.start x }

/-- A 32-byte nonce, for one SVC_AUTH. -/
def Device.challenge (d : Device) : Ans :=
  let (n, e) := d.drawBytes 32
  (stDone, n, { e with boot := { e.boot with nonce := true } })

/-- SVC_CHALLENGE (R483): a 32-byte nonce. -/
def execSvcChallenge (req : Nat) (body : Bytes) (s : State) : Host.Outcome State Fault Refusal :=
  .next { s with dev := s.dev.svcCmd 0x0001 req none (whenEmpty body Device.challenge) }

/-- SVC_AUTH (R483). -/
def execSvcAuth (req : Nat) (body : Bytes) (ok : Bool) (s : State) : Host.Outcome State Fault Refusal :=
  .next { s with dev := s.dev.svcCmd 0x0002 req none fun d => d.svcAuth body ok }

/-- The rate of the service port. -/
def Device.setBaud (d : Device) (b : Bytes) : Ans :=
  if b.length ≠ 1 ∨ 2 < uAt b 0 1 then ans stRejected d
  else ans stDone { d with boot := { d.boot with baud := uAt b 0 1 } }

/-- SVC_SET_BAUD (R482): the rate changes after the response. -/
def execSvcSetBaud (req : Nat) (body : Bytes) (s : State) : Host.Outcome State Fault Refusal :=
  .next { s with dev := s.dev.svcCmd 0x0003 req none fun d => d.setBaud body }

/-- A whole set, checked under R475, to the recovery copy. -/
def Device.writeRecovery (d : Device) (imgs : List (Nat × Bytes)) (good : List Nat) : Ans :=
  let set : Tab Bytes := imgs.foldl (fun t e => Tab.put t e.1 e.2) []
  if d.setOk set good then ans stDone { d with boot := { d.boot with recov := set } } else ans stRejected d

/-- SVC_WRITE_RECOVERY (R483). -/
def execSvcWriteRecovery (req : Nat) (imgs : List (Nat × Bytes)) (good : List Nat) (s : State) :
    Host.Outcome State Fault Refusal :=
  .next { s with dev := s.dev.svcCmd 0x0A10 req (some 0) fun d => d.writeRecovery imgs good }

/-- SVC_RESTORE (R483). -/
def execSvcRestore (req : Nat) (body : Bytes) (good : List Nat) (s : State) : Host.Outcome State Fault Refusal :=
  .next { s with dev := s.dev.svcCmd 0x0A11 req (some 0) fun d => d.svcRestore body good }

/-- SVC_OTP_WRITE (R469). -/
def execSvcOtpWrite (req : Nat) (body : Bytes) (ok : Bool) (s : State) : Host.Outcome State Fault Refusal :=
  .next { s with dev := s.dev.svcCmd 0x0B00 req (some 1) fun d => d.otpWrite body ok }

/-- SVC_PROVISION (R445, R118). -/
def execSvcProvision (req : Nat) (parts : List (Bool × Nat)) (s : State) : Host.Outcome State Fault Refusal :=
  .next { s with dev := s.dev.svcCmd 0x0B01 req (some 1) fun d => d.provision parts }

/-- SVC_PAIR_BIND (R449). -/
def execSvcPairBind (req : Nat) (id : Bytes) (ok : Bool) (s : State) : Host.Outcome State Fault Refusal :=
  .next { s with dev := s.dev.svcCmd 0x0B02 req (some 1) fun d => d.pairBind id ok }

/-- SVC_STOP (R213). -/
def execSvcStop (req : Nat) (body : Bytes) (s : State) : Host.Outcome State Fault Refusal :=
  .next { s with dev := s.dev.svcCmd 0x0B03 req (some 3) fun d => d.svcStop req false body }

/-- SVC_RESUME (R213). -/
def execSvcResume (req : Nat) (body : Bytes) (s : State) : Host.Outcome State Fault Refusal :=
  .next { s with dev := s.dev.svcCmd 0x0B07 req (some 3) fun d => d.svcStop req true body }

/-- SVC_CLAIM_RELEASE (R454). -/
def execSvcClaimRelease (req : Nat) (body : Bytes) (s : State) : Host.Outcome State Fault Refusal :=
  .next { s with dev := s.dev.svcCmd 0x0B08 req (some 3) fun d => d.claimRelease body }

/-- Clears the tamper log. -/
def Device.tamperClear (d : Device) : Ans := ans stDone { d with tmp := { d.tmp with log := [] } }

/-- SVC_LOG_CLEAR (R483). -/
def execSvcLogClear (req : Nat) (body : Bytes) (s : State) : Host.Outcome State Fault Refusal :=
  .next { s with dev := s.dev.svcCmd 0x0B04 req (some 4) (whenEmpty body Device.tamperClear) }

/-- SVC_DEBUG_UNLOCK (R485). -/
def execSvcDebugUnlock (req : Nat) (ownerOk : Bool) (s : State) : Host.Outcome State Fault Refusal :=
  .next { s with dev := s.dev.svcCmd 0x0B05 req (some 2) fun d => d.debugUnlock ownerOk }

/-- SVC_RESET (R483): after the response. -/
def execSvcReset (req : Nat) (body : Bytes) (s : State) : Host.Outcome State Fault Refusal :=
  let d := s.dev
  let e := d.svcCmd 0x0B06 req none (whenEmpty body (ans stDone))
  .next { s with dev := if d.svcUp ∧ body = [] then e.reset5 else e }

/-- SVC_CONFIG_WRITE (R544). -/
def execSvcConfigWrite (req : Nat) (body : Bytes) (s : State) : Host.Outcome State Fault Refusal :=
  .next { s with dev := s.dev.svcCmd 0x0B09 req (some 1) fun d => d.cfgWrite body }

/-- SVC_CONFIG_READ (R544). -/
def execSvcConfigRead (req : Nat) (body : Bytes) (s : State) : Host.Outcome State Fault Refusal :=
  .next { s with dev := s.dev.svcCmd 0x0B0A req (some 1) fun d => d.cfgRead body }

/-- SVC_EN (R483): high, the port accepts commands; falling, it closes the session. -/
def execSvcEn (level : Bool) (s : State) : Host.Outcome State Fault Refusal :=
  let d := if level then s.dev else s.dev.svcClose
  .next { s with dev := { d with boot := { d.boot with svcEn := level, nonce := d.boot.nonce && level } } }

/-- SVC_SESSION_TIMEOUT (R483): 60 s after the last command. -/
def execSvcSessionTimeout (s : State) : Host.Outcome State Fault Refusal :=
  let d := s.dev
  let r : Device := match d.boot.sess with
    | some x => (d.advanceUp (x.last + 60000000000)).svcClose
    | none => d
  .next { s with dev := r }

/-- HAURA_FRAME_DISCARD (R482): a frame with a failed check. -/
def execHauraFrameDiscard (s : State) : Host.Outcome State Fault Refusal :=
  .next { s with dev := if s.dev.svcUp then s.dev.count SVC_CRC_ERR else s.dev }

end Sys2Proof.Machine
end

