-- ==== Sys2Proof/Machine/HostDispatch.lean ====
section
/-!
DEFINITION. Machine/HostDispatch.lean: the command table of R379 as a function of the code, the queue of waiting commands
(R378, R380), host datagrams over either port (R376, R383), datagrams to a host (R377), and the commands that wait for
the heat boundary (R110).
-/
namespace Sys2Proof.Machine

/-! ## The command table -/

/-- A command of another length than its table's, or of an unknown code (R378). -/
def refuse (c : Cmd) (d : Device) : Device := d.answer c stRejected []

/-- Taking a command of chapters 17, 2 and 3 (R379). -/
def takenLink (code : Nat) : Cmd → Device → Device :=
  match code with
  | 0x0002 => withLen 0 Device.sessionClose
  | 0x0003 => withLen 0 fun c d => d.answer c stDone []
  | 0x0010 => Device.regReadCmd
  | 0x0011 => Device.regWriteCmd
  | 0x0102 => withLen 4 holdIt
  | 0x0103 => withLen 4 holdIt
  | 0x0200 => withLen 96 (ifHolder holdIt)
  | 0x0201 => Device.corrStatusCmd
  | 0x0300 => withLen 8 (ifHolder holdIt)
  | 0x0301 => withLen 64 (ifHolder holdIt)
  | 0x0302 => Device.solverStatusCmd
  | 0x0303 => withLen 2 (withRight rPlan Device.atlasRead)
  | 0x0304 => withLen 1298 (withRight rPlan (ifHolder holdIt))
  | 0x0305 => withLen 0 (withRight rPlan (ifHolder holdIt))
  | _ => refuse

/-- Taking a command of chapter 5 (R109, R116, R119, R120, R359). -/
def takenFleet (code : Nat) : Cmd → Device → Device :=
  match code with
  | 0x0400 => withLen 24 (ifHolder holdIt)
  | 0x0401 => withLen 4 (ifHolder holdIt)
  | 0x0402 => withLen 4 (ifHolder holdIt)
  | 0x0403 => withLen 4 (ifHolder holdIt)
  | 0x0404 => withLen 4 (ifHolder holdIt)
  | 0x0405 => withLen 4 holdIt
  | 0x0406 => withLen 4 holdIt
  | 0x0407 => withLen 12 (ifHolder holdIt)
  | 0x0408 => withLen 16 (ifHolder holdIt)
  | 0x0409 => Device.fleetStatusCmd
  | 0x040A => ifHolder Device.nodeSend
  | _ => refuse

/-- Taking a command of chapters 6 to 8. -/
def takenPlan (code : Nat) : Cmd → Device → Device :=
  match code with
  | 0x0500 => ifHolder fun c d => if c.body.length = 36 ∨ c.body.length = 20 then d.holdCmd c else refuse c d
  | 0x0501 => withLen 0 (ifHolder holdIt)
  | 0x0502 => withLen 24 (ifHolder holdIt)
  | 0x0503 => withLen 4 (ifHolder holdIt)
  | 0x0504 => withLen 4 (ifHolder holdIt)
  | 0x0600 => withLen 32 (ifHolder holdIt)
  | 0x0601 => withLen 4 (ifHolder holdIt)
  | 0x0602 => withLen 0 (ifHolder holdIt)
  | 0x0603 => withLen 32 (ifHolder holdIt)
  | 0x0604 => withLen 12 (ifHolder holdIt)
  | 0x0605 => withLen 4 (ifHolder holdIt)
  | 0x0700 => ifHolder holdIt
  | 0x0701 => withLen 0 (ifHolder holdIt)
  | 0x0702 => withLen 12 (ifHolder holdIt)
  | 0x0703 => withLen 4 (ifHolder holdIt)
  | 0x0704 => withLen 4 holdIt
  | 0x0705 => withLen 12 (withRight rPlan (ifHolder Device.zonePost))
  | _ => refuse

/-- Taking a KEY_LOAD from the queue: whether the blob's tag verifies is a free value (log entry 7). -/
def takenKeyLoad (c : Cmd) (d : Device) : Device :=
  let (x, e) := d.draw
  keyCmd true (Device.keyLoad (x % 2 = 1)) c e

/-- Taking a UPD_COMMIT from the queue: which kinds verify is a free value (log entry 7). -/
def takenCommit (c : Cmd) (d : Device) : Device :=
  let (x, e) := d.draw
  updHost (fun e src b => e.updCommit src b (setBitsOf 6 x)) c e

/-- Taking a command of chapters 19, 20 and 22. -/
def takenKeys (code : Nat) : Cmd → Device → Device :=
  match code with
  | 0x0800 => withLen 8 (withRight rMeter Device.meterRead)
  | 0x0801 => withLen 0 (withRight rMeter Device.meterPubkey)
  | 0x0802 => withLen 4 (withRight rMeter Device.meterNow)
  | 0x0900 => withLen 100 takenKeyLoad
  | 0x0901 => withLen 4 (keyCmd true Device.keyUnload)
  | 0x0902 => withLen 8 (keyCmd true Device.keyMake)
  | 0x0903 => withLen 56 (keyCmd true Device.keyMake)
  | 0x0904 => withLen 4 (keyCmd true Device.keyInvalidate)
  | 0x0905 => withLen 0 (keyCmd false Device.keyStatus)
  | 0x0A00 => updHost Device.updClaim
  | 0x0A01 => updHost Device.updData
  | 0x0A02 => takenCommit
  | 0x0A03 => updHost Device.updAbort
  | 0x0A04 => updHost Device.updStatus
  | _ => refuse

/-- What taking a command from queue 0 does, by its code (R379); an unknown code is answered REJECTED (R378). -/
def taken (code : Nat) : Cmd → Device → Device :=
  if code < 0x0400 then takenLink code
  else if code < 0x0500 then takenFleet code
  else if code < 0x0800 then takenPlan code
  else takenKeys code

/-- Takes the commands that wait in a partition's queue 0, in order, while queue 1 holds the credit for the next
response (R378, R380). -/
def Device.takeAll (p : Nat) : Nat → Device → Device
  | 0, d => d
  | n + 1, d =>
    match d.takeCmd p with
    | (none, _) => d
    | (some c, e) => Device.takeAll p n (taken c.code c e)

/-- Takes what waits in a partition's queue 0. -/
def Device.retake (d : Device) (p : Nat) : Device := Device.takeAll p (queuePkts (d.q (16 * p))) d

/-! ## Datagrams from a host, and to it -/

/-- A class 1 or class 4 datagram of a host (R372, R377, R380, R383). -/
def Device.hostData (d : Device) (h : HostPkt) (enc : Bool) (cls sub code : Nat) : Device :=
  if ¬ enc then (if cls = 1 ∧ code = 1 then d.sessionOpen h else d.discard false false)
  else if cls = 4 then d.kernelData h sub
  else if cls ≠ 1 then d.discard false false
  else if code = 0x0100 then d.stopHost false h
  else if code = 0x0101 then d.stopHost true h
  else d.hostCmd code h (taken code)

/-- SESSION_TAKEOVER (R376): the first datagram accepted under the new key closes the old session. -/
def execSessionTakeover (h : HostPkt) (cls sub code : Nat) (s : State) : Host.Outcome State Fault Refusal :=
  .next { s with dev := s.dev.hostData { h with newKey := true } true cls sub code }

/-- UNKNOWN_COMMAND (R378). -/
def execUnknownCommand (h : HostPkt) (code : Nat) (s : State) : Host.Outcome State Fault Refusal :=
  .next { s with dev := s.dev.hostCmd code h (taken code) }

/-- SPI_WRITE_DATAGRAM (R383): a write while the ingress buffer is not free is discarded and counted. -/
def execSpiWriteDatagram (h : HostPkt) (enc : Bool) (cls sub code : Nat) (busy : Bool) (s : State) :
    Host.Outcome State Fault Refusal :=
  let d := s.dev
  let r : Device :=
    if ¬ d.bit HST_SPI_CFG 0 then d
    else if busy then d.count NET_RX_DROP
    else d.hostData { h with spi := true } enc cls sub code
  .next { s with dev := r }

/-- HOST_EGRESS (R377). -/
def execHostEgress (p i : Nat) (s : State) : Host.Outcome State Fault Refusal :=
  .next { s with dev := if p < 4 ∧ i < 16 then s.dev.egress p i else s.dev }

/-- HAND_OVER_COMPLETE (R315): credits that come back on a partition's queue 1 let its waiting commands be taken
(R378). -/
def execHandOverComplete (n : Nat) (s : State) : Host.Outcome State Fault Refusal :=
  let e := s.dev.handOverEnd n
  let r : Device := if n < 64 ∧ n % 16 = 1 then e.retake (n / 16) else e
  .next { s with dev := r }

/-! ## The heat boundary's host packets -/

/-- MACHINE_RELEASE at the heat boundary (R109, R105, R110, R138, R159): the entry goes to LEAVING, its hold is
abandoned, its reservations but the current one are freed, its enrolment is withdrawn, its tasks go back, and an open
transfer ends. -/
def Device.releaseMachine (c : Cmd) (d : Device) : Device :=
  if ¬ d.right c.part rPlan then d.answer c stDenied []
  else if ¬ tailZero c.body 2 then d.answer c stRejected []
  else
    withMachine true (fun m c d =>
      if d.mstate m = 4 then d.answer c stDone []
      else
        let e := (((d.setFe m 2 4).rsvLeave m).withdraw m).taskLeave m
        let e := { e with flt := { e.flt with
            offers := Tab.del e.flt.offers m, leave := Tab.del e.flt.leave m } }
        e.answer c stDone []) c d

/-- What the heat boundary does with a command that waited for it. -/
def atBoundary (code : Nat) : Cmd → Device → Device :=
  match code with
  | 0x0102 => Device.permitKeyCmd
  | 0x0103 => Device.mcastKeyCmd
  | 0x0200 => withRight rPlan Device.corrProfile
  | 0x0300 => Device.solveEnrol
  | 0x0301 => withRight rPlan Device.solverProfile
  | 0x0304 => Device.atlasWrite
  | 0x0305 => Device.atlasClear
  | 0x0400 => Device.admitMachine
  | 0x0401 => Device.releaseMachine
  | 0x0402 => Device.ownerOffer
  | 0x0403 => Device.ownerAccept
  | 0x0404 => Device.readGrant
  | 0x0405 => Device.nodeRead
  | 0x0406 => Device.machineRead
  | 0x0407 => Device.nodeAllow
  | 0x0408 => withRight rPlan Device.fleetCfg
  | 0x0500 => Device.graphWrite
  | 0x0501 => Device.graphCheckCmd
  | 0x0503 => Device.routeSettle true
  | 0x0504 => Device.routeSettle false
  | 0x0600 => Device.taskPost
  | 0x0601 => Device.taskCancel
  | 0x0602 => Device.auctionNow
  | 0x0603 => withRight rPlan Device.allotProfile
  | 0x0604 => Device.dockCfg
  | 0x0605 => Device.siteLoad
  | 0x0700 => Device.govCoef
  | 0x0701 => Device.govSwap
  | 0x0702 => Device.govMachine
  | 0x0703 => Device.govOverride
  | 0x0704 => Device.govRead
  | _ => refuse

/-- Applies the waiting commands of some codes ahead of the others (log entry 32): partitions ascend, and within one the
order of arrival. -/
def Device.boundaryOf (d : Device) (codes : List Nat) : Device :=
  let l := d.hst.waiting.filter fun c => codes.contains c.code
  let d := { d with hst := { d.hst with waiting := d.hst.waiting.filter fun c => !codes.contains c.code } }
  d.forEach ([0, 1, 2, 3].flatMap fun p => l.filter fun c => c.part = p) fun c e => atBoundary c.code c e

/-- Applies the packets of the heat (R110): partitions ascend, and within one the order of arrival. Route requests wait
for the planner (R139), and GOV_SWAP comes after every GOV_COEF of the heat (R184). -/
def Device.hostBoundary (d : Device) : Device :=
  let l := d.hst.waiting.filter fun c => c.code ≠ 0x0502
  let d := { d with hst := { d.hst with waiting := d.hst.waiting.filter fun c => c.code = 0x0502 } }
  let by_ (t : Cmd → Bool) : List Cmd := [0, 1, 2, 3].flatMap fun p => l.filter fun c => c.part = p && t c
  d.forEach (by_ (fun c => c.code ≠ 0x0701) ++ by_ fun c => c.code = 0x0701) fun c e => atBoundary c.code c e

end Sys2Proof.Machine
end

