-- ==== Sys2Proof/Machine/Heat.lean ====
section
/-!
DEFINITION. Machine/Heat.lean: TB0 becomes valid (R393), the heat boundary and the stroke start (R15), with what the spec
times to them; their order within one boundary is log entry 32.
-/
namespace Sys2Proof.Machine

/-! ## What a stroke start does -/

/-- The parts of a stroke start: the fold of stroke 0 has ended (R145), the store works (R126, R135 to R137, R143, R146),
the heartbeat goes out, and a silent peer is lost (R457). -/
def Device.strokeWork (d : Device) : Device :=
  let d := if d.folding ∧ d.tim.stroke ≠ 0 then d.foldEnd.serveWaits else d
  (((d.rsvStroke).pauseLimit).pairStroke).hbLost

/-- A stroke start within the heat (R15): strokes 1 to 9; stroke 0 starts with its heat. Evidence that is unwritten at the
end of stroke 5 is dropped (R96). -/
def Device.strokeStart (d : Device) : Device :=
  if ¬ d.tim.heats ∨ 9 ≤ d.tim.stroke then d
  else
    let e := d.advanceTo (d.tim.begun * 100000000 + (d.tim.stroke + 1) * 10000000)
    let e := e.fabStroke
    let e := { e with tim := { e.tim with stroke := d.tim.stroke + 1 } }
    let e := if e.tim.stroke = 6 then e.evidenceDrop else e
    e.strokeWork

/-! ## What the heat boundary does -/

/-- Nodes that went to leaving are freed (R116): the entry of a SILENT machine returns to LISTED, its owner and readers get
UNBOUND, and its reservations but the current one go (R107). A unit without the claim frees nothing (R103). -/
def Device.goners (d : Device) : Device :=
  let l := d.flt.goners
  let d := { d with flt := { d.flt with goners := [] } }
  if ¬ d.pair.claim then d
  else
    d.forEach l fun n e =>
      let m := e.nd n 20
      let silent : Bool := e.nkind n = 3 && e.mstate m = 3 && e.fe m 4 = n
      if e.nkind n = 0 ∨ e.nd n 5 ≠ 3 then e
      else
        let f := e.freeNode n
        if silent then (((f.setFes m [(2, 1), (4, 0xFFFFFFFF)]).eventFor m 0x07).rsvLeave m) else f

/-- The time block: bases join their masters, and every base in holdover has its estimate brought up to date (R388,
R398). -/
def Device.clockBoundary (d : Device) : Device :=
  let d := d.forEach ((List.range 7).map (· + 1)) fun b e => e.joinMaster b
  d.forEach (List.range 8) fun b e => e.holdUpdate b

/-- Entries that queries visited in the heat that ended (R147). -/
def Device.visitsTake (d : Device) : Device :=
  let e := d.wrN RSV_VISITS (holdAt 0xFFFFFFFF d.rsv.visits)
  { e with rsv := { e.rsv with visits := 0 } }

/-- The commands that name keys and profiles: they are applied before what they name takes effect (R58, R202, R374). -/
def configCodes : List Nat := [0x0102, 0x0103, 0x0200, 0x0301, 0x0408, 0x0603]

/-- ATLAS_WRITE and ATLAS_CLEAR: they take effect at the end of their heat (R98), before the base cell is copied (R97). -/
def atlasCodes : List Nat := [0x0304, 0x0305]

/-- The running schedule at a heat boundary: an admitted variant starts (R298), and stand-ins take over (R303). -/
def Device.scheduleBoundary (d : Device) : Device :=
  let d := if (d.fab.adm.bind (·.rung)).isSome then d.variantStart.setVcore else d
  d.forEach (d.fab.fences.map (·.1)) fun a e => e.standIn a

/-- The changes that a heat boundary makes in the blocks, before the packets of the heat: the schedule, clocks, the GNSS
engine, the profiles, the keys. -/
def Device.blockBoundary (d : Device) (feOk : Nat) : Device :=
  let d := (d.scheduleBoundary).boundaryOf configCodes
  let d := (((d.clockBoundary).gnsBoundary feOk).corrBoundary).keyRoll
  let d := (d.boundaryOf atlasCodes).solverBoundary
  (((d.fleetCfgTakes).permitKeyTakes).mcastKeyTakes).trimSettle

/-- The changes that a heat boundary makes in the fleet: task reports (R154), nodes and joins (R107, R113), machines heard
again (R105), then the packets of the heat (R110), then what time alone moves (R105, R106, R132, R154), then the stop
list (R211). -/
def Device.fleetBoundary (d : Device) : Device :=
  let d := (((d.taskBoundary).goners).joinsTake).heardTake
  ((d.hostBoundary).ageTake).listDropFree

/-- What was counted over the heat becomes readable, the node records follow the indirect stores (R356), commands that
wait for credit are taken, and a requested power state takes effect (R493). -/
def Device.countBoundary (d : Device) : Device :=
  let d := (((d.fabHeat).dspHeat).visitsTake).pendBoundary
  (d.forEach [0, 1, 2, 3] fun p e => e.retake p).stateChange

/-- The boundary of a heat (R15): the heat that ends is settled, the counter advances, and the changes of the boundary are
made. A restart that waited for it resets the device (R479). -/
def Device.heatStart (d : Device) (feOk : Nat) : Device :=
  if ¬ d.tim.valid then d
  else
    let first := !d.tim.heats
    let e := d.advanceTo ((d.tim.begun + 1) * 100000000)
    let e := e.fabStroke
    let e := { e with tim := { e.tim with heats := true, begun := e.heatAbs, stroke := 0 } }
    let e := e.pairBoundary
    if e.boot.restart then e.reset5
    else
      let e := if first then e.armHardware else e
      let e := ((e.blockBoundary feOk).fleetBoundary).countBoundary
      (e.strokeWork).foldBegin

/-! ## TB0 -/

/-- TB0 becomes valid (R393): admission begins once the start has been confirmed (R299), and the GAP records of the
metering start follow (R422). -/
def Device.tb0First (d : Device) (f : Fix) (time : Nat) (tags : List Nat) : Device :=
  if d.tim.valid ∨ ¬ d.gnsOn then d
  else
    let e := d.tb0Valid f time
    if ¬ e.tim.valid then d
    else
      let e := if e.pwr.starting then e else e.admitStart [0, 1, 2, 3] false
      e.gapRecords tags

/-! ## Commands -/

/-- HEAT_START (R15). -/
def execHeatStart (feOk : Nat) (s : State) : Host.Outcome State Fault Refusal :=
  .next { s with dev := s.dev.heatStart feOk }

/-- STROKE_START (R15). -/
def execStrokeStart (s : State) : Host.Outcome State Fault Refusal := .next { s with dev := s.dev.strokeStart }

/-- TB0_VALID (R393). -/
def execTb0Valid (f : Fix) (time : Nat) (tags : List Nat) (s : State) : Host.Outcome State Fault Refusal :=
  .next { s with dev := s.dev.tb0First f time tags }

end Sys2Proof.Machine
end

