-- ==== Sys2Proof/Machine/Dispatch.lean ====
section
/-!
DEFINITION. Machine/Dispatch.lean: one arm for each command, each one call of its meaning.
-/
namespace Sys2Proof.Machine

/-- The effect of a command on everything but the queue of waiting commands. -/
def exec (cmd : Instr) (s : State) : Host.Outcome State Fault Refusal :=
  match cmd with
  | .registerWrite addr set value => Sys2Proof.Machine.execRegisterWrite addr set value s
  | .misalignedAccess addr len wr => Sys2Proof.Machine.execMisalignedAccess addr len wr s
  | .rcRead addr set => Sys2Proof.Machine.execRcRead addr set s
  | .lowWordRead addr => Sys2Proof.Machine.execLowWordRead addr s
  | .heatStart feOk => Sys2Proof.Machine.execHeatStart feOk s
  | .strokeStart => Sys2Proof.Machine.execStrokeStart s
  | .foldComplete => Sys2Proof.Machine.execFoldComplete s
  | .tb0Valid f time tags => Sys2Proof.Machine.execTb0Valid f time tags s
  | .measurementEpoch o => Sys2Proof.Machine.execMeasurementEpoch o s
  | .spoofAlarmClear => Sys2Proof.Machine.execSpoofAlarmClear s
  | .portDisplaced p => Sys2Proof.Machine.execPortDisplaced p s
  | .signalAcquired p code sat => Sys2Proof.Machine.execSignalAcquired p code sat s
  | .load => Sys2Proof.Machine.execLoad s
  | .refPositionCheck => Sys2Proof.Machine.execRefPositionCheck s
  | .surveyStart => Sys2Proof.Machine.execSurveyStart s
  | .surveyAbort => Sys2Proof.Machine.execSurveyAbort s
  | .surveyCommit x y z => Sys2Proof.Machine.execSurveyCommit x y z s
  | .corrProfile h => Sys2Proof.Machine.execCorrProfile h s
  | .corrStatus h => Sys2Proof.Machine.execCorrStatus h s
  | .correctionSet tag => Sys2Proof.Machine.execCorrectionSet tag s
  | .radioFragment p start air clear tag => Sys2Proof.Machine.execRadioFragment p start air clear tag s
  | .broadcastKeyGenerate => Sys2Proof.Machine.execBroadcastKeyGenerate s
  | .broadcastKeyRoll => Sys2Proof.Machine.execBroadcastKeyRoll s
  | .keyAnnouncement air tag => Sys2Proof.Machine.execKeyAnnouncement air tag s
  | .solveEnrol h => Sys2Proof.Machine.execSolveEnrol h s
  | .solverProfile h => Sys2Proof.Machine.execSolverProfile h s
  | .solverStatus h => Sys2Proof.Machine.execSolverStatus h s
  | .atlasRead h => Sys2Proof.Machine.execAtlasRead h s
  | .atlasWrite h => Sys2Proof.Machine.execAtlasWrite h s
  | .atlasClear h => Sys2Proof.Machine.execAtlasClear h s
  | .observationFrame m => Sys2Proof.Machine.execObservationFrame m s
  | .positionReport m => Sys2Proof.Machine.execPositionReport m s
  | .centralSolve m o => Sys2Proof.Machine.execCentralSolve m o s
  | .catchUpUpdate o => Sys2Proof.Machine.execCatchUpUpdate o s
  | .filterReset m => Sys2Proof.Machine.execFilterReset m s
  | .positionsPublished => Sys2Proof.Machine.execPositionsPublished s
  | .atlasEvidence sky cell => Sys2Proof.Machine.execAtlasEvidence sky cell s
  | .machineAdmit h => Sys2Proof.Machine.execMachineAdmit h s
  | .machineRelease h => Sys2Proof.Machine.execMachineRelease h s
  | .ownerOffer h => Sys2Proof.Machine.execOwnerOffer h s
  | .ownerAccept h => Sys2Proof.Machine.execOwnerAccept h s
  | .transferExpiry m => Sys2Proof.Machine.execTransferExpiry m s
  | .readGrant h => Sys2Proof.Machine.execReadGrant h s
  | .nodeRead h => Sys2Proof.Machine.execNodeRead h s
  | .machineRead h => Sys2Proof.Machine.execMachineRead h s
  | .nodeAllow h => Sys2Proof.Machine.execNodeAllow h s
  | .fleetCfg h => Sys2Proof.Machine.execFleetCfg h s
  | .fleetStatus h => Sys2Proof.Machine.execFleetStatus h s
  | .hello m => Sys2Proof.Machine.execHello m s
  | .silent m => Sys2Proof.Machine.execSilent m s
  | .leavingComplete m => Sys2Proof.Machine.execLeavingComplete m s
  | .nodeTimeout n => Sys2Proof.Machine.execNodeTimeout n s
  | .quarantineExpiry n => Sys2Proof.Machine.execQuarantineExpiry n s
  | .graphWrite h => Sys2Proof.Machine.execGraphWrite h s
  | .graphCheck h => Sys2Proof.Machine.execGraphCheck h s
  | .rsvGraphCheck value => Sys2Proof.Machine.execRsvGraphCheck value s
  | .rsvDisable value => Sys2Proof.Machine.execRsvDisable value s
  | .routeRequest h => Sys2Proof.Machine.execRouteRequest h s
  | .routeCommit h => Sys2Proof.Machine.execRouteCommit h s
  | .routeAbandon h => Sys2Proof.Machine.execRouteAbandon h s
  | .routePlan => Sys2Proof.Machine.execRoutePlan s
  | .holdExpiry m => Sys2Proof.Machine.execHoldExpiry m s
  | .overstayReplan m => Sys2Proof.Machine.execOverstayReplan m s
  | .pauseSat => Sys2Proof.Machine.execPauseSat s
  | .taskPost h => Sys2Proof.Machine.execTaskPost h s
  | .taskCancel h => Sys2Proof.Machine.execTaskCancel h s
  | .auctionNow h => Sys2Proof.Machine.execAuctionNow h s
  | .allotProfile h => Sys2Proof.Machine.execAllotProfile h s
  | .dockCfg h => Sys2Proof.Machine.execDockCfg h s
  | .siteLoad h => Sys2Proof.Machine.execSiteLoad h s
  | .taskReport m => Sys2Proof.Machine.execTaskReport m s
  | .auction => Sys2Proof.Machine.execAuction s
  | .energyPlanner => Sys2Proof.Machine.execEnergyPlanner s
  | .taskExpiry t => Sys2Proof.Machine.execTaskExpiry t s
  | .exclusionExpiry t m => Sys2Proof.Machine.execExclusionExpiry t m s
  | .batteryStale m => Sys2Proof.Machine.execBatteryStale m s
  | .siteLoadStale => Sys2Proof.Machine.execSiteLoadStale s
  | .governorSample k late ecc sent lat => Sys2Proof.Machine.execGovernorSample k late ecc sent lat s
  | .stale m => Sys2Proof.Machine.execStale m s
  | .frozen m => Sys2Proof.Machine.execFrozen m s
  | .regionChange m => Sys2Proof.Machine.execRegionChange m s
  | .machFault m => Sys2Proof.Machine.execMachFault m s
  | .engineFault => Sys2Proof.Machine.execEngineFault s
  | .zoneTtl z => Sys2Proof.Machine.execZoneTtl z s
  | .govCoef h => Sys2Proof.Machine.execGovCoef h s
  | .govSwap h => Sys2Proof.Machine.execGovSwap h s
  | .govBankSwap => Sys2Proof.Machine.execGovBankSwap s
  | .govMachine h => Sys2Proof.Machine.execGovMachine h s
  | .govOverride h => Sys2Proof.Machine.execGovOverride h s
  | .govRead h => Sys2Proof.Machine.execGovRead h s
  | .zoneState h => Sys2Proof.Machine.execZoneState h s
  | .stopInputChange chB level => Sys2Proof.Machine.execStopInputChange chB level s
  | .channelReadingChange chB => Sys2Proof.Machine.execChannelReadingChange chB s
  | .discrepancy => Sys2Proof.Machine.execDiscrepancy s
  | .discClear => Sys2Proof.Machine.execDiscClear s
  | .stopCmd h => Sys2Proof.Machine.execStopCmd h s
  | .resumeCmd h => Sys2Proof.Machine.execResumeCmd h s
  | .permitKey h => Sys2Proof.Machine.execPermitKey h s
  | .permitLatch => Sys2Proof.Machine.execPermitLatch s
  | .permitBeacon clear air => Sys2Proof.Machine.execPermitBeacon clear air s
  | .stopFrame p start air => Sys2Proof.Machine.execStopFrame p start air s
  | .minRepetitionEnd => Sys2Proof.Machine.execMinRepetitionEnd s
  | .sealAhead p => Sys2Proof.Machine.execSealAhead p s
  | .monitorCheck good => Sys2Proof.Machine.execMonitorCheck good s
  | .claimRefresh => Sys2Proof.Machine.execClaimRefresh s
  | .claimDrop => Sys2Proof.Machine.execClaimDrop s
  | .claimSample level => Sys2Proof.Machine.execClaimSample level s
  | .claimConflict => Sys2Proof.Machine.execClaimConflict s
  | .heartbeat p => Sys2Proof.Machine.execHeartbeat p s
  | .hbLost => Sys2Proof.Machine.execHbLost s
  | .stateMirror m => Sys2Proof.Machine.execStateMirror m s
  | .forwardedCommand p reply => Sys2Proof.Machine.execForwardedCommand p reply s
  | .revertReq => Sys2Proof.Machine.execRevertReq s
  | .release => Sys2Proof.Machine.execRelease s
  | .blockStart id => Sys2Proof.Machine.execBlockStart id s
  | .overrun a => Sys2Proof.Machine.execOverrun a s
  | .rerun a => Sys2Proof.Machine.execRerun a s
  | .fabFence a => Sys2Proof.Machine.execFabFence a s
  | .standInRemap a => Sys2Proof.Machine.execStandInRemap a s
  | .admitVariant value => Sys2Proof.Machine.execAdmitVariant value s
  | .variantStart => Sys2Proof.Machine.execVariantStart s
  | .tongsRequest q => Sys2Proof.Machine.execTongsRequest q s
  | .tongsAbort q begun => Sys2Proof.Machine.execTongsAbort q begun s
  | .tongsCompletion q ecc row => Sys2Proof.Machine.execTongsCompletion q ecc row s
  | .powerGateWindow h => Sys2Proof.Machine.execPowerGateWindow h s
  | .powerGateEnd h => Sys2Proof.Machine.execPowerGateEnd h s
  | .nop i slot => Sys2Proof.Machine.execNop i slot s
  | .alu i s1 fn d a b => Sys2Proof.Machine.execAlu i s1 fn d a b s
  | .addi i s1 d a imm => Sys2Proof.Machine.execAddi i s1 d a imm s
  | .andi i d a imm => Sys2Proof.Machine.execAndi i d a imm s
  | .ori i d a imm => Sys2Proof.Machine.execOri i d a imm s
  | .xori i d a imm => Sys2Proof.Machine.execXori i d a imm s
  | .shi i d a imm => Sys2Proof.Machine.execShi i d a imm s
  | .cmp i pd mode a b cond => Sys2Proof.Machine.execCmp i pd mode a b cond s
  | .cmpi i pd mode a cond imm => Sys2Proof.Machine.execCmpi i pd mode a cond imm s
  | .plog i pd pa pb lop => Sys2Proof.Machine.execPlog i pd pa pb lop s
  | .movq i n d k imm => Sys2Proof.Machine.execMovq i n d k imm s
  | .br i ofs => Sys2Proof.Machine.execBr i ofs s
  | .brl i ofs => Sys2Proof.Machine.execBrl i ofs s
  | .jr i a => Sys2Proof.Machine.execJr i a s
  | .loop i lc a len => Sys2Proof.Machine.execLoop i lc a len s
  | .loopi i lc count len => Sys2Proof.Machine.execLoopi i lc count len s
  | .mfs i d sreg => Sys2Proof.Machine.execMfs i d sreg s
  | .mts i a sreg => Sys2Proof.Machine.execMts i a sreg s
  | .pad i n => Sys2Proof.Machine.execPad i n s
  | .ends i => Sys2Proof.Machine.execEnds i s
  | .mul i fn d a b => Sys2Proof.Machine.execMul i fn d a b s
  | .fopD i fn d a b => Sys2Proof.Machine.execFopD i fn d a b s
  | .fmaD i fn d a b c => Sys2Proof.Machine.execFmaD i fn d a b c s
  | .fcvt i fn d a b => Sys2Proof.Machine.execFcvt i fn d a b s
  | .fcmp i pd mode a b cond => Sys2Proof.Machine.execFcmp i pd mode a b cond s
  | .frnd i fn d a b => Sys2Proof.Machine.execFrnd i fn d a b s
  | .twosum i d a b => Sys2Proof.Machine.execTwosum i d a b s
  | .twoprod i d a b => Sys2Proof.Machine.execTwoprod i d a b s
  | .cycsplit i d a b => Sys2Proof.Machine.execCycsplit i d a b s
  | .vopI i fn d a b => Sys2Proof.Machine.execVopI i fn d a b s
  | .vopS i fn d a b => Sys2Proof.Machine.execVopS i fn d a b s
  | .vopD i fn d a b => Sys2Proof.Machine.execVopD i fn d a b s
  | .vfmaS i fn d a b c => Sys2Proof.Machine.execVfmaS i fn d a b c s
  | .vfmaD i fn d a b c => Sys2Proof.Machine.execVfmaD i fn d a b c s
  | .vcmpI i pd mode a b cond => Sys2Proof.Machine.execVcmpI i pd mode a b cond s
  | .vcmpS i pd mode a b cond => Sys2Proof.Machine.execVcmpS i pd mode a b cond s
  | .vcmpD i pd mode a b cond => Sys2Proof.Machine.execVcmpD i pd mode a b cond s
  | .vcvt i fn d a b => Sys2Proof.Machine.execVcvt i fn d a b s
  | .vred i fn d a b => Sys2Proof.Machine.execVred i fn d a b s
  | .vperm i fn d a b => Sys2Proof.Machine.execVperm i fn d a b s
  | .vbcast i fn d a b => Sys2Proof.Machine.execVbcast i fn d a b s
  | .vmovx i fn d a b => Sys2Proof.Machine.execVmovx i fn d a b s
  | .vins i fn d a b => Sys2Proof.Machine.execVins i fn d a b s
  | .zredGauss i d a b => Sys2Proof.Machine.execZredGauss i d a b s
  | .zredSwap i d a b => Sys2Proof.Machine.execZredSwap i d a b s
  | .zsrchInit i d a b => Sys2Proof.Machine.execZsrchInit i d a b s
  | .zsrchStep i d a b => Sys2Proof.Machine.execZsrchStep i d a b s
  | .scalarLoad i op d a imm ecc => Sys2Proof.Machine.execScalarLoad i op d a imm ecc s
  | .scalarStore i op src a imm => Sys2Proof.Machine.execScalarStore i op src a imm s
  | .vld i d a imm ecc => Sys2Proof.Machine.execVld i d a imm ecc s
  | .vst i src a imm => Sys2Proof.Machine.execVst i src a imm s
  | .resultWriteback a par => Sys2Proof.Machine.execResultWriteback a par s
  | .qpush i fn d a qn ind => Sys2Proof.Machine.execQpush i fn d a qn ind s
  | .qseal i fn d a qn ind => Sys2Proof.Machine.execQseal i fn d a qn ind s
  | .qpop i fn d a qn ind par => Sys2Proof.Machine.execQpop i fn d a qn ind par s
  | .qmark i fn d a qn ind => Sys2Proof.Machine.execQmark i fn d a qn ind s
  | .qrwnd i fn d a qn ind => Sys2Proof.Machine.execQrwnd i fn d a qn ind s
  | .qrel i fn d a qn ind => Sys2Proof.Machine.execQrel i fn d a qn ind s
  | .qstat i fn d a qn ind => Sys2Proof.Machine.execQstat i fn d a qn ind s
  | .rsvQuery i d a b => Sys2Proof.Machine.execRsvQuery i d a b s
  | .rsvHold i d a b => Sys2Proof.Machine.execRsvHold i d a b s
  | .rsvCommit i d a b => Sys2Proof.Machine.execRsvCommit i d a b s
  | .rsvAbandon i d a b => Sys2Proof.Machine.execRsvAbandon i d a b s
  | .gwr i src a imm => Sys2Proof.Machine.execGwr i src a imm s
  | .anvilTaskPost i d a b => Sys2Proof.Machine.execAnvilTaskPost i d a b s
  | .anvilTaskCancel i d a b => Sys2Proof.Machine.execAnvilTaskCancel i d a b s
  | .taskEnd i d a b => Sys2Proof.Machine.execTaskEnd i d a b s
  | .triggerEnable k value => Sys2Proof.Machine.execTriggerEnable k value s
  | .triggerTask k => Sys2Proof.Machine.execTriggerTask k s
  | .notBeforeWake n => Sys2Proof.Machine.execNotBeforeWake n s
  | .taskDispatch h => Sys2Proof.Machine.execTaskDispatch h s
  | .completionRecord => Sys2Proof.Machine.execCompletionRecord s
  | .queueEnable n value => Sys2Proof.Machine.execQueueEnable n value s
  | .queueDisable n value => Sys2Proof.Machine.execQueueDisable n value s
  | .queFlush n go force => Sys2Proof.Machine.execQueFlush n go force s
  | .flushEffect n => Sys2Proof.Machine.execFlushEffect n s
  | .flushSettle n => Sys2Proof.Machine.execFlushSettle n s
  | .handOver n => Sys2Proof.Machine.execHandOver n s
  | .handOverComplete n => Sys2Proof.Machine.execHandOverComplete n s
  | .macEnable p value => Sys2Proof.Machine.execMacEnable p value s
  | .indFlush p value => Sys2Proof.Machine.execIndFlush p value s
  | .nodeSend h => Sys2Proof.Machine.execNodeSend h s
  | .dataFrame f seq tagOk => Sys2Proof.Machine.execDataFrame f seq tagOk s
  | .acknowledgement p air => Sys2Proof.Machine.execAcknowledgement p air s
  | .dataRequest f ackAir heldAir => Sys2Proof.Machine.execDataRequest f ackAir heldAir s
  | .indirectData p start air => Sys2Proof.Machine.execIndirectData p start air s
  | .frameExpiry p k => Sys2Proof.Machine.execFrameExpiry p k s
  | .csmaCa p start air clear => Sys2Proof.Machine.execCsmaCa p start air clear s
  | .associationRequest f sleepy slot => Sys2Proof.Machine.execAssociationRequest f sleepy slot s
  | .disassociation f => Sys2Proof.Machine.execDisassociation f s
  | .relayReport f => Sys2Proof.Machine.execRelayReport f s
  | .nodeResync n => Sys2Proof.Machine.execNodeResync n s
  | .markerError p => Sys2Proof.Machine.execMarkerError p s
  | .markerLock p => Sys2Proof.Machine.execMarkerLock p s
  | .transceiverPllUnlock p => Sys2Proof.Machine.execTransceiverPllUnlock p s
  | .linkChange k up => Sys2Proof.Machine.execLinkChange k up s
  | .sessionOpen h enc => Sys2Proof.Machine.execSessionOpen h enc s
  | .sessionTakeover h cls sub code => Sys2Proof.Machine.execSessionTakeover h cls sub code s
  | .sessionClose h => Sys2Proof.Machine.execSessionClose h s
  | .sessionTimeout p => Sys2Proof.Machine.execSessionTimeout p s
  | .ping h => Sys2Proof.Machine.execPing h s
  | .regRead h => Sys2Proof.Machine.execRegRead h s
  | .regWrite h => Sys2Proof.Machine.execRegWrite h s
  | .mcastKey h => Sys2Proof.Machine.execMcastKey h s
  | .kernelData h sub => Sys2Proof.Machine.execKernelData h sub s
  | .hostEgress p i => Sys2Proof.Machine.execHostEgress p i s
  | .spiWriteDatagram h enc cls sub code busy => Sys2Proof.Machine.execSpiWriteDatagram h enc cls sub code busy s
  | .spiReadDatagram => Sys2Proof.Machine.execSpiReadDatagram s
  | .spiStatus busy => Sys2Proof.Machine.execSpiStatus busy s
  | .compareFire k => Sys2Proof.Machine.execCompareFire k s
  | .compareTargetWrite k target => Sys2Proof.Machine.execCompareTargetWrite k target s
  | .capture k => Sys2Proof.Machine.execCapture k s
  | .timSnap win => Sys2Proof.Machine.execTimSnap win s
  | .timAdj b step => Sys2Proof.Machine.execTimAdj b step s
  | .masterChange b m => Sys2Proof.Machine.execMasterChange b m s
  | .holdoverEntry => Sys2Proof.Machine.execHoldoverEntry s
  | .rejoin => Sys2Proof.Machine.execRejoin s
  | .tb0Locked => Sys2Proof.Machine.execTb0Locked s
  | .ptpMessage rx gm port offset event => Sys2Proof.Machine.execPtpMessage rx gm port offset event s
  | .ptpAnnounceTimeout => Sys2Proof.Machine.execPtpAnnounceTimeout s
  | .meterSample f ph => Sys2Proof.Machine.execMeterSample f ph s
  | .chFault n level held => Sys2Proof.Machine.execChFault n level held s
  | .rangeSwitch f => Sys2Proof.Machine.execRangeSwitch f s
  | .intervalClose tags => Sys2Proof.Machine.execIntervalClose tags s
  | .powerSummary => Sys2Proof.Machine.execPowerSummary s
  | .meteringStart vbat flash tags => Sys2Proof.Machine.execMeteringStart vbat flash tags s
  | .meterRead h => Sys2Proof.Machine.execMeterRead h s
  | .meterPubkey h => Sys2Proof.Machine.execMeterPubkey h s
  | .meterNow h => Sys2Proof.Machine.execMeterNow h s
  | .pfailN => Sys2Proof.Machine.execPfailN s
  | .keyLoad h tagOk => Sys2Proof.Machine.execKeyLoad h tagOk s
  | .keyUnload h => Sys2Proof.Machine.execKeyUnload h s
  | .keyGenerate h => Sys2Proof.Machine.execKeyGenerate h s
  | .keyImport h => Sys2Proof.Machine.execKeyImport h s
  | .keyInvalidate h => Sys2Proof.Machine.execKeyInvalidate h s
  | .keyStatus h => Sys2Proof.Machine.execKeyStatus h s
  | .clearAll => Sys2Proof.Machine.execClearAll s
  | .tamperEvent fired active op vin => Sys2Proof.Machine.execTamperEvent fired active op vin s
  | .rtcSet secs => Sys2Proof.Machine.execRtcSet secs s
  | .start x => Sys2Proof.Machine.execStart x s
  | .startOk => Sys2Proof.Machine.execStartOk s
  | .resetN level => Sys2Proof.Machine.execResetN level s
  | .powerOn => Sys2Proof.Machine.execPowerOn s
  | .vinLoss => Sys2Proof.Machine.execVinLoss s
  | .sysReset value => Sys2Proof.Machine.execSysReset value s
  | .sysWdog value => Sys2Proof.Machine.execSysWdog value s
  | .watchdogExpiry => Sys2Proof.Machine.execWatchdogExpiry s
  | .updClaim u => Sys2Proof.Machine.execUpdClaim u s
  | .updData u => Sys2Proof.Machine.execUpdData u s
  | .updCommit u good => Sys2Proof.Machine.execUpdCommit u good s
  | .updAbort u => Sys2Proof.Machine.execUpdAbort u s
  | .updStatus u => Sys2Proof.Machine.execUpdStatus u s
  | .lockIdle => Sys2Proof.Machine.execLockIdle s
  | .svcChallenge req body => Sys2Proof.Machine.execSvcChallenge req body s
  | .svcAuth req body ok => Sys2Proof.Machine.execSvcAuth req body ok s
  | .svcSetBaud req body => Sys2Proof.Machine.execSvcSetBaud req body s
  | .svcWriteRecovery req imgs good => Sys2Proof.Machine.execSvcWriteRecovery req imgs good s
  | .svcRestore req body good => Sys2Proof.Machine.execSvcRestore req body good s
  | .svcOtpWrite req body ok => Sys2Proof.Machine.execSvcOtpWrite req body ok s
  | .svcProvision req parts => Sys2Proof.Machine.execSvcProvision req parts s
  | .svcPairBind req id ok => Sys2Proof.Machine.execSvcPairBind req id ok s
  | .svcStop req body => Sys2Proof.Machine.execSvcStop req body s
  | .svcResume req body => Sys2Proof.Machine.execSvcResume req body s
  | .svcClaimRelease req body => Sys2Proof.Machine.execSvcClaimRelease req body s
  | .svcLogClear req body => Sys2Proof.Machine.execSvcLogClear req body s
  | .svcDebugUnlock req ownerOk => Sys2Proof.Machine.execSvcDebugUnlock req ownerOk s
  | .svcReset req body => Sys2Proof.Machine.execSvcReset req body s
  | .svcConfigWrite req body => Sys2Proof.Machine.execSvcConfigWrite req body s
  | .svcConfigRead req body => Sys2Proof.Machine.execSvcConfigRead req body s
  | .svcEn level => Sys2Proof.Machine.execSvcEn level s
  | .svcSessionTimeout => Sys2Proof.Machine.execSvcSessionTimeout s
  | .stateRequest value => Sys2Proof.Machine.execStateRequest value s
  | .stateChange => Sys2Proof.Machine.execStateChange s
  | .wakeIn level => Sys2Proof.Machine.execWakeIn level s
  | .rtcAlarm => Sys2Proof.Machine.execRtcAlarm s
  | .pllUnlock pll => Sys2Proof.Machine.execPllUnlock pll s
  | .marginReading l => Sys2Proof.Machine.execMarginReading l s
  | .trend => Sys2Proof.Machine.execTrend s
  | .trendNow => Sys2Proof.Machine.execTrendNow s
  | .trimStep => Sys2Proof.Machine.execTrimStep s
  | .trimClear => Sys2Proof.Machine.execTrimClear s
  | .errPick win seq => Sys2Proof.Machine.execErrPick win seq s
  | .errClear => Sys2Proof.Machine.execErrClear s
  | .datagramRejected port why k => Sys2Proof.Machine.execDatagramRejected port why k s
  | .unknownCommand h code => Sys2Proof.Machine.execUnknownCommand h code s
  | .neighbourDiscovery port v6 target asker => Sys2Proof.Machine.execNeighbourDiscovery port v6 target asker s
  | .acknowledgementReceived p short fin => Sys2Proof.Machine.execAcknowledgementReceived p short fin s
  | .illegalBundle i slot => Sys2Proof.Machine.execIllegalBundle i slot s
  | .admissionComplete => Sys2Proof.Machine.execAdmissionComplete s
  | .hauraFrameDiscard => Sys2Proof.Machine.execHauraFrameDiscard s
  | .jtagInstruction ins => Sys2Proof.Machine.execJtagInstruction ins s

end Sys2Proof.Machine
end

