-- ==== Sys2Proof/Machine/AnvilCode.lean ====
section
/-!
DEFINITION. Machine/AnvilCode.lean: the encoding of the anvil operations (R243 to R251): the word of an operation, the
operation that a word spells in a slot, and the bundle that a register set's program counter names in the crucible.
The operations of a bundle reach the device as commands of their own; these definitions say which commands the code in
the crucible spells (log entry 24).
-/
namespace Sys2Proof.Machine

/-- `n` bits of a word from bit `lo` on. -/
def opField (w lo n : Nat) : Nat := w / 2 ^ lo % 2 ^ n

/-- The top ten bits of every operation word (R244). -/
def opWord (i : Iss) (op low : Nat) : Nat := (if i.pn then 2 ^ 31 else 0) + i.pg * 2 ^ 28 + op * 2 ^ 22 + low

/-- Format R (R246). -/
def fmtR (d a b fn : Nat) : Nat := d * 2 ^ 17 + a * 2 ^ 12 + b * 2 ^ 7 + fn

/-- Format R4. -/
def fmtR4 (d a b c fn : Nat) : Nat := d * 2 ^ 17 + a * 2 ^ 12 + b * 2 ^ 7 + c * 2 ^ 2 + fn

/-- Formats I, S and X. -/
def fmtI (d a imm : Nat) : Nat := d * 2 ^ 17 + a * 2 ^ 12 + imm

/-- Format W. -/
def fmtW (d : Nat) (k : Bool) (imm : Nat) : Nat := d * 2 ^ 17 + (if k then 2 ^ 16 else 0) + imm

/-- Format P. -/
def fmtP (pd mode a b cond : Nat) : Nat := pd * 2 ^ 19 + mode * 2 ^ 17 + a * 2 ^ 12 + b * 2 ^ 7 + cond * 2 ^ 3

/-- Format PI. -/
def fmtPI (pd mode a cond imm : Nat) : Nat := pd * 2 ^ 19 + mode * 2 ^ 17 + a * 2 ^ 12 + cond * 2 ^ 8 + imm

/-- Format PL. -/
def fmtPL (pd pa pb lop : Nat) : Nat := pd * 2 ^ 19 + pa * 2 ^ 16 + pb * 2 ^ 13 + lop * 2 ^ 11

/-- Format L of LOOPI. -/
def fmtLI (lc count len : Nat) : Nat := lc * 2 ^ 20 + count * 2 ^ 10 + len

/-- Format L of LOOP. -/
def fmtLA (lc a len : Nat) : Nat := lc * 2 ^ 20 + a * 2 ^ 15 + len

/-- Format Q. -/
def fmtQ (d a qn : Nat) (ind : Bool) (fn : Nat) : Nat :=
  d * 2 ^ 17 + a * 2 ^ 12 + qn * 2 ^ 4 + (if ind then 2 ^ 3 else 0) + fn

/-- The slot (0 S0, 1 S1, 2 V, 3 M) and the word of an operation without a reserved bit (R246, R248 to R251). -/
def encodeOp : Instr → Option (Nat × Nat)
  | .nop i slot => some (slot, opWord i 0 0)
  | .alu i s1 fn d a b => some (if s1 then 1 else 0, opWord i 0x01 (fmtR d a b fn))
  | .addi i s1 d a imm => some (if s1 then 1 else 0, opWord i 0x02 (fmtI d a imm))
  | .andi i d a imm => some (0, opWord i 0x03 (fmtI d a imm))
  | .ori i d a imm => some (0, opWord i 0x04 (fmtI d a imm))
  | .xori i d a imm => some (0, opWord i 0x05 (fmtI d a imm))
  | .shi i d a imm => some (0, opWord i 0x06 (fmtI d a imm))
  | .cmp i pd mode a b cond => some (0, opWord i 0x07 (fmtP pd mode a b cond))
  | .cmpi i pd mode a cond imm => some (0, opWord i 0x08 (fmtPI pd mode a cond imm))
  | .plog i pd pa pb lop => some (0, opWord i 0x09 (fmtPL pd pa pb lop))
  | .movq i n d k imm => some (0, opWord i (0x0C + n) (fmtW d k imm))
  | .br i ofs => some (0, opWord i 0x10 ofs)
  | .brl i ofs => some (0, opWord i 0x11 ofs)
  | .jr i a => some (0, opWord i 0x12 (fmtR 0 a 0 0))
  | .loop i lc a len => some (0, opWord i 0x13 (fmtLA lc a len))
  | .loopi i lc count len => some (0, opWord i 0x14 (fmtLI lc count len))
  | .mfs i d sreg => some (0, opWord i 0x15 (fmtI d 0 sreg))
  | .mts i a sreg => some (0, opWord i 0x16 (fmtI 0 a sreg))
  | .pad i n => some (0, opWord i 0x17 n)
  | .ends i => some (0, opWord i 0x18 0)
  | .mul i fn d a b => some (1, opWord i 0x03 (fmtR d a b fn))
  | .fopD i fn d a b => some (1, opWord i 0x04 (fmtR d a b fn))
  | .fmaD i fn d a b c => some (1, opWord i 0x05 (fmtR4 d a b c fn))
  | .fcvt i fn d a b => some (1, opWord i 0x06 (fmtR d a b fn))
  | .fcmp i pd mode a b cond => some (1, opWord i 0x07 (fmtP pd mode a b cond))
  | .frnd i fn d a b => some (1, opWord i 0x08 (fmtR d a b fn))
  | .twosum i d a b => some (1, opWord i 0x09 (fmtR d a b 0))
  | .twoprod i d a b => some (1, opWord i 0x09 (fmtR d a b 1))
  | .cycsplit i d a b => some (1, opWord i 0x09 (fmtR d a b 2))
  | .vopI i fn d a b => some (2, opWord i 0x01 (fmtR d a b fn))
  | .vopS i fn d a b => some (2, opWord i 0x02 (fmtR d a b fn))
  | .vopD i fn d a b => some (2, opWord i 0x03 (fmtR d a b fn))
  | .vfmaS i fn d a b c => some (2, opWord i 0x04 (fmtR4 d a b c fn))
  | .vfmaD i fn d a b c => some (2, opWord i 0x05 (fmtR4 d a b c fn))
  | .vcmpI i pd mode a b cond => some (2, opWord i 0x06 (fmtP pd mode a b cond))
  | .vcmpS i pd mode a b cond => some (2, opWord i 0x07 (fmtP pd mode a b cond))
  | .vcmpD i pd mode a b cond => some (2, opWord i 0x08 (fmtP pd mode a b cond))
  | .vcvt i fn d a b => some (2, opWord i 0x09 (fmtR d a b fn))
  | .vred i fn d a b => some (2, opWord i 0x0A (fmtR d a b fn))
  | .vperm i fn d a b => some (2, opWord i 0x0B (fmtR d a b fn))
  | .vbcast i fn d a b => some (2, opWord i 0x0C (fmtR d a b fn))
  | .vmovx i fn d a b => some (2, opWord i 0x0D (fmtR d a b fn))
  | .vins i fn d a b => some (2, opWord i 0x0E (fmtR d a b fn))
  | .zredGauss i d a b => some (2, opWord i 0x0F (fmtR d a b 0))
  | .zredSwap i d a b => some (2, opWord i 0x0F (fmtR d a b 1))
  | .zsrchInit i d a b => some (2, opWord i 0x10 (fmtR d a b 0))
  | .zsrchStep i d a b => some (2, opWord i 0x10 (fmtR d a b 1))
  | .scalarLoad i op d a imm _ => some (3, opWord i op (fmtI d a imm))
  | .scalarStore i op src a imm => some (3, opWord i op (fmtI src a imm))
  | .vld i d a imm _ => some (3, opWord i 0x0C (fmtI d a imm))
  | .vst i src a imm => some (3, opWord i 0x0D (fmtI src a imm))
  | .qpush i fn d a qn ind => some (3, opWord i 0x10 (fmtQ d a qn ind fn))
  | .qseal i fn d a qn ind => some (3, opWord i 0x11 (fmtQ d a qn ind fn))
  | .qpop i fn d a qn ind _ => some (3, opWord i 0x12 (fmtQ d a qn ind fn))
  | .qmark i fn d a qn ind => some (3, opWord i 0x13 (fmtQ d a qn ind fn))
  | .qrwnd i fn d a qn ind => some (3, opWord i 0x14 (fmtQ d a qn ind fn))
  | .qrel i fn d a qn ind => some (3, opWord i 0x15 (fmtQ d a qn ind fn))
  | .qstat i fn d a qn ind => some (3, opWord i 0x16 (fmtQ d a qn ind fn))
  | .rsvQuery i d a b => some (3, opWord i 0x18 (fmtR d a b 0))
  | .rsvHold i d a b => some (3, opWord i 0x18 (fmtR d a b 1))
  | .rsvCommit i d a b => some (3, opWord i 0x18 (fmtR d a b 2))
  | .rsvAbandon i d a b => some (3, opWord i 0x18 (fmtR d a b 3))
  | .gwr i src a imm => some (3, opWord i 0x19 (fmtI src a imm))
  | .anvilTaskPost i d a b => some (3, opWord i 0x1A (fmtR d a b 0))
  | .anvilTaskCancel i d a b => some (3, opWord i 0x1A (fmtR d a b 1))
  | .taskEnd i d a b => some (3, opWord i 0x1A (fmtR d a b 2))
  | _ => none

/-- The register field [21:17], D or S. -/
def opD (w : Nat) : Nat := opField w 17 5
/-- The register field [16:12], A. -/
def opA (w : Nat) : Nat := opField w 12 5
/-- The register field [11:7], B. -/
def opB (w : Nat) : Nat := opField w 7 5
/-- The field FN of format R. -/
def opFn (w : Nat) : Nat := opField w 0 7

/-- Where a word of an anvil's register set issues, with its guard and whether one of its reserved bits is set. -/
def opIss (a k w : Nat) (rsv : Bool) : Iss :=
  { anvil := a, set := k, pn := opField w 31 1 = 1, pg := opField w 28 3, rsv := rsv }

/-- Slot S0 (R248). -/
def decodeS0 (a k w : Nat) : Option Instr :=
  let i := opIss a k w false
  let at_ (rsv : Bool) := opIss a k w rsv
  let d := opD w
  let ra := opA w
  let rb := opB w
  let imm := opField w 0 12
  match opField w 22 6 with
  | 0x00 => some (.nop (at_ (opField w 0 22 ≠ 0)) 0)
  | 0x01 => some (.alu i false (opFn w) d ra rb)
  | 0x02 => some (.addi i false d ra imm)
  | 0x03 => some (.andi i d ra imm)
  | 0x04 => some (.ori i d ra imm)
  | 0x05 => some (.xori i d ra imm)
  | 0x06 => some (.shi i d ra imm)
  | 0x07 => some (.cmp (at_ (opField w 0 3 ≠ 0)) (opField w 19 3) (opField w 17 2) ra rb (opField w 3 4))
  | 0x08 => some (.cmpi i (opField w 19 3) (opField w 17 2) ra (opField w 8 4) (opField w 0 8))
  | 0x09 => some (.plog (at_ (opField w 0 11 ≠ 0)) (opField w 19 3) (opField w 16 3) (opField w 13 3) (opField w 11 2))
  | 0x0C => some (.movq i 0 d (opField w 16 1 = 1) (opField w 0 16))
  | 0x0D => some (.movq i 1 d (opField w 16 1 = 1) (opField w 0 16))
  | 0x0E => some (.movq i 2 d (opField w 16 1 = 1) (opField w 0 16))
  | 0x0F => some (.movq i 3 d (opField w 16 1 = 1) (opField w 0 16))
  | 0x10 => some (.br i (opField w 0 22))
  | 0x11 => some (.brl i (opField w 0 22))
  | 0x12 => some (.jr (at_ (d ≠ 0 || opField w 0 12 ≠ 0)) ra)
  | 0x13 => some (.loop (at_ (opField w 10 5 ≠ 0)) (opField w 20 2) (opField w 15 5) (opField w 0 10))
  | 0x14 => some (.loopi i (opField w 20 2) (opField w 10 10) (opField w 0 10))
  | 0x15 => some (.mfs (at_ (ra ≠ 0)) d imm)
  | 0x16 => some (.mts (at_ (d ≠ 0)) ra imm)
  | 0x17 => some (.pad (at_ (opField w 16 6 ≠ 0)) (opField w 0 16))
  | 0x18 => some (.ends (at_ (opField w 0 22 ≠ 0)))
  | _ => none

/-- Slot S1 (R249). -/
def decodeS1 (a k w : Nat) : Option Instr :=
  let i := opIss a k w false
  let at_ (rsv : Bool) := opIss a k w rsv
  let d := opD w
  let ra := opA w
  let rb := opB w
  match opField w 22 6 with
  | 0x00 => some (.nop (at_ (opField w 0 22 ≠ 0)) 1)
  | 0x01 => some (.alu i true (opFn w) d ra rb)
  | 0x02 => some (.addi i true d ra (opField w 0 12))
  | 0x03 => some (.mul i (opFn w) d ra rb)
  | 0x04 => some (.fopD i (opFn w) d ra rb)
  | 0x05 => some (.fmaD i (opField w 0 2) d ra rb (opField w 2 5))
  | 0x06 => some (.fcvt i (opFn w) d ra rb)
  | 0x07 => some (.fcmp (at_ (opField w 0 3 ≠ 0)) (opField w 19 3) (opField w 17 2) ra rb (opField w 3 4))
  | 0x08 => some (.frnd i (opFn w) d ra rb)
  | 0x09 =>
    match opFn w with
    | 0 => some (.twosum i d ra rb)
    | 1 => some (.twoprod i d ra rb)
    | 2 => some (.cycsplit i d ra rb)
    | _ => none
  | _ => none

/-- Slot V (R250). -/
def decodeV (a k w : Nat) : Option Instr :=
  let i := opIss a k w false
  let at_ (rsv : Bool) := opIss a k w rsv
  let d := opD w
  let ra := opA w
  let rb := opB w
  let fn := opFn w
  match opField w 22 6 with
  | 0x00 => some (.nop (at_ (opField w 0 22 ≠ 0)) 2)
  | 0x01 => some (.vopI i fn d ra rb)
  | 0x02 => some (.vopS i fn d ra rb)
  | 0x03 => some (.vopD i fn d ra rb)
  | 0x04 => some (.vfmaS i (opField w 0 2) d ra rb (opField w 2 5))
  | 0x05 => some (.vfmaD i (opField w 0 2) d ra rb (opField w 2 5))
  | 0x06 => some (.vcmpI (at_ (opField w 0 3 ≠ 0)) (opField w 19 3) (opField w 17 2) ra rb (opField w 3 4))
  | 0x07 => some (.vcmpS (at_ (opField w 0 3 ≠ 0)) (opField w 19 3) (opField w 17 2) ra rb (opField w 3 4))
  | 0x08 => some (.vcmpD (at_ (opField w 0 3 ≠ 0)) (opField w 19 3) (opField w 17 2) ra rb (opField w 3 4))
  | 0x09 => some (.vcvt i fn d ra rb)
  | 0x0A => some (.vred i fn d ra rb)
  | 0x0B => some (.vperm i fn d ra rb)
  | 0x0C => some (.vbcast i fn d ra rb)
  | 0x0D => some (.vmovx i fn d ra rb)
  | 0x0E => some (.vins i fn d ra rb)
  | 0x0F => match fn with | 0 => some (.zredGauss i d ra rb) | 1 => some (.zredSwap i d ra rb) | _ => none
  | 0x10 => match fn with | 0 => some (.zsrchInit i d ra rb) | 1 => some (.zsrchStep i d ra rb) | _ => none
  | _ => none

/-- Slot M (R251). What ECC or parity finds at the access is no part of the word: the operation stands with no error. -/
def decodeM (a k w : Nat) : Option Instr :=
  let i := opIss a k w false
  let at_ (rsv : Bool) := opIss a k w rsv
  let d := opD w
  let ra := opA w
  let rb := opB w
  let imm := opField w 0 12
  let fn := opField w 0 3
  let qn := opField w 4 8
  let ind : Bool := opField w 3 1 = 1
  let op := opField w 22 6
  if 0x01 ≤ op ∧ op ≤ 0x07 then some (.scalarLoad i op d ra imm 0)
  else if 0x08 ≤ op ∧ op ≤ 0x0B then some (.scalarStore i op d ra imm)
  else match op with
  | 0x00 => some (.nop (at_ (opField w 0 22 ≠ 0)) 3)
  | 0x0C => some (.vld i d ra imm 0)
  | 0x0D => some (.vst i d ra imm)
  | 0x10 => some (.qpush i fn d ra qn ind)
  | 0x11 => some (.qseal i fn d ra qn ind)
  | 0x12 => some (.qpop i fn d ra qn ind [])
  | 0x13 => some (.qmark i fn d ra qn ind)
  | 0x14 => some (.qrwnd i fn d ra qn ind)
  | 0x15 => some (.qrel i fn d ra qn ind)
  | 0x16 => some (.qstat i fn d ra qn ind)
  | 0x18 =>
    match opFn w with
    | 0 => some (.rsvQuery i d ra rb)
    | 1 => some (.rsvHold i d ra rb)
    | 2 => some (.rsvCommit i d ra rb)
    | 3 => some (.rsvAbandon i d ra rb)
    | _ => none
  | 0x19 => some (.gwr i d ra imm)
  | 0x1A =>
    match opFn w with
    | 0 => some (.anvilTaskPost i d ra rb)
    | 1 => some (.anvilTaskCancel i d ra rb)
    | 2 => some (.taskEnd i d ra rb)
    | _ => none
  | _ => none

/-- The operation that a word spells in a slot of register set `k` of anvil `a` (R243). A word with a reserved OP or FN
spells none: its bundle is illegal (R247, command ILLEGAL_BUNDLE). -/
def decodeOp (a k slot w : Nat) : Option Instr :=
  match slot with
  | 0 => decodeS0 a k w
  | 1 => decodeS1 a k w
  | 2 => decodeV a k w
  | _ => decodeM a k w

/-- Whether an operation is one that a word alone spells: no reserved bit is set, and no error is found at its access. -/
def bareOp : Instr → Bool
  | .nop i _ | .alu i _ _ _ _ _ | .addi i _ _ _ _ | .andi i _ _ _ | .ori i _ _ _ | .xori i _ _ _ | .shi i _ _ _
  | .cmp i _ _ _ _ _ | .cmpi i _ _ _ _ _ | .plog i _ _ _ _ | .movq i _ _ _ _ | .br i _ | .brl i _ | .jr i _
  | .loop i _ _ _ | .loopi i _ _ _ | .mfs i _ _ | .mts i _ _ | .pad i _ | .ends i | .mul i _ _ _ _ | .fopD i _ _ _ _
  | .fmaD i _ _ _ _ _ | .fcvt i _ _ _ _ | .fcmp i _ _ _ _ _ | .frnd i _ _ _ _ | .twosum i _ _ _ | .twoprod i _ _ _
  | .cycsplit i _ _ _ | .vopI i _ _ _ _ | .vopS i _ _ _ _ | .vopD i _ _ _ _ | .vfmaS i _ _ _ _ _ | .vfmaD i _ _ _ _ _
  | .vcmpI i _ _ _ _ _ | .vcmpS i _ _ _ _ _ | .vcmpD i _ _ _ _ _ | .vcvt i _ _ _ _ | .vred i _ _ _ _
  | .vperm i _ _ _ _ | .vbcast i _ _ _ _ | .vmovx i _ _ _ _ | .vins i _ _ _ _ | .zredGauss i _ _ _ | .zredSwap i _ _ _
  | .zsrchInit i _ _ _ | .zsrchStep i _ _ _ | .scalarStore i _ _ _ _ | .vst i _ _ _ | .qpush i _ _ _ _ _
  | .qseal i _ _ _ _ _ | .qmark i _ _ _ _ _ | .qrwnd i _ _ _ _ _ | .qrel i _ _ _ _ _ | .qstat i _ _ _ _ _
  | .rsvQuery i _ _ _ | .rsvHold i _ _ _ | .rsvCommit i _ _ _ | .rsvAbandon i _ _ _ | .gwr i _ _ _
  | .anvilTaskPost i _ _ _ | .anvilTaskCancel i _ _ _ | .taskEnd i _ _ _ => !i.rsv
  | .scalarLoad i _ _ _ _ ecc => !i.rsv && ecc = 0
  | .vld i _ _ _ ecc => !i.rsv && ecc = 0
  | .qpop i _ _ _ _ _ par => !i.rsv && par = []
  | _ => false

/-- Where an operation issues, if the command is an operation with a word. -/
def issOf : Instr → Option Iss
  | .nop i _ | .alu i _ _ _ _ _ | .addi i _ _ _ _ | .andi i _ _ _ | .ori i _ _ _ | .xori i _ _ _ | .shi i _ _ _
  | .cmp i _ _ _ _ _ | .cmpi i _ _ _ _ _ | .plog i _ _ _ _ | .movq i _ _ _ _ | .br i _ | .brl i _ | .jr i _
  | .loop i _ _ _ | .loopi i _ _ _ | .mfs i _ _ | .mts i _ _ | .pad i _ | .ends i | .mul i _ _ _ _ | .fopD i _ _ _ _
  | .fmaD i _ _ _ _ _ | .fcvt i _ _ _ _ | .fcmp i _ _ _ _ _ | .frnd i _ _ _ _ | .twosum i _ _ _ | .twoprod i _ _ _
  | .cycsplit i _ _ _ | .vopI i _ _ _ _ | .vopS i _ _ _ _ | .vopD i _ _ _ _ | .vfmaS i _ _ _ _ _ | .vfmaD i _ _ _ _ _
  | .vcmpI i _ _ _ _ _ | .vcmpS i _ _ _ _ _ | .vcmpD i _ _ _ _ _ | .vcvt i _ _ _ _ | .vred i _ _ _ _
  | .vperm i _ _ _ _ | .vbcast i _ _ _ _ | .vmovx i _ _ _ _ | .vins i _ _ _ _ | .zredGauss i _ _ _ | .zredSwap i _ _ _
  | .zsrchInit i _ _ _ | .zsrchStep i _ _ _ | .scalarLoad i _ _ _ _ _ | .scalarStore i _ _ _ _ | .vld i _ _ _ _
  | .vst i _ _ _ | .qpush i _ _ _ _ _ | .qseal i _ _ _ _ _ | .qpop i _ _ _ _ _ _ | .qmark i _ _ _ _ _
  | .qrwnd i _ _ _ _ _ | .qrel i _ _ _ _ _ | .qstat i _ _ _ _ _ | .rsvQuery i _ _ _ | .rsvHold i _ _ _
  | .rsvCommit i _ _ _ | .rsvAbandon i _ _ _ | .gwr i _ _ _ | .anvilTaskPost i _ _ _ | .anvilTaskCancel i _ _ _
  | .taskEnd i _ _ _ => some i
  | _ => none

/-- The commands that the bundle at the program counter of register set `k` of anvil `a` spells, in slot order (R243):
little-endian words, S0 lowest. -/
def Device.fetchBundle (d : Device) (a k : Nat) : List (Option Instr) :=
  let base := crucibleBase a + ((d.anv a).rset k).pc
  (List.range 4).map fun slot => decodeOp a k slot (leNat (d.memRead (base + 4 * slot) 4))

end Sys2Proof.Machine
end

