-- ==== Sys2Proof/WellFormed.lean ====
section
/-!
DEFINITION. WellFormed.lean: the commands whose operands lie in the ranges that the spec gives their fields. A command out
of range is no command of the device; no meaning relies on the range.
-/
namespace Sys2Proof

/-- An issue slot: an anvil 0 to 63, a register set 0 to 4, a predicate 0 to 7 (R220, R244). -/
def Iss.wf (i : Iss) : Bool := i.anvil < 64 && i.set < 5 && i.pg < 8

/-- A host's datagram (R370, R378): a partition 0 to 3, a 32-bit sequence above 0, a 16-bit request ID, a body that fits
the payload. -/
def HostPkt.wf (h : HostPkt) : Bool :=
  h.part < 4 && 1 ≤ h.seq && h.seq < 2 ^ 32 && h.req < 2 ^ 16 && h.body.length ≤ 1420

/-- A machine's datagram (R370): an 18-bit source node, a 32-bit sequence above 0, a payload of 1 to 1,420 bytes. -/
def MachPkt.wf (m : MachPkt) : Bool :=
  m.node < 2 ^ 18 && 1 ≤ m.seq && m.seq < 2 ^ 32 && 1 ≤ m.body.length && m.body.length ≤ 1420

/-- A peer's datagram (R370, R449). -/
def PeerPkt.wf (p : PeerPkt) : Bool := 1 ≤ p.seq && p.seq < 2 ^ 32 && 1 ≤ p.body.length && p.body.length ≤ 1420

/-- An update command's source (R478, R481). -/
def UpdFrom.wf : UpdFrom → Bool
  | .host h => h.wf
  | .svc req body => req < 2 ^ 16 && body.length ≤ 1040

/-- A received frame (R345): a port 0 to 3, and an end after its start. -/
def RxFrame.wf (f : RxFrame) : Bool := f.port < 4 && f.sfd ≤ f.fin && f.rssi < 256 && f.lqi < 256

/-- Whether a command's operands lie in their ranges. -/
def Instr.wf (i : Instr) : Bool :=
  match i with
  | .registerWrite addr set value => addr < 2 ^ 40 && set < 2 ^ 32 && value < 2 ^ 32
  | .misalignedAccess addr len _ => addr < 2 ^ 40 && len < 256
  | .rcRead addr set => addr < 2 ^ 40 && set < 2 ^ 32
  | .lowWordRead addr => addr < 2 ^ 40
  | .heatStart feOk => feOk < 16
  | .strokeStart => true
  | .foldComplete => true
  | .tb0Valid _ _ _ => true
  | .measurementEpoch _ => true
  | .spoofAlarmClear => true
  | .portDisplaced p => p < 4
  | .signalAcquired p code sat => p < 4 && code < 32 && sat < 256
  | .load => true
  | .refPositionCheck => true
  | .surveyStart => true
  | .surveyAbort => true
  | .surveyCommit _ _ _ => true
  | .corrProfile h => h.wf
  | .corrStatus h => h.wf
  | .correctionSet tag => tag < 3
  | .radioFragment p _ _ _ tag => p < 4 && tag < 3
  | .broadcastKeyGenerate => true
  | .broadcastKeyRoll => true
  | .keyAnnouncement _ tag => tag < 3
  | .solveEnrol h => h.wf
  | .solverProfile h => h.wf
  | .solverStatus h => h.wf
  | .atlasRead h => h.wf
  | .atlasWrite h => h.wf
  | .atlasClear h => h.wf
  | .observationFrame m => m.wf
  | .positionReport m => m.wf
  | .centralSolve m _ => m < 2 ^ 12
  | .catchUpUpdate _ => true
  | .filterReset m => m < 2 ^ 12
  | .positionsPublished => true
  | .atlasEvidence _ _ => true
  | .machineAdmit h => h.wf
  | .machineRelease h => h.wf
  | .ownerOffer h => h.wf
  | .ownerAccept h => h.wf
  | .transferExpiry m => m < 2 ^ 12
  | .readGrant h => h.wf
  | .nodeRead h => h.wf
  | .machineRead h => h.wf
  | .nodeAllow h => h.wf
  | .fleetCfg h => h.wf
  | .fleetStatus h => h.wf
  | .hello m => m.wf
  | .silent m => m < 2 ^ 12
  | .leavingComplete m => m < 2 ^ 12
  | .nodeTimeout n => n < 2 ^ 18
  | .quarantineExpiry n => n < 2 ^ 18
  | .graphWrite h => h.wf
  | .graphCheck h => h.wf
  | .rsvGraphCheck value => value < 2 ^ 32
  | .rsvDisable value => value < 2 ^ 32
  | .routeRequest h => h.wf
  | .routeCommit h => h.wf
  | .routeAbandon h => h.wf
  | .routePlan => true
  | .holdExpiry m => m < 2 ^ 12
  | .overstayReplan m => m < 2 ^ 12
  | .pauseSat => true
  | .taskPost h => h.wf
  | .taskCancel h => h.wf
  | .auctionNow h => h.wf
  | .allotProfile h => h.wf
  | .dockCfg h => h.wf
  | .siteLoad h => h.wf
  | .taskReport m => m.wf
  | .auction => true
  | .energyPlanner => true
  | .taskExpiry t => t < 8192
  | .exclusionExpiry t m => t < 8192 && m < 2 ^ 12
  | .batteryStale m => m < 2 ^ 12
  | .siteLoadStale => true
  | .governorSample k _ _ _ _ => k < 5
  | .stale m => m < 2 ^ 12
  | .frozen m => m < 2 ^ 12
  | .regionChange m => m < 2 ^ 12
  | .machFault m => m < 2 ^ 12
  | .engineFault => true
  | .zoneTtl z => z < 256
  | .govCoef h => h.wf
  | .govSwap h => h.wf
  | .govBankSwap => true
  | .govMachine h => h.wf
  | .govOverride h => h.wf
  | .govRead h => h.wf
  | .zoneState h => h.wf
  | .stopInputChange _ _ => true
  | .channelReadingChange _ => true
  | .discrepancy => true
  | .discClear => true
  | .stopCmd h => h.wf
  | .resumeCmd h => h.wf
  | .permitKey h => h.wf
  | .permitLatch => true
  | .permitBeacon clear _ => clear < 16
  | .stopFrame p _ _ => p < 4
  | .minRepetitionEnd => true
  | .sealAhead p => p < 4
  | .monitorCheck good => good < 16
  | .claimRefresh => true
  | .claimDrop => true
  | .claimSample _ => true
  | .claimConflict => true
  | .heartbeat p => p.wf
  | .hbLost => true
  | .stateMirror _ => true
  | .forwardedCommand p _ => p.wf
  | .revertReq => true
  | .release => true
  | .blockStart id => id < 2 ^ 16
  | .overrun a => a < 64
  | .rerun a => a < 64
  | .fabFence a => a < 64
  | .standInRemap a => a < 64
  | .admitVariant value => value < 2 ^ 32
  | .variantStart => true
  | .tongsRequest q => q < 8
  | .tongsAbort q _ => q < 8
  | .tongsCompletion q ecc _ => q < 8 && ecc < 5
  | .powerGateWindow h => h < 8
  | .powerGateEnd h => h < 8
  | .nop i slot => i.wf && slot < 4
  | .alu i _ fn d a b => i.wf && fn < 128 && d < 32 && a < 32 && b < 32
  | .addi i _ d a imm => i.wf && d < 32 && a < 32 && imm < 2 ^ 12
  | .andi i d a imm => i.wf && d < 32 && a < 32 && imm < 2 ^ 12
  | .ori i d a imm => i.wf && d < 32 && a < 32 && imm < 2 ^ 12
  | .xori i d a imm => i.wf && d < 32 && a < 32 && imm < 2 ^ 12
  | .shi i d a imm => i.wf && d < 32 && a < 32 && imm < 2 ^ 12
  | .cmp i pd mode a b cond => i.wf && pd < 8 && mode < 4 && a < 32 && b < 32 && cond < 16
  | .cmpi i pd mode a cond imm => i.wf && pd < 8 && mode < 4 && a < 32 && cond < 16 && imm < 256
  | .plog i pd pa pb lop => i.wf && pd < 8 && pa < 8 && pb < 8 && lop < 4
  | .movq i n d _ imm => i.wf && n < 4 && d < 32 && imm < 2 ^ 16
  | .br i ofs => i.wf && ofs < 2 ^ 22
  | .brl i ofs => i.wf && ofs < 2 ^ 22
  | .jr i a => i.wf && a < 32
  | .loop i lc a len => i.wf && lc < 4 && a < 32 && len < 1024
  | .loopi i lc count len => i.wf && lc < 4 && count < 1024 && len < 1024
  | .mfs i d sreg => i.wf && d < 32 && sreg < 2 ^ 12
  | .mts i a sreg => i.wf && a < 32 && sreg < 2 ^ 12
  | .pad i n => i.wf && n < 2 ^ 16
  | .ends i => i.wf
  | .mul i fn d a b => i.wf && fn < 128 && d < 32 && a < 32 && b < 32
  | .fopD i fn d a b => i.wf && fn < 128 && d < 32 && a < 32 && b < 32
  | .fmaD i fn d a b c => i.wf && fn < 4 && d < 32 && a < 32 && b < 32 && c < 32
  | .fcvt i fn d a b => i.wf && fn < 128 && d < 32 && a < 32 && b < 32
  | .fcmp i pd mode a b cond => i.wf && pd < 8 && mode < 4 && a < 32 && b < 32 && cond < 16
  | .frnd i fn d a b => i.wf && fn < 128 && d < 32 && a < 32 && b < 32
  | .twosum i d a b => i.wf && d < 32 && a < 32 && b < 32
  | .twoprod i d a b => i.wf && d < 32 && a < 32 && b < 32
  | .cycsplit i d a b => i.wf && d < 32 && a < 32 && b < 32
  | .vopI i fn d a b => i.wf && fn < 128 && d < 32 && a < 32 && b < 32
  | .vopS i fn d a b => i.wf && fn < 128 && d < 32 && a < 32 && b < 32
  | .vopD i fn d a b => i.wf && fn < 128 && d < 32 && a < 32 && b < 32
  | .vfmaS i fn d a b c => i.wf && fn < 4 && d < 32 && a < 32 && b < 32 && c < 32
  | .vfmaD i fn d a b c => i.wf && fn < 4 && d < 32 && a < 32 && b < 32 && c < 32
  | .vcmpI i pd mode a b cond => i.wf && pd < 8 && mode < 4 && a < 32 && b < 32 && cond < 16
  | .vcmpS i pd mode a b cond => i.wf && pd < 8 && mode < 4 && a < 32 && b < 32 && cond < 16
  | .vcmpD i pd mode a b cond => i.wf && pd < 8 && mode < 4 && a < 32 && b < 32 && cond < 16
  | .vcvt i fn d a b => i.wf && fn < 128 && d < 32 && a < 32 && b < 32
  | .vred i fn d a b => i.wf && fn < 128 && d < 32 && a < 32 && b < 32
  | .vperm i fn d a b => i.wf && fn < 128 && d < 32 && a < 32 && b < 32
  | .vbcast i fn d a b => i.wf && fn < 128 && d < 32 && a < 32 && b < 32
  | .vmovx i fn d a b => i.wf && fn < 128 && d < 32 && a < 32 && b < 32
  | .vins i fn d a b => i.wf && fn < 128 && d < 32 && a < 32 && b < 32
  | .zredGauss i d a b => i.wf && d < 32 && a < 32 && b < 32
  | .zredSwap i d a b => i.wf && d < 32 && a < 32 && b < 32
  | .zsrchInit i d a b => i.wf && d < 32 && a < 32 && b < 32
  | .zsrchStep i d a b => i.wf && d < 32 && a < 32 && b < 32
  | .scalarLoad i op d a imm ecc => i.wf && 1 ≤ op && op ≤ 7 && d < 32 && a < 32 && imm < 2 ^ 12 && ecc < 4
  | .scalarStore i op src a imm => i.wf && 8 ≤ op && op ≤ 11 && src < 32 && a < 32 && imm < 2 ^ 12
  | .vld i d a imm ecc => i.wf && d < 32 && a < 32 && imm < 2 ^ 12 && ecc < 4
  | .vst i src a imm => i.wf && src < 32 && a < 32 && imm < 2 ^ 12
  | .resultWriteback a par => a < 64 && par < 3
  | .qpush i fn d a qn _ => i.wf && fn < 8 && d < 32 && a < 32 && qn < 256
  | .qseal i fn d a qn _ => i.wf && fn < 8 && d < 32 && a < 32 && qn < 256
  | .qpop i fn d a qn _ _ => i.wf && fn < 8 && d < 32 && a < 32 && qn < 256
  | .qmark i fn d a qn _ => i.wf && fn < 8 && d < 32 && a < 32 && qn < 256
  | .qrwnd i fn d a qn _ => i.wf && fn < 8 && d < 32 && a < 32 && qn < 256
  | .qrel i fn d a qn _ => i.wf && fn < 8 && d < 32 && a < 32 && qn < 256
  | .qstat i fn d a qn _ => i.wf && fn < 8 && d < 32 && a < 32 && qn < 256
  | .rsvQuery i d a b => i.wf && d < 32 && a < 32 && b < 32
  | .rsvHold i d a b => i.wf && d < 32 && a < 32 && b < 32
  | .rsvCommit i d a b => i.wf && d < 32 && a < 32 && b < 32
  | .rsvAbandon i d a b => i.wf && d < 32 && a < 32 && b < 32
  | .gwr i src a imm => i.wf && src < 32 && a < 32 && imm < 2 ^ 12
  | .anvilTaskPost i d a b => i.wf && d < 32 && a < 32 && b < 32
  | .anvilTaskCancel i d a b => i.wf && d < 32 && a < 32 && b < 32
  | .taskEnd i d a b => i.wf && d < 32 && a < 32 && b < 32
  | .triggerEnable k value => k < 16 && value < 2 ^ 32
  | .triggerTask k => k < 16
  | .notBeforeWake n => n < 2 ^ 12
  | .taskDispatch h => h < 8
  | .completionRecord => true
  | .queueEnable n value => n < 256 && value < 2 ^ 32
  | .queueDisable n value => n < 256 && value < 2 ^ 32
  | .queFlush n _ _ => n < 256
  | .flushEffect n => n < 256
  | .flushSettle n => n < 256
  | .handOver n => n < 256
  | .handOverComplete n => n < 256
  | .macEnable p value => p < 4 && value < 2 ^ 32
  | .indFlush p value => p < 4 && value < 2 ^ 32
  | .nodeSend h => h.wf
  | .dataFrame f seq _ => f.wf && seq < 2 ^ 32
  | .acknowledgement p _ => p < 4
  | .dataRequest f _ _ => f.wf
  | .indirectData p _ _ => p < 4
  | .frameExpiry p k => p < 4 && k < 16384
  | .csmaCa p _ _ _ => p < 4
  | .associationRequest f _ _ => f.wf
  | .disassociation f => f.wf
  | .relayReport f => f.wf
  | .nodeResync n => n < 2 ^ 18
  | .markerError p => p < 4
  | .markerLock p => p < 4
  | .transceiverPllUnlock p => p < 4
  | .linkChange k _ => k < 3
  | .sessionOpen h _ => h.wf
  | .sessionTakeover h cls sub code => h.wf && cls < 16 && sub < 4 && code < 2 ^ 16
  | .sessionClose h => h.wf
  | .sessionTimeout p => p < 4
  | .ping h => h.wf
  | .regRead h => h.wf
  | .regWrite h => h.wf
  | .mcastKey h => h.wf
  | .kernelData h sub => h.wf && sub < 4
  | .hostEgress p i => p < 4 && i < 16
  | .spiWriteDatagram h _ cls sub code _ => h.wf && cls < 16 && sub < 4 && code < 2 ^ 16
  | .spiReadDatagram => true
  | .spiStatus _ => true
  | .compareFire k => k < 32
  | .compareTargetWrite k target => k < 32 && target < 2 ^ 32
  | .capture k => k < 16
  | .timSnap win => win < 5
  | .timAdj b _ => b < 8
  | .masterChange b m => b < 8 && m < 4
  | .holdoverEntry => true
  | .rejoin => true
  | .tb0Locked => true
  | .ptpMessage _ _ _ _ _ => true
  | .ptpAnnounceTimeout => true
  | .meterSample f _ => f < 8
  | .chFault n _ _ => n < 36
  | .rangeSwitch f => f < 8
  | .intervalClose _ => true
  | .powerSummary => true
  | .meteringStart _ _ _ => true
  | .meterRead h => h.wf
  | .meterPubkey h => h.wf
  | .meterNow h => h.wf
  | .pfailN => true
  | .keyLoad h _ => h.wf
  | .keyUnload h => h.wf
  | .keyGenerate h => h.wf
  | .keyImport h => h.wf
  | .keyInvalidate h => h.wf
  | .keyStatus h => h.wf
  | .clearAll => true
  | .tamperEvent _ active _ _ => active < 2 ^ 16
  | .rtcSet secs => secs < 2 ^ 32
  | .start _ => true
  | .startOk => true
  | .resetN _ => true
  | .powerOn => true
  | .vinLoss => true
  | .sysReset value => value < 2 ^ 32
  | .sysWdog value => value < 2 ^ 32
  | .watchdogExpiry => true
  | .updClaim u => u.wf
  | .updData u => u.wf
  | .updCommit u _ => u.wf
  | .updAbort u => u.wf
  | .updStatus u => u.wf
  | .lockIdle => true
  | .svcChallenge req body => req < 2 ^ 16 && body.length ≤ 1040
  | .svcAuth req body _ => req < 2 ^ 16 && body.length ≤ 1040
  | .svcSetBaud req body => req < 2 ^ 16 && body.length ≤ 1040
  | .svcWriteRecovery req _ _ => req < 2 ^ 16
  | .svcRestore req body _ => req < 2 ^ 16 && body.length ≤ 1040
  | .svcOtpWrite req body _ => req < 2 ^ 16 && body.length ≤ 1040
  | .svcProvision req _ => req < 2 ^ 16
  | .svcPairBind req id _ => req < 2 ^ 16 && id.length ≤ 1040
  | .svcStop req body => req < 2 ^ 16 && body.length ≤ 1040
  | .svcResume req body => req < 2 ^ 16 && body.length ≤ 1040
  | .svcClaimRelease req body => req < 2 ^ 16 && body.length ≤ 1040
  | .svcLogClear req body => req < 2 ^ 16 && body.length ≤ 1040
  | .svcDebugUnlock req _ => req < 2 ^ 16
  | .svcReset req body => req < 2 ^ 16 && body.length ≤ 1040
  | .svcConfigWrite req body => req < 2 ^ 16 && body.length ≤ 1040
  | .svcConfigRead req body => req < 2 ^ 16 && body.length ≤ 1040
  | .svcEn _ => true
  | .svcSessionTimeout => true
  | .stateRequest value => value < 2 ^ 32
  | .stateChange => true
  | .wakeIn _ => true
  | .rtcAlarm => true
  | .pllUnlock pll => pll < 10
  | .marginReading _ => true
  | .trend => true
  | .trendNow => true
  | .trimStep => true
  | .trimClear => true
  | .errPick win seq => win < 5 && seq < 2 ^ 32
  | .errClear => true
  | .datagramRejected port why _ => port < 4 && why < 3
  | .unknownCommand h code => h.wf && code < 2 ^ 16
  | .neighbourDiscovery port _ target _ => port < 3 && target < 2 ^ 128
  | .acknowledgementReceived p short _ => p < 4 && short < 2 ^ 16
  | .illegalBundle i slot => i.wf && slot < 4
  | .admissionComplete => true
  | .hauraFrameDiscard => true
  | .jtagInstruction ins => ins < 5

end Sys2Proof
end

