-- ==== Sys2Proof/Safety.lean ====
section
/-!
DEFINITION. Safety.lean: the terms in which claims about the device are put: a command that completes, an operation that
joins its bundle, a host command that the device takes, and what every step keeps.
-/
namespace Sys2Proof.Machine

/-! ## Completion -/

/-- A command completes: it answers a next state, the waiting commands stay, and the device is as `P` says. -/
def Completes (c : Instr) (s : State) (P : Device → Prop) : Prop :=
  ∃ t, exec c s = .next t ∧ t.pending = s.pending ∧ P t.dev

/-- Every command that waits is one of the device. -/
def State.pendingWf (s : State) : Prop := s.pending.all Instr.wf = true

/-! ## Anvil operations -/

/-- The register set in which an operation issues. -/
def Device.setOf (d : Device) (i : Iss) : RSet := (d.anv i.anvil).rset i.set

/-- The guard of a scalar operation is 1 (R244). -/
def Device.guarded (d : Device) (i : Iss) : Prop := bitOf (guardOf (d.setOf i) i) 0 = true

/-- The lanes that the guard of a vector operation opens are not none (R242, R244). -/
def Device.someLane (d : Device) (i : Iss) : Prop := guardOf (d.setOf i) i % 256 ≠ 0

/-- An operation joins the bundle `b` (R243 to R245, R264): its register set issues, the slot has not passed, no
exception and no wait stands, no destination is named twice, no reserved bit is set, and no result of the set is on its
way (the static set does not wait for one). -/
def Device.joins (d : Device) (i : Iss) (slot : Nat) (dsts : List (Nat × Nat)) (b : Bundle) : Prop :=
  d.bundleFor i slot = some b ∧ b.exc = none ∧ b.wait = false ∧ i.rsv = false ∧
    (∀ x ∈ dsts, x ∉ b.dests) ∧ (i.set = 0 ∨ (d.setOf i).pend = [])

/-- The device with the bundle `b` of the anvil where an operation issues. -/
def Device.withBundle (d : Device) (i : Iss) (b : Bundle) : Device :=
  d.setAnv i.anvil { d.anv i.anvil with bund := some b }

/-- A bundle with the results, flags and destinations of the operation in a slot. -/
def Bundle.plus (b : Bundle) (slot : Nat) (dsts : List (Nat × Nat)) (new : List Pend) (fl : Nat) : Bundle :=
  { b with slot := slot + 1, dests := b.dests ++ dsts, new := b.new ++ new, flags := flOr b.flags fl }

/-- A bundle without an exception, that the operation in a slot leaves with a FETCH, ILLEGAL, POISON or ACCESS
exception. -/
def Bundle.excepts (b : Bundle) (slot : Nat) (dsts : List (Nat × Nat)) (kind : Nat) : Bundle :=
  { b with slot := slot + 1, dests := b.dests ++ dsts, exc := some (kind, slot) }

/-- The result of an operation for an x register, due at the end of the `lat`-th cycle (R263). -/
def Device.xResult (d : Device) (i : Iss) (reg : Nat) (val : BitVec 64) (bad : Bool) (lat : Nat) : Pend :=
  ⟨0, reg, val.toNat, b2n bad, 0, some ((d.anv i.anvil).now + lat - 1)⟩

/-- The result of an operation for lanes of a v register. -/
def Device.vResult (d : Device) (i : Iss) (reg val bad mask lat : Nat) : Pend :=
  ⟨1, reg, val, bad, mask, some ((d.anv i.anvil).now + lat - 1)⟩

/-- The result of an operation for bits of a predicate. -/
def Device.pResult (d : Device) (i : Iss) (reg val mask lat : Nat) : Pend :=
  ⟨2, reg, val, 0, mask, some ((d.anv i.anvil).now + lat - 1)⟩

/-- The bundle in progress of an anvil gains results. -/
def Device.gains (d : Device) (i : Iss) (l : List Pend) : Device :=
  d.setAnv i.anvil { d.anv i.anvil with
    bund := (d.anv i.anvil).bund.map fun c => { c with new := c.new ++ l } }

/-- The queue that format Q names (R246): x[A][7:0] with IND 1 and QN 0, QN with IND 0 and A 0. -/
def Device.namesQueue (d : Device) (i : Iss) (a qn : Nat) (ind : Bool) (n : Nat) : Prop :=
  if ind then qn = 0 ∧ ((d.setOf i).xr a).bad = false ∧ n = (d.setOf i).xv a % 256 else a = 0 ∧ n = qn

/-- A register set may use a queue in a role (0 consumer, 1 producer, 2 either): the queue is enabled, the set has the
role, no other context owns its packet, and a stroke block stays within its declarations with the packets and granules
that the operation adds (R276, R300, R316). -/
def Device.mayUse (d : Device) (i : Iss) (n dir pk gr : Nat) : Prop :=
  (d.q n).on = true ∧
    (dir = 0 → d.isCons n i.anvil i.set = true) ∧ (dir = 1 → d.isProd n i.anvil i.set = true) ∧
    (dir = 2 → d.isCons n i.anvil i.set = true ∨ d.isProd n i.anvil i.set = true) ∧ dir < 3 ∧
    (i.set = 0 → d.within (d.anv i.anvil) n dir pk gr = true) ∧
    (dir = 0 → d.fld (QUE_CFG n) 16 8 = 0x40 → ∀ w, (d.q n).owner = some w → w = ownerOf i.anvil i.set) ∧
    (dir = 1 → d.fld (QUE_CFG n) 8 8 = 0x40 → ∀ o, (d.q n).opn = some o → o.owner = ownerOf i.anvil i.set)

/-! ## Host commands -/

/-- The command that the device takes at once when a host's datagram arrives, with the device that takes it (R372, R378,
R380): the datagram is accepted, no packet waits before it in queue 0, and queue 1 holds the credit for its response. -/
def Device.takes (d : Device) (code : Nat) (h : HostPkt) : Option (Cmd × Device) :=
  match d.accept h with
  | (false, _) => none
  | (true, e) =>
    if queuePkts (e.q (16 * h.part)) = 0 then
      match (e.hwPush (16 * h.part) (packetBytes code h.req 0 h.body)).takeCmd h.part with
      | (some c, e') => some (c, e')
      | (none, _) => none
    else none

/-- The device holds a command for the next heat boundary (R110). -/
def Device.holds (e : Device) (c : Cmd) (d : Device) : Prop :=
  d = { e with hst := { e.hst with waiting := e.hst.waiting ++ [c] } }

end Sys2Proof.Machine
end

