-- ==== Sys2Proof/Certificates/Slice0/Obligations.lean ====
section
/-!
DEFINITION. Certificates/Slice0/Obligations.lean: the statements about the device, for the provers. Each docstring says
what its statement states and which rules of spec/ it comes from; a clause that rests on a choice of the model names the
log entry. The helper definitions say in the spec's terms what a result is to be.
-/
namespace Sys2Proof.Claims
end Sys2Proof.Claims

open Sys2Proof Sys2Proof.Machine Sys2Proof.Claims

/-! ## The whole machine -/

/-- For every state and command at the front of its queue, step is exec of that command on the state with the queue's
rest. With an empty queue, step answers a next state in which one cycle of CD1 has passed and nothing else has changed: a
choice of the model (log entry 1). -/
def Obligations.StepRunsTheCommandAtTheFront : Prop :=
  (∀ (s : State) (c : Instr) (rest : List Instr),
    step { s with pending := c :: rest } = exec c { s with pending := rest }) ∧
  (∀ s : State, s.pending = [] → step s = .next { s with dev := s.dev.cycles 1 })

/-- Every command but JTAG_INSTRUCTION answers a next state from every state, with the queue's rest unchanged. A
JTAG_INSTRUCTION of BYPASS changes nothing; IDCODE sends DBG_IDCODE; SAMPLE/PRELOAD changes nothing; EXTEST and debug
access change nothing while debug is not open or DBG_OFF is set, and stop with the fault debugAccess under an open
authorisation, where R485 does not say what they do. -/
def Obligations.EveryCommandCompletesButOneDebugAccess : Prop :=
  (∀ (s : State) (c : Instr), (∀ i, c ≠ .jtagInstruction i) → Completes c s fun _ => True) ∧
  (∀ (s : State) (i : Nat),
    (i = 0 ∨ i = 2 → exec (.jtagInstruction i) s = .next s) ∧
    (i = 1 → Completes (.jtagInstruction i) s fun e => e = s.dev.send .jtag 0 1 (leBytes 4 (s.dev.rdN DBG_IDCODE))) ∧
    (3 ≤ i → s.dev.boot.dbgOpen = false ∨ s.dev.boot.policy 0 = true → exec (.jtagInstruction i) s = .next s) ∧
    (3 ≤ i → s.dev.boot.dbgOpen = true → s.dev.boot.policy 0 = false →
      exec (.jtagInstruction i) s = .fault .debugAccess))

/-- In every state whose waiting commands are all well-formed, a step that answers a next state leaves a state whose waiting
commands are all well-formed: no command puts another one into the queue. -/
def Obligations.WaitingCommandsStayCommandsOfTheDevice : Prop :=
  ∀ s t : State, s.pendingWf → step s = .next t → t.pendingWf

/-- For every state whose memory lists its bytes and its poisoned words strictly rising, with no listed byte equal to 0, the
reading of an unlisted byte (a choice of the model, log entry 8), every operation of an anvil that answers a next state,
the write-back of results among them, leaves memory in that form: two memories with the same bytes are the same data. -/
def Obligations.AnvilOperationsKeepMemoryCanonical : Prop :=
  ∀ (s t : State) (c : Instr), Memory.wf s.dev.mem = true →
    ((issOf c).isSome ∨ (∃ i slot, c = .illegalBundle i slot) ∨ ∃ a par, c = .resultWriteback a par) →
    exec c s = .next t → Memory.wf t.dev.mem = true

/-- The state after reset meets the invariants: its queue of commands is empty, memory is canonical and lists nothing. Every
register reads the reset value of its register table, every queue is disabled, every key slot is empty, no session is
open, heats have not begun, and the heat counter reads 0. -/
def Obligations.ResetMeetsTheInvariants : Prop :=
  State.reset.pendingWf ∧ State.reset.pending = [] ∧ Memory.wf State.reset.dev.mem = true ∧
    State.reset.dev.mem.bytes = [] ∧ (∀ r, State.reset.dev.rd r = regReset r) ∧
    (∀ n, State.reset.dev.q n = queueOff) ∧ (∀ n, State.reset.dev.slot n = slotEmpty) ∧
    (∀ p, (State.reset.dev.sess p).open_ = false) ∧ State.reset.dev.tim.heats = false ∧ State.reset.dev.heat = 0

/-! ## The encoding of the anvil operations -/

/-- The words 0x00863020 in S0, 0x01544298 in S1, 0x21440088 in V and 0x03007002 in M, written out from the fields of R244
and R246, decode to ADDI x3, x3, 32; FMADD.D x10, x4, x5, x6; VFMA.D v2, v0, v1, v2 under guard p2; and VLD v0, 64(x7).
A word with OP 0x0A in S0, which R248 reserves, decodes to no operation. -/
def Obligations.OperationWordsDecodeToTheirOperation : Prop :=
  decodeOp 5 1 0 0x00863020 = some (.addi ⟨5, 1, false, 0, false⟩ false 3 3 32) ∧
    decodeOp 5 1 1 0x01544298 = some (.fmaD ⟨5, 1, false, 0, false⟩ 0 10 4 5 6) ∧
    decodeOp 5 1 2 0x21440088 = some (.vfmaD ⟨5, 1, false, 2, false⟩ 0 2 0 1 2) ∧
    decodeOp 5 1 3 0x03007002 = some (.vld ⟨5, 1, false, 0, false⟩ 0 7 2 0) ∧
    decodeOp 5 1 0 0x02800000 = none

/-- For every well-formed operation of an anvil without a reserved bit and without an error at its access, with every
operand at every value its fields admit: its word, decoded in its slot for its register set, is the operation again. And
for every 32-bit word that decodes in a slot to an operation with no reserved bit set, the operation encodes to that slot
and word. -/
def Obligations.EncodedOperationsDecodeToThemselves : Prop :=
  (∀ (c : Instr) (slot w : Nat) (i : Iss), c.wf = true → bareOp c = true → encodeOp c = some (slot, w) →
    issOf c = some i → decodeOp i.anvil i.set slot w = some c) ∧
  (∀ (a k slot w : Nat) (c : Instr) (i : Iss), w < 2 ^ 32 → slot < 4 → decodeOp a k slot w = some c →
    issOf c = some i → i.rsv = false → encodeOp c = some (slot, w))


/-! ## Registers and windows -/

/-- The newest fault record names a block, a code and a unit. -/
def Sys2Proof.Claims.NewestIs (d : Device) (block code unit : Nat) : Prop :=
  ∃ r, newestRec d.log = some r ∧ r.block = block ∧ r.code = code ∧ r.unit = unit

/-- For every register block, every offset in it and every length that does not make an aligned access of 32 bits: a write
changes nothing but the slag log, which gains a BAD_ACCESS record of the block, and a read does the same and returns 0;
also where REGISTER_WRITE, RC_READ or LOW_WORD_READ name such an address. An aligned 32-bit write and read of a plain
register are accepted: the write changes the register as its fields allow, the read returns it. -/
def Obligations.MisalignedAccessesHaveNoEffect : Prop :=
  ∀ (s : State) (b : Blk) (off : Nat), off < 0x10000 →
    let a := 0x0040000000 + blkNum b * 0x10000 + off
    let e (len : Nat) (wr : Bool) := s.dev.slagB b 1 noUnit (ctxAccess a len wr)
    (∀ len, (off % 4 ≠ 0 ∨ len ≠ 4) →
      Completes (.misalignedAccess a len true) s (· = e len true) ∧
      Completes (.misalignedAccess a len false) s (· = { e len false with bus := 0 }) ∧
      ∀ wr, NewestIs (e len wr) (blkNum b) 1 0xFFFF ∧ (e len wr).mem = s.dev.mem ∧ (e len wr).que = s.dev.que ∧
        ∀ r : Reg, r.blk ≠ .err → (e len wr).rd r = s.dev.rd r) ∧
    (off % 4 ≠ 0 → ∀ set value,
      Completes (.registerWrite a set value) s (· = e 4 true) ∧
      Completes (.rcRead a set) s (· = { e 4 false with bus := 0 }) ∧
      Completes (.lowWordRead a) s (· = { e 4 false with bus := 0 })) ∧
    (off % 4 = 0 → ∀ row, findRow ⟨b, off⟩ = some row →
      (isRc ⟨b, off⟩ = false → isLow ⟨b, off⟩ = false → isHigh ⟨b, off⟩ = false →
        Completes (.rcRead a 0) s (· = { s.dev with bus := BitVec.ofNat 32 (s.dev.view 0 ⟨b, off⟩) })) ∧
      ∀ v, v < 2 ^ 32 → Completes (.registerWrite a 0 v) s (· = s.dev.regWrite 0 ⟨b, off⟩ 0 v))

/-- For every register of a block's map without an effect of its own and without encodings that depend on others, a
REGISTER_WRITE of its address completes: each RW field whose encoding is allowed takes the bits written, each RO, RC and
WO field and each locked RWL field keeps its value, each W1C bit clears where 1 is written unless the hardware sets it in
that cycle, each W1S bit is set where 1 is written, a field with a reserved encoding keeps its value and the newest fault
record is RESERVED_ENC of the block. No other register outside ERR changes, and the queues and memory stay. -/
def Obligations.RegisterWritesFollowTheAccessCodes : Prop :=
  ∀ (s : State) (r : Reg) (row : RegRow) (set v : Nat), r.off < 0x10000 → r.off % 4 = 0 → findRow r = some row →
    v < 2 ^ 32 → s.dev.special 0 r row v = none → s.dev.outOfRange r v = false → (∀ x, crossBad r x = []) →
    r.blk ≠ .err →
    Completes (.registerWrite (regAddr r) set v) s fun e =>
      (∀ f ∈ row.fields,
        let old := s.dev.fld r f.lo f.w
        let new := bitsOf v f.lo f.w
        (f.acc = .rw ∨ f.acc = .rwl ∧ s.dev.locked r = false →
          e.fld r f.lo f.w = if f.allows new then new else old) ∧
        (f.acc = .ro ∨ f.acc = .rc ∨ f.acc = .wo ∨ f.acc = .rwl ∧ s.dev.locked r = true → e.fld r f.lo f.w = old) ∧
        (f.acc = .w1c → ∀ i, i < f.w →
          bitOf (e.fld r f.lo f.w) i = ((bitOf old i && !bitOf new i) || bitOf set (f.lo + i))) ∧
        (f.acc = .w1s → e.fld r f.lo f.w = Nat.lor old new) ∧
        ((f.acc = .rw ∨ f.acc = .rwl ∧ s.dev.locked r = false) → f.allows new = false →
          NewestIs e (blkNum r.blk) 2 0xFFFF)) ∧
      (∀ x : Reg, x ≠ r → x.blk ≠ .err → e.rd x = s.dev.rd x) ∧ e.que = s.dev.que ∧ e.mem = s.dev.mem

/-- LOW_WORD_READ of the low word of a 64-bit register pair returns it and latches the high word, and the next read of the
high word returns the latched half, whatever the pair holds by then. A write of the low word of a writable pair changes
no register; the write of its high word then sets both words. RC_READ of an RC register returns it, and leaves in it
what the hardware sets in that cycle; every other register stays. -/
def Obligations.ReadingClearsAndPairsLatch : Prop :=
  ∀ (s : State) (r : Reg), r.off < 0x10000 → r.off % 4 = 0 → (findRow r).isSome = true →
    (∀ set, isRc r = true → Completes (.rcRead (regAddr r) set) s fun e => e.bus = s.dev.rd r ∧
      e.rdN r = set % 2 ^ 32 ∧ ∀ x : Reg, x ≠ r → e.rd x = s.dev.rd x) ∧
    (let h : Reg := ⟨r.blk, r.off + 4⟩
     isLow r = true → isRc r = false → (findRow h).isSome = true →
      (Completes (.lowWordRead (regAddr r)) s fun e => e.bus = BitVec.ofNat 32 (s.dev.view 0 r) ∧
        Tab.find e.hiLatch (readerKey 0 h) = some (BitVec.ofNat 32 (s.dev.view 0 h)) ∧ e.regs = s.dev.regs) ∧
      (∀ v, Tab.find s.dev.hiLatch (readerKey 0 h) = some v → isLow h = false → isRc h = false → 
        Completes (.rcRead (regAddr h) 0) s fun e => e.bus = v ∧ e.regs = s.dev.regs) ∧
      (r.blk = .gns → ∀ v, v < 2 ^ 32 →
        (Completes (.registerWrite (regAddr r) 0 v) s fun e => e.regs = s.dev.regs ∧
          Tab.find e.loHeld (readerKey 0 r) = some (BitVec.ofNat 32 v)) ∧
        (∀ lo, Tab.find s.dev.loHeld (readerKey 0 r) = some lo →
          Completes (.registerWrite (regAddr h) 0 v) s fun e => e.rd r = lo ∧ e.rdN h = v)))

/-! ## Host commands: arrival, answers, windows -/

/-- A host command is answered: whatever command and device stand when it is taken, it completes with the device that
`P` describes and the response posted on it. -/
def Sys2Proof.Claims.Answers (cmd : Instr) (s : State) (c : Cmd) (st : Nat) (body : Bytes) (P : Device → Prop) : Prop :=
  Completes cmd s fun t => ∃ x, t = x.answer c st body ∧ P x

/-- A host command changes nothing but its own answer. -/
def Sys2Proof.Claims.OnlyAnswers (cmd : Instr) (s : State) (c : Cmd) (e : Device) (st : Nat) (body : Bytes) : Prop :=
  Completes cmd s (· = e.answer c st body)

/-- A host's command that the device takes at once carries the partition, code, request ID and body of its datagram; its
response's credit is reserved. The answer of a command posts one packet on queue 1 of the partition, of code + 0x8000,
the request ID, the status and the body, when the queue has the credit, counts the command, and ends the reserve. An
accepted datagram whose command finds another packet waiting in queue 0 becomes one more packet of that queue; a
datagram whose tag fails is discarded and counted, with TAG_FAIL. -/
def Obligations.HostCommandsAreTakenAndAnswered : Prop :=
  (∀ (d e : Device) (h : HostPkt) (code : Nat) (c : Cmd), code < 65536 → h.req < 65536 → h.body.length < 65536 →
    d.takes code h = some (c, e) → c.part = h.part ∧ c.code = code ∧ c.req = h.req ∧ c.body = h.body ∧
      respMax code ≤ e.owedN h.part) ∧
  (∀ (d : Device) (c : Cmd) (st : Nat) (body : Bytes),
    let n := 16 * c.part + 1
    let b := packetBytes (c.code + 0x8000) c.req st body
    (d.q n).on = true → (d.q n).opn = none → granules b ≤ queueCredit (d.q n) →
    (∃ p, ((d.answer c st body).q n).pkts = (d.q n).pkts ++ [p] ∧ p.data = padTo (16 * granules b) b) ∧
      (d.answer c st body).owedN c.part = d.owedN c.part - respMax c.code ∧ (d.answer c st body).mem = d.mem) ∧
  (∀ (s : State) (h : HostPkt) (code : Nat) (e : Device), s.dev.accept h = (true, e) →
    0 < queuePkts (e.q (16 * h.part)) →
    Completes (.unknownCommand h code) s (· = e.hwPush (16 * h.part) (packetBytes code h.req 0 h.body))) ∧
  (∀ (s : State) (h : HostPkt), s.dev.hostPort h = true → h.tagOk = false →
    Completes (.ping h) s (· = (s.dev.count NET_RX_DROP).raise NET_INT_STAT 4))

/-- What a partition's window read leaves, register by register: the bytes read and the device. -/
def Sys2Proof.Claims.windowReads (p o n : Nat) (d : Device) : Bytes × Device :=
  (List.range n).foldl (fun x i => let (v, e) := x.2.windowRead p (o + 4 * i); (x.1 ++ leBytes 4 v, e)) ([], d)

/-- REG_READ of a legal range is answered DONE with the words of the window in order, and 0 for what lies outside it.
REG_WRITE of a legal range writes each word that the window exposes for writing, in order, and is answered DONE; a write
of one register that the window does not expose, or exposes read-only, changes nothing but the answer. A range that the
window does not have is REJECTED. -/
def Obligations.WindowCommandsReachOnlyTheWindow : Prop :=
  ∀ (s : State) (h : HostPkt) (c : Cmd) (e : Device),
    (s.dev.takes 0x0010 h = some (c, e) → c.body.length = 4 →
      (rangeOk (uAt c.body 0 2) (uAt c.body 2 2) = true →
        Completes (.regRead h) s (· = (windowReads c.part (uAt c.body 0 2) (uAt c.body 2 2) e).2.answer c stDone
          (windowReads c.part (uAt c.body 0 2) (uAt c.body 2 2) e).1)) ∧
      (rangeOk (uAt c.body 0 2) (uAt c.body 2 2) = false → OnlyAnswers (.regRead h) s c e stRejected [])) ∧
    (∀ p o, e.windowReg p o = none → e.windowRead p o = (0, e)) ∧
    (s.dev.takes 0x0011 h = some (c, e) →
      (∀ o r v, c.body = leBytes 2 o ++ leBytes 2 1 ++ leBytes 4 v → rangeOk o 1 = true → v < 2 ^ 32 →
        (e.windowReg c.part o = none ∨ e.windowReg c.part o = some r ∧ e.windowWrites c.part r = false →
          OnlyAnswers (.regWrite h) s c e stDone []) ∧
        (e.windowReg c.part o = some r → e.windowWrites c.part r = true →
          Completes (.regWrite h) s (· = (e.regWrite (1 + c.part) r 0 v).answer c stDone []))) ∧
      (c.body.length < 4 → OnlyAnswers (.regWrite h) s c e stRejected []))

/-- Writing a fault record that does not repeat the newest gives it the next sequence number, which skips 0, and puts it at
that number modulo 256 with heat and TB0 nanoseconds (0xFFFF_FFFF and 0 while TB0 is not valid); one that repeats the
newest only adds to its repeat count, up to 65,535. ERR_PICK latches the record of a sequence number that the ring holds,
with status 1, or an empty record with status 2 for one that it no longer holds. ERR_CLEAR empties the ring and keeps
the numbering; neither changes a register. -/
def Obligations.FaultRecordsKeepTheirPlaceAndPickersLatch : Prop :=
  (∀ (d : Device) (block code unit outcome : Nat) (ctx : Bytes),
    let r : FaultRec := ⟨nextSeq d.log.seq, d.recHeat, d.recNs, block, outcome, code, unit, 0, padTo 12 ctx⟩
    let e := d.slag block code unit outcome ctx
    (∀ n, newestRec d.log = some n → repeats r n = true →
      e.log = { d.log with ring := Tab.put d.log.ring (n.seq % 256) { n with rep := holdAt 0xFFFF (n.rep + 1) } }) ∧
    ((∀ n, newestRec d.log = some n → repeats r n = false) →
      e.log.seq = r.seq ∧ r.seq ≠ 0 ∧ Tab.find e.log.ring (r.seq % 256) = some r ∧ e.bit ERR_INT_STAT 0 = true)) ∧
  (∀ (s : State) (w seq : Nat) (r : FaultRec),
    (Tab.find s.dev.log.ring (seq % 256) = some r → r.seq = seq → seq ≠ 0 → 0 ≤ diff32 s.dev.log.seq seq →
      diff32 s.dev.log.seq seq < 256 →
      Completes (.errPick w seq) s fun e => e.picker w = ⟨seq, 1, some r⟩ ∧ e.regs = s.dev.regs ∧
        e.log.ring = s.dev.log.ring) ∧
    (0 ≤ diff32 s.dev.log.seq seq → Tab.find s.dev.log.ring (seq % 256) = none →
      Completes (.errPick w seq) s fun e => e.picker w = ⟨seq, 2, none⟩) ∧
    (Completes .errClear s fun e => e = { s.dev with log := { s.dev.log with ring := [] } }))

/-! ## Anvil operations: scalar integers -/

/-- ALU's functions on 64-bit words (R248, R266). -/
def Sys2Proof.Claims.aluSpec (fn : Nat) (a b : BitVec 64) : BitVec 64 :=
  match fn with
  | 0 => a + b
  | 1 => a - b
  | 2 => a &&& b
  | 3 => a ||| b
  | 4 => a ^^^ b
  | 5 => a &&& ~~~b
  | 6 => a <<< (b.toNat % 64)
  | 7 => a >>> (b.toNat % 64)
  | 8 => a.sshiftRight (b.toNat % 64)
  | 9 => if a.slt b then a else b
  | 10 => if a.slt b then b else a
  | 11 => if a.ult b then a else b
  | 12 => if a.ult b then b else a
  | 13 => ((a + b).setWidth 32).signExtend 64
  | 14 => ((a - b).setWidth 32).signExtend 64
  | 15 => a.clz
  | _ => a.cpop

/-- MUL's functions on 64-bit words (R249, R266). -/
def Sys2Proof.Claims.mulSpec (fn : Nat) (a b : BitVec 64) : BitVec 64 :=
  match fn with
  | 0 => a * b
  | 1 => BitVec.ofInt 64 (a.toInt * b.toInt / 2 ^ 64)
  | 2 => BitVec.ofNat 64 (a.toNat * b.toNat / 2 ^ 64)
  | 3 => if b = 0 then BitVec.allOnes 64 else a.sdiv b
  | 4 => if b = 0 then BitVec.allOnes 64 else a / b
  | 5 => if b = 0 then a else a.srem b
  | _ => if b = 0 then a else a % b

/-- The immediate of format I (R253). -/
def Sys2Proof.Claims.immSpec (imm : Nat) : BitVec 64 := (BitVec.ofNat 12 imm).signExtend 64

/-- Every legal form of ALU, ADDI, ANDI, ORI, XORI, SHI and MUL that joins a bundle with its guard at 1 completes. Its
bundle gains one result for x[D], computed on 64-bit two's-complement words (division by 0 and the shift counts as the
table of R266 says), poisoned if a source is poisoned, due after 1 cycle (3 for MUL, MULH and MULHU, 18 for the
divisions). Nothing else of the device changes. That a result comes due at the end of cycle now + latency - 1 of the
anvil is the model's reading of R263 (log entry 24). -/
def Obligations.IntegerOperationsGiveTheirResults : Prop :=
  ∀ (s : State) (i : Iss) (b : Bundle) (d a : Nat), s.dev.guarded i →
    (∀ s1 fn k, fn ≤ 16 → (15 ≤ fn → k = 0) → s.dev.joins i (b2n s1) [(0, d)] b →
      exec (.alu i s1 fn d a k) s = .next { s with dev := s.dev.withBundle i (b.plus (b2n s1) [(0, d)]
        [s.dev.xResult i d (aluSpec fn ((s.dev.setOf i).xr a).v ((s.dev.setOf i).xr k).v)
          (((s.dev.setOf i).xr a).bad || ((s.dev.setOf i).xr k).bad) 1] 0) }) ∧
    (∀ s1 imm, s.dev.joins i (b2n s1) [(0, d)] b →
      exec (.addi i s1 d a imm) s = .next { s with dev := s.dev.withBundle i (b.plus (b2n s1) [(0, d)]
        [s.dev.xResult i d (((s.dev.setOf i).xr a).v + immSpec imm) ((s.dev.setOf i).xr a).bad 1] 0) }) ∧
    (s.dev.joins i 0 [(0, d)] b → ∀ imm,
      exec (.andi i d a imm) s = .next { s with dev := s.dev.withBundle i (b.plus 0 [(0, d)]
        [s.dev.xResult i d (((s.dev.setOf i).xr a).v &&& immSpec imm) ((s.dev.setOf i).xr a).bad 1] 0) } ∧
      exec (.ori i d a imm) s = .next { s with dev := s.dev.withBundle i (b.plus 0 [(0, d)]
        [s.dev.xResult i d (((s.dev.setOf i).xr a).v ||| immSpec imm) ((s.dev.setOf i).xr a).bad 1] 0) } ∧
      exec (.xori i d a imm) s = .next { s with dev := s.dev.withBundle i (b.plus 0 [(0, d)]
        [s.dev.xResult i d (((s.dev.setOf i).xr a).v ^^^ immSpec imm) ((s.dev.setOf i).xr a).bad 1] 0) }) ∧
    (∀ n sh, n < 64 → sh < 3 → s.dev.joins i 0 [(0, d)] b →
      exec (.shi i d a (n + sh * 64)) s = .next { s with dev := s.dev.withBundle i (b.plus 0 [(0, d)]
        [s.dev.xResult i d
          (match sh with
            | 0 => ((s.dev.setOf i).xr a).v <<< n
            | 1 => ((s.dev.setOf i).xr a).v >>> n
            | _ => ((s.dev.setOf i).xr a).v.sshiftRight n) ((s.dev.setOf i).xr a).bad 1] 0) }) ∧
    (∀ fn k, fn ≤ 6 → s.dev.joins i 1 [(0, d)] b →
      exec (.mul i fn d a k) s = .next { s with dev := s.dev.withBundle i (b.plus 1 [(0, d)]
        [s.dev.xResult i d (mulSpec fn ((s.dev.setOf i).xr a).v ((s.dev.setOf i).xr k).v)
          (((s.dev.setOf i).xr a).bad || ((s.dev.setOf i).xr k).bad) (if fn ≤ 2 then 3 else 18)] 0) })

/-! ## Anvil operations: predicates, constants, control -/

/-- The integer conditions of R252. -/
def Sys2Proof.Claims.condSpec (c : Nat) (a b : BitVec 64) : Bool :=
  match c with
  | 0 => a == b
  | 1 => a != b
  | 2 => a.slt b
  | 3 => b.sle a
  | 4 => a.ult b
  | 5 => b.ule a
  | 6 => a &&& b != 0
  | _ => a &&& b == 0

/-- A compare's new predicate from the old one (R242, R252). -/
def Sys2Proof.Claims.modeSpec (mode : Nat) (old : Nat) (res : Bool) : Nat :=
  let x := if res then 255 else 0
  match mode with
  | 0 => x
  | 1 => Nat.land old x
  | _ => Nat.lor old x

/-- CMP, CMPI and FCMP with a COND of R252, a MODE of 0 to 2 and clean sources, and PLOG, complete when they join a bundle
with their guard at 1: their bundle gains one result, all eight bits of predicate PD, set, ANDed or ORed with the
condition (CMP and CMPI of signed, unsigned and bit conditions on 64-bit words, FCMP of the FP64 conditions with its
flags), or the bitwise combination of PA and PB. Nothing else of the device changes. A poisoned source of CMP leaves the
POISON exception and no result. -/
def Obligations.ScalarPredicateOperationsWriteTheirPredicate : Prop :=
  ∀ (s : State) (i : Iss) (b : Bundle) (pd a k : Nat), s.dev.guarded i →
    (∀ mode cond, mode ≤ 2 → cond ≤ 7 → s.dev.joins i 0 [(2, pd)] b →
      ((s.dev.setOf i).xr a).bad = false → ((s.dev.setOf i).xr k).bad = false →
      exec (.cmp i pd mode a k cond) s = .next { s with dev := s.dev.withBundle i (b.plus 0 [(2, pd)]
        [s.dev.pResult i pd (modeSpec mode ((s.dev.setOf i).pr pd)
          (condSpec cond ((s.dev.setOf i).xr a).v ((s.dev.setOf i).xr k).v)) 255 1] 0) }) ∧
    (∀ mode cond, mode ≤ 2 → cond ≤ 7 → s.dev.joins i 0 [(2, pd)] b →
      (((s.dev.setOf i).xr a).bad = true ∨ ((s.dev.setOf i).xr k).bad = true) →
      ∃ t, exec (.cmp i pd mode a k cond) s = .next t ∧
        ((t.dev.anv i.anvil).bund.map (·.exc)) = some (some (2, 0))) ∧
    (∀ mode cond imm, mode ≤ 2 → cond ≤ 7 → s.dev.joins i 0 [(2, pd)] b → ((s.dev.setOf i).xr a).bad = false →
      exec (.cmpi i pd mode a cond imm) s = .next { s with dev := s.dev.withBundle i (b.plus 0 [(2, pd)]
        [s.dev.pResult i pd (modeSpec mode ((s.dev.setOf i).pr pd)
          (condSpec cond ((s.dev.setOf i).xr a).v ((BitVec.ofNat 8 imm).signExtend 64))) 255 1] 0) }) ∧
    (∀ mode cond, mode ≤ 2 → cond ≤ 7 → s.dev.joins i 1 [(2, pd)] b →
      ((s.dev.setOf i).xr a).bad = false → ((s.dev.setOf i).xr k).bad = false →
      exec (.fcmp i pd mode a k cond) s = .next { s with dev := s.dev.withBundle i (b.plus 1 [(2, pd)]
        [s.dev.pResult i pd (modeSpec mode ((s.dev.setOf i).pr pd)
          (f64.cond cond ((s.dev.setOf i).xv a) ((s.dev.setOf i).xv k)).1) 255 2]
        (f64.cond cond ((s.dev.setOf i).xv a) ((s.dev.setOf i).xv k)).2) }) ∧
    (∀ pa pb lop, s.dev.joins i 0 [(2, pd)] b →
      exec (.plog i pd pa pb lop) s = .next { s with dev := s.dev.withBundle i (b.plus 0 [(2, pd)]
        [s.dev.pResult i pd
          (match lop with
            | 0 => Nat.land ((s.dev.setOf i).pr pa) ((s.dev.setOf i).pr pb)
            | 1 => Nat.lor ((s.dev.setOf i).pr pa) ((s.dev.setOf i).pr pb)
            | 2 => Nat.xor ((s.dev.setOf i).pr pa) ((s.dev.setOf i).pr pb)
            | _ => Nat.land ((s.dev.setOf i).pr pa) (255 - (s.dev.setOf i).pr pb % 256)) 255 1] 0) })

/-- The legal forms of MOVQ0 to MOVQ3, NOP, BR, BRL, JR, LOOP, LOOPI, MFS, MTS, PAD and ENDS complete when they join a
bundle with their guard at 1: MOVQ gives x[D] its constant; NOP gives nothing; a branch whose target lies in the crucible
gives the bundle its target (BR one cycle more, BRL the following bundle's address in x31; contexts only for BRL, JR and
LOOP, forward only for a static BR); LOOP and LOOPI give the bundle a loop of their counter, count and length; MFS of
HEAT, ANVIL, CTX and FPCSR gives x[D] the register; MTS gives FPCSR for the next bundle; PAD gives its cycles; ENDS of the
static set closes the block. Nothing else of the device changes. -/
def Obligations.ConstantAndControlOperationsComplete : Prop :=
  ∀ (s : State) (i : Iss) (b : Bundle) (d a : Nat), s.dev.guarded i →
    (∀ n imm, n < 4 → imm < 65536 → s.dev.joins i 0 [(0, d)] b →
      exec (.movq i n d false imm) s = .next { s with dev := s.dev.withBundle i (b.plus 0 [(0, d)]
        [s.dev.xResult i d (BitVec.ofNat 64 (imm * 2 ^ (16 * n))) false 1] 0) } ∧
      exec (.movq i n d true imm) s = .next { s with dev := s.dev.withBundle i (b.plus 0 [(0, d)]
        [s.dev.xResult i d
          ((((s.dev.setOf i).xr d).v &&& ~~~(0xFFFF#64 <<< (16 * n))) ||| BitVec.ofNat 64 (imm * 2 ^ (16 * n)))
          ((s.dev.setOf i).xr d).bad 1] 0) }) ∧
    (∀ slot, slot < 4 → s.dev.joins i slot [] b →
      exec (.nop i slot) s = .next { s with dev := s.dev.withBundle i (b.plus slot [] [] 0) }) ∧
    (∀ ofs : BitVec 22, (i.set = 0 → 0 < ofs.toInt) → s.dev.joins i 0 [] b →
      0 ≤ ((s.dev.setOf i).pc : Int) + 16 * ofs.toInt → ((s.dev.setOf i).pc : Int) + 16 * ofs.toInt < 0x40000 →
      exec (.br i ofs.toNat) s = .next { s with dev := s.dev.withBundle i { b.plus 0 [] [] 0 with
        jump := some (((s.dev.setOf i).pc : Int) + 16 * ofs.toInt).toNat, extra := true } }) ∧
    (∀ ofs : BitVec 22, i.set ≠ 0 → s.dev.joins i 0 [(0, 31)] b →
      0 ≤ ((s.dev.setOf i).pc : Int) + 16 * ofs.toInt → ((s.dev.setOf i).pc : Int) + 16 * ofs.toInt < 0x40000 →
      exec (.brl i ofs.toNat) s = .next { s with dev := s.dev.withBundle i { b.plus 0 [(0, 31)]
        [s.dev.xResult i 31 (BitVec.ofNat 64 ((s.dev.setOf i).pc + 16)) false 1] 0 with
        jump := some (((s.dev.setOf i).pc : Int) + 16 * ofs.toInt).toNat, extra := false } }) ∧
    (i.set ≠ 0 → s.dev.joins i 0 [] b → ((s.dev.setOf i).xr a).bad = false → (s.dev.setOf i).xv a < 0x40000 →
      exec (.jr i a) s = .next { s with dev := s.dev.withBundle i { b.plus 0 [] [] 0 with
        jump := some ((s.dev.setOf i).xv a / 16 * 16), extra := false } }) ∧
    (∀ lc len, i.set ≠ 0 → len ≠ 0 → s.dev.joins i 0 [] b → ((s.dev.setOf i).xr a).bad = false →
      (∀ l ∈ (s.dev.setOf i).loops, l.lc ≠ lc ∧ (s.dev.setOf i).pc + 16 * len ≤ l.last) →
      exec (.loop i lc a len) s = .next { s with dev := s.dev.withBundle i { b.plus 0 [] [] 0 with
        loop := some (lc, (s.dev.setOf i).xv a % 2 ^ 32, len) } }) ∧
    (∀ lc count len, len ≠ 0 → s.dev.joins i 0 [] b →
      (∀ l ∈ (s.dev.setOf i).loops, l.lc ≠ lc ∧ (s.dev.setOf i).pc + 16 * len ≤ l.last) →
      exec (.loopi i lc count len) s = .next { s with dev := s.dev.withBundle i { b.plus 0 [] [] 0 with
        loop := some (lc, count, len) } }) ∧
    (∀ sreg val, s.dev.joins i 0 [(0, d)] b →
      (sreg = 0x002 ∧ val = s.dev.heat ∨ sreg = 0x003 ∧ val = i.anvil ∨ sreg = 0x004 ∧ val = i.set ∨
        sreg = 0x008 ∧ val = (s.dev.setOf i).fpcsr) →
      exec (.mfs i d sreg) s = .next { s with dev := s.dev.withBundle i (b.plus 0 [(0, d)]
        [s.dev.xResult i d (BitVec.ofNat 64 val) false 1] 0) }) ∧
    (s.dev.joins i 0 [] b → ((s.dev.setOf i).xr a).bad = false →
      exec (.mts i a 0x008) s = .next { s with dev := s.dev.withBundle i { b.plus 0 [] [] 0 with
        mts := some ((s.dev.setOf i).xv a % 128) } }) ∧
    (∀ n, s.dev.joins i 0 [] b →
      exec (.pad i n) s = .next { s with dev := s.dev.withBundle i { b.plus 0 [] [] 0 with pad := n } }) ∧
    (i.set = 0 → s.dev.joins i 0 [] b →
      exec (.ends i) s = .next { s with dev := s.dev.withBundle i { b.plus 0 [] [] 0 with ends := true } })

/-- An operation whose guard is 0 only takes its slot: the bundle has its destination named (R245) and no result, flag,
exception, branch or wait more; memory, queues and engines stay. Stated of ADDI, FOP_D, BR, SCALAR_LOAD, SCALAR_STORE,
RSV_HOLD and TASK_END of legal forms, one of each slot and shape, and of VOP_I with no lane open. ILLEGAL_BUNDLE
completes: a bundle without an exception that it joins has the ILLEGAL exception of that slot, whatever PN and PG say,
and no result of the slot is added. The same holds of an ADDI whose word has a reserved bit set. -/
def Obligations.SuppressedOperationsWriteNothingAndIllegalOnesRaise : Prop :=
  (∀ (s : State) (i : Iss) (b : Bundle) (d a k imm : Nat), ¬ s.dev.guarded i →
    (s.dev.joins i 0 [(0, d)] b →
      exec (.addi i false d a imm) s = .next { s with dev := s.dev.withBundle i (b.plus 0 [(0, d)] [] 0) }) ∧
    (s.dev.joins i 1 [(0, d)] b →
      exec (.fopD i 0 d a k) s = .next { s with dev := s.dev.withBundle i (b.plus 1 [(0, d)] [] 0) }) ∧
    (i.set ≠ 0 → s.dev.joins i 0 [] b →
      exec (.br i imm) s = .next { s with dev := s.dev.withBundle i (b.plus 0 [] [] 0) }) ∧
    (∀ op ecc, 1 ≤ op → op ≤ 7 → s.dev.joins i 3 [(0, d)] b →
      exec (.scalarLoad i op d a imm ecc) s = .next { s with dev := s.dev.withBundle i (b.plus 3 [(0, d)] [] 0) }) ∧
    (∀ op, 8 ≤ op → op ≤ 11 → s.dev.joins i 3 [] b →
      exec (.scalarStore i op d a imm) s = .next { s with dev := s.dev.withBundle i (b.plus 3 [] [] 0) }) ∧
    (i.set ≠ 0 → s.dev.joins i 3 [(0, d)] b →
      exec (.rsvHold i d a k) s = .next { s with dev := s.dev.withBundle i (b.plus 3 [(0, d)] [] 0) }) ∧
    (i.set ≠ 0 → s.dev.joins i 3 [] b →
      exec (.taskEnd i 0 a 0) s = .next { s with dev := s.dev.withBundle i (b.plus 3 [] [] 0) }) ∧
    (¬ s.dev.someLane i → s.dev.joins i 2 [(1, d)] b →
      exec (.vopI i 0 d a k) s = .next { s with dev := s.dev.withBundle i (b.plus 2 [(1, d)] [] 0) })) ∧
  (∀ (s : State) (i : Iss) (b : Bundle),
    (∀ slot, s.dev.joins i slot [] b →
      exec (.illegalBundle i slot) s = .next { s with dev := s.dev.withBundle i (b.excepts slot [] 1) }) ∧
    (∀ d a imm, s.dev.joins i 0 [(0, d)] b → ∃ t, exec (.addi { i with rsv := true } false d a imm) s = .next t ∧
      (t.dev.anv i.anvil).bund.map (·.exc) = some (some (1, 0))))

/-! ## Anvil operations: floating point and vectors -/

/-- The legal forms of FOP_D, FMA_D, FCVT, FRND, TWOSUM, TWOPROD and CYCSPLIT that join a bundle with their guard at 1
complete: the bundle gains the FP64 result of the function named, in the rounding mode of FPCSR, for x[D] (for x[D] and
x[D + 1] of an even D from the three error-free operations), with the flags raised, poisoned if a source is poisoned, due
after the latency of R265. Nothing else of the device changes. -/
def Obligations.FloatingOperationsGiveTheirResults : Prop :=
  ∀ (s : State) (i : Iss) (b : Bundle) (d a k : Nat), s.dev.guarded i →
    (∀ fn, fn ≤ 9 → (fopUnary fn = true → k = 0) → s.dev.joins i 1 [(0, d)] b →
      exec (.fopD i fn d a k) s = .next { s with dev := s.dev.withBundle i (b.plus 1 [(0, d)]
        [s.dev.xResult i d (BitVec.ofNat 64
            (f64.fop ((s.dev.setOf i).fpcsr % 4) fn ((s.dev.setOf i).xv a) ((s.dev.setOf i).xv k)).1)
          (((s.dev.setOf i).xr a).bad || ((s.dev.setOf i).xr k).bad)
          (if fn ≤ 2 then 4 else if fn = 3 then 20 else if fn = 4 then 24 else 1)]
        (f64.fop ((s.dev.setOf i).fpcsr % 4) fn ((s.dev.setOf i).xv a) ((s.dev.setOf i).xv k)).2) }) ∧
    (∀ fn c, fn ≤ 3 → s.dev.joins i 1 [(0, d)] b →
      exec (.fmaD i fn d a k c) s = .next { s with dev := s.dev.withBundle i (b.plus 1 [(0, d)]
        [s.dev.xResult i d (BitVec.ofNat 64 (f64.fmaOp ((s.dev.setOf i).fpcsr % 4) fn ((s.dev.setOf i).xv a)
            ((s.dev.setOf i).xv k) ((s.dev.setOf i).xv c)).1)
          (((s.dev.setOf i).xr a).bad || ((s.dev.setOf i).xr k).bad || ((s.dev.setOf i).xr c).bad) 5]
        (f64.fmaOp ((s.dev.setOf i).fpcsr % 4) fn ((s.dev.setOf i).xv a) ((s.dev.setOf i).xv k)
          ((s.dev.setOf i).xv c)).2) }) ∧
    (∀ fn, fn ≤ 5 → s.dev.joins i 1 [(0, d)] b →
      exec (.fcvt i fn d a 0) s = .next { s with dev := s.dev.withBundle i (b.plus 1 [(0, d)]
        [s.dev.xResult i d (BitVec.ofNat 64 (fcvtOp ((s.dev.setOf i).fpcsr % 4) fn ((s.dev.setOf i).xv a)).1)
          ((s.dev.setOf i).xr a).bad 3]
        (fcvtOp ((s.dev.setOf i).fpcsr % 4) fn ((s.dev.setOf i).xv a)).2) }) ∧
    (∀ fn, fn ≤ 4 → s.dev.joins i 1 [(0, d)] b →
      exec (.frnd i fn d a 0) s = .next { s with dev := s.dev.withBundle i (b.plus 1 [(0, d)]
        [s.dev.xResult i d (BitVec.ofNat 64 (f64.integral fn ((s.dev.setOf i).xv a)).1) ((s.dev.setOf i).xr a).bad 2]
        (f64.integral fn ((s.dev.setOf i).xv a)).2) }) ∧
    (d % 2 = 0 → s.dev.joins i 1 [(0, d), (0, d + 1)] b →
      exec (.twosum i d a k) s = .next { s with dev := s.dev.withBundle i (b.plus 1 [(0, d), (0, d + 1)]
        [s.dev.xResult i d (BitVec.ofNat 64 (twoSum ((s.dev.setOf i).xv a) ((s.dev.setOf i).xv k)).1)
          (((s.dev.setOf i).xr a).bad || ((s.dev.setOf i).xr k).bad) 6,
         s.dev.xResult i (d + 1) (BitVec.ofNat 64 (twoSum ((s.dev.setOf i).xv a) ((s.dev.setOf i).xv k)).2.1)
          (((s.dev.setOf i).xr a).bad || ((s.dev.setOf i).xr k).bad) 6]
        (twoSum ((s.dev.setOf i).xv a) ((s.dev.setOf i).xv k)).2.2) } ∧
      exec (.twoprod i d a k) s = .next { s with dev := s.dev.withBundle i (b.plus 1 [(0, d), (0, d + 1)]
        [s.dev.xResult i d (BitVec.ofNat 64 (twoProd ((s.dev.setOf i).xv a) ((s.dev.setOf i).xv k)).1)
          (((s.dev.setOf i).xr a).bad || ((s.dev.setOf i).xr k).bad) 6,
         s.dev.xResult i (d + 1) (BitVec.ofNat 64 (twoProd ((s.dev.setOf i).xv a) ((s.dev.setOf i).xv k)).2.1)
          (((s.dev.setOf i).xr a).bad || ((s.dev.setOf i).xr k).bad) 6]
        (twoProd ((s.dev.setOf i).xv a) ((s.dev.setOf i).xv k)).2.2) } ∧
      exec (.cycsplit i d a 0) s = .next { s with dev := s.dev.withBundle i (b.plus 1 [(0, d), (0, d + 1)]
        [s.dev.xResult i d (BitVec.ofNat 64 (cycSplit ((s.dev.setOf i).xv a)).1) ((s.dev.setOf i).xr a).bad 5,
         s.dev.xResult i (d + 1) (BitVec.ofNat 64 (cycSplit ((s.dev.setOf i).xv a)).2.1) ((s.dev.setOf i).xr a).bad 5]
        (cycSplit ((s.dev.setOf i).xv a)).2.2) })

/-- VOP.I's functions on 32-bit lanes (R250, R266). -/
def Sys2Proof.Claims.laneSpec (fn : Nat) (a b : BitVec 32) : BitVec 32 :=
  match fn with
  | 0 => a + b
  | 1 => a - b
  | 2 => a &&& b
  | 3 => a ||| b
  | 4 => a ^^^ b
  | 5 => a &&& ~~~b
  | 6 => a <<< (b.toNat % 32)
  | 7 => a >>> (b.toNat % 32)
  | 8 => a.sshiftRight (b.toNat % 32)
  | 9 => if a.slt b then a else b
  | 10 => if a.slt b then b else a
  | _ => a * b

/-- The union of the flags of some lanes (R267). -/
def Sys2Proof.Claims.flagUnion (l : List Nat) : Nat := l.foldl Nat.lor 0

/-- Lane `k` of a 256-bit value in the 32-bit or the 64-bit view (R242). -/
def Sys2Proof.Claims.laneAt (wide : Bool) (v k : Nat) : Nat := if wide then lane64 v k else lane32 v k

/-- A slot V operation ends with one result for the open lanes of v[D]: lane `k` holds `f k`, the flags are those of the
open lanes, and nothing else of the device changes. -/
def Sys2Proof.Claims.vecDone (s : State) (i : Iss) (b : Bundle) (d : Nat) (wide : Bool) (bad lat : Nat) (f : Nat → Nat × Nat)
    (o : Host.Outcome State Fault Refusal) : Prop :=
  ∃ val, o = .next { s with dev := s.dev.withBundle i (b.plus 2 [(1, d)]
      [s.dev.vResult i d val bad (laneMask wide (guardOf (s.dev.setOf i) i)) lat]
      (flagUnion ((lanesOn wide (guardOf (s.dev.setOf i) i)).map fun k => (f k).2))) } ∧
    ∀ k, k < laneN wide → laneAt wide val k = (f k).1 % 2 ^ (if wide then 64 else 32)

/-- Lane `k` of a v register of the set where an operation issues. -/
def Sys2Proof.Claims.srcLane (s : State) (i : Iss) (wide : Bool) (reg k : Nat) : Nat :=
  laneAt wide ((s.dev.setOf i).vr reg).v.toNat k

/-- The legal forms of VOP_I, VOP_S, VOP_D, VFMA_S and VFMA_D that join a bundle with some lane open complete: every lane
of the one result is the operation on the same lanes of the sources (INT32 words, FP32 or FP64 values in the rounding mode
of FPCSR), the flags are those of the open lanes alone, the mask is the guard's, a quarter is poisoned when the same
quarter of a source is, and nothing else of the device changes. -/
def Obligations.VectorArithmeticIsLaneByLane : Prop :=
  ∀ (s : State) (i : Iss) (b : Bundle) (d a k : Nat), s.dev.someLane i → s.dev.joins i 2 [(1, d)] b →
    (∀ fn, fn ≤ 11 → vecDone s i b d false (badOf (s.dev.setOf i) [a, k]) (if fn = 11 then 3 else 1)
      (fun j => ((laneSpec fn (BitVec.ofNat 32 (srcLane s i false a j)) (BitVec.ofNat 32 (srcLane s i false k j))).toNat, 0))
      (exec (.vopI i fn d a k) s)) ∧
    (∀ fn, fn ≤ 8 → (fopUnary fn = true → k = 0) →
      vecDone s i b d false (badOf (s.dev.setOf i) [a, k]) (fopLat fn)
        (fun j => f32.fop ((s.dev.setOf i).fpcsr % 4) fn (srcLane s i false a j) (srcLane s i false k j))
        (exec (.vopS i fn d a k) s) ∧
      vecDone s i b d true (badOf (s.dev.setOf i) [a, k]) (fopLat fn)
        (fun j => f64.fop ((s.dev.setOf i).fpcsr % 4) fn (srcLane s i true a j) (srcLane s i true k j))
        (exec (.vopD i fn d a k) s)) ∧
    (∀ fn c, fn ≤ 3 →
      vecDone s i b d false (badOf (s.dev.setOf i) [a, k, c]) 5
        (fun j => f32.fmaOp ((s.dev.setOf i).fpcsr % 4) fn (srcLane s i false a j) (srcLane s i false k j)
          (srcLane s i false c j))
        (exec (.vfmaS i fn d a k c) s) ∧
      vecDone s i b d true (badOf (s.dev.setOf i) [a, k, c]) 5
        (fun j => f64.fmaOp ((s.dev.setOf i).fpcsr % 4) fn (srcLane s i true a j) (srcLane s i true k j)
          (srcLane s i true c j))
        (exec (.vfmaD i fn d a k c) s))

/-- The value of every lane of a v register that some operation reads whole is poisoned when one quarter is (R282). -/
def Sys2Proof.Claims.wholeBad (n : Nat) : Nat := if n = 0 then 0 else 15

/-- The legal forms of VCVT, VRED, VPERM, VBCAST and VINS that join a bundle with some lane open, and of VMOVX with its
guard at 1, complete: VCVT converts every lane (D.S lanes 0 to 3 in, S.D lanes 0 to 3 out and 0 above); VRED of SUM.I gives
lane 0 the sum of the open lanes modulo 2^32 and the other lanes 0; VPERM gives lane k the lane of A that lane k of B
selects; VBCAST gives every lane x[A]; VINS writes one lane; VMOVX gives x[D] one lane, a 32-bit one sign-extended. Nothing
else of the device changes. -/
def Obligations.VectorMovesAndReductionsComplete : Prop :=
  ∀ (s : State) (i : Iss) (b : Bundle) (d a k : Nat),
    (s.dev.someLane i → s.dev.joins i 2 [(1, d)] b →
      vecDone s i b d false (wholeBad ((s.dev.setOf i).vr a).bad) 3
        (fun j => fmtOfInt f32 ((s.dev.setOf i).fpcsr % 4) (BitVec.ofNat 32 (srcLane s i false a j)).toInt)
        (exec (.vcvt i 0 d a 0) s) ∧
      vecDone s i b d true (wholeBad (((s.dev.setOf i).vr a).bad % 4)) 3
        (fun j => fconv f32 f64 ((s.dev.setOf i).fpcsr % 4) (srcLane s i false a j))
        (exec (.vcvt i 2 d a 0) s) ∧
      vecDone s i b d false (wholeBad ((s.dev.setOf i).vr a).bad) 3
        (fun j => if j < 4 then fconv f64 f32 ((s.dev.setOf i).fpcsr % 4) (srcLane s i true a j) else (0, 0))
        (exec (.vcvt i 3 d a 0) s) ∧
      (∃ bad, vecDone s i b d false bad 6
        (fun j => (if j = 0 then
            ((lanesOn false (guardOf (s.dev.setOf i) i)).map fun l => srcLane s i false a l).sum % 2 ^ 32 else 0, 0))
        (exec (.vred i 0 d a 0) s)) ∧
      vecDone s i b d false (wholeBad (badOf (s.dev.setOf i) [a, k])) 2
        (fun j => (srcLane s i false a (srcLane s i false k j % 8), 0)) (exec (.vperm i 0 d a k) s) ∧
      vecDone s i b d true (wholeBad (badOf (s.dev.setOf i) [a, k])) 2
        (fun j => (srcLane s i true a (srcLane s i true k j % 4), 0)) (exec (.vperm i 1 d a k) s) ∧
      vecDone s i b d false (if ((s.dev.setOf i).xr a).bad then 15 else 0) 1
        (fun _ => ((s.dev.setOf i).xv a, 0)) (exec (.vbcast i 0 d a 0) s) ∧
      vecDone s i b d true (if ((s.dev.setOf i).xr a).bad then 15 else 0) 1
        (fun _ => ((s.dev.setOf i).xv a, 0)) (exec (.vbcast i 1 d a 0) s) ∧
      (∀ l, l < 8 → ∃ val, exec (.vins i l d a 0) s = .next { s with dev := s.dev.withBundle i (b.plus 2 [(1, d)]
          [s.dev.vResult i d val (if ((s.dev.setOf i).xr a).bad then 15 else 0)
            (Nat.land (2 ^ l) (guardOf (s.dev.setOf i) i % 256)) 1] 0) } ∧
        laneAt false val l = (s.dev.setOf i).xv a % 2 ^ 32)) ∧
    (s.dev.guarded i → s.dev.joins i 2 [(0, d)] b →
      (∀ l, l < 8 → exec (.vmovx i l d a 0) s = .next { s with dev := s.dev.withBundle i (b.plus 2 [(0, d)]
        [s.dev.xResult i d ((BitVec.ofNat 32 (srcLane s i false a l)).signExtend 64)
          (bitOf ((s.dev.setOf i).vr a).bad (l / 2)) 1] 0) }) ∧
      (∀ l, l < 4 → exec (.vmovx i (8 + l) d a 0) s = .next { s with dev := s.dev.withBundle i (b.plus 2 [(0, d)]
        [s.dev.xResult i d (BitVec.ofNat 64 (srcLane s i true a l)) (bitOf ((s.dev.setOf i).vr a).bad l) 1] 0) }))

/-- VCMP_I, VCMP_S and VCMP_D with a COND of R252, MODE 0 and clean sources complete when they join a bundle with some lane
open: the bundle gains one result for predicate PD under the lane mask of the guard; bit k is the condition of 32-bit lane
k, bits 2k and 2k + 1 the condition of 64-bit lane k. Nothing else of the device changes but the flags of the floating
compares. -/
def Obligations.VectorComparesWriteOneBitForEachLane : Prop :=
  ∀ (s : State) (i : Iss) (b : Bundle) (pd a k cond : Nat), cond ≤ 7 → s.dev.someLane i → s.dev.joins i 2 [(2, pd)] b →
    ((s.dev.setOf i).vr a).bad = 0 → ((s.dev.setOf i).vr k).bad = 0 →
    (∃ val, exec (.vcmpI i pd 0 a k cond) s = .next { s with dev := s.dev.withBundle i (b.plus 2 [(2, pd)]
        [s.dev.pResult i pd val (guardOf (s.dev.setOf i) i % 256) 2] 0) } ∧
      ∀ l, l < 8 → bitOf val l = icond 32 cond (srcLane s i false a l) (srcLane s i false k l)) ∧
    (∃ val fl, exec (.vcmpS i pd 0 a k cond) s = .next { s with dev := s.dev.withBundle i (b.plus 2 [(2, pd)]
        [s.dev.pResult i pd val (guardOf (s.dev.setOf i) i % 256) 2] fl) } ∧
      ∀ l, l < 8 → bitOf val l = (f32.cond cond (srcLane s i false a l) (srcLane s i false k l)).1) ∧
    (∃ val fl, exec (.vcmpD i pd 0 a k cond) s = .next { s with dev := s.dev.withBundle i (b.plus 2 [(2, pd)]
        [s.dev.pResult i pd val (laneMask true (guardOf (s.dev.setOf i) i)) 2] fl) } ∧
      ∀ l, l < 8 → bitOf val l = (f64.cond cond (srcLane s i true a (l / 2)) (srcLane s i true k (l / 2))).1)

/-- The four FP64 lanes of a v register, lane 0 first. -/
def Sys2Proof.Claims.fourLanes (s : State) (i : Iss) (reg : Nat) : List Nat :=
  [srcLane s i true reg 0, srcLane s i true reg 1, srcLane s i true reg 2, srcLane s i true reg 3]

/-- The four lattice operations that join a bundle with some lane open complete: the result for v[D] is the step of R271,
R272 or R273 on the four FP64 lanes of the sources, under the 64-bit lane mask of the guard, with the step's flags, due
after 26, 30 or 28 cycles. Nothing else of the device changes. -/
def Obligations.LatticeOperationsComplete : Prop :=
  ∀ (s : State) (i : Iss) (b : Bundle) (d a k : Nat), s.dev.someLane i → s.dev.joins i 2 [(1, d)] b →
    exec (.zredGauss i d a k) s = .next { s with dev := s.dev.withBundle i (b.plus 2 [(1, d)]
      [s.dev.vResult i d (ofLanes64 (zGauss (fourLanes s i a) (fourLanes s i k)).1)
        (wholeBad (badOf (s.dev.setOf i) [a, k])) (laneMask true (guardOf (s.dev.setOf i) i)) 26]
      (zGauss (fourLanes s i a) (fourLanes s i k)).2) } ∧
    exec (.zredSwap i d a 0) s = .next { s with dev := s.dev.withBundle i (b.plus 2 [(1, d)]
      [s.dev.vResult i d (ofLanes64 (zSwap (fourLanes s i a)).1)
        (wholeBad (badOf (s.dev.setOf i) [a])) (laneMask true (guardOf (s.dev.setOf i) i)) 30]
      (zSwap (fourLanes s i a)).2) } ∧
    exec (.zsrchInit i d a 0) s = .next { s with dev := s.dev.withBundle i (b.plus 2 [(1, d)]
      [s.dev.vResult i d (ofLanes64 (zInit (fourLanes s i a)).1)
        (wholeBad (badOf (s.dev.setOf i) [a])) (laneMask true (guardOf (s.dev.setOf i) i)) 28]
      (zInit (fourLanes s i a)).2) } ∧
    exec (.zsrchStep i d a k) s = .next { s with dev := s.dev.withBundle i (b.plus 2 [(1, d)]
      [s.dev.vResult i d (ofLanes64 (zStep (fourLanes s i a) (fourLanes s i k)).1)
        (wholeBad (badOf (s.dev.setOf i) [a, k])) (laneMask true (guardOf (s.dev.setOf i) i)) 28]
      (zStep (fourLanes s i a) (fourLanes s i k)).2) }

/-! ## Anvil operations: memory, queues and engines -/

/-- The value that a load gives from the bytes it reads (R274): LB, LH, LW and LD sign-extend, LBU, LHU and LWU do not. -/
def Sys2Proof.Claims.loadSpec (op n : Nat) : BitVec 64 :=
  match op with
  | 1 => (BitVec.ofNat 8 n).signExtend 64
  | 2 => (BitVec.ofNat 8 n).setWidth 64
  | 3 => (BitVec.ofNat 16 n).signExtend 64
  | 4 => (BitVec.ofNat 16 n).setWidth 64
  | 5 => (BitVec.ofNat 32 n).signExtend 64
  | 6 => (BitVec.ofNat 32 n).setWidth 64
  | _ => BitVec.ofNat 64 n

/-- The address of a load or store of `size` bytes (R253, R274). -/
def Sys2Proof.Claims.addrSpec (s : State) (i : Iss) (a imm size : Nat) : Nat :=
  (((s.dev.setOf i).xr a).v + immSpec imm * BitVec.ofNat 64 size).toNat

/-- An access of `size` bytes is served after `k` cycles in the memory `m` (R223, R226): the address is clean, aligned,
and in the anvil's own crucible, its own hearth or the forge. -/
def Sys2Proof.Claims.served (s : State) (i : Iss) (a imm size : Nat) (m : MemKind) (k : Nat) : Prop :=
  ((s.dev.setOf i).xr a).bad = false ∧ reach i.anvil (addrSpec s i a imm size) size = some m ∧
    s.dev.memStall i.anvil (s.dev.anv i.anvil).cyc m = some k

/-- A SCALAR_LOAD of each of its seven forms and a VLD, whose access is served and meets no memory error, complete when
they join a bundle with their guard open: the bundle gains one result, the bytes at x[A] + IMM x size read little-endian
and extended as R274 says (the 32 bytes, under the lane mask of the guard), poisoned where the memory is, due after the
stall and the memory's latency; the bundle stalls for the cycles of the wait. Memory and everything else of the device
stay. -/
def Obligations.LoadsGiveTheBytesAtTheirAddress : Prop :=
  ∀ (s : State) (i : Iss) (b : Bundle) (d a imm k : Nat) (m : MemKind),
    (∀ op, 1 ≤ op → op ≤ 7 → s.dev.guarded i → s.dev.joins i 3 [(0, d)] b → served s i a imm (loadSize op) m k →
      ¬ s.dev.fab.lines.contains (addrSpec s i a imm (loadSize op) / 64) →
      exec (.scalarLoad i op d a imm 0) s = .next { s with dev := s.dev.withBundle i { b.plus 3 [(0, d)]
        [s.dev.xResult i d (loadSpec op (leNat (s.dev.memRead (addrSpec s i a imm (loadSize op)) (loadSize op))))
          (s.dev.memBad (addrSpec s i a imm (loadSize op)) (loadSize op)) (k + memLat m)] 0 with stall := k } }) ∧
    (s.dev.someLane i → s.dev.joins i 3 [(1, d)] b → served s i a imm 32 m k →
      ¬ s.dev.fab.lines.contains (addrSpec s i a imm 32 / 64) →
      ∃ bad, exec (.vld i d a imm 0) s = .next { s with dev := s.dev.withBundle i { b.plus 3 [(1, d)]
        [s.dev.vResult i d (leNat (s.dev.memRead (addrSpec s i a imm 32) 32)) bad
          (guardOf (s.dev.setOf i) i % 256) (k + memLat m)] 0 with stall := k } } ∧
        ∀ j, j < 4 → bitOf bad j = s.dev.memBad (addrSpec s i a imm 32 + 8 * j) 8)

/-- A SCALAR_STORE of each of its four forms and a VST, whose access to the anvil's own crucible or hearth is served,
complete when they join a bundle with their guard open: the bytes from x[A] + IMM x size on hold the low bytes of x[S]
(the open lanes of v[S]), little-endian; every other byte of memory reads as before; the anvils but for the bundle, the
queues, the registers and the tables of fleet, reservations and atlas stay. -/
def Obligations.StoresWriteTheirBytesAndNoOthers : Prop :=
  ∀ (s : State) (i : Iss) (b : Bundle) (src a imm k : Nat) (m : MemKind), m ≠ .forge →
    (∀ op, 8 ≤ op → op ≤ 11 → s.dev.guarded i → s.dev.joins i 3 [] b → served s i a imm (2 ^ (op - 8)) m k →
      Completes (.scalarStore i op src a imm) s fun e =>
        (∀ x, e.memByte x =
          if addrSpec s i a imm (2 ^ (op - 8)) ≤ x ∧ x < addrSpec s i a imm (2 ^ (op - 8)) + 2 ^ (op - 8) then
            BitVec.ofNat 8 ((s.dev.setOf i).xv src / 256 ^ (x - addrSpec s i a imm (2 ^ (op - 8))))
          else s.dev.memByte x) ∧
        (e.anv i.anvil).bund = some { b.plus 3 [] [] 0 with stall := k } ∧
        (∀ c, c ≠ i.anvil → e.anv c = s.dev.anv c) ∧
        e.que = s.dev.que ∧ e.regs = s.dev.regs ∧ e.flt = s.dev.flt ∧ e.rsv = s.dev.rsv ∧ e.slv = s.dev.slv) ∧
    (s.dev.someLane i → s.dev.joins i 3 [] b → served s i a imm 32 m k →
      Completes (.vst i src a imm) s fun e =>
        (∀ x, e.memByte x =
          if addrSpec s i a imm 32 ≤ x ∧ x < addrSpec s i a imm 32 + 32 ∧
              bitOf (guardOf (s.dev.setOf i) i) ((x - addrSpec s i a imm 32) / 4) = true then
            BitVec.ofNat 8 (((s.dev.setOf i).vr src).v.toNat / 256 ^ (x - addrSpec s i a imm 32))
          else s.dev.memByte x) ∧
        (e.anv i.anvil).bund = some { b.plus 3 [] [] 0 with stall := k } ∧
        (∀ c, c ≠ i.anvil → e.anv c = s.dev.anv c) ∧
        e.que = s.dev.que ∧ e.regs = s.dev.regs ∧ e.flt = s.dev.flt ∧ e.rsv = s.dev.rsv ∧ e.slv = s.dev.slv)

/-- The queue operations of a register set that may use the queue named (directly, or with IND by x[A][7:0]) complete when
they join a bundle with their guard at 1. QPUSH with enough credits appends its granules to the open packet; with too few
it writes none and marks the packet failed. QSEAL of a sound packet makes it visible (for a stroke block it waits for the
block's pass) and answers DONE. QPOP of visible granules advances the position by the granules taken. QMARK saves the
position, QRWND returns to it, QREL of a context releases up to the position, QSTAT answers the credits, the visible fill
or the granules left. Every other queue, and memory, stay. -/
def Obligations.QueueOperationsMoveGranules : Prop :=
  ∀ (s : State) (i : Iss) (b : Bundle) (d a qn n : Nat) (ind : Bool), s.dev.guarded i → s.dev.namesQueue i a qn ind n →
    let q := s.dev.q n
    let rest : Device → Prop := fun e => (∀ m, m ≠ n → e.q m = s.dev.q m) ∧ e.mem = s.dev.mem
    let answers : Device → Nat → Prop := fun e st => (e.anv i.anvil).bund = some (b.plus 3 [(0, d)]
      [⟨0, d, st % 2 ^ 64, 0, 0, some ((s.dev.anv i.anvil).now + 9)⟩] 0)
    (∀ fn, fn ≤ 1 → s.dev.joins i 3 [] b → s.dev.mayUse i n 1 0 (1 + fn) → q.parity = [] →
      Completes (.qpush i fn d a qn ind) s fun e => rest e ∧
        (1 + fn ≤ queueCredit q → (e.q n).fin = q.fin + 1 + fn ∧
          (e.q n).opn.map (·.data) = some ((match q.opn with | some o => o.data | none => []) ++
            leBytes (16 * (1 + fn)) ((s.dev.setOf i).vr d).v.toNat)) ∧
        (queueCredit q < 1 + fn → (e.q n).fin = q.fin ∧ (e.q n).opn.map (·.failed) = some true)) ∧
    (∀ o, s.dev.joins i 3 [(0, d)] b → s.dev.mayUse i n 1 1 0 → q.opn = some o → o.failed = false → o.dropped = false →
      Completes (.qseal i 0 d a qn ind) s fun e => rest e ∧ answers e stDone ∧ (e.q n).opn = none ∧
        (if i.set = 0 then (e.q n).held = q.held ++ [⟨q.fin - granules o.data, o.data, o.bad⟩]
          else (e.q n).pkts = q.pkts ++ [⟨q.fin - granules o.data, o.data, o.bad⟩])) ∧
    (∀ fn, fn ≤ 1 → s.dev.joins i 3 [(1, d)] b →
      s.dev.mayUse i n 0 (popEnters q) (popTakes (1 + fn) q) → q.parity = [] → 1 + fn ≤ queueLeft q → q.flush = false →
      Completes (.qpop i fn d a qn ind []) s fun e => rest e ∧ (e.q n).pos = q.pos + 1 + fn) ∧
    (s.dev.joins i 3 [(0, d)] b → s.dev.mayUse i n 0 0 0 →
      Completes (.qmark i 0 d a qn ind) s fun e => rest e ∧ answers e stDone ∧ (e.q n).mark = some q.pos) ∧
    (∀ m, s.dev.joins i 3 [(0, d)] b → s.dev.mayUse i n 0 0 0 → q.mark = some m →
      Completes (.qrwnd i 0 d a qn ind) s fun e => rest e ∧ answers e stDone ∧ (e.q n).pos = m) ∧
    (i.set ≠ 0 → s.dev.joins i 3 [(0, d)] b → s.dev.mayUse i n 0 0 0 → q.rel < q.pos →
      Completes (.qrel i 0 d a qn ind) s fun e => rest e ∧ answers e stDone ∧ (e.q n).rel = q.pos) ∧
    (s.dev.joins i 3 [(0, d)] b → s.dev.mayUse i n 2 0 0 →
      Completes (.qstat i 0 d a qn ind) s (fun e => rest e ∧ answers e (queueCredit q) ∧ e.q n = q) ∧
      Completes (.qstat i 1 d a qn ind) s (fun e => rest e ∧ answers e (queueFill q) ∧ e.q n = q) ∧
      Completes (.qstat i 2 d a qn ind) s (fun e => rest e ∧ answers e (queueLeft q) ∧ e.q n = q))

/-- The engine operations of a context with clean sources complete when they join a bundle with their guard at 1. Outside
the fold an RSV operation is served by the reservation store, and x[D] gets its answer; a query or a hold in the fold
waits for its end. GWR puts one write of a governor input field, with a value that fits, into the anvil's buffer. TASK
POST of a good image with a free descriptor answers DONE and the descriptor; CANCEL answers the dispatcher's status; END of
the running task ends it DONE. What an engine answers within the cycle of issue is the model's choice (log entry 24). -/
def Obligations.EngineOperationsOfContextsComplete : Prop :=
  ∀ (s : State) (i : Iss) (b : Bundle) (d a k : Nat), i.set ≠ 0 → s.dev.guarded i →
    let r := s.dev.setOf i
    let e := s.dev.withBundle i (b.plus 3 [(0, d)] [] 0)
    let word := (r.vr a).v.toNat % 2 ^ 128
    (s.dev.joins i 3 [(0, d)] b → (r.vr a).bad % 4 = 0 → (r.xr k).bad = false →
      (∀ fn op, (fn, op) ∈ [(0, Instr.rsvQuery i d a k), (1, .rsvHold i d a k), (2, .rsvCommit i d a k),
          (3, .rsvAbandon i d a k)] →
        (s.dev.folding = false ∨ 2 ≤ fn) →
        exec op s = .next { s with dev := ((e.rsvServe fn word (r.xv k)).2.gains i
          [⟨0, d, (e.rsvServe fn word (r.xv k)).1 % 2 ^ 64, 0, 0, some (s.dev.anv i.anvil).now⟩]) }) ∧
      (s.dev.folding = true → Completes (.rsvQuery i d a k) s fun t =>
        t.rsv.waits = s.dev.rsv.waits ++ [⟨i.anvil, i.set, d, 0, word, r.xv k⟩]) ∧
      (s.dev.folding = true → Completes (.rsvHold i d a k) s fun t =>
        t.rsv.waits = s.dev.rsv.waits ++ [⟨i.anvil, i.set, d, 1, word, r.xv k⟩])) ∧
    (∀ imm, s.dev.joins i 3 [] b → (r.xr d).bad = false → (r.xr a).bad = false → imm < 7 → r.xv a < 4096 →
      r.xv d < 2 ^ (gwrField imm).2 → (s.dev.anv i.anvil).gwr.length < 4 →
      Completes (.gwr i d a imm) s fun t =>
        (t.anv i.anvil).gwr = (s.dev.anv i.anvil).gwr ++ [⟨r.xv a, imm, r.xv d⟩] ∧ t.mem = s.dev.mem ∧
          t.flt = s.dev.flt ∧ t.regs = s.dev.regs) ∧
    (∀ n f, s.dev.joins i 3 [(0, d)] b → (r.xr a).bad = false → (r.xr k).bad = false → s.dev.dspOn = true →
      e.postTask (r.xv a) (if bitOf (r.xv k) 6 then 64 else bitsOf (r.xv k) 0 6) (i.anvil / 8) 0 = (stDone, n, f) →
      exec (.anvilTaskPost i d a k) s = .next { s with dev := (f.gains i
        [⟨0, d, (n * 256) % 2 ^ 64, 0, 0, some ((f.anv i.anvil).now)⟩]) }) ∧
    (∀ st f, s.dev.joins i 3 [(0, d)] b → (r.xr a).bad = false → (r.xr k).bad = false → s.dev.dspOn = true →
      e.cancelTask (r.xv a % 4096) = (st, f) →
      exec (.anvilTaskCancel i d a k) s = .next { s with dev := (f.gains i
        [⟨0, d, st % 2 ^ 64, 0, 0, some ((f.anv i.anvil).now)⟩]) }) ∧
    (∀ n, s.dev.joins i 3 [] b → (r.xr a).bad = false → s.dev.dspOn = true → r.task = some n →
      bitOf (s.dev.desc n).flags 2 = false →
      Completes (.taskEnd i 0 a 0) s fun t =>
        (t.desc n).ended = some (stDone, r.xv a % 2 ^ 32) ∧ t.dsp.recs = s.dev.dsp.recs ++ [n])

/-- RESULT_WRITEBACK of an anvil with no bundle in progress and an empty governor write buffer, and no parity error,
completes: its cycle count goes up by 1; of a register set whose one result is due for x[k], the register holds the value
afterwards when it was due by this cycle, and x0 reads 0 all the same; a result due later stays in flight and its register
keeps its value. Other anvils, memory, queues and registers stay. -/
def Obligations.ResultsLandAtTheEndOfTheirCycle : Prop :=
  ∀ (s : State) (a set k val due : Nat) (r : RSet), a < 64 → (s.dev.anv a).bund = none → (s.dev.anv a).gwr = [] →
    Tab.find (s.dev.anv a).sets set = some r → r.pend = [⟨0, k, val, 0, 0, some due⟩] → k < 32 →
    Completes (.resultWriteback a 0) s fun e =>
      (e.anv a).now = (s.dev.anv a).now + 1 ∧
      (due ≤ (s.dev.anv a).now → (((e.anv a).rset set).xr k).v = (if k = 0 then 0 else BitVec.ofNat 64 val) ∧
        ((e.anv a).rset set).pend = []) ∧
      ((s.dev.anv a).now < due → ((e.anv a).rset set).xr k = r.xr k ∧ ((e.anv a).rset set).pend = r.pend) ∧
      (∀ c, c ≠ a → e.anv c = s.dev.anv c) ∧ e.mem = s.dev.mem ∧ e.que = s.dev.que ∧ e.regs = s.dev.regs

/-- In every register set x0 reads 0, clean, and p0 reads 0xFF; a result of any value that lands in x0 or p0 leaves the
register set as it was; and an ADDI with destination x0 that joins its bundle raises no exception. -/
def Obligations.HardwiredRegistersReadTheirConstants : Prop :=
  (∀ (r : RSet), r.xr 0 = ⟨0, false⟩ ∧ r.pr 0 = 0xFF) ∧
  (∀ (r : RSet) (p : Pend), p.reg = 0 → (p.kind = 0 ∨ p.kind = 2) → r.land p = r) ∧
  (∀ (s : State) (i : Iss) (b : Bundle) (a imm : Nat), s.dev.joins i 0 [(0, 0)] b →
    Completes (.addi i false 0 a imm) s fun e => ((e.anv i.anvil).bund.map (·.exc)) = some none) ∧
  (∀ (s : State) (i : Iss) (b : Bundle) (pa pb : Nat), s.dev.joins i 0 [(2, 0)] b →
    Completes (.plog i 0 pa pb 0) s fun e => ((e.anv i.anvil).bund.map (·.exc)) = some none)

/-! ## The contract, the tongs, the queues and the bellows -/

/-- BLOCK_START of a block in force at its stroke, whose anvil is usable and whose start cycle has not passed, makes it the
running block of its anvil with the static set at its entry. OVERRUN of a first run that has not ended ends it and leaves
it failed, of kind OVERRUN, for a re-run. RERUN of the oldest failed block whose cycles fit the reserve runs it again.
FAB_FENCE of an anvil with a bundle in progress fences it with cause 4, and it ends its bundle first. STAND_IN_REMAP of a
fence at least 5 ms older than the heat moves, sheds or drops every block of the anvil. -/
def Obligations.StrokeBlocksStartEndAndRerun : Prop :=
  ∀ (s : State) (a id : Nat),
    (∀ k v start base, (s.dev.blocks.find? fun p => p.1.id = id) = some (k, v) →
      s.dev.runsAt k = some (a, start, base) → s.dev.fabRuns = true → s.dev.tim.heats = true →
      k.stroke = s.dev.tim.stroke → s.dev.hearthUp (a / 8) = true → (s.dev.anv a).run = none →
      (s.dev.anv a).bund = none → (s.dev.anv a).cyc ≤ start → (s.dev.anv a).started.contains id = false →
      Completes (.blockStart id) s fun e =>
        (e.anv a).run = some ⟨id, (s.dev.anv a).stroke0 + start, k.declared, false, 0, base, [], []⟩ ∧
          ((e.anv a).rset 0).pc = base ∧ (e.anv a).started.contains id = true) ∧
    (∀ r, (s.dev.anv a).run = some r → (s.dev.anv a).bund = none → r.again = false →
      Completes (.overrun a) s fun e => (e.anv a).run = none ∧
        ∃ l st, (e.anv a).fails = l ++ [⟨r.id, 1, st⟩]) ∧
    (∀ f rest sv k v, (s.dev.anv a).fails = f :: rest → s.dev.stockVar = some sv → (s.dev.anv a).run = none →
      (s.dev.anv a).bund = none → s.dev.fenced a = false →
      (s.dev.blocks.find? fun p => p.1.id = f.id) = some (k, v) →
      (let c0 := Nat.max (Nat.max (sv.str s.dev.tim.stroke a 8 4) (s.dev.anv a).reEnd) (s.dev.anv a).cyc;
       c0 + (k.start + 16 - c0 % 16) % 16 + k.declared ≤
         sv.str s.dev.tim.stroke a 8 4 + sv.str s.dev.tim.stroke a 12 4) →
      Completes (.rerun a) s fun e => (e.anv a).run.map (fun r => (r.id, r.again, r.declared)) =
        some (f.id, true, k.declared)) ∧
    (∀ b, a < 64 → s.dev.fenced a = false → (s.dev.anv a).bund = some b →
      Completes (.fabFence a) s fun e => e.fenced a = true ∧ e.rdN FAB_FENCE_CAUSE = a + 4 * 256 ∧
        (e.anv a).bund = some b ∧ e.mem = s.dev.mem) ∧
    (∀ t sv, (s.dev.fab.fences.find? fun f => f.1 = a) = some (a, t) → s.dev.stockVar = some sv →
      s.dev.tim.heats = true → t + 5000000 ≤ s.dev.upNs - s.dev.inHeat →
      Completes (.standInRemap a) s fun e => (∀ f ∈ e.fab.fences, f.1 ≠ a) ∧
        ∀ p ∈ s.dev.blocks, p.1.anvil = a → (Tab.find e.fab.remap p.1.id).isSome = true)

/-- ADMIT with TARGET_RUNG unlocked begins the admission of the rung written. ADMISSION_COMPLETE of a running device that
tries one rung leaves that rung waiting for a heat boundary if its variant passes every check; if not, the admission ends
with the rung, the first failing check and its block in FAB_ADM_STAT, and the rung in force stays. VARIANT_START after that
boundary puts the rung in force and ends the admission. POWER_GATE_WINDOW of a hearth that is up, with a window, no task
and no transfer gates the hearth; POWER_GATE_END makes it usable again. -/
def Obligations.AdmissionAndPowerGatesAct : Prop :=
  ∀ (s : State),
    (∀ value, s.dev.bit FAB_ADM_CTRL 3 = false →
      Completes (.admitVariant value) s fun e =>
        e.fab.adm = some ⟨[value % 4], false, none, false, 0⟩ ∧ e.fld FAB_ADM_CTRL 0 2 = value % 4 ∧
          e.fld FAB_ADM_STAT 0 2 = 1) ∧
    (∀ a r, s.dev.fab.adm = some a → a.rung = none → a.down = false → a.tries = [r] → s.dev.bit FAB_STAT 2 = true →
      Completes .admissionComplete s fun e =>
        match s.dev.admStock (s.dev.fab.stock.getD []) r with
        | none => e.fab.adm.map (·.rung) = some (some r)
        | some (c, k) => e.fab.adm = none ∧ e.rung = s.dev.rung ∧ e.fld FAB_ADM_STAT 0 2 = 3 ∧
            e.fld FAB_ADM_STAT 4 2 = r % 4 ∧ e.fld FAB_ADM_STAT 8 4 = c % 16 ∧ e.fld FAB_ADM_STAT 16 16 = k % 65536) ∧
    (∀ a r, s.dev.fab.adm = some a → a.rung = some r → r < 4 → a.down = false → s.dev.tim.heats = true →
      a.heat < s.dev.tb0 / 100000000 → s.dev.bit FAB_STAT 2 = true →
      Completes .variantStart s fun e => e.fab.adm = none ∧ e.rung = r) ∧
    (∀ h v, h < 8 → s.dev.stockVar = some v → s.dev.fabRuns = true → s.dev.hearthUp h = true →
      (v.gate s.dev.tim.stroke h).2 ≠ 0 →
      s.dev.tb0 ≤ s.dev.cycleTime ((v.gate s.dev.tim.stroke h).1 + (v.gate s.dev.tim.stroke h).2) →
      s.dev.hearthBusy h = false → s.dev.tongsTouch h = false →
      Completes (.powerGateWindow h) s fun e => e.bit FAB_STAT (16 + h) = true ∧ e.hearthUp h = false ∧
        e.fab.gated = s.dev.fab.gated + 1) ∧
    (∀ h, h < 8 → s.dev.bit FAB_STAT (16 + h) = true →
      Completes (.powerGateEnd h) s fun e => e.bit FAB_STAT (16 + h) = false)

/-- TONGS_REQUEST of a request queue that is idle, whose oldest visible request is valid and may run, makes it the running
request. TONGS_ABORT of a running request, not yet begun, ends it. TONGS_COMPLETION without an error ends the running
request and counts its bytes. -/
def Obligations.TongsRequestsRunAndEnd : Prop :=
  ∀ (s : State) (q : Nat), q < 8 →
    (∀ p rest, (s.dev.tq q).served = [] → (s.dev.tq q).run = none → (s.dev.tq q).recs = [] →
      s.dev.tongsWaiting q = p :: rest → ((p :: rest).any fun x => (treqOf x.data).op = 2) = false →
      treqOk (treqOf p.data) = true → p.bad = [] → s.dev.waitsGate (treqOf p.data) = false →
      s.dev.tongsQueue (treqOf p.data).cq = true → s.dev.badPage (treqOf p.data) = false →
      Completes (.tongsRequest q) s fun e => (e.tq q).run = some (treqOf p.data)) ∧
    (∀ p k x, ((s.dev.tongsWaiting q).find? fun p => (treqOf p.data).op = 2) = some p →
      s.dev.tongsQueue (treqOf p.data).cq = true → abortOk (treqOf p.data) = true →
      (s.dev.fab.tongs.find? fun x => match x.2.run with
        | some y => y.tag = (treqOf p.data).tag && y.cq = (treqOf p.data).cq
        | none => false) = some (k, x) →
      Completes (.tongsAbort q false) s fun e => (e.tq k).run = none) ∧
    (∀ r row, (s.dev.tq q).run = some r →
      Completes (.tongsCompletion q 0 row) s fun e => (e.tq q).run = none ∧
        e.fab.bytes = s.dev.fab.bytes + r.len * r.rows)

/-- QUEUE_ENABLE of a disabled queue whose configuration passes R310 makes it an empty queue of two banks of 16 x 2^K
granules, with the credits of one bank. QUEUE_DISABLE disables it. A flush that takes effect (forced, or at a packet
boundary, at once or after waiting) discards what was written, and with no packet open the books settle: nothing visible,
full credit. HAND_OVER where R315 lets one begin begins it; HAND_OVER_COMPLETE with no packet open makes the writing bank
the draining bank. Every other queue stays. -/
def Obligations.QueueCommandsChangeTheirQueue : Prop :=
  ∀ (s : State) (n : Nat), n < 256 →
    let q := s.dev.q n
    (∀ value, q.on = false → bitsOf value 1 4 ≤ 8 →
      (s.dev.queCfgWrite n (setBits value 0 1 0)).enableFails n = none →
      Completes (.queueEnable n value) s fun e => (e.q n).on = true ∧ (e.q n).g = 16 * 2 ^ bitsOf value 1 4 ∧
        queueCredit (e.q n) = (e.q n).g ∧ (e.q n).pkts = [] ∧ e.bit (QUE_CFG n) 0 = true ∧
        ∀ m, m ≠ n → e.q m = s.dev.q m) ∧
    (∀ value, q.on = true →
      Completes (.queueDisable n value) s fun e => (e.q n).on = false ∧ e.bit (QUE_CFG n) 0 = false ∧
        ∀ m, m ≠ n → e.q m = s.dev.q m) ∧
    (q.on = true → q.opn = none →
      (∀ force, (force = true ∨ queueAtBoundary q = true) → Completes (.queFlush n true force) s fun e =>
        (e.q n).pkts = [] ∧ (e.q n).settle = false ∧ queueCredit (e.q n) = q.g ∧ ∀ m, m ≠ n → e.q m = s.dev.q m) ∧
      (q.flush = true → queueAtBoundary q = true → Completes (.flushEffect n) s fun e =>
        (e.q n).pkts = [] ∧ (e.q n).settle = false ∧ queueCredit (e.q n) = q.g ∧ ∀ m, m ≠ n → e.q m = s.dev.q m) ∧
      (q.settle = true → Completes (.flushSettle n) s fun e =>
        (e.q n).settle = false ∧ (e.q n).pos = q.fin ∧ queueCredit (e.q n) = q.g ∧ e.bit QUE_INT_STAT 7 = true)) ∧
    (handOverDue q (s.dev.bit DSP_STAT 9) (s.dev.bit (QUE_CFG n) 24) = true →
      Completes (.handOver n) s fun e => e.q n = { q with handing := true } ∧ ∀ m, m ≠ n → e.q m = s.dev.q m) ∧
    (q.handing = true → q.opn = none → (64 ≤ n ∨ n % 16 ≠ 1) →
      Completes (.handOverComplete n) s fun e =>
        e.q n = { q with handing := false, dStart := q.wStart, wStart := q.fin, wbank := 1 - q.wbank } ∧
          ∀ m, m ≠ n → e.q m = s.dev.q m)

/-- TRIGGER_ENABLE on a queue consumed by the fabric contexts with BP_EN set enables the trigger from the packets visible
now. TRIGGER_TASK with a visible packet and a good image makes one task and spends the packet. NOT_BEFORE_WAKE of a
SUSPENDED task whose time has come makes it READY. TASK_DISPATCH by a hearth with an eligible anvil places the head of the
list it takes from in the lowest free context, RUNNING, with its program counter at the entry. COMPLETION_RECORD of an
ended task whose queue takes the record frees its descriptor. -/
def Obligations.BellowsCommandsMoveTasks : Prop :=
  ∀ (s : State) (n k : Nat),
    (∀ value, k < 16 → bitOf value 14 = true → s.dev.bit (DSP_TRIG_Q k) 14 = false →
      s.dev.fld (QUE_CFG (bitsOf value 0 8)) 16 8 = 0x40 → s.dev.bit (QUE_CFG (bitsOf value 0 8)) 24 = true →
      Completes (.triggerEnable k value) s fun e => e.bit (DSP_TRIG_Q k) 14 = true ∧
        Tab.find e.dsp.made k = some (s.dev.q (bitsOf value 0 8)).vis) ∧
    (∀ d e', s.dev.dspOn = true → s.dev.bit (DSP_TRIG_Q k) 14 = true →
      Tab.getD s.dev.dsp.made k 0 < (s.dev.q (s.dev.fld (DSP_TRIG_Q k) 0 8)).vis →
      s.dev.postTask (s.dev.rdN (DSP_TRIG_ADDR k)) (Tab.getD s.dev.dsp.lastOf k (s.dev.fld (DSP_TRIG_Q k) 8 6))
        (Tab.getD s.dev.dsp.lastOf k (s.dev.fld (DSP_TRIG_Q k) 8 6) / 8) (0x80 + k) = (stDone, d, e') →
      Completes (.triggerTask k) s fun e => e.dsp.made = Tab.put e'.dsp.made k (Tab.getD s.dev.dsp.made k 0 + 1) ∧
        e.desc d = e'.desc d) ∧
    (s.dev.dspOn = true → (s.dev.desc n).st = 3 →
      s.dev.later (s.dev.desc n).nbHeat (s.dev.desc n).nbStroke = false →
      Completes (.notBeforeWake n) s fun e => (e.desc n).st = 1 ∧ n ∈ e.ready (s.dev.listFor (s.dev.desc n))) ∧
    (∀ h a c l rest, s.dev.dspOn = true → s.dev.placeAt h = some a → s.dev.freeCtx a = some c →
      s.dev.takesFrom a = some l → s.dev.ready l = n :: rest →
      Completes (.taskDispatch h) s fun e => (e.desc n).st = 2 ∧ (e.desc n).at_ = some (a, c) ∧
        ((e.anv a).rset (c + 1)).task = some n ∧ ((e.anv a).rset (c + 1)).pc = (s.dev.desc n).entry ∧
        n ∉ e.ready l) ∧
    (s.dev.recordDue = some n →
      Completes .completionRecord s fun e => (e.desc n).st = 0 ∧ n ∉ e.dsp.recs)

/-! ## Time -/

/-- HEAT_START of a valid TB0 with no restart due completes: time reaches the next multiple of 100 ms, heats run, the
stroke is 0 and the heat begun is the one that TB0 shows; then the boundary's changes are made in the order of log entry
32. STROKE_START within a heat counts the stroke up and does the stroke's work. TB0_VALID of a first fix of at least five
satellites without an alarm sets TB0 to the time of the epoch, with the drift as its rate and no holdover, and sets the
RTC. -/
def Obligations.HeatsAndStrokesBegin : Prop :=
  ∀ (s : State),
    (∀ feOk, s.dev.tim.valid = true →
      (∀ e : Device, e = { (s.dev.advanceTo ((s.dev.tim.begun + 1) * 100000000)).fabStroke with tim :=
          { (s.dev.advanceTo ((s.dev.tim.begun + 1) * 100000000)).fabStroke.tim with
            heats := true, stroke := 0
            begun := (s.dev.advanceTo ((s.dev.tim.begun + 1) * 100000000)).fabStroke.heatAbs } } →
        e.pairBoundary.boot.restart = false →
        Completes (.heatStart feOk) s fun t => e.tim.heats = true ∧ e.tim.begun = e.tb0 / 100000000 ∧
          t = (((((if s.dev.tim.heats then e.pairBoundary else e.pairBoundary.armHardware).blockBoundary
            feOk).fleetBoundary).countBoundary).strokeWork).foldBegin)) ∧
    (s.dev.tim.heats = true → s.dev.tim.stroke < 9 →
      Completes .strokeStart s fun t => ∃ e : Device, e.tim.stroke = s.dev.tim.stroke + 1 ∧ e.tim.heats = true ∧
        t = e.strokeWork) ∧
    (∀ f time tags, s.dev.tim.valid = false → s.dev.gnsOn = true → 5 ≤ f.sats → s.dev.gns.alarm = false →
      Completes (.tb0Valid f time tags) s fun e => e.tim.valid = true ∧ e.tb0 = time ∧
        (e.base 0).rate = rateOf (Frac.norm f.drift (10 ^ 15)) ∧ (e.base 0).hold = false ∧
        e.tim.begun = time / 100000000)

/-- HOLDOVER_ENTRY with TB0 valid, a condition of R396 and no holdover yet puts TB0 in holdover at the rate that it holds,
with GNS_STAT.TIME_STATE 2 and TIM_INT_STAT bit 1. REJOIN after 10 s without a condition starts the slew. TB0_LOCKED
after ten epochs in lock ends slew and holdover, with f at the hold rate, TIME_STATE 1 and TIM_INT_STAT bit 2.
PTP_ANNOUNCE_TIMEOUT of a PTP slave puts TB1 in holdover with TIM_INT_STAT bit 4. The other bases stay. -/
def Obligations.Tb0HoldoverFollowsItsRules : Prop :=
  ∀ (s : State),
    (s.dev.tim.valid = true → s.dev.holdCond = true → (s.dev.base 0).hold = false →
      Completes .holdoverEntry s fun e => (e.base 0).hold = true ∧ (e.base 0).slewing = false ∧
        (e.base 0).rate = e.tim.holdRate ∧ e.fld GNS_STAT 0 2 = 2 ∧ e.bit TIM_INT_STAT 1 = true ∧
        ∀ b, b ≠ 0 → e.base b = s.dev.base b) ∧
    (∀ t, (s.dev.base 0).hold = true → (s.dev.base 0).slewing = false → s.dev.tim.clearAt = some t →
      s.dev.since t 10000000000 = true → s.dev.holdCond = false →
      Completes .rejoin s fun e => (e.base 0).slewing = true ∧ (e.base 0).hold = true ∧ e.tim.inLock = 0 ∧
        ∀ b, b ≠ 0 → e.base b = s.dev.base b) ∧
    ((s.dev.base 0).slewing = true → 10 ≤ s.dev.tim.inLock →
      Completes .tb0Locked s fun e => (e.base 0).slewing = false ∧ (e.base 0).hold = false ∧
        e.tim.f = ofRate s.dev.tim.holdRate ∧ e.fld GNS_STAT 0 2 = 1 ∧ e.bit TIM_INT_STAT 2 = true ∧
        ∀ b, b ≠ 0 → e.base b = s.dev.base b) ∧
    (s.dev.fld TIM_PTP_CFG 0 2 = 2 → (s.dev.base 1).master = 2 → (s.dev.base 1).hold = false →
      Completes .ptpAnnounceTimeout s fun e => (e.base 1).hold = true ∧ e.bit TIM_INT_STAT 4 = true ∧
        ∀ b, b ≠ 1 → e.base b = s.dev.base b)

/-- TIM_SNAP latches the heat counter and all eight bases. TIM_ADJ steps a NONE base modulo 2^32 ns, and shifts a FOLLOW
base's offset. MASTER_CHANGE to an allowed master puts the base in holdover without a jump, waiting to join. A PTP slave
steps TB1 by an offset beyond STEP_US; a master sends. An armed compare unit fires: FIRED is set, and it disarms with
period 0 or adds its period to the target. Writing a target ahead arms the unit; one at or behind a valid base fires it
late (log entry 31). A capture latches its base and the heat, with OVR when the last was unread. -/
def Obligations.BasesAndSnapshotsFollowTheirCommands : Prop :=
  ∀ (s : State) (k b : Nat),
    (∀ win, Completes (.timSnap win) s fun e =>
      Tab.find e.tim.snaps win = some ⟨s.dev.heat, (List.range 8).map s.dev.baseNs⟩ ∧ e.regs = s.dev.regs) ∧
    (∀ step, (s.dev.base b).joining = none → (∀ j, 16 ≤ j → j < 32 → s.dev.cmpBase j ≠ b) →
      ((s.dev.base b).master = 0 → Completes (.timAdj b step) s fun e =>
        e.baseNs b = ofSigned 32 ((s.dev.baseNs b : Int) + step) ∧ e.regs = s.dev.regs) ∧
      ((s.dev.base b).master = 3 → Completes (.timAdj b step) s fun e =>
        (e.base b).ofs = toSigned 32 (ofSigned 32 ((s.dev.base b).ofs + step)) ∧ e.regs = s.dev.regs)) ∧
    (∀ m, b ≠ 0 → masterOk b m = true →
      Completes (.masterChange b m) s fun e => (e.base b).joining = some m ∧ (e.base b).hold = true ∧
        e.baseNs b = s.dev.baseNs b ∧ ∀ c, c ≠ b → e.base c = s.dev.base c) ∧
    (∀ offset, s.dev.fld TIM_PTP_CFG 0 2 = 2 → (s.dev.base 1).master = 2 → (s.dev.base 1).joining = none →
      s.dev.fld TIM_PTP_CFG 11 10 * 1000 < offset.natAbs →
      Completes (.ptpMessage true s.dev.tim.gm s.dev.tim.ptpPort offset true) s fun e =>
        e.baseNs 1 = ofSigned 32 ((s.dev.baseNs 1 : Int) - offset) ∧ ∀ c, c ≠ 1 → e.base c = s.dev.base c) ∧
    (∀ gm port offset event, s.dev.fld TIM_PTP_CFG 0 2 = 1 → s.dev.tim.valid = true →
      Completes (.ptpMessage false gm port offset event) s fun e =>
        e = s.dev.send .netPtp s.dev.ptpPortNow (b2n event) []) ∧
    (s.dev.cmpArmed k = true → Completes (.compareFire k) s fun e => e.bit (TIM_CMP_CFG k) 17 = true ∧
      (s.dev.rdN (TIM_CMP_PER k) = 0 → e.bit (TIM_CMP_CFG k) 3 = false) ∧
      (s.dev.rdN (TIM_CMP_PER k) ≠ 0 → e.rdN (TIM_CMP_TGT k) =
        (s.dev.rdN (TIM_CMP_TGT k) + s.dev.rdN (TIM_CMP_PER k)) % 2 ^ 32)) ∧
    (∀ target, 16 ≤ k → k < 32 →
      (diff32 (s.dev.baseNs (s.dev.cmpBase k)) (target % 2 ^ 32) < 0 → Completes (.compareTargetWrite k target) s fun e =>
        e.rdN (TIM_CMP_TGT k) = target % 2 ^ 32 ∧ e.bit (TIM_CMP_CFG k) 3 = true) ∧
      (0 ≤ diff32 (s.dev.baseNs (s.dev.cmpBase k)) (target % 2 ^ 32) → s.dev.tim.valid = true →
        Completes (.compareTargetWrite k target) s fun e =>
          e.bit (TIM_CMP_CFG k) 17 = true ∧ e.bit (TIM_CMP_CFG k) 16 = true)) ∧
    (s.dev.bit (TIM_CAP_CFG k) 7 = true → Completes (.capture k) s fun e =>
      e.rdN (TIM_CAP_VAL k) = s.dev.baseNs (s.dev.fld (TIM_CAP_CFG k) 0 3) ∧ e.rdN (TIM_CAP_HEAT k) = s.dev.heat ∧
        e.bit (TIM_CAP_STAT k) 0 = true ∧ (s.dev.bit (TIM_CAP_STAT k) 0 = true → e.bit (TIM_CAP_STAT k) 1 = true))

/-! ## GNSS and corrections -/

/-- MEASUREMENT_EPOCH of a running engine assigns at most 1,024 channels, and GNS_STAT counts them. SIGNAL_ACQUIRED adds a
new signal to those found, and nothing else changes. PORT_DISPLACED after DISP_EPOCHS bad epochs with at least three ports
marks the port. SPOOF_ALARM_CLEAR after SPOOF_MIN quiet epochs ends the alarm, and nothing else changes. -/
def Obligations.GnssCommandsActOnTheEngine : Prop :=
  ∀ (s : State),
    (∀ o, s.dev.gnsOn = true → Completes (.measurementEpoch o) s fun e => e.gns.chans.length ≤ 1024 ∧
      e.fld GNS_STAT 5 11 = e.gns.chans.length) ∧
    (∀ p code sat, s.dev.gnsOn = true → s.dev.gns.found.contains (p, code, sat) = false →
      Completes (.signalAcquired p code sat) s fun e =>
        e = { s.dev with gns := { s.dev.gns with found := s.dev.gns.found ++ [(p, code, sat)] } }) ∧
    (∀ p, p < 4 → s.dev.fld GNS_INT_CFG 12 4 ≤ Tab.getD s.dev.gns.disp p 0 →
      3 ≤ ((List.range 4).filter fun i => bitOf (s.dev.gnsEff GNS_CTRL) (1 + i)).length → s.dev.displaced p = false →
      Completes (.portDisplaced p) s fun e => e.displaced p = true ∧ e.gns = s.dev.gns ∧ e.tim = s.dev.tim) ∧
    (s.dev.gns.alarm = true → s.dev.fld GNS_INT_CFG 8 4 ≤ s.dev.gns.quiet →
      Completes .spoofAlarmClear s fun e =>
        e = { s.dev with gns := { s.dev.gns with alarm := false, quiet := 0 } })

/-- LOAD keeps the written position for the next heat boundary and aborts a survey. REF_POSITION_CHECK of a position within
the limit of the fix keeps it; beyond the limit STATE becomes NONE with GNS_INT_STAT bit 7. SURVEY_START begins a survey;
SURVEY_ABORT ends it ABORTED with the former STATE; SURVEY_COMMIT of a complete survey makes its result the active
position, STATE SURVEYED, outcome DONE. -/
def Obligations.ReferencePositionCommandsAct : Prop :=
  ∀ (s : State),
    (Completes .load s fun e => e.gns.load = some s.dev.refWritten ∧ e.gns.survey = false ∧
      (s.dev.gns.survey = true → e.gns.last = 2) ∧ e.gns.pos = s.dev.gns.pos) ∧
    (∀ f, s.dev.gns.check = true → s.dev.gns.fix = some f →
      let p := s.dev.gns.pos
      let dist2 := ((f.x - p.x) * (f.x - p.x) + (f.y - p.y) * (f.y - p.y) + (f.z - p.z) * (f.z - p.z)).toNat
      let lim := s.dev.fld GNS_INT_CFG 16 7 * 10000
      (dist2 ≤ lim * lim → Completes .refPositionCheck s fun e =>
        e.gns.check = false ∧ e.gns.refState = s.dev.gns.refState ∧ e.regs = s.dev.regs) ∧
      (lim * lim < dist2 → Completes .refPositionCheck s fun e =>
        e.gns.check = false ∧ e.gns.refState = 0 ∧ e.bit GNS_INT_STAT 7 = true)) ∧
    (s.dev.gns.survey = false → Completes .surveyStart s fun e => e.gns.survey = true ∧ e.gns.counted = 0 ∧
      e.gns.refState = 1 ∧ e.gns.before = s.dev.gns.refState ∧ e.rdN GNS_SURVEY_SIGMA = 0xFFFFFFFF) ∧
    (s.dev.gns.survey = true → Completes .surveyAbort s fun e => e.gns.survey = false ∧ e.gns.last = 2 ∧
      e.gns.refState = s.dev.gns.before ∧ e.gns.pos = s.dev.gns.pos) ∧
    (∀ x y z, s.dev.gns.survey = true → s.dev.surveyDone = true → s.dev.gns.load = none →
      Completes (.surveyCommit x y z) s fun e => e.gns.pos = ⟨x, y, z⟩ ∧ e.gns.refState = 2 ∧ e.gns.survey = false ∧
        e.gns.last = 1 ∧ e.bit GNS_INT_STAT 9 = true)

/-- CORRECTION_SET of a running device with a profile builds the heat's set once. RADIO_FRAGMENT of a port that may begin one
counts the fragment on the port. BROADCAST_KEY_GENERATE puts the next key into slot 12 and sets the heat at which it takes
over; BROADCAST_KEY_ROLL at that heat moves it to slot 11 and counts the key ID. KEY_ANNOUNCEMENT in its due heat with an
open gate sends a datagram of key frames to the correction group. Tags, wrapped keys and signatures are free values (log
entries 6 and 7). -/
def Obligations.CorrectionOutputActs : Prop :=
  ∀ (s : State) (tag : Nat),
    (∀ b, s.dev.cor.prof = some b → s.dev.running = true → s.dev.cor.built ≠ some s.dev.heatAbs →
      Completes (.correctionSet tag) s fun e => e.cor.built = some s.dev.heatAbs ∧ e.cor.prof = some b) ∧
    (∀ r p start air clear next h n e',
      let d := s.dev.advanceTo start
      d.cor.radio = some r → Tab.find r.ports p = some (next, h, n) → d.running = true →
      d.mayFragment r p start air clear = true → d.tmp.cinder = false → d.corrKeys = true → (d.slot 11).st ≠ 0 →
      d.useKey 11 0 tag = (stDone, e') →
      Completes (.radioFragment p start air clear tag) s fun e =>
        (e.cor.radio.bind fun x => Tab.find x.ports p).map (fun x => (x.1, x.2.1)) =
          some (next + 1, start / 100000000)) ∧
    (∀ b, s.dev.cor.prof = some b → s.dev.running = true → s.dev.corrKeys = true → s.dev.cor.nextFirst = none →
      Completes .broadcastKeyGenerate s fun e => (e.slot 12).st = 1 ∧ (e.slot 12).alg = 1 ∧ (e.slot 12).attr = 0 ∧
        e.cor.nextFirst = some (rollHeat s.dev.heatAbs (uAt b 16 1))) ∧
    (∀ h, s.dev.cor.nextFirst = some h → s.dev.running = true → h ≤ s.dev.heatAbs → (s.dev.slot 12).st ≠ 0 →
      Completes .broadcastKeyRoll s fun e => e.slot 11 = s.dev.slot 12 ∧ e.slot 12 = slotEmpty ∧
        e.cor.kid = s.dev.cor.kid % 255 + 1 ∧ e.cor.kFirst = h ∧ e.cor.nextFirst = none) ∧
    (∀ b k air e', s.dev.cor.prof = some b → s.dev.corrSlot 5 0 = some k → s.dev.running = true →
      s.dev.heatAbs % 300 = 8 → s.dev.cor.built = some s.dev.heatAbs → s.dev.corrKeys = true → s.dev.cor.kid ≠ 0 →
      (s.dev.slot 11).st ≠ 0 → s.dev.useKey k 0 tag = (stDone, e') → e'.mcastSlot.isSome = true → e'.gate = true →
      e'.netUp = true → (∀ x, Tab.getD e'.hst.seqs x 0 < 0xFFFFFFFF) →
      Completes (.keyAnnouncement air tag) s fun e => ∃ w ∈ e.out, w.chan = .netMulticast ∧ w.unit = corrGroup ∧
        (w.data.drop 16).head? = some 0xC2)

/-! ## Power, resets and ageing -/

/-- What a reset of the device leaves (R490, R513, R545): the cause; the slag log, the partition records, OTP, the tamper
log and the flash stay; no session, no key slot, no queue; memory holds nothing; nothing has started. -/
def Sys2Proof.Claims.ResetLeaves (cause : Nat) (d e : Device) : Prop :=
  e.fld PWR_CAUSE 0 3 = cause ∧ e.log.ring = d.log.ring ∧ e.log.seq = d.log.seq ∧ e.hst.parts = d.hst.parts ∧
    e.boot.otp = d.boot.otp ∧ e.boot.active = d.boot.active ∧ e.boot.known = d.boot.known ∧ e.boot.failed = d.boot.failed ∧
    e.tmp = d.tmp ∧ (∀ k, e.slot k = slotEmpty) ∧ (∀ n, (e.q n).on = false) ∧ (∀ p, (e.sess p).open_ = false) ∧
    e.mem = Device.reset.mem ∧ e.pwr.started = false ∧ e.pwr.armed = false ∧ e.tim.heats = false ∧
    e.tim.up = d.tim.up

/-- RESET_N low of a supplied device, SYS_RESET of 0xA5A5, WATCHDOG_EXPIRY of an armed watchdog and PLL_UNLOCK of a PLL
reset the device with their cause (the last two after a fault record, WDOG of SYS and 0x0101 of CLK); another SYS_RESET
value changes nothing. POWER_ON powers the domains and drives PWR_OK_OUT; VIN_LOSS also loses the slag log. SYS_WDOG of
0x5A5A serves the watchdog. STATE_REQUEST of RUN, IDLE, DOZE or HIBERNATE is TARGET and changes no state; a reserved one
keeps it. STATE_CHANGE of a request that is due, with no wake source active on the way down, makes it the state and
latches BOOT on leaving RUN. WAKE_IN asks for RUN from IDLE and DOZE and starts from HIBERNATE, as RTC_ALARM does. -/
def Obligations.ResetsAndDeviceStatesFollowTheirCommands : Prop :=
  ∀ (s : State),
    (s.dev.pwr.off = false → Completes (.resetN false) s fun e => ResetLeaves 1 s.dev e ∧ e.pwr.held = true) ∧
    (Completes (.resetN true) s fun e => e = { s.dev with pwr := { s.dev.pwr with held := false } }) ∧
    (s.dev.pwr.off = true → Completes .powerOn s fun e =>
      e.pwr.off = false ∧ e.rdN PWR_DOM = 0x3FFFF ∧ e.pin pinPwrOk = 1 ∧ e.log = s.dev.log) ∧
    (Completes .vinLoss s fun e => e.pwr.off = true ∧ e.pin pinPwrOk = 0 ∧ e.log.ring = [] ∧ e.rdN PWR_DOM = 1 ∧
      e.tmp = s.dev.tmp ∧ e.boot.otp = s.dev.boot.otp ∧ e.mem = Device.reset.mem) ∧
    (∀ value, (value % 65536 = 0xA5A5 → Completes (.sysReset value) s (ResetLeaves 5 s.dev)) ∧
      (value % 65536 ≠ 0xA5A5 → Completes (.sysReset value) s (· = s.dev))) ∧
    (∀ value, (value % 65536 = 0x5A5A → Completes (.sysWdog value) s fun e =>
        e = { s.dev with pwr := { s.dev.pwr with served := s.dev.upNs } }) ∧
      (value % 65536 ≠ 0x5A5A → Completes (.sysWdog value) s (· = s.dev))) ∧
    (s.dev.pwr.armed = true → s.dev.pstate ≠ 3 → Completes .watchdogExpiry s fun e =>
      NewestIs e 0x00 0x0101 0xFFFF ∧ e.fld PWR_CAUSE 0 3 = 5 ∧ e.pwr.armed = false ∧ e.pwr.started = false ∧
        e.boot.failed = s.dev.boot.failed) ∧
    (∀ pll, 3 ≤ pll → pll ≤ 9 → Completes (.pllUnlock pll) s fun e =>
      NewestIs e 0x02 0x0101 pll ∧ e.fld PWR_CAUSE 0 3 = 5 ∧ e.pwr.started = false) ∧
    (∀ value, (bitsOf value 0 3 < 4 → Completes (.stateRequest value) s fun e =>
        e.fld PWR_STATE 0 3 = bitsOf value 0 3 ∧ e.bit PWR_STATE 7 = decide (bitsOf value 0 3 ≠ s.dev.pstate) ∧
          e.pstate = s.dev.pstate ∧ e.mem = s.dev.mem) ∧
      (4 ≤ bitsOf value 0 3 → Completes (.stateRequest value) s fun e =>
        e.rd PWR_STATE = s.dev.rd PWR_STATE ∧ NewestIs e 0x01 2 0xFFFF)) ∧
    (let t := s.dev.fld PWR_STATE 0 3
     s.dev.bit PWR_STATE 7 = true → t < 4 → (s.dev.tim.heats = true → s.dev.pwr.reqHeat < s.dev.heatAbs) →
      (s.dev.pstate < t → s.dev.wakeActive t = false) →
      Completes .stateChange s fun e => e.pstate = t ∧ e.bit PWR_STATE 7 = false ∧ e.bit PWR_INT_STAT 2 = true ∧
        (s.dev.pstate = 0 → bitOf e.stp.latch 8 = true)) ∧
    (s.dev.bit PWR_WAKE 0 = true →
      (s.dev.pstate = 1 ∨ s.dev.pstate = 2 → Completes (.wakeIn true) s fun e =>
        e.fld PWR_CAUSE 0 3 = 2 ∧ e.fld PWR_STATE 0 3 = 0 ∧ e.bit PWR_STATE 7 = true ∧ e.pstate = s.dev.pstate) ∧
      (s.dev.pstate = 3 → Completes (.wakeIn true) s fun e =>
        e.fld PWR_CAUSE 0 3 = 2 ∧ e.pstate = 0 ∧ e.pwr.starting = true ∧ e.pwr.started = false)) ∧
    (Completes (.wakeIn false) s fun e => e = { s.dev with pwr := { s.dev.pwr with wakeIn := false } }) ∧
    (s.dev.pstate = 3 → s.dev.bit PWR_WAKE 1 = true → Completes .rtcAlarm s fun e =>
      e.fld PWR_CAUSE 0 3 = 3 ∧ e.pstate = 0 ∧ e.pwr.starting = true ∧ e.pwr.started = false)

/-- MARGIN_READING while AGE is enabled records the reading of a monitor that takes readings, at the next whole second.
TREND when one is due, and TREND_NOW while AGE is enabled, copy the monitors to the warden store and set AGE_PRED of the
running rung to no more than the prediction of any monitor that takes readings. TRIM_STEP of a step that is due raises
the trim of the running rung by one, up to the cap, and the core set point follows, at most 800 mV. TRIM_CLEAR sets the
trim of every other rung to 0 and keeps that of the running rung. -/
def Obligations.AgeingCommandsTrimTheRunningRung : Prop :=
  ∀ (s : State),
    (∀ m (v : Int), s.dev.bit AGE_CTRL 0 = true → s.dev.monitorOn m = true →
      Completes (.marginReading [(m, v)]) s fun e =>
        (Tab.find e.age.mons m).map (·.last) = some v ∧ (s.dev.upNs / 1000000000 + 1) * 1000000000 ≤ e.upNs) ∧
    (∀ c, (c = .trend ∧ s.dev.trendDue = true ∨ c = .trendNow ∧ s.dev.bit AGE_CTRL 0 = true) → s.dev.rung < 4 →
      Completes c s fun e => e.bit AGE_INT_STAT 0 = true ∧ e.age.ran = some s.dev.heatAbs ∧ e.age.alarm = false ∧
        e.age.saved = e.age.mons ∧
        ∀ x ∈ e.age.mons, s.dev.monitorOn x.1 = true → x.2.hours ≠ [] →
          toSigned 16 (e.fld (AGE_PRED s.dev.rung) 0 16) ≤ max x.2.pred (-32768)) ∧
    (s.dev.age.trimDue = true → s.dev.rung < 4 → Completes .trimStep s fun e =>
      let t := Nat.min (s.dev.fld AGE_CFG 14 4) (s.dev.fld (AGE_TRIM s.dev.rung) 0 4 + 1)
      e.fld (AGE_TRIM s.dev.rung) 0 4 = t ∧ e.rdN PWR_VCORE = Nat.min 800 (rungMv s.dev.rung + 5 * t) ∧
        e.age.trimDue = false ∧ e.bit AGE_INT_STAT 1 = true) ∧
    (Completes .trimClear s fun e => (∀ r, r < 4 → r ≠ s.dev.rung → e.rdN (AGE_TRIM r) = 0) ∧
      e.rd (AGE_TRIM s.dev.rung) = s.dev.rd (AGE_TRIM s.dev.rung) ∧ e.age = s.dev.age)

/-! ## The start, the update commands and the service port -/

/-- The device after a frame of the service port: the frame counts, and the session goes on (R482, R483). -/
def Sys2Proof.Claims.svcTook (d : Device) : Device :=
  let e := d.count SVC_FRAMES
  { e with boot := { e.boot with sess := e.boot.sess.map fun x => { x with last := e.upNs } } }

/-- An update command comes to the staging hardware from source `src` with body `b`, from a partition that holds the update
right or from a service session with the update right; `reply` is the answer on its way back (R478). -/
def Sys2Proof.Claims.UpdComes (s : State) (code : Nat) (u : UpdFrom) (src : Nat) (b : Bytes) (d : Device)
    (reply : Nat → Bytes → Device → Device) : Prop :=
  match u with
  | .host h => ∃ c, s.dev.takes code h = some (c, d) ∧ c.code = code ∧ updLen code c.body.length = true ∧
      d.right c.part rUpdate = true ∧ src = 1 + c.part ∧ b = c.body ∧ reply = fun st body x => x.answer c st body
  | .svc req body => s.dev.svcUp = true ∧ bitOf s.dev.svcRights 0 = true ∧ src = 5 ∧ b = body ∧ d = svcTook s.dev ∧
      reply = fun st bd x => x.svcAnswer code req st bd

/-- START of a released device enters recovery ROM mode when SVC_BOOT is high, boot source is 2 or three starts
failed; otherwise it counts a failed start and runs a set that passes. START_OK with a passing variant clears the
count, names the set and arms the watchdog, and without one it changes nothing. UPD_CLAIM of a free lock takes it; of
another's it is BUSY. UPD_DATA of the holder at the next offset appends. UPD_COMMIT of the holder with a set that
passes stages it and releases the lock. UPD_ABORT of the holder discards it. UPD_STATUS names the holder. LOCK_IDLE
releases it with a fault record. The layout of UPD_STATUS and the staging limit are the model's (log entry 30). -/
def Obligations.StartAndStagingFollowTheirCommands : Prop :=
  ∀ (s : State) (u : UpdFrom) (src : Nat) (b : Bytes) (d : Device) (reply : Nat → Bytes → Device → Device),
    (∀ x : StartIn, s.dev.pwr.started = false → s.dev.pwr.off = false → s.dev.pwr.held = false →
      let bt : Boot := { s.dev.boot with gen := s.dev.boot.highest }
      (x.svcBoot = true ∨ bt.source = 2 ∨ bt.failed = 3 → Completes (.start x) s fun e =>
        e.boot.recovery = true ∧ e.pwr.started = true ∧ e.boot.failed = s.dev.boot.failed) ∧
      (x.svcBoot = false → bt.source ≠ 2 → bt.failed ≤ 1 → bt.recovery = false → x.vbat = true → x.ref.isSome = true →
        x.rootBad = false → s.dev.keys.rootOk = true → bt.staged = false → bt.activeBad = false →
        ({ s.dev with boot := bt } : Device).setOk bt.active x.active = true → x.failing = [] → bt.cfg = none →
        Completes (.start x) s fun e => e.boot.warden = true ∧ e.boot.recovery = false ∧ e.boot.runKg = false ∧
          e.boot.failed = bt.failed + 1 ∧ e.pwr.started = true ∧ e.pwr.starting = true)) ∧
    (s.dev.boot.warden = true → s.dev.pwr.starting = true → Completes .startOk s fun e =>
      (s.dev.stockPasses = true → e.boot.failed = 0 ∧ e.boot.lastKg = s.dev.boot.runKg ∧ e.pwr.armed = true ∧
        e.pwr.served = s.dev.upNs ∧ e.pwr.starting = false ∧ e.bit UPD_CTRL 0 = true) ∧
      (s.dev.stockPasses = false → e = s.dev)) ∧
    (UpdComes s 0x0A00 u src b d reply → b = [] → d.boot.restart = false →
      (d.boot.holder = 0 ∨ d.boot.holder = src → Completes (.updClaim u) s fun t => ∃ x : Device, t = reply stDone [] x ∧
        x.boot.holder = src ∧ x.boot.stage = [] ∧ x.boot.holderAt = d.upNs ∧ x.boot.active = d.boot.active) ∧
      (d.boot.holder ≠ 0 → d.boot.holder ≠ src → src ≠ 5 → Completes (.updClaim u) s (· = reply stBusy [] d)) ∧
      (d.boot.holder ≠ 0 → src = 5 → Completes (.updClaim u) s fun t => ∃ x : Device, t = reply stDone [] x ∧
        x.boot.holder = 5 ∧ x.boot.stage = [])) ∧
    (∀ k, UpdComes s 0x0A01 u src b d reply → 9 ≤ b.length → b.length ≤ 1032 → d.boot.restart = false →
      d.boot.holder = src → k = uAt b 0 1 → 1 ≤ k → k ≤ 5 → uAt b 1 3 = 0 → uAt b 4 4 = (d.staged k).length →
      d.boot.stage.foldl (fun a x => a + x.2.length) 0 + (b.length - 8) ≤ 7 * 1048576 →
      Completes (.updData u) s fun t => ∃ x : Device, t = reply stDone [] x ∧ x.staged k = d.staged k ++ b.drop 8 ∧
        ∀ j, j ≠ k → x.staged j = d.staged j) ∧
    (∀ good, UpdComes s 0x0A02 u src b d reply → b.length = 4 → uAt b 0 1 ≤ 1 → uAt b 1 3 = 0 → d.boot.restart = false →
      d.boot.holder = src → (uAt b 0 1 = 0 ∨ d.running = true) →
      (d.setOk d.candidateSet good = true → Completes (.updCommit u good) s fun t => ∃ x : Device, t = reply stDone [] x ∧
        x.boot.staged = true ∧ x.boot.cand = d.candidateSet ∧ x.boot.holder = 0 ∧ x.boot.active = d.boot.active ∧
          x.bit UPD_INT_STAT 0 = true) ∧
      (d.setOk d.candidateSet good = false → Completes (.updCommit u good) s fun t => ∃ x : Device, t = reply stRejected [] x ∧
        x.boot.holder = 0 ∧ x.boot.stage = [] ∧ x.boot.staged = d.boot.staged)) ∧
    (UpdComes s 0x0A03 u src b d reply → b = [] → d.boot.restart = false → d.boot.holder = src →
      Completes (.updAbort u) s fun t => ∃ x : Device, t = reply stAborted [] x ∧ x.boot.holder = 0 ∧ x.boot.stage = [] ∧
        x.bit UPD_INT_STAT 1 = true) ∧
    (UpdComes s 0x0A04 u src b d reply → b = [] → d.boot.restart = false → d.boot.holder < 6 →
      Completes (.updStatus u) s fun t => ∃ (x : Device) (body : Bytes), t = reply stDone body x ∧ body.length = 16 ∧
        uAt body 0 1 = d.boot.holder ∧ uAt body 11 1 = b2n d.boot.staged ∧ x.boot.stage = d.boot.stage) ∧
    (s.dev.boot.holder ≠ 0 → Completes .lockIdle s fun e => e.boot.holder = 0 ∧ e.boot.stage = [] ∧
      e.bit UPD_INT_STAT 2 = true ∧ NewestIs e 0x05 0x0101 s.dev.boot.holder ∧
        s.dev.boot.holderAt + 60000000000 ≤ e.upNs)

/-- On a service port that is served, every SVC command of a session with its right completes with its answer: a nonce; a
session for a proof that verifies, DENIED otherwise; a rate; the recovery copy, checked; the recovery set committed; one
more OTP generation; a new root key with the partition records; the bound peer; a latched SERVICE stop; a cleared cause; a
released claim; an empty tamper log; debug open after the tamper response; a reset; a checked configuration record, or
the one that stands. Without the right the answer is DENIED and nothing else changes. SVC_EN low and SVC_SESSION_TIMEOUT
close the session, and a bad frame counts. -/
def Obligations.ServicePortCommandsAnswer : Prop :=
  ∀ (s : State) (req : Nat) (b : Bytes), s.dev.svcUp = true →
    let d := svcTook s.dev
    let Says (c : Instr) (code st : Nat) (body : Bytes) (P : Device → Prop) : Prop :=
      Completes c s fun t => ∃ x : Device, t = x.svcAnswer code req st body ∧ P x
    let may (r : Nat) : Prop := bitOf s.dev.svcRights r = true
    (b = [] → Completes (.svcChallenge req b) s fun t => ∃ (n : Bytes) (x : Device), t = x.svcAnswer 0x0001 req stDone n ∧ n.length = 32 ∧
      x.boot.nonce = true ∧ x.boot.sess = d.boot.sess) ∧
    (∀ ok, b.length = 194 → uAt b 0 1 < 32 → uAt b 1 1 ≤ 1 →
      (d.boot.nonce = true → ok = true → Says (.svcAuth req b ok) 0x0002 stDone [] fun x =>
        x.boot.sess = some ⟨uAt b 0 1, decide (uAt b 1 1 = 0), d.upNs⟩ ∧ x.boot.nonce = false ∧
          x.bit SVC_INT_STAT 0 = true) ∧
      (d.boot.nonce = false ∨ ok = false → Says (.svcAuth req b ok) 0x0002 stDenied [] fun x =>
        x.boot.sess = d.boot.sess ∧ x.boot.nonce = false ∧ x.bit SVC_INT_STAT 2 = true)) ∧
    (b.length = 1 → uAt b 0 1 ≤ 2 → Says (.svcSetBaud req b) 0x0003 stDone [] fun x => x.boot.baud = uAt b 0 1) ∧
    (∀ imgs good, may 0 →
      let set : Tab Bytes := imgs.foldl (fun t e => Tab.put t e.1 e.2) []
      (d.setOk set good = true → Says (.svcWriteRecovery req imgs good) 0x0A10 stDone [] fun x => x.boot.recov = set) ∧
      (d.setOk set good = false → Says (.svcWriteRecovery req imgs good) 0x0A10 stRejected [] (· = d))) ∧
    (∀ good, may 0 → b = [] → d.boot.holder = 0 ∨ d.boot.holder = 5 →
      let e : Device := { d with boot := { d.boot with stage := d.boot.recov, holder := 5 } }
      e.setOk e.candidateSet good = true → Says (.svcRestore req b good) 0x0A11 stDone [] fun x =>
        x.boot.staged = true ∧ x.boot.cand = e.candidateSet ∧ x.boot.holder = 0) ∧
    (∀ ok, may 1 → b.length = 64 → d.boot.otp.length < 4 →
      Says (.svcOtpWrite req b ok) 0x0B00 (if otpValid (b, ok) then stDone else stFaulted) [] fun x =>
        x.boot.otp = d.boot.otp ++ [(b, ok)] ∧ x.boot.gen = d.boot.gen) ∧
    (∀ parts, may 1 → d.tmp.active = 0 → Says (.svcProvision req parts) 0x0B01 stDone [] fun x =>
      x.keys.rootOk = true ∧ x.keys.root = d.keys.root + 1 ∧ x.keys.gens = [] ∧ x.keys.regs = [] ∧ x.tmp.cinder = false ∧
        x.pair.bound = false ∧ x.rdN DBG_UNLOCKS = 0 ∧
        ∀ p, p < 4 → x.part p = ⟨(parts.getD p (false, 0)).1, (parts.getD p (false, 0)).2 % 16⟩) ∧
    (∀ id ok, may 1 → id.length = 12 →
      (d.keyed = true → ok = true → Says (.svcPairBind req id ok) 0x0B02 stDone [] fun x =>
        x.pair.bound = true ∧ x.boot.peer = some id) ∧
      (d.keyed = false → Says (.svcPairBind req id ok) 0x0B02 stDenied [] (· = d))) ∧
    (may 3 → d.standby = false → stopBodyOk b false = true → uAt b 0 1 = 0 →
      Says (.svcStop req b) 0x0B03 stDone [] fun x => x = d.latchCause 10 ∧ bitOf x.stp.latch 10 = true) ∧
    (may 3 → d.standby = false → stopBodyOk b true = true → b.take 4 = [0, 0, 0, 4] → bitOf d.stp.latch 10 = true →
      Says (.svcResume req b) 0x0B07 stDone [] fun x => bitOf x.stp.latch 10 = false) ∧
    (may 3 → b = [] → d.standalone = false → d.tmp.cinder = true →
      Says (.svcClaimRelease req b) 0x0B08 stDone [] fun x => x.pair.released = true) ∧
    (may 4 → b = [] → Says (.svcLogClear req b) 0x0B04 stDone [] fun x => x.tmp.log = [] ∧ x.tmp.count = d.tmp.count) ∧
    (∀ ok y, may 2 → d.boot.sess = some y → y.vendor = true → d.boot.policy 0 = false →
      d.boot.policy 1 = false ∨ ok = true → Says (.svcDebugUnlock req ok) 0x0B05 stDone [] fun x =>
        x.boot.dbgOpen = true ∧ x.keys.rootOk = false ∧ (∀ n, x.slot n = slotEmpty) ∧ x.tmp.cinder = true) ∧
    (b = [] → Completes (.svcReset req b) s fun e => e.fld PWR_CAUSE 0 3 = 5 ∧ e.pwr.started = false ∧
      e.boot.sess = none ∧ (s.dev.svcAnswer 0x0B06 req stDone []).out <+: e.out) ∧
    (may 1 → (cfgOk b = true → Says (.svcConfigWrite req b) 0x0B09 stDone [] fun x => x.boot.cfg = some b) ∧
      (cfgOk b = false → Says (.svcConfigWrite req b) 0x0B09 stRejected [] (· = d))) ∧
    (∀ c, may 1 → b = [] → d.boot.cfg = some c → Says (.svcConfigRead req b) 0x0B0A stDone c (· = d)) ∧
    (bitOf s.dev.svcRights 1 = false → Says (.svcConfigRead req b) 0x0B0A stDenied [] (· = d)) ∧
    (Completes (.svcEn false) s fun e => e.boot.sess = none ∧ e.boot.svcEn = false ∧ e.boot.nonce = false) ∧
    (∀ y, s.dev.boot.sess = some y → Completes .svcSessionTimeout s fun e => e.boot.sess = none ∧
      e.bit SVC_INT_STAT 1 = true ∧ y.last + 60000000000 ≤ e.upNs) ∧
    (Completes .hauraFrameDiscard s (· = s.dev.count SVC_CRC_ERR))

/-! ## Keys and tamper -/

/-- A key command of a partition with the plan right, on a keyed device, completes: KEY_LOAD of a blob that passes its
checks puts the key into the slot; KEY_GENERATE and KEY_IMPORT put a key into the slot and answer a blob of 96 bytes
that names its parent, attribute and algorithm; KEY_UNLOAD empties a loaded slot of its owner; KEY_INVALIDATE raises the
parent's generation and clears its older slots; KEY_STATUS answers 128 bytes. In the cinder state each is DENIED.
CLEAR_ALL empties every slot. TAMPER_EVENT of an armed source with VIN empties every slot, drops the root key, logs the
source, latches TAMPER and closes the sessions. RTC_SET sets the seconds. -/
def Obligations.KeyCommandsChangeTheSlots : Prop :=
  ∀ (s : State) (h : HostPkt) (c : Cmd) (e : Device),
    (∀ code cmd, (code = 0x0900 ∧ (∃ ok, cmd = .keyLoad h ok) ∧ c.body.length = 100 ∨
        code = 0x0901 ∧ cmd = .keyUnload h ∧ c.body.length = 4 ∨
        code = 0x0902 ∧ cmd = .keyGenerate h ∧ c.body.length = 8 ∨
        code = 0x0903 ∧ cmd = .keyImport h ∧ c.body.length = 56 ∨
        code = 0x0904 ∧ cmd = .keyInvalidate h ∧ c.body.length = 4 ∨
        code = 0x0905 ∧ cmd = .keyStatus h ∧ c.body.length = 0) →
      s.dev.takes code h = some (c, e) → (e.keyed = false ∨ e.right c.part rPlan = false ∧ code ≠ 0x0905) →
      OnlyAnswers cmd s c e stDenied []) ∧
    (e.keyed = true → e.right c.part rPlan = true →
      let n := uAt c.body 0 1
      let fl := uAt c.body 1 1
      (s.dev.takes 0x0900 h = some (c, e) → c.body.length = 100 →
        let b := c.body.drop 4
        n < 128 → fl < 2 → uAt c.body 2 2 = 0 → e.maySlot c.part n = true →
        (fl = 1 → e.maySlot c.part (n + 1) = true) → blobOk b = true →
        keyShapeOk n fl (uAt b 3 1) (uAt b 6 1) (uAt b 7 1) = true → e.mayParent c.part (uAt b 2 1) = true →
        e.parentLoaded (uAt b 2 1) = true → uAt b 4 2 = e.gen (uAt b 2 1) →
        Answers (.keyLoad h true) s c stDone (leBytes 1 0) (fun x => (x.slot n).st = 1 ∧ (x.slot n).attr = uAt b 3 1 ∧
          (x.slot n).alg = uAt b 6 1 ∧ (x.slot n).parent = uAt b 2 1 ∧
          (fl = 0 → (e.slot n).twin = false → ∀ m, m ≠ n → x.slot m = e.slot m)) ∧
        OnlyAnswers (.keyLoad h false) s c e stRejected (leBytes 1 4)) ∧
      (∀ code cmd, (code = 0x0902 ∧ cmd = .keyGenerate h ∧ c.body.length = 8 ∨
          code = 0x0903 ∧ cmd = .keyImport h ∧ c.body.length = 56) → s.dev.takes code h = some (c, e) →
        n < 128 → uAt c.body 6 2 = 0 → uAt c.body 2 1 < 64 →
        keyShapeOk n fl (uAt c.body 3 1) (uAt c.body 4 1) (uAt c.body 5 1) = true → e.maySlot c.part n = true →
        (fl = 1 → e.maySlot c.part (n + 1) = true) → e.mayParent c.part (uAt c.body 2 1) = true →
        e.parentLoaded (uAt c.body 2 1) = true →
        (uAt c.body 5 1 = 0xFF ∨ Tab.find e.keys.regs (uAt c.body 5 1) = none) →
        Completes cmd s fun t => ∃ (blob : Bytes) (x : Device), t = x.answer c stDone blob ∧ blob.length = 96 ∧
          uAt blob 2 1 = uAt c.body 2 1 ∧ uAt blob 3 1 = uAt c.body 3 1 ∧ uAt blob 6 1 = uAt c.body 4 1 ∧
          (x.slot n).st = 1 ∧ (x.slot n).owner = c.part ∧ (x.slot n).attr = uAt c.body 3 1 ∧
          (uAt c.body 5 1 ≠ 0xFF → (Tab.find x.keys.regs (uAt c.body 5 1)).isSome = true)) ∧
      (s.dev.takes 0x0901 h = some (c, e) → c.body.length = 4 → n < 128 → uAt c.body 1 3 = 0 →
        e.maySlot c.part n = true →
        ((e.slot n).st ≠ 0 → Answers (.keyUnload h) s c stDone [] fun x => x.slot n = slotEmpty) ∧
        ((e.slot n).st = 0 → OnlyAnswers (.keyUnload h) s c e stNotFound [])) ∧
      (s.dev.takes 0x0904 h = some (c, e) → c.body.length = 4 → n < 64 → uAt c.body 1 3 = 0 →
        e.mayParent c.part n = true → (∀ k, e.gen k < 0xFFFF) →
        Answers (.keyInvalidate h) s c stDone (leBytes 2 (e.gen n + 1)) fun x => x.gen n = e.gen n + 1 ∧
          x.bit KEY_INT_STAT 2 = true ∧
          ∀ m, (x.slot m).st ≠ 0 → (x.slot m).parent = n → e.gen n < (x.slot m).gen)) ∧
    (e.keyed = true → s.dev.takes 0x0905 h = some (c, e) → c.body = [] →
      Completes (.keyStatus h) s fun t => ∃ b : Bytes, t = e.answer c stDone b ∧ b.length = 128 ∧
        ∀ k, k < 128 → (e.slot k).owner ≠ c.part → uAt b k 1 = 0) ∧
    (Completes .clearAll s fun x => x = { s.dev with keys := { s.dev.keys with slots := [] } }) ∧
    (∀ src detail active op, src < 11 → s.dev.armed src = true →
      Completes (.tamperEvent [(src, detail)] active op true) s fun x => (∀ n, x.slot n = slotEmpty) ∧
        x.keys.rootOk = false ∧ x.tmp.cinder = true ∧ (x.tmp.log.head?).map (·.source) = some src ∧
        (s.dev.tmp.cinder = false → bitOf x.stp.latch 7 = true ∧ ∀ p, p < 4 → (x.sess p).open_ = false)) ∧
    (∀ secs, Completes (.rtcSet secs) s fun x => x.tmp.rtc = secs % 2 ^ 32 * 32768 ∧ x.tmp.rtcValid = true ∧
      x.rtcNow = secs % 2 ^ 32 * 32768)

/-! ## The fleet stop -/

/-- A stop input takes its level and, held for FILT_US, becomes the reading: an asserted one latches PIN and stops the
fleet. Readings that differ for more than 50 ms set DISC with a fault record; equal ones clear it. A fleet-scope
STOP_CMD of a partition with the stop right latches its cause and is DONE, without it DENIED; a machine-scope one lists
the machine. A RESUME_CMD clears causes that are latched, may be cleared by their sender, and no longer hold. At the
heat boundary PERMIT_KEY names a loaded key of its sender. MIN_REPETITION_END without a latched cause turns STOPPING
into QUIET. -/
def Obligations.StopsLatchAndResumesClear : Prop :=
  ∀ (s : State) (h : HostPkt) (c : Cmd) (e : Device),
    (∀ ch lv, Completes (.stopInputChange ch lv) s fun x => Tab.getD x.stp.raw (b2n ch) false = lv ∧
      x.stp.latch = s.dev.stp.latch ∧ x.regs = s.dev.regs) ∧
    (∀ ch, Tab.getD s.dev.stp.ch (b2n ch) false ≠ Tab.getD s.dev.stp.raw (b2n ch) false →
      Completes (.channelReadingChange ch) s fun x =>
        Tab.getD x.stp.ch (b2n ch) false = Tab.getD s.dev.stp.raw (b2n ch) false ∧
          (Tab.getD s.dev.stp.raw (b2n ch) false = true → bitOf x.stp.latch 0 = true ∧ stopState x.stp = true) ∧
          (Tab.getD s.dev.stp.raw (b2n ch) false = false → x.stp.latch = s.dev.stp.latch)) ∧
    (Tab.getD s.dev.stp.ch 0 false ≠ Tab.getD s.dev.stp.ch 1 false → s.dev.stp.disc = false →
      Completes .discrepancy s fun x => x.stp.disc = true ∧ x.bit STP_INT_STAT 2 = true ∧
        NewestIs x 0x0F 0x0101 0xFFFF ∧ x.stp.latch = s.dev.stp.latch) ∧
    (Tab.getD s.dev.stp.ch 0 false = Tab.getD s.dev.stp.ch 1 false → s.dev.stp.disc = true →
      Completes .discClear s fun x => x.stp.disc = false ∧ x.stp.latch = s.dev.stp.latch ∧ x.regs = s.dev.regs) ∧
    (s.dev.accept h = (true, e) → h.part < 4 → e.standby = false →
      (stopBodyOk h.body false = true →
        (e.right h.part rStop = false →
          Completes (.stopCmd h) s (· = e.post h.part 0x0100 h.req stDenied [])) ∧
        (e.right h.part rStop = true → uAt h.body 0 1 = 0 → Completes (.stopCmd h) s fun t =>
          ∃ x : Device, t = x.post h.part 0x0100 h.req stDone [] ∧ bitOf x.stp.latch (1 + h.part) = true ∧
            stopState x.stp = true) ∧
        (e.right h.part rStop = true → uAt h.body 0 1 = 1 → uAt h.body 1 1 = 1 → e.stp.list.length < 16 →
          stopEntry e.stp.list (uAt h.body 4 2) = none → Completes (.stopCmd h) s fun t =>
          ∃ x : Device, t = x.post h.part 0x0100 h.req stDone [] ∧
            x.stp.list = e.stp.list ++ [⟨uAt h.body 4 2, 2 ^ h.part⟩])) ∧
      (stopBodyOk h.body false = false → Completes (.stopCmd h) s (· = e.post h.part 0x0100 h.req stRejected [])) ∧
      (stopBodyOk h.body true = true → e.right h.part rStop = true → uAt h.body 0 1 = 0 →
        let cs := setBitsOf 12 (uAt h.body 2 2)
        ((∀ i ∈ cs, e.mayClear h.part i = true ∧ bitOf e.stp.latch i = true ∧ e.causeHolds i = false) →
          Completes (.resumeCmd h) s fun t => ∃ x : Device, t = x.post h.part 0x0101 h.req stDone [] ∧
            ∀ i, i < 12 → bitOf x.stp.latch i = (bitOf e.stp.latch i && !cs.contains i)) ∧
        ((∃ i ∈ cs, e.mayClear h.part i = false) →
          Completes (.resumeCmd h) s (· = e.post h.part 0x0101 h.req stDenied [])))) ∧
    (uAt c.body 2 2 = 0 → uAt c.body 1 1 ≠ 0 → uAt c.body 0 1 < 128 → e.right c.part rStop = true →
      let k := e.slot (uAt c.body 0 1)
      (k.st = 1 → k.owner = c.part → k.attr = 0 → k.alg = 1 → ∃ x : Device,
        atBoundary 0x0102 c e = x.answer c stDone [] ∧
          x.stp.keyNext = some ⟨c.part, uAt c.body 0 1, uAt c.body 1 1⟩ ∧ x.stp.key = e.stp.key) ∧
      (k.st = 0 → atBoundary 0x0102 c e = e.answer c stNotFound [])) ∧
    (∀ t, s.dev.stp.phase = 1 → s.dev.stp.latch = 0 → s.dev.standby = false → s.dev.stp.firstUp = some t →
      Completes .minRepetitionEnd s fun x => x.stp.phase = 2 ∧ t + s.dev.minRep ≤ x.upNs)

/-- PERMIT_LATCH of a running device latches the payload of the heat: STOP as the fleet state then is, the latched
causes and the stop list, and STOP_OUT follows. PERMIT_BEACON of a RUN payload with a permit key, 32 sealed frames on
every enabled port and a port that may send sends the 40 bytes of the payload under the port's next counter and drives
PERMIT_OUT. STOP_FRAME during STOPPING sends one frame on a port that is due. SEAL_AHEAD adds one frame of the reserved
range to a port that holds fewer than 32. MONITOR_CHECK counts the third heat in a row without a permit as MON. -/
def Obligations.PermitsAndStopFramesAreSent : Prop :=
  ∀ (s : State),
    (let d := s.dev.advanceTo (s.dev.tb0 / 100000000 * 100000000 + 1800000)
     d.running = true → Completes .permitLatch s fun e => ∃ b, e.stp.payload = some b ∧ b.heat = d.heat ∧
      b.stop = stopState e.stp ∧ b.causes = d.stp.latch ∧ b.list = d.stp.list.map (·.mach) ∧
      e.stp.latch = d.stp.latch ∧ e.pin pinStopOut = b2n (!b.stop) ∧ (b.stop = true → e.pin pinPermitOut = 0) ∧
      (d.standby = false → d.stp.phase = 2 → d.stp.latch = 0 → d.since d.stp.phaseUp 1000000000 = true →
        e.stp.phase = 0 ∧ b.stop = false)) ∧
    (∀ clear air b p,
      let d := s.dev.advanceTo (s.dev.tb0 / 100000000 * 100000000 + 2000000)
      d.stp.payload = some b → d.stp.sent = false → d.stp.phase ≠ 1 → d.running = true → b.heat = d.heat →
      d.openedLate = false → b.stop = false → d.mayRun = true → d.permitPorts = [p] → d.portUp p = true →
      (d.lbt p = true → bitOf clear p = true) → d.canLive p = true →
      Completes (.permitBeacon clear air) s fun e => e.stp.sent = true ∧ e.pin pinPermitOut = 1 ∧
        e.liveCtr p = d.liveCtr p + 1 ∧
        ∃ w ∈ e.out, w.chan = .radio ∧ w.unit = p ∧ w.kind = 0x71 ∧
          w.data = leBytes 1 d.keyIndex ++ leBytes 4 (d.liveCtr p) ++ beaconBytes b.list false false b.quiet b.causes b.heat) ∧
    (∀ p start air,
      let d := s.dev.advanceTo start
      d.stp.phase = 1 → d.permitPorts.contains p = true → d.portUp p = true → d.stopDue p ≤ start →
      (d.canLive p = true ∨ Tab.getD d.stp.ahead p [] ≠ []) →
      Completes (.stopFrame p start air) s fun e => Tab.getD e.stp.airUntil p 0 = start + air ∧
        ((e.port p).air.map (·.prio)) = some 1 ∧ (Tab.find e.stp.first p).isSome = true ∧
        ∃ w, (∃ l, e.out = d.out ++ w :: l) ∧ w.chan = .radio ∧ w.unit = p ∧ w.kind = 0x71) ∧
    (∀ p, s.dev.canSeal = true → s.dev.permitPorts.contains p = true →
      ((Tab.getD s.dev.stp.ahead p []).filter fun f => f.fresh s.dev.keyIndex).length < 32 →
      Tab.getD s.dev.stp.used p 0 < s.dev.resvRange.2 →
      Completes (.sealAhead p) s fun e =>
        ⟨s.dev.resvRange.1 + Tab.getD s.dev.stp.used p 0, s.dev.heat, s.dev.keyIndex, false⟩ ∈ Tab.getD e.stp.ahead p [] ∧
          Tab.getD e.stp.used p 0 = Tab.getD s.dev.stp.used p 0 + 1 ∧ e.regs = s.dev.regs) ∧
    (∀ good, s.dev.gate = true → s.dev.stp.payload.isSome = true →
      (s.dev.permitPorts ≠ [] → s.dev.stp.sent = false → s.dev.stp.byStopTest = false → s.dev.stp.misses = 2 →
        bitOf s.dev.stp.latch 11 = false → Completes (.monitorCheck good) s fun e =>
          bitOf e.stp.latch 11 = true ∧ e.bit STP_INT_STAT 3 = true ∧ e.stp.misses = 3) ∧
      (s.dev.stp.sent = true → (∀ p ∈ s.dev.permitPorts, bitOf good p = true) →
        Completes (.monitorCheck good) s fun e => e = { s.dev with stp := { s.dev.stp with misses := 0 } }))

/-! ## The pair -/

/-- A refresh of a holder that refreshes lets 1 ms pass; one that no longer does drops its claim, and the gate closes. A
sample of a low peer claim counts, and opens the gate of a ready home unit at its second, of an away unit at its
confirming one; a high one starts again, or drops an unconfirmed claim. 1 ms of both claims latches PAIR. An accepted
heartbeat shows the peer; three strokes without one lose it. A mirror that follows is applied; an incomplete one is a
gap. A forwarded stop is applied and answered. A home standby that may revert asks, a release waits for the mirror or
leaves a fault record. The payloads of forwarded commands are the model's (log entry 29). -/
def Obligations.PairCommandsMoveTheClaim : Prop :=
  ∀ (s : State) (p : PeerPkt) (e : Device),
    (s.dev.pair.claim = true → s.dev.refreshes = true → Completes .claimRefresh s fun t =>
      t.pair.claim = true ∧ t.pair.refreshAt = t.upNs ∧ s.dev.pair.refreshAt + 1000000 ≤ t.upNs ∧ t.regs = s.dev.regs) ∧
    (s.dev.pair.claim = true → s.dev.refreshes = false → Completes .claimDrop s fun t =>
      t.pair.claim = false ∧ t.gate = false ∧ t.pin pinClaimOut = 0 ∧ t.pin pinPermitOut = 0 ∧
        t.bit PAIR_INT_STAT 2 = true ∧ s.dev.pair.refreshAt + 2000000 ≤ t.upNs) ∧
    (∀ lv, s.dev.pair.claim = true → s.dev.pair.confirm = false →
      Completes (.claimSample lv) s fun t => t.pair.peerClaim = lv ∧ t.pair.claim = true ∧ t.gate = !lv) ∧
    (∀ lv, s.dev.pair.claim = true → s.dev.pair.confirm = true →
      Completes (.claimSample lv) s fun t => t.pair.claim = (!lv) ∧ t.gate = (!lv) ∧ t.pair.confirm = false) ∧
    (∀ lv, s.dev.pair.claim = false → s.dev.pair.confirm = false →
      let d := (s.dev.advanceTo s.dev.nextSample).peerLevel lv
      let need := if d.pair.away then 6 else 2
      ((d.pairReady = false ∨ lv = true) → Completes (.claimSample lv) s fun t =>
        t = { d with pair := { d.pair with lows := 0 } }) ∧
      (d.pairReady = true → lv = false → d.pair.lows + 1 < need → Completes (.claimSample lv) s fun t =>
        t = { d with pair := { d.pair with lows := d.pair.lows + 1 } }) ∧
      (d.pairReady = true → lv = false → need ≤ d.pair.lows + 1 → Completes (.claimSample lv) s fun t =>
        t.pair.claim = true ∧ t.pin pinClaimOut = 1 ∧ t.gate = (!d.pair.away) ∧ t.pair.confirm = d.pair.away ∧
          (d.pair.away = false → t.bit PAIR_INT_STAT 1 = true))) ∧
    (∀ at_, s.dev.pair.bothAt = some at_ → s.dev.pair.claim = true → s.dev.pair.peerClaim = true →
      Completes .claimConflict s fun t => bitOf t.stp.latch 6 = true ∧ t.bit PAIR_INT_STAT 3 = true ∧
        NewestIs t 0x16 0x0102 0xFFFF ∧ at_ + 1000000 ≤ t.upNs) ∧
    (s.dev.acceptPeer p = (true, e) →
      (e.heartbeatOk p.body = true → Completes (.heartbeat p) s fun t => t.pair.seen = true ∧ t.pair.quiet = 0 ∧
        t.pair.peerReady = bitOf (uAt p.body 2 1) 3 ∧ t.pair.peerMirror = bitOf (uAt p.body 2 1) 4 ∧
        t.pair.peerSeq = uAt p.body 12 4 ∧ t.pair.rankClash = (bitOf (uAt p.body 2 1) 0 == e.pair.away) ∧
        (t.pair.rankClash = true → e.pair.rankClash = false → bitOf t.stp.latch 6 = true ∧ t.bit PAIR_INT_STAT 4 = true)) ∧
      (e.heartbeatOk p.body = false → Completes (.heartbeat p) s (· = e.count NET_RX_DROP))) ∧
    (s.dev.pair.seen = true → 3 ≤ s.dev.pair.quiet → Completes .hbLost s fun t => t.pair.seen = false ∧
      t.bit PAIR_INT_STAT 0 = true ∧ t.rdN PAIR_HB_LOST = Nat.min 0xFFFFFFFF (s.dev.rdN PAIR_HB_LOST + 1) ∧
      NewestIs t 0x16 0x0101 0xFFFF) ∧
    (∀ m, s.dev.pairLink = true → s.dev.standby = true →
      (m.complete = true → m.seq = (s.dev.pair.seq + 1) % 2 ^ 32 → Completes (.stateMirror m) s fun t =>
        t.pair.seq = m.seq ∧ t.pair.mirrored = true ∧
          ∀ b, m.secs = [(4, [b])] → uAt b 4 1 ≠ 0 → t.node (uAt b 0 4) = layRead layNode b) ∧
      (m.complete = false → Completes (.stateMirror m) s fun t => t.pair.mirrorOk = false ∧
        t.bit PAIR_INT_STAT 5 = true ∧ t.flt = s.dev.flt)) ∧
    (s.dev.acceptPeer p = (true, e) → p.body.length = 17 → uAt p.body 0 2 = 0x0100 → e.standby = false →
      e.right (uAt p.body 2 1 % 4) rStop = true → stopBodyOk (p.body.drop 5) false = true → uAt p.body 5 1 = 0 →
      Completes (.forwardedCommand p false) s fun t => ∃ x : Device,
        t = x.toPeer 0xE4 (leBytes 2 0x0100 ++ leBytes 1 (uAt p.body 2 1 % 4) ++ leBytes 2 (uAt p.body 3 2) ++
          leBytes 1 stDone) ∧ bitOf x.stp.latch (1 + uAt p.body 2 1 % 4) = true) ∧
    (s.dev.acceptPeer p = (true, e) → p.body.length = 6 → e.standby = true →
      Completes (.forwardedCommand p true) s
        (· = e.post (uAt p.body 2 1 % 4) (uAt p.body 0 2) (uAt p.body 3 2) (uAt p.body 5 1) [])) ∧
    (let d := s.dev.advanceUp (s.dev.pair.okAt + s.dev.fld PAIR_CFG 0 10 * 1000000000)
     s.dev.mayRevert = true → d.mayRevert = true → Completes .revertReq s fun t =>
       t = { d with pair := { d.pair with revertReq := true } }) ∧
    (let k := s.dev.pair
     (k.claim = true → k.seen = true → k.peerReady = true → k.peerMirror = true → Completes .release s fun t =>
       t = { s.dev with pair := { s.dev.pair with releasing := true } }) ∧
     (k.claim = false ∨ k.seen = false ∨ k.peerReady = false ∨ k.peerMirror = false →
       Completes .release s fun t => NewestIs t 0x16 0x0105 0xFFFF ∧ t.pair = s.dev.pair))

/-! ## Commands that wait for the heat boundary, and the fleet -/

/-- The commands that wait for the heat boundary (R110, R379): code, command, body lengths (none: any), whether the plan
right is asked for on arrival, and whether the standby answers BUSY. -/
def Sys2Proof.Claims.boundaryCmds (h : HostPkt) : List (Nat × Instr × List Nat × Bool × Bool) :=
  [(0x0102, .permitKey h, [4], false, false), (0x0103, .mcastKey h, [4], false, false),
   (0x0200, .corrProfile h, [96], false, true), (0x0301, .solverProfile h, [64], false, true),
   (0x0408, .fleetCfg h, [16], false, true), (0x0603, .allotProfile h, [32], false, true)] ++
  [(0x0300, .solveEnrol h, [8], false, true), (0x0304, .atlasWrite h, [1298], true, true),
   (0x0305, .atlasClear h, [0], true, true), (0x0400, .machineAdmit h, [24], false, true),
   (0x0401, .machineRelease h, [4], false, true), (0x0402, .ownerOffer h, [4], false, true),
   (0x0403, .ownerAccept h, [4], false, true), (0x0404, .readGrant h, [4], false, true)] ++
  [(0x0405, .nodeRead h, [4], false, false), (0x0406, .machineRead h, [4], false, false),
   (0x0407, .nodeAllow h, [12], false, true), (0x0500, .graphWrite h, [36, 20], false, true),
   (0x0501, .graphCheck h, [0], false, true), (0x0502, .routeRequest h, [24], false, true),
   (0x0503, .routeCommit h, [4], false, true), (0x0504, .routeAbandon h, [4], false, true)] ++
  [(0x0600, .taskPost h, [32], false, true), (0x0601, .taskCancel h, [4], false, true),
   (0x0602, .auctionNow h, [0], false, true), (0x0604, .dockCfg h, [12], false, true),
   (0x0605, .siteLoad h, [4], false, true), (0x0700, .govCoef h, [], false, true),
   (0x0701, .govSwap h, [0], false, true), (0x0702, .govMachine h, [12], false, true),
   (0x0703, .govOverride h, [4], false, true), (0x0704, .govRead h, [4], false, false)]

/-- Each of the commands that the heat boundary applies, taken with a body of its length, and with the plan right where
it is asked for on arrival, waits, and nothing else changes. On the standby a state-changing one is answered BUSY. A
body of another length is REJECTED. The heat boundary applies a waiting command once, as its code says (a route request
waits for the planner instead), and it waits no longer. -/
def Obligations.BoundaryCommandsWaitForTheHeatBoundary : Prop :=
  (∀ (s : State) (h : HostPkt) (c : Cmd) (e : Device), ∀ x ∈ boundaryCmds h, s.dev.takes x.1 h = some (c, e) →
    (x.2.2.2.1 = true → e.right c.part rPlan = true) →
    ((x.2.2.1 = [] ∨ c.body.length ∈ x.2.2.1) → (x.2.2.2.2 = true → e.standby = false) →
      Completes x.2.1 s (e.holds c)) ∧
    ((x.2.2.1 = [] ∨ c.body.length ∈ x.2.2.1) → x.2.2.2.2 = true → e.standby = true →
      OnlyAnswers x.2.1 s c e stBusy []) ∧
    (x.2.2.1 ≠ [] → c.body.length ∉ x.2.2.1 → e.standby = false → OnlyAnswers x.2.1 s c e stRejected [])) ∧
  (∀ (d : Device) (c : Cmd), d.hst.waiting = [c] → c.part < 4 → c.code ≠ 0x0502 →
    d.hostBoundary = atBoundary c.code c { d with hst := { d.hst with waiting := [] } }) ∧
  (∀ (d : Device) (c : Cmd) (codes : List Nat), d.hst.waiting = [c] → c.part < 4 → c.code ∈ codes →
    d.boundaryOf codes = atBoundary c.code c { d with hst := { d.hst with waiting := [] } }) ∧
  (∀ (d : Device) (c : Cmd), d.hst.waiting = [c] → c.code = 0x0502 → d.hostBoundary = d)

/-- At the heat boundary MACHINE_ADMIT of a free number and EUI-64 by a partition with the plan right lists the machine
with the sender as owner; MACHINE_RELEASE by the owner makes it LEAVING and closes its transfer; OWNER_OFFER opens a
transfer; OWNER_ACCEPT by its target makes it the owner and clears the read grants; READ_GRANT replaces the mask;
NODE_READ and MACHINE_READ by a reader answer 64 and 336 bytes; NODE_ALLOW lists the EUI-64. An owner's command of
another partition is DENIED. The body of NODE_ALLOW is the model's (log entry 20). -/
def Obligations.FleetBoundaryCommandsChangeTheEntry : Prop :=
  ∀ (d : Device) (c : Cmd), c.part < 4 →
    let b := c.body
    let m := uAt b 0 2
    let Gives (code : Nat) (P : Device → Prop) : Prop := ∃ x : Device, atBoundary code c d = x.answer c stDone [] ∧ P x
    let plan : Prop := d.right c.part rPlan = true
    (plan → admitOk b = true → d.mstate m = 0 → d.machOf (uAt b 2 8) = none → Gives 0x0400 fun x => x.mstate m = 1 ∧
      x.owner m = c.part ∧ x.fe m 8 = uAt b 2 8 ∧ x.fe m 4 = 0xFFFFFFFF ∧ x.fe m 22 = uAt b 16 1 ∧
      ∀ k, k ≠ m → x.entry k = d.entry k) ∧
    (m < 4096 → d.mstate m ≠ 0 → d.owns c.part m = true →
      (plan → tailZero b 2 = true → d.mstate m ≠ 4 → Gives 0x0401 fun x => x.mstate m = 4 ∧
        Tab.find x.flt.offers m = none ∧ x.owner m = c.part) ∧
      (uAt b 2 1 < 4 → tailZero b 3 = true → Gives 0x0402 fun x =>
        Tab.find x.flt.offers m = some ⟨uAt b 2 1, d.upNs⟩ ∧ x.flt.tab = d.flt.tab) ∧
      (uAt b 2 1 < 16 → tailZero b 3 = true → Gives 0x0404 fun x => x.fe m 3 = c.part + 16 * uAt b 2 1 ∧
        x.mstate m = d.mstate m)) ∧
    (m < 4096 → d.mstate m ≠ 0 → d.owns c.part m = false → uAt b 2 1 < 4 → tailZero b 3 = true →
      atBoundary 0x0402 c d = d.answer c stDenied []) ∧
    (∀ t, plan → tailZero b 2 = true → m < 4096 → d.mstate m ≠ 0 → Tab.find d.flt.offers m = some t → t.target = c.part →
      Gives 0x0403 fun x => x.fe m 3 = c.part ∧ Tab.find x.flt.offers m = none ∧ x.mstate m = d.mstate m) ∧
    (uAt b 0 4 < 0x40000 → d.nodeReadable c.part (uAt b 0 4) = true →
      atBoundary 0x0405 c d = d.answer c stDone (d.nodeBytes (uAt b 0 4)) ∧ (d.nodeBytes (uAt b 0 4)).length = 64) ∧
    (tailZero b 2 = true → m < 4096 → d.mstate m ≠ 0 →
      (d.mayRead c.part m = true → atBoundary 0x0406 c d = d.answer c stDone ((d.entryBytes m).take 336) ∧
        ((d.entryBytes m).take 336).length = 336) ∧
      (d.mayRead c.part m = false → atBoundary 0x0406 c d = d.answer c stDenied [])) ∧
    (plan → uAt b 0 1 < 4 → allZero (sliceB b 1 3) = true → Gives 0x0407 fun x =>
      x.flt.allow.contains (uAt b 0 1, uAt b 4 8) = true ∧ x.flt.tab = d.flt.tab)

/-- At the heat boundary FLEET_CFG of a valid body with the plan right is named as its partition's next configuration.
FLEET_STATUS answers its 40 bytes, and clears the count of strange hellos when asked. TRANSFER_EXPIRY after 10 s closes
the transfer. HELLO under the key of the machine with its EUI-64 is queued as a join of the PAN it names. SILENT makes
an ACTIVE machine SILENT after N heats; LEAVING_COMPLETE after three samples frees the entry and sends its node to
leaving; NODE_TIMEOUT of a quiet node does the latter; QUARANTINE_EXPIRY after 3,600 s frees the address. -/
def Obligations.FleetCommandsAndTimesAct : Prop :=
  ∀ (s : State) (h : HostPkt) (c : Cmd) (e : Device) (m n : Nat),
    (e.right c.part rPlan = true →
      (fleetCfgOk c.body = true → ∃ x : Device, atBoundary 0x0408 c e = x.answer c stDone [] ∧
        Tab.find x.flt.cfgNext c.part = some ((List.range 6).map fun i => uAt c.body i 1) ∧ x.flt.cfg = e.flt.cfg) ∧
      (fleetCfgOk c.body = false → atBoundary 0x0408 c e = e.answer c stRejected [])) ∧
    (s.dev.takes 0x0409 h = some (c, e) → statusBodyOk c.body = true → e.fleetStatus.length = 40 ∧
      (uAt c.body 0 1 = 0 → OnlyAnswers (.fleetStatus h) s c e stDone e.fleetStatus) ∧
      (uAt c.body 0 1 = 1 → Completes (.fleetStatus h) s fun t =>
        t = { e.answer c stDone e.fleetStatus with flt := { (e.answer c stDone e.fleetStatus).flt with disc := 0 } })) ∧
    (∀ t, Tab.find s.dev.flt.offers m = some t → s.dev.since t.at_ 10000000000 = true →
      Completes (.transferExpiry m) s fun x => Tab.find x.flt.offers m = none ∧ x.flt.tab = s.dev.flt.tab) ∧
    (∀ (p : MachPkt),
      let d := s.dev.advanceTo p.stamp
      d.linkTakes false = true → helloOk p.body = true → d.machOf (uAt p.body 4 8) = some m → p.node % 65536 = 0xFFFF →
      d.acceptUnder m p = (true, e) →
      Completes (.hello p) s fun x => x.flt.joins = e.flt.joins ++ [⟨m, uAt p.body 2 1 % 4, true⟩] ∧
        x.fe m 32 = uAt p.body 16 4 ∧ x.mstate m = e.mstate m) ∧
    (s.dev.mstate m = 2 → ((s.dev.flt.cfg.getD 0 30 : Int) + 1) ≤ diff32 s.dev.heat (s.dev.fe m 28) →
      Completes (.silent m) s fun x => x.mstate m = 3 ∧ x.owner m = s.dev.owner m) ∧
    (s.dev.mstate m = 4 → 3 ≤ Tab.getD s.dev.flt.leave m 0 → s.dev.standby = false →
      Completes (.leavingComplete m) s fun x => x.mstate m = 0 ∧ Tab.find x.flt.offers m = none ∧
        (s.dev.fe m 4 ≠ 0xFFFFFFFF → x.nd (s.dev.fe m 4) 5 = 3 ∧ s.dev.fe m 4 ∈ x.flt.goners)) ∧
    (((s.dev.flt.cfg.getD 1 72 * 36000 : Nat) : Int) ≤ diff32 s.dev.heat (s.dev.nd n 24) → s.dev.pair.claim = true →
      (s.dev.nkind n = 1 ∨ s.dev.nkind n = 2 ∨ s.dev.nkind n = 3 ∧ s.dev.mstate (s.dev.nd n 20) = 3) →
      Completes (.nodeTimeout n) s fun x => x.nd n 5 = 3 ∧ n ∈ x.flt.goners ∧ x.flt.tab = s.dev.flt.tab) ∧
    (∀ t, Tab.find s.dev.flt.quar n = some t → s.dev.since t 3600000000000 = true →
      Completes (.quarantineExpiry n) s fun x => Tab.find x.flt.quar n = none ∧ x.flt.nodes = s.dev.flt.nodes)

/-! ## Reservations and tasks -/

/-- At the heat boundary GRAPH_WRITE stores a segment, clears GRAPH_OK on a structural change, and is IN_USE where that
meets an entry; ROUTE_COMMIT makes the hold's entries committed and ROUTE_ABANDON frees them, both ending the hold.
RSV_GRAPH_CHECK sets GRAPH_OK exactly when every present segment passes; RSV_DISABLE frees every entry. ROUTE_PLAN
answers the one request that waits from an earlier heat with a record of 24 bytes. HOLD_EXPIRY frees a hold two heats
old; OVERSTAY_REPLAN takes the machine off the list; FOLD_COMPLETE ends the pause and leaves every entry with the times
it read as while paused; PAUSE_SAT leaves each machine its current entry, a DWELL. -/
def Obligations.ReservationCommandsKeepTheGraphAndTheHolds : Prop :=
  ∀ (s : State) (d : Device) (c : Cmd) (m : Nat),
    (d.right c.part rPlan = true → graphBodyOk c.body = true → uAt c.body 0 1 = 0 →
      let r := layRead laySeg (c.body.drop 4)
      let i := uAt c.body 2 2
      ((structural (d.seg i) = structural r ∨ d.segBusy i = false) → ∃ x : Device,
        atBoundary 0x0500 c d = x.answer c stDone [] ∧ x.seg i = r ∧ (∀ j, j ≠ i → x.seg j = d.seg j) ∧
          (structural (d.seg i) ≠ structural r → x.bit RSV_STAT 0 = false)) ∧
      (structural (d.seg i) ≠ structural r → d.segBusy i = true → atBoundary 0x0500 c d = d.answer c stInUse [])) ∧
    (d.right c.part rPlan = true → ∃ x b, atBoundary 0x0501 c d = x.answer c stDone b ∧ b.length = 4 ∧
      uAt b 0 1 = x.fld RSV_STAT 0 1 ∧ x = d.graphCheck) ∧
    (∀ h, d.right c.part rPlan = true → m = uAt c.body 0 2 → m < 4096 → d.owns c.part m = true →
      d.bit RSV_CTRL 0 = true → Tab.find d.rsv.holds m = some h → h.id = uAt c.body 2 2 →
      (∃ x : Device, atBoundary 0x0503 c d = x.answer c stDone [] ∧ Tab.find x.rsv.holds m = none ∧
        Tab.find x.rsv.done m = some h.id ∧ ∀ i ∈ h.ix, ∀ y, Tab.find x.rsv.ents i = some y → y.held = false) ∧
      (∃ x : Device, atBoundary 0x0504 c d = x.answer c stAborted [] ∧ Tab.find x.rsv.holds m = none ∧
        ∀ i ∈ h.ix, Tab.find x.rsv.ents i = none)) ∧
    (∀ value,
      ((∀ x ∈ s.dev.rsv.segs, recGet x.2 4 ≠ 0 → s.dev.segOk x.1 = true) →
        Completes (.rsvGraphCheck value) s fun e => e.bit RSV_STAT 0 = true ∧
          e.rdN RSV_GRAPH_ERR = s.dev.rdN RSV_GRAPH_ERR) ∧
      ((∃ x ∈ s.dev.rsv.segs, recGet x.2 4 ≠ 0 ∧ s.dev.segOk x.1 = false) →
        Completes (.rsvGraphCheck value) s fun e => e.bit RSV_STAT 0 = false ∧ e.bit RSV_INT_STAT 0 = true) ∧
      (s.dev.bit RSV_CTRL 0 = true → Completes (.rsvDisable value) s fun e =>
        e.bit RSV_CTRL 0 = false ∧ e.rsv.ents = [] ∧ e.rsv.holds = [] ∧ e.rsv.cur = [] ∧ e.rsv.segs = s.dev.rsv.segs)) ∧
    (s.dev.running = true → s.dev.standby = false → s.dev.hst.waiting = [c] → c.code = 0x0502 → c.part < 4 →
      c.heat ≠ s.dev.heat → s.dev.rsv.reqs = [] → Completes .routePlan s fun e => ∃ (x y : Device) (p : Planned),
        e = x.answer c p.st (y.routeRecord (uAt c.body 0 2) (uAt c.body 16 4) p) ∧
          (y.routeRecord (uAt c.body 0 2) (uAt c.body 16 4) p).length = 24 ∧ e.hst.waiting = []) ∧
    (∀ h, Tab.find s.dev.rsv.holds m = some h → h.made + 2 ≤ s.dev.heatAbs → s.dev.standby = false →
      Completes (.holdExpiry m) s fun e =>
      Tab.find e.rsv.holds m = none ∧ (∀ i ∈ h.ix, Tab.find e.rsv.ents i = none) ∧ e.bit RSV_INT_STAT 2 = true) ∧
    (s.dev.rsv.overs.contains m = true → Completes (.overstayReplan m) s fun e =>
      e.rsv.overs = s.dev.rsv.overs.filter fun x => x ≠ m) ∧
    (s.dev.folding = true → s.dev.rsvPaused = true → s.dev.rsv.waits = [] → Completes .foldComplete s fun e =>
      e.rsvPaused = false ∧ e.folding = false ∧ e.bit RSV_INT_STAT 4 = true ∧
        ∀ i x, Tab.find s.dev.rsv.ents i = some x → ∃ y, Tab.find e.rsv.ents i = some y ∧
          y.enter = s.dev.shown x.enter ∧ y.exit = s.dev.shown x.exit ∧ y.mach = x.mach ∧ y.seg = x.seg) ∧
    (s.dev.folding = true → Completes .foldComplete s fun e => e.rsv.waits = []) ∧
    (s.dev.rsvPaused = true → s.dev.rsv.sat = false → s.dev.fld RSV_CFG 0 8 * 6000 ≤ s.dev.rdN RSV_PAUSE_OFS →
      Completes .pauseSat s fun e => e.rsv.sat = true ∧ e.rsv.holds = [] ∧ e.bit RSV_INT_STAT 5 = true ∧
        ∀ x ∈ e.rsv.ents, x.2.cls = 2 ∧ (s.dev.rsv.cur.map (·.2)).contains x.1 = true)

/-- At the heat boundary TASK_POST of a valid task stores it OPEN under the lowest free number and answers it;
TASK_CANCEL of the sender's unfinished task makes it CANCELLED, of a finished one is LATE; AUCTION_NOW asks for an
auction; DOCK_CFG and SITE_LOAD store their values, and ALLOT_PROFILE names the profile that takes effect. TASK_REPORT
of a holder's machine waits for the boundary. AUCTION that is due runs once and leaves every task alone that is not OPEN
nor a DISCHARGE. ENERGY_PLANNER in its heat runs once; with a stale load it and SITE_LOAD_STALE give every docked
machine setpoint 0. TASK_EXPIRY makes an OPEN task EXPIRED, EXCLUSION_EXPIRY ends a past exclusion, BATTERY_STALE marks
the machine. -/
def Obligations.TaskCommandsMoveTheTasks : Prop :=
  ∀ (s : State) (d : Device) (c : Cmd) (t m : Nat) (k : Task),
    (d.right c.part rPlan = true → d.taskBodyOk c.body = true → k = taskOfBody c.body c.part →
      (∀ x, k.pin = some x → d.owns c.part x = true) →
      (d.newTask c.part = some t → (atBoundary 0x0600 c d).task t = some k ∧ k.st = 1 ∧ ∃ (x : Device) (a : Allot),
        atBoundary 0x0600 c d = { x.answer c stDone (leBytes 2 t) with alo := a }) ∧
      (d.newTask c.part = none → atBoundary 0x0600 c d = d.answer c stNoCapacity [])) ∧
    (d.right c.part rPlan = true → t = uAt c.body 0 2 → t < 8192 → tailZero c.body 2 = true → d.task t = some k →
      k.part = c.part →
      (terminal k.st = false → ∃ x : Device, atBoundary 0x0601 c d = x.answer c stAborted [] ∧
        (x.task t).map (·.st) = some 6) ∧
      (terminal k.st = true → atBoundary 0x0601 c d = d.answer c stLate [])) ∧
    (d.right c.part rPlan = true → ∃ x : Device, atBoundary 0x0602 c d = x.answer c stDone [] ∧ x.alo.dueNow = true ∧
      x.alo.tasks = d.alo.tasks) ∧
    (d.right c.part rPlan = true → uAt c.body 0 1 < 16 → uAt c.body 1 2 < 32768 → d.juncFlag (uAt c.body 1 2) 0 = true →
      uAt c.body 3 1 < 128 → tailZero c.body 8 = true → ∃ x : Device, atBoundary 0x0604 c d = x.answer c stDone [] ∧
        recGet (x.dock (uAt c.body 0 1)) 1 = uAt c.body 1 2 ∧ recGet (x.dock (uAt c.body 0 1)) 3 = uAt c.body 3 1) ∧
    (∃ x : Device, atBoundary 0x0605 c d = x.answer c stDone [] ∧ x.alo.load = some (uAt c.body 0 4, d.heatAbs)) ∧
    (d.right c.part rPlan = true →
      (allotOk c.body = true → ∃ x : Device, atBoundary 0x0603 c d = x.answer c stDone [] ∧
        Tab.find x.alo.next c.part = some c.body ∧ x.alo.prof = d.alo.prof) ∧
      (allotOk c.body = false → atBoundary 0x0603 c d = d.answer c stRejected [])) ∧
    (∀ p e, s.dev.acceptMach false p = (some m, e) → uAt p.body 0 1 = 0x52 → e.standby = false →
      e.canPush 68 p.body = true → taskReportOk p.body = true → uAt p.body 2 2 = m →
      Completes (.taskReport p) s fun x => x.alo.reports = e.alo.reports ++ [(m, p.body)] ∧ x.flt = e.flt) ∧
    (let a := s.dev.advanceTo (s.dev.heatAbs * 100000000 + 10000000)
     a.running = true → a.standby = false → a.rsvPaused = false → a.alo.ran ≠ some a.heatAbs → a.alo.prof.isSome = true →
      (a.heat % Nat.max 1 (a.ap 0 1) = 0 ∨ a.alo.dueNow = true) → Tab.risingFrom 0 a.alo.tasks = true →
      Completes .auction s fun e => e.alo.ran = some a.heatAbs ∧ e.alo.dueNow = false ∧
        ∀ n x, a.task n = some x → x.st ≠ 1 → x.sort ≠ 3 → e.task n = some x) ∧
    (s.dev.running = true → s.dev.standby = false → s.dev.alo.prof.isSome = true → bitOf (s.dev.ap 17 1) 0 = true →
      (s.dev.heat % 10 = 0 → s.dev.alo.planned ≠ some s.dev.heatAbs → Completes .energyPlanner s fun e =>
        e.alo.planned = some s.dev.heatAbs ∧
          (s.dev.loadStale = true → m ∈ s.dev.machines → bitOf (s.dev.fe m 212) 0 = true → e.fe m 214 = 0)) ∧
      (s.dev.loadStale = true → s.dev.alo.staleSaid = false → Completes .siteLoadStale s fun e =>
        e.alo.staleSaid = true ∧ (m ∈ s.dev.machines → bitOf (s.dev.fe m 212) 0 = true → e.fe m 214 = 0))) ∧
    (s.dev.task t = some k → k.st = 1 → k.deadline ≠ 0 → 0 ≤ diff32 s.dev.heat k.deadline → s.dev.standby = false →
      Completes (.taskExpiry t) s fun e => (e.task t).map (·.st) = some 7) ∧
    (s.dev.task t = some k → Completes (.exclusionExpiry t m) s fun e => ∃ l, e.task t = some { k with excl := l } ∧
      (∀ x ∈ l, x ∈ k.excl) ∧ ∀ x ∈ k.excl, (x.1 ≠ m ∨ x.2 = none) → x ∈ l) ∧
    (s.dev.mstate m ≠ 0 → 300 < diff32 s.dev.heat (s.dev.fe m 232) →
      Completes (.batteryStale m) s fun e => bitOf (e.fe m 212) 1 = true ∧ e.mstate m = s.dev.mstate m)

/-! ## The speed governor -/

/-- GOVERNOR_SAMPLE that is due is recorded as the last sample, in GOV_LAST_HEAT, GOV_STAT and GOV_LAT; a machine whose
computation is late keeps its allowance and sets HELD and MISS. STALE, FROZEN, REGION_CHANGE, MACH_FAULT, ENGINE_FAULT and
ZONE_TTL set their flag, interrupt and record when their condition holds; a region change leaves every integrator within
the new bounds. GOV_BANK_SWAP asks for the swap that the next sample makes. ZONE_STATE joins the posts. At the heat
boundary GOV_COEF writes the inactive bank alone, GOV_SWAP asks for the swap, GOV_MACHINE and GOV_OVERRIDE write the
machine's inputs, and GOV_READ answers 144 bytes. That a sample of the heat runs once is the model's (log entry 23). -/
def Obligations.GovernorCommandsAct : Prop :=
  ∀ (s : State) (d e : Device) (h : HostPkt) (c : Cmd) (m : Nat),
    let g := s.dev
    let b := c.body
    let Gives (code : Nat) (P : Device → Prop) : Prop := ∃ x : Device, atBoundary code c d = x.answer c stDone [] ∧ P x
    (∀ k late ecc sent lat,
      let a := g.advanceTo (g.heatAbs * 100000000 + k * 20000000)
      (a.sampleDue k = false → Completes (.governorSample k late ecc sent lat) s (· = a)) ∧
      (a.sampleDue k = true → Completes (.governorSample k late ecc sent lat) s fun t =>
        t.gov.last = some (a.heatAbs, k) ∧ t.rdN GOV_LAST_HEAT = a.heat ∧ t.fld GOV_STAT 2 3 = k ∧
        t.rdN GOV_LAT = Nat.min 0xFFFF lat ∧
        t.fld GOV_STAT 6 2 = (if sent then 0 else Nat.min 3 (a.fld GOV_STAT 6 2 + 1)) ∧
        (g.governed m = true → (Tab.find g.gov.mach m).isSome = true → m ∈ late → t.fe m 92 = g.fe m 92 ∧
          bitOf (t.fe m 94) 3 = true ∧ t.govFlag m 5 = true))) ∧
    (g.governed m = true →
      (g.fld GOV_CFG 0 8 ≤ g.sepMissed m → g.govFlag m 2 = false → Completes (.stale m) s fun t =>
        t.govFlag m 2 = true ∧ t.bit GOV_INT_STAT 4 = true ∧ t.fe m 92 = g.fe m 92) ∧
      (g.sepMissed m < g.fld GOV_CFG 0 8 → Completes (.stale m) s fun t => t.govFlag m 2 = false ∧ t.regs = g.regs) ∧
      (g.fld GOV_CFG 8 8 ≤ g.fe m 97 → g.govFlag m 3 = false → Completes (.frozen m) s fun t =>
        t.govFlag m 3 = true ∧ t.bit GOV_INT_STAT 5 = true) ∧
      (bitsOf (g.fe m 99) 4 2 = 3 → Completes (.regionChange m) s fun t => t.region m = g.fe m 99 % 16 ∧ t.fe m 99 = 0 ∧
        ∀ i, i < 7 →
          let k := g.coef g.bankOn (g.fe m 80 % 16) (g.fe m 99 % 16) i
          toSigned 16 (recGet k 8) ≤ toSigned 16 (recGet k 10) →
          toSigned 16 (recGet k 8) * 256 ≤ (t.gm m).integ.getD i 0 ∧
            (t.gm m).integ.getD i 0 ≤ toSigned 16 (recGet k 10) * 256) ∧
      (g.fe m 98 = 3 → g.govFlag m 6 = false → m < 2 ^ 32 → Completes (.machFault m) s fun t => t.govFlag m 6 = true ∧
        t.bit GOV_INT_STAT 0 = true ∧ t.rdN GOV_FAULT_MACH = m ∧ NewestIs t (blkNum .gov) 0x0101 m ∧
        ((stopMachines t.stp.list).contains m = true ∨ bitOf t.stp.latch 9 = true))) ∧
    (g.fld GOV_STAT 6 2 = 3 → g.stp.engineFault = false → Completes .engineFault s fun t =>
      t.bit GOV_INT_STAT 1 = true ∧ bitOf t.stp.latch 5 = true ∧ NewestIs t (blkNum .gov) 0x0102 0xFFFF) ∧
    (∀ z, g.zoneOver z = true → (g.zone z).said = false → Completes (.zoneTtl z) s fun t =>
      (t.zone z).said = true ∧ t.bit GOV_INT_STAT 6 = true ∧ t.flt = g.flt) ∧
    (Completes .govBankSwap s fun t => t.bit GOV_STAT 1 = true ∧ t.bankOn = g.bankOn ∧ t.gov = g.gov) ∧
    (d.bit GOV_STAT 1 = true → d.bankSwap.bankOn = 1 - d.bankOn ∧ d.bankSwap.bit GOV_STAT 1 = false) ∧
    (g.takes 0x0705 h = some (c, e) → b.length = 12 → e.right c.part rPlan = true → e.standby = false →
      (uAt b 1 1 < 3 → uAt b 2 2 = 0 → Answers (.zoneState h) s c stDone [] fun x => x.gov.posts =
        e.gov.posts ++ [⟨c.part, uAt b 0 1, uAt b 1 1, sAt b 4 4, sAt b 8 4, e.tb0⟩] ∧ x.flt = e.flt) ∧
      (3 ≤ uAt b 1 1 ∨ uAt b 2 2 ≠ 0 → OnlyAnswers (.zoneState h) s c e stRejected [])) ∧
    (d.right c.part rPlan = true →
      (let t := uAt b 2 1
       t ≤ 6 ∨ t = 8 ∨ t = 9 → b.length = 4 + coefLen t → uAt b 0 1 < 16 → uAt b 1 1 < 16 → uAt b 3 1 = 0 →
        coefOk t (b.drop 4) = true → Gives 0x0700 fun x =>
          x.coef (1 - d.bankOn) (uAt b 0 1) (uAt b 1 1) t = layRead (layCoef t) (b.drop 4) ∧
          ∀ p r u, p < 16 → r < 16 → u < 16 → x.coef d.bankOn p r u = d.coef d.bankOn p r u) ∧
      (Gives 0x0701 fun x => x.bit GOV_STAT 1 = true ∧ x.bankOn = d.bankOn ∧ x.gov = d.gov) ∧
      (m = uAt b 0 2 → m < 4096 → d.mstate m ≠ 0 → d.owns c.part m = true →
        (uAt b 2 1 < 16 → Gives 0x0702 fun x => x.fe m 80 = uAt b 2 1 ∧ x.fe m 81 = uAt b 3 1 ∧ x.fe m 82 = uAt b 4 2 ∧
          x.fe m 84 = uAt b 6 2 ∧ x.fe m 86 = uAt b 8 2 ∧ x.fe m 88 = uAt b 10 2 ∧ ∀ k, k ≠ m → x.entry k = d.entry k) ∧
        (Gives 0x0703 fun x => x.fe m 90 = uAt b 2 2 ∧ ∀ k, k ≠ m → x.entry k = d.entry k))) ∧
    (m = uAt b 0 2 → m < 4096 → d.mstate m ≠ 0 → d.mayRead c.part m = true → tailZero b 2 = true → ∃ l : Bytes,
      atBoundary 0x0704 c d = d.answer c stDone l ∧ l.length = 144 ∧ l = sliceB (d.entryBytes m) 80 64 ++ d.govStateBytes m)

/-- Whatever the loops, the coefficients, the earlier allowance and the machine's region: when the fleet state is STOP, or
the machine is on the stop list, a GOVERNOR_SAMPLE that is due leaves allowance 0 in the entry of every governed machine
whose computation is on time and whose state words ECC does not find lasting, and records PERMIT as the governing loop.
The raw allowance is the lowest of the eight proposals, and on a tie the highest code governs. -/
def Obligations.StoppedMachinesGetAllowanceZero : Prop :=
  (∀ (s : State) (m k : Nat) (late : List Nat) (ecc : List (Nat × Nat × Bool)) (sent : Bool) (lat : Nat),
    (s.dev.advanceTo (s.dev.heatAbs * 100000000 + k * 20000000)).sampleDue k = true →
    s.dev.governed m = true → s.dev.permitZero m = true →
    m ∉ late → m ∉ s.dev.gov.bad → (∀ x ∈ ecc, x.1 = m → x.2.2 = false) →
    Completes (.governorSample k late ecc sent lat) s fun t => t.fe m 92 = 0 ∧ t.fe m 94 % 8 = 7) ∧
  (∀ prop : List Nat, prop.length = 8 →
    (govern prop).2 < 8 ∧ prop.getD (govern prop).2 0 = (govern prop).1 ∧
      ∀ i, i < 8 → (govern prop).1 ≤ prop.getD i 0 ∧ (prop.getD i 0 = (govern prop).1 → i ≤ (govern prop).2))

/-! ## Corrections, the central solver and the atlas -/

/-- At the heat boundary CORR_PROFILE and SOLVER_PROFILE of a valid body are named as their partition's next profile.
The status commands answer 16 and 32 bytes, and clear the counts when asked. SOLVE_ENROL of a full residue is
NO_CAPACITY, with an empty schedule it enrols with a new filter, with rate 0 it withdraws. An on-time frame and a report
of their machine wait for the heat. CENTRAL_SOLVE consumes the frame and gives the filter the solution; CATCH_UP_UPDATE
takes the oldest late frame and publishes nothing. FILTER_RESET resets, POSITIONS_PUBLISHED writes the reports into the
fleet table once a heat. ATLAS_EVIDENCE blends, ATLAS_READ answers a cell, ATLAS_WRITE sets one, ATLAS_CLEAR sets all to
255. The numbers of a solve are operands (log entry 5); the body of ATLAS_READ is the model's (log entry 20). -/
def Obligations.SolverAndCorrectionCommandsAct : Prop :=
  ∀ (s : State) (d e : Device) (h : HostPkt) (c : Cmd) (m : Nat) (p : MachPkt) (o : SolveOut) (b : Bytes),
    let g := s.dev
    let a := g.advanceTo (g.heatAbs * 100000000 + 60000000)
    let z := g.advanceTo (g.heatAbs * 100000000 + 80000000)
    let Gives (code : Nat) (P : Device → Prop) : Prop := ∃ x : Device, atBoundary code c d = x.answer c stDone [] ∧ P x
    (d.right c.part rPlan = true →
      let ok := profileOk c.body (1000 / [1, 2, 5, 10, 20].getD (d.fld GNS_CTRL 5 3) 10)
      (ok = true → Gives 0x0200 fun x => Tab.find x.cor.next c.part = some c.body ∧ x.cor.prof = d.cor.prof) ∧
      (ok = false → atBoundary 0x0200 c d = d.answer c stRejected []) ∧
      (solverProfOk c.body = true → Gives 0x0301 fun x =>
        Tab.find x.slv.next c.part = some c.body ∧ x.slv.prof = d.slv.prof) ∧
      (solverProfOk c.body = false → atBoundary 0x0301 c d = d.answer c stRejected [])) ∧
    (g.takes 0x0201 h = some (c, e) → statusBodyOk c.body = true → e.corrStatus.length = 16 ∧
      (uAt c.body 0 1 = 0 → OnlyAnswers (.corrStatus h) s c e stDone e.corrStatus) ∧
      (uAt c.body 0 1 = 1 → Completes (.corrStatus h) s fun t => t.cor.linkSets = 0 ∧ t.cor.radioSets = 0 ∧
        t.cor.dropped = 0 ∧ t.cor.withheld = 0 ∧ t.cor.tagFails = 0 ∧ t.que = (e.answer c stDone e.corrStatus).que)) ∧
    (g.takes 0x0302 h = some (c, e) → statusBodyOk c.body = true →
      (e.slv.last.length = 4 → e.solverStatus.length = 32) ∧
      (uAt c.body 0 1 = 0 → OnlyAnswers (.solverStatus h) s c e stDone e.solverStatus) ∧
      (uAt c.body 0 1 = 1 → Completes (.solverStatus h) s fun t => t.slv.discarded = 0 ∧ t.slv.lateLost = 0 ∧
        t.slv.postfit = 0 ∧ t.slv.noBase = 0 ∧ t.slv.demotions = 0 ∧ t.slv.filters = e.slv.filters ∧
        t.que = (e.answer c stDone e.solverStatus).que)) ∧
    (g.takes 0x0303 h = some (c, e) → c.body.length = 2 → e.right c.part rPlan = true →
      (uAt c.body 0 2 < e.cells → OnlyAnswers (.atlasRead h) s c e stDone (e.cellBytes (uAt c.body 0 2)) ∧
        (e.cellBytes (uAt c.body 0 2)).length = 1296) ∧
      (e.cells ≤ uAt c.body 0 2 → OnlyAnswers (.atlasRead h) s c e stRejected [])) ∧
    (g.acceptMach false p = (some m, e) → uAt p.body 0 1 = 0x31 → e.canPush 66 p.body = true →
      (frameOk p.body = true → uAt p.body 2 2 = m → e.dueNow m = true → uAt p.body 4 4 = e.heat →
        e.slv.taken.contains (m, p.stamp / 100000000) = false → p.stamp % 100000000 < 60000000 →
        Completes (.observationFrame p) s fun t => Tab.find t.slv.frames m = some p.body ∧ t.flt = e.flt ∧
          t.slv.filters = e.slv.filters) ∧
      (frameOk p.body = false → Completes (.observationFrame p) s fun t =>
        t.slv = { e.slv with discarded := Nat.min 0xFFFF (e.slv.discarded + 1) })) ∧
    (g.acceptMach false p = (some m, e) → uAt p.body 0 1 = 0x33 → e.canPush 67 p.body = true →
      reportOk p.body = true → uAt p.body 2 2 = m → uAt p.body 4 4 = e.heat → p.stamp % 100000000 < 60000000 →
      (e.fe m 21 = 1 ∨ e.fe m 21 = 2) → (Tab.find e.slv.reports m).isNone = true → e.slv.published ≠ some e.heatAbs →
      Completes (.positionReport p) s fun t => Tab.find t.slv.reports m = some p.body ∧ t.flt = e.flt) ∧
    (Tab.find a.slv.frames m = some b → a.running = true → a.standby = false → a.slv.prof.isSome = true →
      a.inHeat ≤ 78000000 → a.dueNow m = true → a.slv.solved.length < a.slv.slots → a.slv.published ≠ some a.heatAbs →
      (a.baseEpoch = true → a.gns.alarm = false → Completes (.centralSolve m o) s fun t =>
        Tab.find t.slv.frames m = none ∧ t.govFlag m 0 = bitOf (uAt b 1 1) 1 ∧
        (o.badFit = false → (t.filter m).pos = o.pos ∧ (t.filter m).vel = o.vel ∧ (t.filter m).cov = o.cov ∧
          (t.filter m).upd = some a.heatAbs ∧ (t.filter m).misses = 0 ∧ (Tab.find t.slv.solved m).isSome = true) ∧
        (o.badFit = true → t.slv.postfit = Nat.min 0xFFFF (a.slv.postfit + 1) ∧ t.slv.solved = a.slv.solved)) ∧
      (a.baseEpoch = false → Completes (.centralSolve m o) s fun t => Tab.find t.slv.frames m = none ∧
        t.slv.discarded = Nat.min 0xFFFF (a.slv.discarded + 1) ∧ t.slv.filters = a.slv.filters)) ∧
    (∀ l, z.slv.late = (m, b) :: l → z.running = true → z.standby = false → z.slv.prof.isSome = true → z.rate m ≠ 0 →
      z.baseEpoch = true → z.gns.alarm = false → o.badFit = false → Completes (.catchUpUpdate o) s fun t =>
        t.slv.late = l ∧ t.slv.caught = z.slv.caught + 1 ∧ t.slv.lateDone = Nat.min 0xFFFF (z.slv.lateDone + 1) ∧
        (t.filter m).pos = o.pos ∧ (t.filter m).upd = some z.heatAbs ∧ t.slv.solved = z.slv.solved ∧ t.flt = z.flt) ∧
    (g.slv.prof.isSome = true → (Tab.find g.slv.filters m).isSome = true → g.sp 42 1 ≤ (g.filter m).misses →
      Completes (.filterReset m) s fun t => (t.filter m).fix = 0 ∧ (t.filter m).held = [] ∧ (t.filter m).reset = true ∧
        t.flt = g.flt) ∧
    (g.running = true → g.standby = false → g.inHeat ≤ 78000000 → g.slv.published ≠ some g.heatAbs →
      Completes .positionsPublished s fun t => t.slv.published = some g.heatAbs ∧ t.slv.reports = [] ∧ t.slv.frames = [] ∧
        t.slv.atlas = g.slv.atlas ∧
        (Tab.risingFrom 0 g.slv.reports = true → Tab.find g.slv.reports m = some b → g.dueNow m = false →
          t.fe m 48 = ofSigned 32 (sAt b 8 4) ∧ t.fe m 52 = ofSigned 32 (sAt b 12 4) ∧
            t.govFlag m 0 = bitOf (uAt b 1 1) 2)) ∧
    (∀ sky cell,
      (Completes (.atlasEvidence sky cell) s fun t => t.slv.evid = [] ∧ t.slv.baseCell = cell ∧
        (bitOf (g.sp 39 1) 0 = false → t.slv.atlas = g.slv.atlas)) ∧
      (∀ v k, g.slv.evid = [v] → v.cell = some k → bitOf (g.sp 39 1) 0 = true → Completes (.atlasEvidence sky none) s
        fun t => t.weight k v.bin = blend (g.weight k v.bin) (evidenceQ v) (g.sp 33 1) % 256)) ∧
    (let k := uAt c.body 0 2
     (k < d.cells → Gives 0x0304 fun x => (∀ i, i < 1296 → x.weight k i = uAt c.body (2 + i) 1) ∧
        ∀ j i, j ≠ k → i < 1296 → x.weight j i = d.weight j i) ∧
     (Gives 0x0305 fun x => ∀ j i, x.weight j i = 255)) ∧
    (d.right c.part rPlan = true → m = uAt c.body 0 2 → m < 4096 → uAt c.body 2 1 < 5 → uAt c.body 3 1 < 16 →
      tailZero c.body 4 = true → d.owns c.part m = true → d.slv.prof.isSome = true →
      (uAt c.body 2 1 = 0 → Gives 0x0300 fun x => x.rate m = 0 ∧ Tab.find x.slv.filters m = none) ∧
      (uAt c.body 2 1 ≠ 0 → d.enrolled = [] → 1 ≤ d.slv.slots → Gives 0x0300 fun x =>
        x.rate m = uAt c.body 2 1 ∧ x.prio m = uAt c.body 3 1 % 4 ∧ (x.filter m).fix = 0) ∧
      (uAt c.body 2 1 ≠ 0 → d.rate m = 0 → (∀ i, i < 10 → d.slv.slots ≤ (d.loads (some m)).getD i 0) →
        atBoundary 0x0300 c d = d.answer c stNoCapacity []))

/-! ## The radio MAC -/

/-- A secured frame is accepted only with a counter above its node's, which it then becomes; one with a bad FCS or that
fails its security is dropped and counted. DATA_FRAME of a sensor is one packet on its owner's queue 4, of a machine a
datagram, a relay's envelope 0xA6 its child's frame. DATA_REQUEST owes an acknowledgement whose frame-pending bit needs a
held frame that fits. ASSOCIATION_REQUEST makes the node's record or is refused, with a response; DISASSOCIATION sends a
node to leaving. RELAY_REPORT and ACKNOWLEDGEMENT_RECEIVED end their frame. NODE_RESYNC moves a quiet node on. Markers
and PLL set the port's state. What the frames carry in clear is the model's (log entry 6). -/
def Obligations.RadioFramesAreTakenOrDropped : Prop :=
  ∀ (s : State) (e x : Device) (f : RxFrame) (n m p : Nat),
    let g := s.dev
    let a := g.advanceTo f.fin
    let k := f.mpdu
    let w := nodeNum f.port k.src
    let o := e.oweAck f false false
    let took : Prop := g.rx f false = (true, e)
    (took → k.secured = true → a.nd w 32 < k.ctr ∧ e.nd w 32 = k.ctr ∧ e.nd w 24 = a.heat) ∧
    (∀ seq ok, a.hears f.port f.sfd = true →
      (f.fcs = false → Completes (.dataFrame f seq ok) s (· = a.count (MAC_RX_DROP f.port))) ∧
      (f.fcs = true → k.feature = true → a.addrOk f.port k false = true → k.secured = true → a.secOk w k = false →
        Completes (.dataFrame f seq ok) s (· = (a.count (MAC_RX_DROP f.port)).raise (MAC_INT_STAT f.port) 0))) ∧
    (took → ∀ seq ok,
      (e.nkind w = 1 ∨ e.nkind w = 2 ∧ uAt k.body 0 1 ≠ 0xA5 ∧ uAt k.body 0 1 ≠ 0xA6 →
        Completes (.dataFrame f seq ok) s fun t => ∃ ns, ns < 2 ^ 32 ∧
        t = o.hwPush (16 * bitsOf (e.nd w 7) 0 2 + 4) (leBytes 1 0xA2 ++ leBytes 1 k.body.length ++ zeros 2 ++
          leBytes 4 w ++ leBytes 4 ns ++ leBytes 1 f.rssi ++ leBytes 1 f.lqi ++ zeros 2 ++ k.body)) ∧
      (e.nkind w = 3 → Completes (.dataFrame f seq ok) s (· = o.machIngress true ⟨w, seq, ok, f.sfd, k.body⟩)) ∧
      (e.nkind w = 2 → uAt k.body 0 1 = 0xA6 →
        (f.child = none → Completes (.dataFrame f seq ok) s (· = o.count (MAC_RX_DROP f.port))) ∧
        ∀ c, f.child = some c → o.mpduTake f.port c false = (true, x) → Completes (.dataFrame f seq ok) s
          (· = (x.nodeHeard (nodeNum f.port c.src) (uAt k.body 6 1) (uAt k.body 7 1)).nodeFrame f.port
            (nodeNum f.port c.src) f c.body (uAt k.body 6 1) (uAt k.body 7 1) seq ok))) ∧
    (∀ ackAir heldAir, took → k.ackReq = true →
      let lo := (e.reservation f.port f.fin).1
      Completes (.dataRequest f ackAir heldAir) s fun t => ∃ b : Bool, (t.port f.port).acks =
        (e.port f.port).acks ++ [⟨k.src, k.eui, f.fin, true, b, false, k.secured && k.v2⟩] ∧ t.out = e.out ∧
        (b = true ↔ e.heldFor f.port k.src ≠ [] ∧
          f.fin + 1000000 + ackAir + heldAir ≤ if f.fin < lo then lo else lo + 100000000)) ∧
    (∀ sleepy slot, f.child = none → g.rx f true = (true, e) → rec72Ok k.body = true →
      (e.machOf k.eui = none → uAt k.body 1 1 = 1 → e.policyLets f.port k.eui = true → e.children f.port < 8192 →
        e.assocNode f.port k.eui = some n → Completes (.associationRequest f sleepy slot) s fun t =>
          t.nd n 4 = 1 ∧ t.nd n 5 = 0 ∧ t.nd n 8 = k.eui ∧ t.nd n 16 = f.port * 65536 ∧
          ∃ r : Direct, (t.port f.port).direct = (e.port f.port).direct ++ [r] ∧ r.eui = k.eui ∧ r.cmd = true ∧
            r.data.take 4 = leBytes 1 2 ++ leBytes 2 (n % 65536) ++ leBytes 1 0) ∧
      (e.machOf k.eui = none → e.nodeOfEui f.port k.eui = none → e.policyLets f.port k.eui = false →
        Completes (.associationRequest f sleepy slot) s fun t => t.flt = e.flt ∧
          ∃ r : Direct, (t.port f.port).direct = (e.port f.port).direct ++ [r] ∧ r.eui = k.eui ∧
            r.data.take 4 = leBytes 1 2 ++ leBytes 2 0xFFFF ++ leBytes 1 2) ∧
      (e.machOf k.eui = some m → uAt k.body 1 1 = 3 → e.mstate m ≠ 4 → e.assocNode f.port k.eui = some n →
        Completes (.associationRequest f sleepy slot) s fun t => t.flt.joins = e.flt.joins ++ [⟨m, f.port, false⟩] ∧
          t.nd n 4 = 3 ∧ t.nd n 20 = m)) ∧
    (∀ sleepy slot c, took → f.child = some c → e.nkind w = 2 → uAt k.body 0 1 = 0xA6 →
      o.mpduTake f.port c true = (true, x) → rec72Ok c.body = true → Completes (.associationRequest f sleepy slot) s
        (· = x.associate f.port c.eui (some w) sleepy slot c.body)) ∧
    (took →
      (e.nkind w = 1 ∨ e.nkind w = 2 → Completes (.disassociation f) s fun t => t.nd w 5 = 3 ∧ w ∈ t.flt.goners ∧
        t.flt.tab = e.flt.tab) ∧
      (e.nkind w = 3 → Completes (.disassociation f) s (· = o))) ∧
    (took → e.nkind w = 2 → uAt k.body 0 1 = 0xA5 → k.body.length = 8 → uAt k.body 1 1 ≤ 2 →
      let mine (h : Held) : Bool := h.short = uAt k.body 2 2 && h.relay = some (uAt k.body 4 2)
      ((e.port f.port).store.find? mine = none → Completes (.relayReport f) s (· = o)) ∧
      (∀ h, (e.port f.port).store.find? mine = some h → Completes (.relayReport f) s fun t =>
        (t.port f.port).store = dropFirst (e.port f.port).store mine ∧
          (uAt k.body 1 1 = 1 → t.rdN (MAC_EXPIRED f.port) =
            Nat.min 0xFFFFFFFF (e.rdN (MAC_EXPIRED f.port) + 1)))) ∧
    (∀ short fin,
      let z := g.advanceTo fin
      let mine (h : Held) : Bool := h.short = short && h.onAir
      z.bit (MAC_CTRL p) 0 = true → (z.port p).locked = true → (z.port p).fault = false →
      (∀ h, (z.port p).store.find? mine = some h → Completes (.acknowledgementReceived p short fin) s fun t =>
        t = (z.setPort p { z.port p with store := dropFirst (z.port p).store mine }).nodeTxEvent h.part
          (nodeNum p short) h.tag 0) ∧
      (∀ r l, (z.port p).store.find? mine = none → (z.port p).direct = r :: l → r.short = short → r.sent.isSome = true →
        Completes (.acknowledgementReceived p short fin) s fun t => (t.port p).direct = l)) ∧
    (let gap := diff32 g.heat (g.nd n 24)
     let per : Int := ((g.nd n 22 * 10 : Nat) : Int)
     g.nkind n ≠ 0 → nodeReserved n = false → per ≠ 0 → g.pair.claim = true →
      (g.nd n 5 = 1 → 2 * per ≤ gap → Completes (.nodeResync n) s fun t => t.nd n 5 = 2 ∧ t.nd n 42 = g.nd n 42) ∧
      (g.nd n 5 = 2 → (3 + ((g.nd n 42 : Nat) : Int)) * per ≤ gap → Completes (.nodeResync n) s fun t =>
        t.nd n 42 = Nat.min 255 (g.nd n 42 + 1) ∧ t.nd n 5 = 2)) ∧
    (p < 4 →
      ((g.port p).locked = true → Completes (.markerError p) s fun t => (t.port p).locked = false ∧
        (t.port p).fault = true ∧ t.bit (MAC_INT_STAT p) 5 = true ∧ NewestIs t (0x10 + p) 0x0101 p) ∧
      (Completes (.markerLock p) s fun t => t = g.setPort p { g.port p with locked := true, fault := false }) ∧
      (Completes (.transceiverPllUnlock p) s fun t => t.bit (MAC_INT_STAT p) 5 = true ∧ t.mac = g.mac ∧
        NewestIs t (0x10 + p) 0x0101 p))

/-- MAC_ENABLE sets ENABLE exactly where the region lets the port run; IND_FLUSH empties the indirect store. NODE_SEND to a
sleepy node is held to its expiry, to another it is a direct frame; the store's limit is NO_CAPACITY, a free record
NOT_FOUND, another partition's node DENIED. An acknowledgement owed goes out 1 ms after its frame with its pending bit,
or is skipped where the reservation is in its way. INDIRECT_DATA sends the first held frame, an empty frame if that one
expired. FRAME_EXPIRY removes a frame that is not on air. CSMA_CA sends on a clear channel, and backs off or drops the
frame otherwise. -/
def Obligations.RadioFramesAreHeldAndSent : Prop :=
  ∀ (s : State) (e : Device) (h : HostPkt) (c : Cmd) (p start air : Nat), p < 4 →
    let g := s.dev
    let z := g.advanceTo start
    (∀ value,
      (g.fld (MAC_REGION p) 0 4 = 1 ∨ g.fld (MAC_REGION p) 0 4 = 2 → Completes (.macEnable p value) s fun t =>
        t.bit (MAC_CTRL p) 0 = true ∧ t.pin pinRfRst = 1) ∧
      (g.fld (MAC_REGION p) 0 4 ≠ 1 → g.fld (MAC_REGION p) 0 4 ≠ 2 → Completes (.macEnable p value) s fun t =>
        t.bit (MAC_CTRL p) 0 = false) ∧
      (Completes (.indFlush p value) s fun t => (t.port p).store = [])) ∧
    (g.takes 0x040A h = some (c, e) → e.standby = false →
      let b := c.body
      let n := uAt b 0 4
      let i := panOf n
      let per := uAt b 4 2
      let data := sliceB b 12 (uAt b 6 2)
      b.length = 12 + uAt b 6 2 → 1 ≤ uAt b 6 2 → uAt b 6 2 ≤ 200 → e.right c.part rPlan = true → n < 0x40000 →
      nodeReserved n = false →
      (e.nkind n = 0 → OnlyAnswers (.nodeSend h) s c e stNotFound []) ∧
      (e.nkind n ≠ 0 → e.nd n 5 = 1 →
        (bitsOf (e.nd n 7) 0 2 ≠ c.part → OnlyAnswers (.nodeSend h) s c e stDenied []) ∧
        (bitsOf (e.nd n 7) 0 2 = c.part → e.relayOf n = none →
          (e.sleepy n = true → e.nkind n ≠ 2 → 1 ≤ per → per ≤ 3600 →
            ((e.port i).store.length < 16384 → ((e.port i).store.filter fun x => x.short = n % 65536).length < 16 →
              Answers (.nodeSend h) s c stDone [] fun x => (x.port i).store = (e.port i).store ++
                [⟨n % 65536, e.upNs + per * 1000000000, uAt b 8 4, c.part, data, none, false⟩]) ∧
            (16384 ≤ (e.port i).store.length → Answers (.nodeSend h) s c stNoCapacity []
              (· = e.raise (MAC_INT_STAT i) 1))) ∧
          (e.sleepy n = false ∨ e.nkind n = 2 → Answers (.nodeSend h) s c stDone [] fun x =>
            ∃ y : Direct, (x.port i).direct = (e.port i).direct ++ [y] ∧ y.short = n % 65536 ∧ y.data = data ∧
              y.tag = uAt b 8 4 ∧ y.part = some c.part)) ∧
        (∀ r, bitsOf (e.nd n 7) 0 2 = c.part → e.relayOf n = some r →
          (e.sleepy n = true → e.nkind n ≠ 2 → 1 ≤ per → per ≤ 3600 → (e.port i).store.length < 16384 →
            ((e.port i).store.filter fun x => x.short = n % 65536).length < 16 →
            Answers (.nodeSend h) s c stDone [] fun x => ∃ (q : Nat) (y : Direct), (x.port i).store = (e.port i).store ++
              [⟨n % 65536, e.upNs + per * 1000000000, uAt b 8 4, c.part, data, some q, false⟩] ∧
              (x.port i).direct = (e.port i).direct ++ [y] ∧ y.short = r % 65536 ∧ y.part = none) ∧
          (e.sleepy n = false ∨ e.nkind n = 2 → Answers (.nodeSend h) s c stDone [] fun x =>
            ∃ y : Direct, (x.port i).direct = (e.port i).direct ++ [y] ∧ y.short = r % 65536 ∧
              y.tag = uAt b 8 4 ∧ y.part = some c.part)))) ∧
    (∀ d l,
      let at_ := d.fin + 1000000
      let y := g.advanceTo at_
      let r := y.reservation p at_
      let next := if at_ < r.1 then r.1 else r.1 + 100000000
      (g.port p).acks = d :: l → y.portUp p = true →
      ((at_ < r.1 ∨ r.2 ≤ at_) → at_ + air ≤ next → y.mayAir p at_ air = true → Completes (.acknowledgement p air) s fun t =>
        (t.port p).acks = l ∧ (t.port p).air = some ⟨3, at_ + air⟩ ∧
        (∃ b, t.out = g.out ++ [⟨.radio, p, 2, b⟩] ∧ b.take 3 = leBytes 2 d.short ++ leBytes 1 (b2n d.pending)) ∧
        (d.poll = true → d.pending = true → (t.port p).polled = some ⟨d.short, at_ + air, d.gone⟩)) ∧
      ((r.1 ≤ at_ ∧ at_ < r.2 ∨ next < at_ + air) → Completes (.acknowledgement p air) s fun t =>
        (t.port p).acks = l ∧ t.out = g.out ∧ t.bit (MAC_INT_STAT p) 3 = true ∧
        t.rdN (MAC_ACK_SKIP p) = Nat.min 0xFFFFFFFF (g.rdN (MAC_ACK_SKIP p) + 1))) ∧
    (∀ q, (z.port p).polled = some q → q.ended ≤ start → start ≤ q.ended + 5000000 → z.mayAir p start air = true →
      z.canSecure (nodeNum p q.short) = true → Completes (.indirectData p start air) s fun t =>
        (t.port p).polled = none ∧ (t.port p).air = some ⟨4, start + air⟩ ∧
        ∃ b, t.out = z.out ++ [⟨.radio, p, 1, b⟩] ∧
          (q.gone = true ∨ z.heldFor p q.short = [] → b.drop 7 = []) ∧
          ∀ x l, q.gone = false → z.heldFor p q.short = x :: l → b.drop 7 = x.data) ∧
    (∀ k x, (g.port p).store[k]? = some x → x.onAir = false → Completes (.frameExpiry p k) s fun t =>
      (t.port p).store = (g.port p).store.take k ++ (g.port p).store.drop (k + 1) ∧ t.bit (MAC_INT_STAT p) 2 = true ∧
        t.rdN (MAC_EXPIRED p) = Nat.min 0xFFFFFFFF (g.rdN (MAC_EXPIRED p) + 1)) ∧
    (∀ x l, (z.port p).direct = x :: l → x.sent = none → x.retries ≤ z.fld (MAC_CSMA p) 11 3 →
      (x.backoffs + 1 ≤ z.fld (MAC_CSMA p) 8 3 → Completes (.csmaCa p start air false) s fun t =>
        (t.port p).direct = { x with backoffs := x.backoffs + 1 } :: l ∧ t.out = z.out) ∧
      (z.fld (MAC_CSMA p) 8 3 < x.backoffs + 1 → Completes (.csmaCa p start air false) s fun t =>
        (t.port p).direct = l) ∧
      (z.mayAir p start air = true → (0xFFFE ≤ x.short ∨ z.canSecure (nodeNum p x.short) = true) →
        Completes (.csmaCa p start air true) s fun t =>
          (t.port p).direct = { x with sent := some (start + air) } :: l ∧ (t.port p).air = some ⟨6, start + air⟩ ∧
          ∃ b, t.out = z.out ++ [⟨.radio, p, if x.cmd then 3 else 1, b⟩]))

/-! ## Links, sessions and datagrams -/

/-- The command codes of R379 that are taken from a partition's queue. -/
def Sys2Proof.Claims.tableCodes : List Nat :=
  [0x0002, 0x0003, 0x0010, 0x0011, 0x0102, 0x0103, 0x0200, 0x0201, 0x0300, 0x0301, 0x0302, 0x0303, 0x0304, 0x0305,
   0x0400, 0x0401, 0x0402, 0x0403, 0x0404, 0x0405, 0x0406, 0x0407, 0x0408, 0x0409, 0x040A] ++
  [0x0500, 0x0501, 0x0502, 0x0503, 0x0504, 0x0600, 0x0601, 0x0602, 0x0603, 0x0604, 0x0605, 0x0700, 0x0701, 0x0702,
   0x0703, 0x0704, 0x0705, 0x0800, 0x0801, 0x0802, 0x0900, 0x0901, 0x0902, 0x0903, 0x0904, 0x0905, 0x0A00, 0x0A01,
   0x0A02, 0x0A03, 0x0A04]

/-- LINK_CHANGE sets the link and its interrupts. SESSION_OPEN under the host key leaves a session that waits and
answers; inside a session it is REJECTED. SESSION_TAKEOVER opens the waiting session, and its datagram takes effect.
SESSION_CLOSE and SESSION_TIMEOUT close, and empty the slots. PING is answered DONE, an unknown code REJECTED. At the
heat boundary MCAST_KEY names a loaded key. KERNEL_DATA is one packet of its queue. HOST_EGRESS sends the oldest packet
and releases it, and discards a poisoned one. The SPI commands write, read and answer the status. DATAGRAM_REJECTED is
counted; neighbour discovery of the own address is answered. -/
def Obligations.SessionsAndDatagramsFollowTheirCommands : Prop :=
  ∀ (s : State) (e : Device) (h : HostPkt) (c : Cmd) (n p : Nat), h.part < 4 →
    let g := s.dev
    let q := h.part
    (∀ up, n < 3 →
      (g.linkUp n ≠ up → Completes (.linkChange n up) s fun t => t.linkUp n = up ∧ t.bit NET_INT_STAT n = true ∧
        (∀ k, k ≠ n → t.linkUp k = g.linkUp k) ∧
        (t.linkUp 0 = false → t.linkUp 1 = false → t.bit NET_INT_STAT 3 = true)) ∧
      (g.linkUp n = up → Completes (.linkChange n up) s (· = g))) ∧
    (g.hostPort h = true →
      (h.tagOk = true → g.keyed = true → replayOk (g.replay (keyHost q)) h.seq = true → h.body.length = 16 →
        (g.part q).prov = true → Tab.getD g.hst.seqs (keyHost q) 0 < 0xFFFFFFFF →
        Completes (.sessionOpen h false) s fun t => (t.sess q).waiting = some h.spi ∧
          (t.sess q).open_ = (g.sess q).open_ ∧ replayOk (t.replay (keyHost q)) h.seq = false ∧
          (h.spi = false → ∃ b, t.out = g.out ++ [⟨.netHost, q, 2, b⟩] ∧ b.length = 40) ∧
          (h.spi = true → ∃ b, t.hst.spiOut = g.hst.spiOut ++ [b] ∧ b.length = 40 ∧ t.pin pinHsIrq = 0)) ∧
      (h.tagOk = false → Completes (.sessionOpen h false) s
        (· = (g.discard false true).raise HST_INT_STAT 8))) ∧
    (g.takes 0x0001 h = some (c, e) → OnlyAnswers (.sessionOpen h true) s c e stRejected []) ∧
    (∀ cls sub code, g.accept { h with newKey := true } = (true, e) →
      ((e.sess q).open_ = true ∧ (e.sess q).waiting = none ∧ (e.slot (2 * q)).st = 1 ∧ (e.slot (2 * q + 1)).st = 1 ∧
        e.bit HST_INT_STAT q = true) ∧
      (cls = 4 → (e.q (16 * q + 8 + sub % 4)).on = true → h.body ≠ [] → Completes (.sessionTakeover h cls sub code) s
        (· = e.hwPush (16 * q + 8 + sub % 4) h.body)) ∧
      (∀ y, cls = 1 → code = 0x0003 → h.body = [] → g.takes code { h with newKey := true } = some (c, y) →
        OnlyAnswers (.sessionTakeover h cls sub code) s c y stDone [])) ∧
    (g.takes 0x0002 h = some (c, e) → c.body = [] → (e.sess c.part).open_ = true → Completes (.sessionClose h) s fun t =>
      (t.sess c.part).open_ = false ∧ (t.slot (2 * c.part)).st = 0 ∧ (t.slot (2 * c.part + 1)).st = 0 ∧
        t.bit HST_INT_STAT (4 + c.part) = true ∧ t.que = (e.answer c stDone []).que) ∧
    (p < 4 → (g.sess p).open_ = true → g.since (g.sess p).lastRx 30000000000 = true →
      Completes (.sessionTimeout p) s fun t => (t.sess p).open_ = false ∧ (t.slot (2 * p)).st = 0 ∧
        (t.slot (2 * p + 1)).st = 0 ∧ t.bit HST_INT_STAT (4 + p) = true ∧ t.que = g.que) ∧
    (g.takes 0x0003 h = some (c, e) → c.body = [] → OnlyAnswers (.ping h) s c e stDone []) ∧
    (∀ code, code < 65536 → code ∉ tableCodes → g.takes code h = some (c, e) →
      OnlyAnswers (.unknownCommand h code) s c e stRejected []) ∧
    (e.right c.part rPlan = true → uAt c.body 2 2 = 0 → uAt c.body 1 1 ≠ 0 → uAt c.body 0 1 < 128 →
      let k := e.slot (uAt c.body 0 1)
      (k.st = 0 → atBoundary 0x0103 c e = e.answer c stNotFound []) ∧
      (k.st = 1 → k.owner = c.part → k.attr = 0 → k.alg = 1 → ∃ x : Device,
        atBoundary 0x0103 c e = x.answer c stDone [] ∧
          x.hst.mkeyNext = some ⟨c.part, uAt c.body 0 1, uAt c.body 1 1⟩ ∧ x.hst.mkey = e.hst.mkey ∧
            x.mcastKeyTakes.hst.mkey = x.hst.mkeyNext)) ∧
    (∀ sub, g.accept h = (true, e) →
      let k := 16 * q + 8 + sub % 4
      ((e.q k).on = true → h.body ≠ [] → Completes (.kernelData h sub) s (· = e.hwPush k h.body)) ∧
      ((e.q k).on = false → Completes (.kernelData h sub) s (· = e.count NET_RX_DROP))) ∧
    (∀ k : Packet, p < 4 → n < 16 →
      (g.q (16 * p + n)).pkts.find? (fun k => (g.q (16 * p + n)).pos < k.start + k.len) = some k →
      egressQueue n = true → (g.slot (2 * p)).st = 1 → g.keyed = true →
      ((g.sess p).open_ = false → Completes (.hostEgress p n) s (· = g)) ∧
      ((g.sess p).open_ = true → (g.sess p).spi = false → g.netUp = true →
        (k.bad ≠ [] → Completes (.hostEgress p n) s (· = (g.hwPop (16 * p + n)).2)) ∧
        (k.bad = [] → Tab.getD g.hst.seqs (keySession p) 0 < 0xFFFFFFFF → Completes (.hostEgress p n) s fun t =>
          t.que = ((g.nextSeq (keySession p)).2.hwPop (16 * p + n)).2.que ∧
          ∃ b, t.out = g.out ++ [⟨.netHost, p, if n ≤ 5 then 2 else 4, b⟩] ∧
            b.drop 16 = k.data.take (if n ≤ 5 then 8 + uAt k.data 4 2 else k.data.length)))) ∧
    (∀ enc cls sub code, 
      (g.bit HST_SPI_CFG 0 = false → ∀ busy, Completes (.spiWriteDatagram h enc cls sub code busy) s (· = g)) ∧
      (g.bit HST_SPI_CFG 0 = true → Completes (.spiWriteDatagram h enc cls sub code true) s (· = g.count NET_RX_DROP)) ∧
      (g.bit HST_SPI_CFG 0 = true → g.accept { h with spi := true } = (true, e) → enc = true → cls = 4 →
        (e.q (16 * q + 8 + sub % 4)).on = true → h.body ≠ [] →
        Completes (.spiWriteDatagram h enc cls sub code false) s (· = e.hwPush (16 * q + 8 + sub % 4) h.body)) ∧
      (g.bit HST_SPI_CFG 0 = true → g.takes code { h with spi := true } = some (c, e) → enc = true → cls = 1 →
        code = 0x0003 → c.body = [] → OnlyAnswers (.spiWriteDatagram h enc cls sub code false) s c e stDone [])) ∧
    (g.bit HST_SPI_CFG 0 = true →
      (g.hst.spiOut = [] → Completes .spiReadDatagram s (· = g.send .spi 0 3 (leBytes 2 0))) ∧
      (∀ b l, g.hst.spiOut = b :: l → Completes .spiReadDatagram s fun t => t.hst.spiOut = l ∧
        t.pin pinHsIrq = b2n (l = []) ∧ ∃ m, t.out = g.out ++ ⟨.spi, 0, 3, leBytes 2 b.length ++ b⟩ :: m) ∧
      ∀ busy, Completes (.spiStatus busy) s
        (· = g.send .spi 0 5 (leBytes 1 (b2n (g.hst.spiOut ≠ []) + 2 * b2n (!busy))))) ∧
    (g.portTakes p = true →
      (Completes (.datagramRejected p 1 none) s (· = (g.count NET_RX_DROP).raise NET_INT_STAT 4)) ∧
      (Completes (.datagramRejected p 2 none) s (· = g.count NET_DUP)) ∧
      (Completes (.datagramRejected p 0 none) s (· = g.count NET_RX_DROP)) ∧
      ∀ k why, g.acceptMach false k = (some n, e) → uAt k.body 0 1 ∉ [0x21, 0x31, 0x33, 0x52] →
        Completes (.datagramRejected p why (some k)) s (· = e.count NET_RX_DROP)) ∧
    (∀ v6 target asker, p < 3 → g.portTakes p = true → g.linkUp p = true →
      (target = g.ownAddr v6 → Completes (.neighbourDiscovery p v6 target asker) s fun t =>
        ∃ b, t = g.send .netArp p (b2n v6) b) ∧
      (target ≠ g.ownAddr v6 → Completes (.neighbourDiscovery p v6 target asker) s (· = g)))

/-! ## Energy metering -/

/-- METER_SAMPLE of a metered feed adds a phase's energies to the accumulators that the signs of P and Q name, and nothing
for a faulted input. CH_FAULT and RANGE_SWITCH set the input's and the feed's state. INTERVAL_CLOSE ends the interval at
an aligned TB6 second, writes one record for each enabled feed, and saves. POWER_SUMMARY pushes one packet to Q69 and
starts a second. METERING_START continues from VBAT SRAM, the flash save or 0. METER_READ answers records that are in the
ring, METER_PUBKEY 64 bytes, METER_NOW 260. PFAIL_N sets PFAIL and saves. The signal chain's results are operands (log
entry 5). -/
def Obligations.MeteringFollowsItsCommands : Prop :=
  ∀ (s : State) (e : Device) (h : HostPkt) (c : Cmd) (f i : Nat),
    let g := s.dev
    let runs : Prop := g.baseValid 6 = true ∧ g.mtr.on = true ∧ g.bit MTR_CTRL 0 = true
    (∀ ph,
      let x := (g.feed f).phases.getD i phaseZero
      let m := ph.getD i ⟨0, 0, 0, 0, 0⟩
      (g.metered f = false → Completes (.meterSample f ph) s (· = g)) ∧
      (g.metered f = true → i < 3 → x.acc.length = 8 → g.bit (MTR_FEED_CFG f) 4 = false → (g.feed f).blank = 0 →
        (g.phaseFault f i = false → Completes (.meterSample f ph) s fun t =>
          let y := (t.feed f).phases.getD i phaseZero
          let up (k v : Nat) : Prop := y.acc.getD k 0 = x.acc.getD k 0 + v
          (0 ≤ m.p → up 0 (sampleEnergy m.p.natAbs) ∧ up 1 0 ∧ up 6 (sampleEnergy m.s) ∧ up 7 0 ∧
            (0 ≤ m.q → up 2 (sampleEnergy m.q.natAbs) ∧ up 5 0) ∧ (m.q < 0 → up 5 (sampleEnergy m.q.natAbs) ∧ up 2 0)) ∧
          (m.p < 0 → up 1 (sampleEnergy m.p.natAbs) ∧ up 0 0 ∧ up 7 (sampleEnergy m.s) ∧ up 6 0 ∧
            (0 ≤ m.q → up 3 (sampleEnergy m.q.natAbs) ∧ up 4 0) ∧ (m.q < 0 → up 4 (sampleEnergy m.q.natAbs) ∧ up 3 0)) ∧
          (t.feed f).count = (g.feed f).count + 1 ∧ ∀ k, k ≠ f → t.feed k = g.feed k) ∧
        (g.phaseFault f i = true → Completes (.meterSample f ph) s fun t =>
          ((t.feed f).phases.getD i phaseZero).acc = x.acc ∧ bitOf (t.feed f).flags 8 = true))) ∧
    (∀ n level, n < 36 → g.mtr.on = true →
      (g.mtr.faults.contains n = false → Completes (.chFault n level true) s fun t => t.mtr.faults.contains n = true ∧
        t.bit MTR_INT_STAT 3 = true ∧ NewestIs t (blkNum .mtr) 0x0101 n) ∧
      (Completes (.chFault n level false) s fun t => t.mtr.faults.contains n = false ∧ t.regs = g.regs)) ∧
    (∀ b, g.metered f = true →
      (g.bit (MTR_FEED_CFG f) 3 = true ∧ (g.feed f).due = some b ∨ g.bit (MTR_FEED_CFG f) 3 = false ∧
        (g.feed f).fine ≠ b ∧ g.bit (MTR_FEED_CFG f) 5 = b) → (b = true → (g.feed f).blank = 0) →
      Completes (.rangeSwitch f) s fun t => (t.feed f).fine = b ∧ (t.feed f).blank = 32 ∧ (t.feed f).due = none ∧
        (t.feed f).switches = (g.feed f).switches + 1 ∧ t.bit MTR_INT_STAT 4 = true ∧ t.pin (pinRange f) = b2n b ∧
        (t.feed f).total = (g.feed f).total) ∧
    (∀ tags, runs → Completes (.intervalClose tags) s fun t =>
      let at_ := closeFrom g.mtr.len g.mtr.align (Nat.max (g.mtr.lastClose.getD 0 + 1) g.tb6Sec)
      t.mtr.lastClose = some at_ ∧ ((at_ : Int) + g.mtr.align) % (60 * (if g.mtr.len = 0 then 1 else g.mtr.len) : Nat) = 0 ∧
        t.rdN MTR_SEQ = (g.rdN MTR_SEQ + g.feedsOn.length) % 2 ^ 32 ∧ t.bit MTR_INT_STAT 0 = true ∧
        (∀ k ∈ g.feedsOn, (t.feed k).closed = (g.feed k).total ∧ (t.feed k).reversals = 0 ∧ (t.feed k).flags = 0 ∧
          (t.feed k).total = (g.feed k).total) ∧ ∃ at', t.mtr.saved = some (at', t.mtr.feeds)) ∧
    (runs → Completes .powerSummary s fun t => ∃ (x : Device) (pkt : Bytes),
      t = (x.hwPush 69 pkt).raiseIf (!x.canPush 69 pkt) MTR_INT_STAT 5 ∧ pkt.length = 8 + 16 * g.feedsOn.length ∧
        uAt pkt 0 1 = 0xB2 ∧ uAt pkt 1 1 = g.feedsOn.length ∧ g.mtr.lastSum < x.mtr.lastSum ∧
        ∀ k ∈ g.feedsOn, (x.feed k).count = 0 ∧ (x.feed k).total = (g.feed k).total) ∧
    (∀ vbat flash tags, f < 8 → Completes (.meteringStart vbat flash tags) s fun t =>
      let kept := if vbat then g.mtr.feeds else if flash then (g.mtr.saved.getD (0, [])).2 else []
      t.mtr.on = true ∧ t.mtr.faults = [] ∧ t.mtr.retained = vbat ∧ (t.feed f).total = (Tab.getD kept f feedZero).total ∧
        (t.feed f).fine = false ∧ (g.baseValid 6 = false → t.mtr.gap.isSome = true ∧ t.regs = g.regs) ∧
        (g.baseValid 6 = true → t.mtr.gap = none ∧ t.bit MTR_INT_STAT 1 = true ∧
          t.rdN MTR_SEQ = (g.rdN MTR_SEQ + g.feedsOn.length) % 2 ^ 32)) ∧
    (g.takes 0x0800 h = some (c, e) → c.body.length = 8 → e.right c.part rMeter = true → uAt c.body 5 3 = 0 →
      let q := uAt c.body 0 4
      let n := uAt c.body 4 1
      1 ≤ n → n ≤ 8 →
      (e.inRing q = false → OnlyAnswers (.meterRead h) s c e stNotFound []) ∧
      (e.inRing q = true → OnlyAnswers (.meterRead h) s c e stDone
        ((((List.range n).map (q + ·)).takeWhile e.inRing).map fun k => e.memRead (e.ringAddr k) 128).flatten)) ∧
    (g.takes 0x0801 h = some (c, e) → c.body = [] → e.right c.part rMeter = true →
      (e.keyed = false ∨ e.keyIs 10 0 = false → OnlyAnswers (.meterPubkey h) s c e stNotFound []) ∧
      (e.keyed = true → e.keyIs 10 0 = true → ∃ b : Bytes, b.length = 64 ∧ OnlyAnswers (.meterPubkey h) s c e stDone b)) ∧
    (g.takes 0x0802 h = some (c, e) → c.body.length = 4 → e.right c.part rMeter = true →
      (uAt c.body 0 1 < 8 → uAt c.body 1 3 = 0 → ∃ b : Bytes, OnlyAnswers (.meterNow h) s c e stDone b ∧ b.length = 260 ∧
        uAt b 0 4 = e.tb6Sec % 2 ^ 32 ∧ ∀ k, k < 8 → uAt b (4 + 64 * 3 + 8 * k) 8 =
          (e.feed (uAt c.body 0 1)).total.getD k 0 / 2 ^ 32 % 2 ^ 64) ∧
      (8 ≤ uAt c.body 0 1 ∨ uAt c.body 1 3 ≠ 0 → OnlyAnswers (.meterNow h) s c e stRejected [])) ∧
    (Completes .pfailN s fun t => t.bit PWR_INT_STAT 0 = true ∧
      (g.mtr.on = true → t.mtr.saved = some (g.tb6Sec, g.mtr.feeds) ∧ t.rdN MTR_SAVE_S = g.tb6Sec % 2 ^ 32) ∧
      (g.mtr.on = false → t.mtr = g.mtr))

/-! ## What a command leaves alone -/

/-- The device `d` with only those parts replaced by those of `e` that the command's own units hold: for every operation
of an anvil that works on its registers alone, every host command that only waits or is answered, and the commands of one
unit. The other commands reach further, and `e` stands whole for them. -/
def Sys2Proof.Claims.ownUnits (c : Instr) (d e : Device) : Device :=
  match c with
  | .exclusionExpiry .. => { d with alo := e.alo }
  | .nop .. | .alu .. | .addi .. | .andi .. | .ori .. | .xori .. | .shi .. | .cmp .. | .cmpi .. | .plog ..
  | .movq .. | .br .. | .brl .. | .jr .. | .loop .. | .loopi .. | .mfs .. | .mts .. | .pad .. | .ends ..
  | .mul .. | .fopD .. | .fmaD .. | .fcvt .. | .fcmp .. | .frnd .. | .twosum .. | .twoprod ..
  | .cycsplit .. | .vopI .. | .vopS .. | .vopD .. | .vfmaS .. | .vfmaD .. | .vcmpI .. | .vcmpS ..
  | .vcmpD .. | .vcvt .. | .vred .. | .vperm .. | .vbcast .. | .vmovx .. | .vins .. | .zredGauss ..
  | .zredSwap .. | .zsrchInit .. | .zsrchStep .. | .qstat .. | .gwr .. | .illegalBundle ..
    => { d with fab := e.fab }
  | .transferExpiry .. | .quarantineExpiry .. | .batteryStale .. | .nodeResync .. => { d with flt := e.flt }
  | .spoofAlarmClear .. | .signalAcquired .. | .load .. | .surveyAbort .. => { d with gns := e.gns }
  | .clearAll .. => { d with keys := e.keys }
  | .errPick .. | .errClear .. => { d with log := e.log }
  | .markerLock .. => { d with mac := e.mac }
  | .meterSample .. => { d with mtr := e.mtr }
  | .spiStatus .. | .neighbourDiscovery .. | .jtagInstruction .. => { d with out := e.out }
  | .sysWdog .. => { d with pwr := e.pwr }
  | .handOver .. => { d with que := e.que }
  | .portDisplaced .. | .govBankSwap .. | .capture .. | .trimClear .. | .hauraFrameDiscard ..
    => { d with regs := e.regs }
  | .filterReset .. | .atlasEvidence .. => { d with slv := e.slv }
  | .stopInputChange .. => { d with stp := e.stp }
  | .timSnap .. | .rejoin .. => { d with tim := e.tim }
  | .rtcSet .. => { d with tmp := e.tmp }
  | .broadcastKeyRoll .. => { d with cor := e.cor, keys := e.keys }
  | .qmark .. | .qrwnd .. | .qrel .. => { d with que := e.que, fab := e.fab }
  | .svcEn .. => { d with regs := e.regs, boot := e.boot }
  | .triggerEnable .. => { d with regs := e.regs, dsp := e.dsp }
  | .admitVariant .. => { d with regs := e.regs, fab := e.fab }
  | .stale .. | .frozen .. => { d with regs := e.regs, flt := e.flt }
  | .surveyStart .. => { d with regs := e.regs, gns := e.gns }
  | .zoneTtl .. => { d with regs := e.regs, gov := e.gov }
  | .linkChange .. => { d with regs := e.regs, hst := e.hst }
  | .transceiverPllUnlock .. => { d with regs := e.regs, log := e.log }
  | .pfailN .. => { d with regs := e.regs, mtr := e.mtr }
  | .compareTargetWrite .. => { d with regs := e.regs, out := e.out }
  | .wakeIn .. => { d with regs := e.regs, pwr := e.pwr }
  | .queFlush .. | .flushEffect .. | .flushSettle .. => { d with regs := e.regs, que := e.que }
  | .sealAhead .. => { d with regs := e.regs, stp := e.stp }
  | .powerGateEnd .. | .holdoverEntry .. | .tb0Locked .. | .ptpAnnounceTimeout ..
    => { d with regs := e.regs, tim := e.tim }
  | .claimRefresh .. | .revertReq .. => { d with tim := e.tim, pair := e.pair }
  | .catchUpUpdate .. => { d with tim := e.tim, slv := e.slv }
  | .discClear .. | .minRepetitionEnd .. => { d with tim := e.tim, stp := e.stp }
  | .broadcastKeyGenerate .. => { d with cor := e.cor, keys := e.keys, hst := e.hst }
  | .spiReadDatagram .. => { d with hst := e.hst, pins := e.pins, out := e.out }
  | .svcAuth .. | .svcSetBaud .. | .svcWriteRecovery .. | .svcRestore .. | .svcOtpWrite ..
  | .svcConfigWrite .. | .svcConfigRead .. => { d with regs := e.regs, boot := e.boot, out := e.out }
  | .regionChange .. => { d with regs := e.regs, flt := e.flt, gov := e.gov }
  | .rsvGraphCheck .. | .rsvDisable .. | .pauseSat .. => { d with regs := e.regs, flt := e.flt, rsv := e.rsv }
  | .refPositionCheck .. | .surveyCommit .. => { d with regs := e.regs, gns := e.gns, log := e.log }
  | .sessionTimeout .. => { d with regs := e.regs, keys := e.keys, hst := e.hst }
  | .misalignedAccess .. => { d with regs := e.regs, log := e.log, bus := e.bus }
  | .markerError .. => { d with regs := e.regs, log := e.log, mac := e.mac }
  | .chFault .. => { d with regs := e.regs, log := e.log, mtr := e.mtr }
  | .hbLost .. | .release .. => { d with regs := e.regs, log := e.log, pair := e.pair }
  | .stateRequest .. => { d with regs := e.regs, log := e.log, pwr := e.pwr }
  | .qpush .. | .qseal .. => { d with regs := e.regs, que := e.que, fab := e.fab }
  | .marginReading .. | .trimStep .. => { d with regs := e.regs, tim := e.tim, age := e.age }
  | .svcSessionTimeout .. => { d with regs := e.regs, tim := e.tim, boot := e.boot }
  | .masterChange .. => { d with regs := e.regs, tim := e.tim, log := e.log }
  | .compareFire .. | .ptpMessage .. => { d with regs := e.regs, tim := e.tim, out := e.out }
  | .rtcAlarm .. => { d with regs := e.regs, tim := e.tim, pwr := e.pwr }
  | .centralSolve .. => { d with tim := e.tim, slv := e.slv, flt := e.flt }
  | .solveEnrol .. | .atlasRead .. | .atlasWrite .. | .atlasClear .. | .machineAdmit ..
  | .machineRelease .. | .ownerOffer .. | .ownerAccept .. | .readGrant .. | .nodeRead .. | .machineRead ..
  | .nodeAllow .. | .graphWrite .. | .graphCheck .. | .routeRequest .. | .routeCommit .. | .routeAbandon ..
  | .taskPost .. | .taskCancel .. | .auctionNow .. | .dockCfg .. | .siteLoad .. | .govCoef .. | .govSwap ..
  | .govMachine .. | .govOverride .. | .govRead .. | .sessionClose .. | .ping .. | .mcastKey ..
  | .meterRead .. | .meterPubkey .. | .meterNow .. | .keyLoad .. | .keyUnload .. | .keyInvalidate ..
  | .keyStatus .. => { d with regs := e.regs, que := e.que, keys := e.keys, hst := e.hst, pair := e.pair }
  | _ => e

/-- For every state, and for each command that a table lists with the parts of the device that its units hold: when exec
answers a next state, the waiting commands and every part of the device that the table does not give the command are as
before. An anvil's register operations leave everything but the anvils; a host command that waits for the heat boundary,
or is only answered, leaves everything but the registers, the queues, the key slots of a session taken over, the host
sessions and the pair's note of a configuration; the commands of one unit leave every other unit. -/
def Obligations.CommandsLeaveOtherUnitsAlone : Prop :=
  ∀ (c : Instr) (s t : State), exec c s = .next t →
    t = { pending := s.pending, dev := ownUnits c s.dev t.dev }
end

