-- ==== Sys2Proof/Laws/Tab.lean ====
section
/-!
SUPPORT. Laws/Tab.lean: reading a table after writing it, and what a write keeps of its canonical form.
-/
namespace Sys2Proof

@[simp] theorem Tab.find_nil {α : Type} (i : Nat) : Tab.find ([] : Tab α) i = none := rfl

theorem Tab.find_put {α : Type} (t : Tab α) (i j : Nat) (v : α) :
    Tab.find (Tab.put t i v) j = if j = i then some v else Tab.find t j := by
  induction t with
  | nil => by_cases h : j = i <;> simp [Tab.put, Tab.find, h]
  | cons e t ih =>
    obtain ⟨k, w⟩ := e
    simp only [Tab.put]
    split
    · simp only [Tab.find]
    · split
      · subst i; simp only [Tab.find]; split <;> rfl
      · rename_i h2
        simp only [Tab.find, ih]
        by_cases hjk : j = k
        · subst j; simp [Ne.symm h2]
        · simp [hjk]

theorem Tab.find_del {α : Type} (t : Tab α) (i j : Nat) :
    Tab.find (Tab.del t i) j = if j = i then none else Tab.find t j := by
  induction t with
  | nil => simp [Tab.del]
  | cons e t ih =>
    obtain ⟨k, w⟩ := e
    simp only [Tab.del]
    split
    · rename_i h
      rw [ih]
      by_cases hj : j = i
      · simp [hj]
      · simp [hj, Tab.find, ← h]
    · rename_i h
      simp only [Tab.find, ih]
      by_cases hj : j = k
      · subst hj; simp [Ne.symm h]
      · simp [hj]

@[simp] theorem Tab.find_put_self {α : Type} (t : Tab α) (i : Nat) (v : α) : Tab.find (Tab.put t i v) i = some v := by
  simp [Tab.find_put]

@[simp] theorem Tab.getD_put_self {α : Type} (t : Tab α) (i : Nat) (v d : α) : Tab.getD (Tab.put t i v) i d = v := by
  simp [Tab.getD]

theorem Tab.getD_put_ne {α : Type} (t : Tab α) {i j : Nat} (h : j ≠ i) (v d : α) :
    Tab.getD (Tab.put t i v) j d = Tab.getD t j d := by
  simp [Tab.getD, Tab.find_put, h]

/-- A canonical table reads as it was written. -/
theorem Tab.getD_set {α : Type} [DecidableEq α] (t : Tab α) (i j : Nat) (v d : α) :
    Tab.getD (Tab.set d t i v) j d = if j = i then v else Tab.getD t j d := by
  unfold Tab.set Tab.getD
  by_cases hv : v = d <;> by_cases hj : j = i <;> simp [hv, hj, Tab.find_put, Tab.find_del]

@[simp] theorem Tab.put_put {α : Type} (t : Tab α) (i : Nat) (v w : α) :
    Tab.put (Tab.put t i v) i w = Tab.put t i w := by
  induction t with
  | nil => simp [Tab.put]
  | cons e t ih =>
    obtain ⟨k, x⟩ := e
    by_cases h1 : i < k
    · simp [Tab.put, h1]
    · by_cases h2 : i = k
      · subst h2; simp [Tab.put]
      · simp [Tab.put, h1, h2, ih]

theorem Tab.risingFrom_mono {α : Type} (t : Tab α) {b c : Nat} (h : b ≤ c) (hc : Tab.risingFrom c t = true) :
    Tab.risingFrom b t = true := by
  cases t with
  | nil => rfl
  | cons e t =>
    obtain ⟨k, w⟩ := e
    simp only [Tab.risingFrom, Bool.and_eq_true, decide_eq_true_eq] at hc ⊢
    exact ⟨by omega, hc.2⟩

theorem Tab.risingFrom_put {α : Type} (t : Tab α) (b i : Nat) (v : α) (hb : b ≤ i) (h : Tab.risingFrom b t = true) :
    Tab.risingFrom b (Tab.put t i v) = true := by
  induction t generalizing b with
  | nil => simp [Tab.put, Tab.risingFrom, hb]
  | cons e t ih =>
    obtain ⟨k, w⟩ := e
    simp only [Tab.risingFrom, Bool.and_eq_true, decide_eq_true_eq] at h
    simp only [Tab.put]
    split
    · simp only [Tab.risingFrom, Bool.and_eq_true, decide_eq_true_eq]
      exact ⟨hb, by omega, h.2⟩
    · split
      · subst i
        simp only [Tab.risingFrom, Bool.and_eq_true, decide_eq_true_eq]
        exact h
      · simp only [Tab.risingFrom, Bool.and_eq_true, decide_eq_true_eq]
        exact ⟨h.1, ih (k + 1) (by omega) h.2⟩

theorem Tab.risingFrom_del {α : Type} (t : Tab α) (b i : Nat) (h : Tab.risingFrom b t = true) :
    Tab.risingFrom b (Tab.del t i) = true := by
  induction t generalizing b with
  | nil => rfl
  | cons e t ih =>
    obtain ⟨k, w⟩ := e
    simp only [Tab.risingFrom, Bool.and_eq_true, decide_eq_true_eq] at h
    simp only [Tab.del]
    split
    · exact ih b (Tab.risingFrom_mono t (by omega) h.2)
    · simp only [Tab.risingFrom, Bool.and_eq_true, decide_eq_true_eq]
      exact ⟨h.1, ih (k + 1) h.2⟩

theorem Tab.all_put {α : Type} (p : Nat × α → Bool) (t : Tab α) (i : Nat) (v : α) (hv : p (i, v) = true)
    (h : t.all p = true) : (Tab.put t i v).all p = true := by
  induction t with
  | nil => simp [Tab.put, hv]
  | cons e t ih =>
    obtain ⟨k, w⟩ := e
    simp only [List.all_cons, Bool.and_eq_true] at h
    simp only [Tab.put]
    split
    · simp only [List.all_cons, Bool.and_eq_true]; exact ⟨hv, h.1, h.2⟩
    · split
      · subst i; simp only [List.all_cons, Bool.and_eq_true]; exact ⟨hv, h.2⟩
      · simp only [List.all_cons, Bool.and_eq_true]; exact ⟨h.1, ih h.2⟩

theorem Tab.all_del {α : Type} (p : Nat × α → Bool) (t : Tab α) (i : Nat) (h : t.all p = true) :
    (Tab.del t i).all p = true := by
  induction t with
  | nil => rfl
  | cons e t ih =>
    obtain ⟨k, w⟩ := e
    simp only [List.all_cons, Bool.and_eq_true] at h
    simp only [Tab.del]
    split
    · exact ih h.2
    · simp only [List.all_cons, Bool.and_eq_true]; exact ⟨h.1, ih h.2⟩

/-- A write keeps the canonical form. -/
theorem Tab.wf_set {α : Type} [DecidableEq α] (d : α) (t : Tab α) (i : Nat) (v : α) (h : Tab.wf d t = true) :
    Tab.wf d (Tab.set d t i v) = true := by
  simp only [Tab.wf, Bool.and_eq_true] at h ⊢
  simp only [Tab.set]
  split
  · exact ⟨Tab.risingFrom_del t 0 i h.1, Tab.all_del _ t i h.2⟩
  · rename_i hv
    exact ⟨Tab.risingFrom_put t 0 i v (Nat.zero_le _) h.1, Tab.all_put _ t i v (by simpa using hv) h.2⟩

theorem Tab.risingFrom_filter {α : Type} (p : Nat × α → Bool) (t : Tab α) (b : Nat) (h : Tab.risingFrom b t = true) :
    Tab.risingFrom b (t.filter p) = true := by
  induction t generalizing b with
  | nil => rfl
  | cons e t ih =>
    obtain ⟨k, w⟩ := e
    simp only [Tab.risingFrom, Bool.and_eq_true, decide_eq_true_eq] at h
    simp only [List.filter_cons]
    split
    · simp only [Tab.risingFrom, Bool.and_eq_true, decide_eq_true_eq]
      exact ⟨h.1, ih (k + 1) h.2⟩
    · exact ih b (Tab.risingFrom_mono t (by omega) h.2)

/-- Dropping entries keeps the canonical form. -/
theorem Tab.wf_filter {α : Type} [DecidableEq α] (d : α) (p : Nat × α → Bool) (t : Tab α) (h : Tab.wf d t = true) :
    Tab.wf d (t.filter p) = true := by
  simp only [Tab.wf, Bool.and_eq_true] at h ⊢
  refine ⟨Tab.risingFrom_filter p t 0 h.1, ?_⟩
  rw [List.all_eq_true] at h ⊢
  intro x hx
  exact h.2 x (List.mem_filter.mp hx).1

end Sys2Proof
end

