-- ==== Sys2Proof/Laws/Issue.lean ====
section
/-!
SUPPORT. Laws/Issue.lean: what `Device.issue` does: an operation that joins its bundle gives it its results, one that is
suppressed gives it none, and one that is illegal leaves the ILLEGAL exception.
-/
namespace Sys2Proof.Machine

@[simp] theorem Device.anv_setAnv (d : Device) (a : Nat) (v : Anvil) : (d.setAnv a v).anv a = v := by
  simp [Device.anv, Device.setAnv]

@[simp] theorem Device.setAnv_setAnv (d : Device) (a : Nat) (v w : Anvil) : (d.setAnv a v).setAnv a w = d.setAnv a w := by
  simp [Device.setAnv]

theorem Device.anv_setAnv_ne (d : Device) {a c : Nat} (h : c ≠ a) (v : Anvil) : (d.setAnv a v).anv c = d.anv c := by
  simp [Device.anv, Device.setAnv, Tab.getD_put_ne _ h]

theorem RSet.hazard_nil (r : RSet) (s : Slot) (h : r.pend = []) : r.hazard s = false := by
  simp [RSet.hazard, h]

/-- The hazard test of an operation that joins its bundle finds none. -/
theorem Device.joins_hazard (d : Device) (i : Iss) (slot : Nat) (l : List (Nat × Nat)) (b : Bundle) (s : Slot)
    (h : d.joins i slot l b) :
    (!decide (i.set = 0) && (d.setOf i).hazard s) = false := by
  obtain ⟨-, -, -, -, -, h⟩ := h
  rcases h with h | h
  · simp [h]
  · simp [RSet.hazard_nil _ _ h]

/-- The destinations of an operation that joins its bundle are named once. -/
theorem Device.joins_clash (d : Device) (i : Iss) (slot : Nat) (l : List (Nat × Nat)) (b : Bundle)
    (h : d.joins i slot l b) : l.any b.dests.contains = false := by
  obtain ⟨-, -, -, -, h, -⟩ := h
  rw [List.any_eq_false]
  intro x hx
  simpa using h x hx

/-- An operation that is legal, waits for nothing, raises nothing and whose guard is open gives its bundle its results,
and nothing else of the device changes. -/
theorem Device.issue_joins (d : Device) (i : Iss) (slot : Nat) (vec : Bool) (f : Anvil → RSet → Nat → Slot) (b : Bundle)
    (hj : d.joins i slot (f (d.anv i.anvil) (d.setOf i) (guardOf (d.setOf i) i)).dsts b)
    (hon : (if vec then guardOf (d.setOf i) i % 256 ≠ 0 else bitOf (guardOf (d.setOf i) i) 0 = true))
    (hill : (f (d.anv i.anvil) (d.setOf i) (guardOf (d.setOf i) i)).ill = false)
    (hexc : (f (d.anv i.anvil) (d.setOf i) (guardOf (d.setOf i) i)).exc = none)
    (hwait : (f (d.anv i.anvil) (d.setOf i) (guardOf (d.setOf i) i)).wait = false)
    (hnd : (f (d.anv i.anvil) (d.setOf i) (guardOf (d.setOf i) i)).dsts.eraseDups.length =
      (f (d.anv i.anvil) (d.setOf i) (guardOf (d.setOf i) i)).dsts.length)
    (hact : (f (d.anv i.anvil) (d.setOf i) (guardOf (d.setOf i) i)).act = fun e => ([], e))
    (hexcU : ((f (d.anv i.anvil) (d.setOf i) (guardOf (d.setOf i) i)).upd
      (b.plus slot (f (d.anv i.anvil) (d.setOf i) (guardOf (d.setOf i) i)).dsts
        (f (d.anv i.anvil) (d.setOf i) (guardOf (d.setOf i) i)).new
        (f (d.anv i.anvil) (d.setOf i) (guardOf (d.setOf i) i)).flags)).exc = none)
    (hwaitU : ((f (d.anv i.anvil) (d.setOf i) (guardOf (d.setOf i) i)).upd
      (b.plus slot (f (d.anv i.anvil) (d.setOf i) (guardOf (d.setOf i) i)).dsts
        (f (d.anv i.anvil) (d.setOf i) (guardOf (d.setOf i) i)).new
        (f (d.anv i.anvil) (d.setOf i) (guardOf (d.setOf i) i)).flags)).wait = false) :
    d.issue i slot vec f = d.withBundle i ((f (d.anv i.anvil) (d.setOf i) (guardOf (d.setOf i) i)).upd
      (b.plus slot (f (d.anv i.anvil) (d.setOf i) (guardOf (d.setOf i) i)).dsts
        (f (d.anv i.anvil) (d.setOf i) (guardOf (d.setOf i) i)).new
        (f (d.anv i.anvil) (d.setOf i) (guardOf (d.setOf i) i)).flags)) := by
  have hclash := d.joins_clash i slot _ b hj
  have hhaz := fun s => d.joins_hazard i slot _ b s hj
  obtain ⟨hb, he, hw, hr, -, -⟩ := hj
  unfold Device.issue
  simp only [Device.setOf] at *
  rw [hb]
  generalize hs : f (d.anv i.anvil) ((d.anv i.anvil).rset i.set)
    (guardOf ((d.anv i.anvil).rset i.set) i) = s at *
  have hjoin : b.join slot s true false false =
      s.upd (b.plus slot s.dsts s.new s.flags) := by
    simp [Bundle.join, Bundle.plus, hill, hclash, hnd, hexc, hwait, hw]
  cases vec <;> simp at hon <;>
    simp [hon, hhaz, hr, hjoin, hexcU, hwaitU, hact, Device.withBundle] <;>
    generalize s.upd _ = u at * <;> cases u <;> simp_all

/-- A suppressed operation only takes its slot (R244). -/
theorem Device.issue_suppressed (d : Device) (i : Iss) (slot : Nat) (vec : Bool) (f : Anvil → RSet → Nat → Slot)
    (b : Bundle)
    (hj : d.joins i slot (f (d.anv i.anvil) (d.setOf i) (guardOf (d.setOf i) i)).dsts b)
    (hoff : (if vec then guardOf (d.setOf i) i % 256 = 0 else bitOf (guardOf (d.setOf i) i) 0 = false))
    (hill : (f (d.anv i.anvil) (d.setOf i) (guardOf (d.setOf i) i)).ill = false)
    (hnd : (f (d.anv i.anvil) (d.setOf i) (guardOf (d.setOf i) i)).dsts.eraseDups.length =
      (f (d.anv i.anvil) (d.setOf i) (guardOf (d.setOf i) i)).dsts.length) :
    d.issue i slot vec f = d.withBundle i
      (b.plus slot (f (d.anv i.anvil) (d.setOf i) (guardOf (d.setOf i) i)).dsts [] 0) := by
  have hclash := d.joins_clash i slot _ b hj
  have hhaz := fun s => d.joins_hazard i slot _ b s hj
  obtain ⟨hb, he, hw, hr, -, -⟩ := hj
  unfold Device.issue
  simp only [Device.setOf] at *
  rw [hb]
  generalize hs : f (d.anv i.anvil) ((d.anv i.anvil).rset i.set)
    (guardOf ((d.anv i.anvil).rset i.set) i) = s at *
  have hjoin : b.join slot s false false false = b.plus slot s.dsts [] 0 := by
    simp [Bundle.join, Bundle.plus, hill, hclash, hnd, hw, flOr]
  cases vec <;> simp at hoff <;> simp [hoff, hhaz, hr, hjoin, Device.withBundle]

/-- The frame of an issued operation that does nothing at once: only the bundle of its anvil changes. -/
theorem Device.issue_frame (d : Device) (i : Iss) (slot : Nat) (vec : Bool) (f : Anvil → RSet → Nat → Slot)
    (hact : (f (d.anv i.anvil) (d.setOf i) (guardOf (d.setOf i) i)).act = fun e => ([], e)) :
    d.issue i slot vec f = d ∨ ∃ b, d.issue i slot vec f = d.withBundle i b := by
  unfold Device.issue
  cases hb : d.bundleFor i slot with
  | none => exact .inl rfl
  | some b =>
    refine .inr ?_
    simp only [Device.setOf] at hact
    have key : ∀ (p : Prop) [Decidable p] (x y : Device), (∃ c, x = d.withBundle i c) → (∃ c, y = d.withBundle i c) →
        ∃ c, (if p then x else y) = d.withBundle i c := by
      intro p _ x y hx hy
      split
      · exact hx
      · exact hy
    refine key _ _ _ ?_ ⟨_, rfl⟩
    simp only [hact, Device.anv_setAnv, Device.setAnv_setAnv, Option.map_some, List.append_nil]
    exact ⟨_, rfl⟩

end Sys2Proof.Machine
end

