-- ==== Sys2Proof/Laws/State.lean ====
section
/-!
SUPPORT. Laws/State.lean: what each update of one part of the device leaves in the other parts. Every lemma holds by
computation; with them no proof unfolds an update.
-/
namespace Sys2Proof.Machine

/-! ## wr -/

@[simp] theorem Device.wr_tim (d : Device) (r : Reg) (v : Word) : (d.wr r v).tim = d.tim := rfl
@[simp] theorem Device.wr_gns (d : Device) (r : Reg) (v : Word) : (d.wr r v).gns = d.gns := rfl
@[simp] theorem Device.wr_cor (d : Device) (r : Reg) (v : Word) : (d.wr r v).cor = d.cor := rfl
@[simp] theorem Device.wr_slv (d : Device) (r : Reg) (v : Word) : (d.wr r v).slv = d.slv := rfl
@[simp] theorem Device.wr_log (d : Device) (r : Reg) (v : Word) : (d.wr r v).log = d.log := rfl
@[simp] theorem Device.wr_que (d : Device) (r : Reg) (v : Word) : (d.wr r v).que = d.que := rfl
@[simp] theorem Device.wr_keys (d : Device) (r : Reg) (v : Word) : (d.wr r v).keys = d.keys := rfl
@[simp] theorem Device.wr_tmp (d : Device) (r : Reg) (v : Word) : (d.wr r v).tmp = d.tmp := rfl
@[simp] theorem Device.wr_hst (d : Device) (r : Reg) (v : Word) : (d.wr r v).hst = d.hst := rfl
@[simp] theorem Device.wr_stp (d : Device) (r : Reg) (v : Word) : (d.wr r v).stp = d.stp := rfl
@[simp] theorem Device.wr_pair (d : Device) (r : Reg) (v : Word) : (d.wr r v).pair = d.pair := rfl
@[simp] theorem Device.wr_flt (d : Device) (r : Reg) (v : Word) : (d.wr r v).flt = d.flt := rfl
@[simp] theorem Device.wr_rsv (d : Device) (r : Reg) (v : Word) : (d.wr r v).rsv = d.rsv := rfl
@[simp] theorem Device.wr_alo (d : Device) (r : Reg) (v : Word) : (d.wr r v).alo = d.alo := rfl
@[simp] theorem Device.wr_gov (d : Device) (r : Reg) (v : Word) : (d.wr r v).gov = d.gov := rfl
@[simp] theorem Device.wr_fab (d : Device) (r : Reg) (v : Word) : (d.wr r v).fab = d.fab := rfl
@[simp] theorem Device.wr_mem (d : Device) (r : Reg) (v : Word) : (d.wr r v).mem = d.mem := rfl
@[simp] theorem Device.wr_dsp (d : Device) (r : Reg) (v : Word) : (d.wr r v).dsp = d.dsp := rfl
@[simp] theorem Device.wr_mac (d : Device) (r : Reg) (v : Word) : (d.wr r v).mac = d.mac := rfl
@[simp] theorem Device.wr_mtr (d : Device) (r : Reg) (v : Word) : (d.wr r v).mtr = d.mtr := rfl
@[simp] theorem Device.wr_boot (d : Device) (r : Reg) (v : Word) : (d.wr r v).boot = d.boot := rfl
@[simp] theorem Device.wr_pwr (d : Device) (r : Reg) (v : Word) : (d.wr r v).pwr = d.pwr := rfl
@[simp] theorem Device.wr_age (d : Device) (r : Reg) (v : Word) : (d.wr r v).age = d.age := rfl
@[simp] theorem Device.wr_pins (d : Device) (r : Reg) (v : Word) : (d.wr r v).pins = d.pins := rfl
@[simp] theorem Device.wr_out (d : Device) (r : Reg) (v : Word) : (d.wr r v).out = d.out := rfl
@[simp] theorem Device.wr_bus (d : Device) (r : Reg) (v : Word) : (d.wr r v).bus = d.bus := rfl
@[simp] theorem Device.wr_hiLatch (d : Device) (r : Reg) (v : Word) : (d.wr r v).hiLatch = d.hiLatch := rfl
@[simp] theorem Device.wr_loHeld (d : Device) (r : Reg) (v : Word) : (d.wr r v).loHeld = d.loHeld := rfl
@[simp] theorem Device.wr_freeIx (d : Device) (r : Reg) (v : Word) : (d.wr r v).freeIx = d.freeIx := rfl

/-! ## wrN -/

@[simp] theorem Device.wrN_tim (d : Device) (r : Reg) (v : Nat) : (d.wrN r v).tim = d.tim := rfl
@[simp] theorem Device.wrN_gns (d : Device) (r : Reg) (v : Nat) : (d.wrN r v).gns = d.gns := rfl
@[simp] theorem Device.wrN_cor (d : Device) (r : Reg) (v : Nat) : (d.wrN r v).cor = d.cor := rfl
@[simp] theorem Device.wrN_slv (d : Device) (r : Reg) (v : Nat) : (d.wrN r v).slv = d.slv := rfl
@[simp] theorem Device.wrN_log (d : Device) (r : Reg) (v : Nat) : (d.wrN r v).log = d.log := rfl
@[simp] theorem Device.wrN_que (d : Device) (r : Reg) (v : Nat) : (d.wrN r v).que = d.que := rfl
@[simp] theorem Device.wrN_keys (d : Device) (r : Reg) (v : Nat) : (d.wrN r v).keys = d.keys := rfl
@[simp] theorem Device.wrN_tmp (d : Device) (r : Reg) (v : Nat) : (d.wrN r v).tmp = d.tmp := rfl
@[simp] theorem Device.wrN_hst (d : Device) (r : Reg) (v : Nat) : (d.wrN r v).hst = d.hst := rfl
@[simp] theorem Device.wrN_stp (d : Device) (r : Reg) (v : Nat) : (d.wrN r v).stp = d.stp := rfl
@[simp] theorem Device.wrN_pair (d : Device) (r : Reg) (v : Nat) : (d.wrN r v).pair = d.pair := rfl
@[simp] theorem Device.wrN_flt (d : Device) (r : Reg) (v : Nat) : (d.wrN r v).flt = d.flt := rfl
@[simp] theorem Device.wrN_rsv (d : Device) (r : Reg) (v : Nat) : (d.wrN r v).rsv = d.rsv := rfl
@[simp] theorem Device.wrN_alo (d : Device) (r : Reg) (v : Nat) : (d.wrN r v).alo = d.alo := rfl
@[simp] theorem Device.wrN_gov (d : Device) (r : Reg) (v : Nat) : (d.wrN r v).gov = d.gov := rfl
@[simp] theorem Device.wrN_fab (d : Device) (r : Reg) (v : Nat) : (d.wrN r v).fab = d.fab := rfl
@[simp] theorem Device.wrN_mem (d : Device) (r : Reg) (v : Nat) : (d.wrN r v).mem = d.mem := rfl
@[simp] theorem Device.wrN_dsp (d : Device) (r : Reg) (v : Nat) : (d.wrN r v).dsp = d.dsp := rfl
@[simp] theorem Device.wrN_mac (d : Device) (r : Reg) (v : Nat) : (d.wrN r v).mac = d.mac := rfl
@[simp] theorem Device.wrN_mtr (d : Device) (r : Reg) (v : Nat) : (d.wrN r v).mtr = d.mtr := rfl
@[simp] theorem Device.wrN_boot (d : Device) (r : Reg) (v : Nat) : (d.wrN r v).boot = d.boot := rfl
@[simp] theorem Device.wrN_pwr (d : Device) (r : Reg) (v : Nat) : (d.wrN r v).pwr = d.pwr := rfl
@[simp] theorem Device.wrN_age (d : Device) (r : Reg) (v : Nat) : (d.wrN r v).age = d.age := rfl
@[simp] theorem Device.wrN_pins (d : Device) (r : Reg) (v : Nat) : (d.wrN r v).pins = d.pins := rfl
@[simp] theorem Device.wrN_out (d : Device) (r : Reg) (v : Nat) : (d.wrN r v).out = d.out := rfl
@[simp] theorem Device.wrN_bus (d : Device) (r : Reg) (v : Nat) : (d.wrN r v).bus = d.bus := rfl
@[simp] theorem Device.wrN_hiLatch (d : Device) (r : Reg) (v : Nat) : (d.wrN r v).hiLatch = d.hiLatch := rfl
@[simp] theorem Device.wrN_loHeld (d : Device) (r : Reg) (v : Nat) : (d.wrN r v).loHeld = d.loHeld := rfl
@[simp] theorem Device.wrN_freeIx (d : Device) (r : Reg) (v : Nat) : (d.wrN r v).freeIx = d.freeIx := rfl

/-! ## wfld -/

@[simp] theorem Device.wfld_tim (d : Device) (r : Reg) (lo w v : Nat) : (d.wfld r lo w v).tim = d.tim := rfl
@[simp] theorem Device.wfld_gns (d : Device) (r : Reg) (lo w v : Nat) : (d.wfld r lo w v).gns = d.gns := rfl
@[simp] theorem Device.wfld_cor (d : Device) (r : Reg) (lo w v : Nat) : (d.wfld r lo w v).cor = d.cor := rfl
@[simp] theorem Device.wfld_slv (d : Device) (r : Reg) (lo w v : Nat) : (d.wfld r lo w v).slv = d.slv := rfl
@[simp] theorem Device.wfld_log (d : Device) (r : Reg) (lo w v : Nat) : (d.wfld r lo w v).log = d.log := rfl
@[simp] theorem Device.wfld_que (d : Device) (r : Reg) (lo w v : Nat) : (d.wfld r lo w v).que = d.que := rfl
@[simp] theorem Device.wfld_keys (d : Device) (r : Reg) (lo w v : Nat) : (d.wfld r lo w v).keys = d.keys := rfl
@[simp] theorem Device.wfld_tmp (d : Device) (r : Reg) (lo w v : Nat) : (d.wfld r lo w v).tmp = d.tmp := rfl
@[simp] theorem Device.wfld_hst (d : Device) (r : Reg) (lo w v : Nat) : (d.wfld r lo w v).hst = d.hst := rfl
@[simp] theorem Device.wfld_stp (d : Device) (r : Reg) (lo w v : Nat) : (d.wfld r lo w v).stp = d.stp := rfl
@[simp] theorem Device.wfld_pair (d : Device) (r : Reg) (lo w v : Nat) : (d.wfld r lo w v).pair = d.pair := rfl
@[simp] theorem Device.wfld_flt (d : Device) (r : Reg) (lo w v : Nat) : (d.wfld r lo w v).flt = d.flt := rfl
@[simp] theorem Device.wfld_rsv (d : Device) (r : Reg) (lo w v : Nat) : (d.wfld r lo w v).rsv = d.rsv := rfl
@[simp] theorem Device.wfld_alo (d : Device) (r : Reg) (lo w v : Nat) : (d.wfld r lo w v).alo = d.alo := rfl
@[simp] theorem Device.wfld_gov (d : Device) (r : Reg) (lo w v : Nat) : (d.wfld r lo w v).gov = d.gov := rfl
@[simp] theorem Device.wfld_fab (d : Device) (r : Reg) (lo w v : Nat) : (d.wfld r lo w v).fab = d.fab := rfl
@[simp] theorem Device.wfld_mem (d : Device) (r : Reg) (lo w v : Nat) : (d.wfld r lo w v).mem = d.mem := rfl
@[simp] theorem Device.wfld_dsp (d : Device) (r : Reg) (lo w v : Nat) : (d.wfld r lo w v).dsp = d.dsp := rfl
@[simp] theorem Device.wfld_mac (d : Device) (r : Reg) (lo w v : Nat) : (d.wfld r lo w v).mac = d.mac := rfl
@[simp] theorem Device.wfld_mtr (d : Device) (r : Reg) (lo w v : Nat) : (d.wfld r lo w v).mtr = d.mtr := rfl
@[simp] theorem Device.wfld_boot (d : Device) (r : Reg) (lo w v : Nat) : (d.wfld r lo w v).boot = d.boot := rfl
@[simp] theorem Device.wfld_pwr (d : Device) (r : Reg) (lo w v : Nat) : (d.wfld r lo w v).pwr = d.pwr := rfl
@[simp] theorem Device.wfld_age (d : Device) (r : Reg) (lo w v : Nat) : (d.wfld r lo w v).age = d.age := rfl
@[simp] theorem Device.wfld_pins (d : Device) (r : Reg) (lo w v : Nat) : (d.wfld r lo w v).pins = d.pins := rfl
@[simp] theorem Device.wfld_out (d : Device) (r : Reg) (lo w v : Nat) : (d.wfld r lo w v).out = d.out := rfl
@[simp] theorem Device.wfld_bus (d : Device) (r : Reg) (lo w v : Nat) : (d.wfld r lo w v).bus = d.bus := rfl
@[simp] theorem Device.wfld_hiLatch (d : Device) (r : Reg) (lo w v : Nat) : (d.wfld r lo w v).hiLatch = d.hiLatch := rfl
@[simp] theorem Device.wfld_loHeld (d : Device) (r : Reg) (lo w v : Nat) : (d.wfld r lo w v).loHeld = d.loHeld := rfl
@[simp] theorem Device.wfld_freeIx (d : Device) (r : Reg) (lo w v : Nat) : (d.wfld r lo w v).freeIx = d.freeIx := rfl

/-! ## wbit -/

@[simp] theorem Device.wbit_tim (d : Device) (r : Reg) (i : Nat) (b : Bool) : (d.wbit r i b).tim = d.tim := rfl
@[simp] theorem Device.wbit_gns (d : Device) (r : Reg) (i : Nat) (b : Bool) : (d.wbit r i b).gns = d.gns := rfl
@[simp] theorem Device.wbit_cor (d : Device) (r : Reg) (i : Nat) (b : Bool) : (d.wbit r i b).cor = d.cor := rfl
@[simp] theorem Device.wbit_slv (d : Device) (r : Reg) (i : Nat) (b : Bool) : (d.wbit r i b).slv = d.slv := rfl
@[simp] theorem Device.wbit_log (d : Device) (r : Reg) (i : Nat) (b : Bool) : (d.wbit r i b).log = d.log := rfl
@[simp] theorem Device.wbit_que (d : Device) (r : Reg) (i : Nat) (b : Bool) : (d.wbit r i b).que = d.que := rfl
@[simp] theorem Device.wbit_keys (d : Device) (r : Reg) (i : Nat) (b : Bool) : (d.wbit r i b).keys = d.keys := rfl
@[simp] theorem Device.wbit_tmp (d : Device) (r : Reg) (i : Nat) (b : Bool) : (d.wbit r i b).tmp = d.tmp := rfl
@[simp] theorem Device.wbit_hst (d : Device) (r : Reg) (i : Nat) (b : Bool) : (d.wbit r i b).hst = d.hst := rfl
@[simp] theorem Device.wbit_stp (d : Device) (r : Reg) (i : Nat) (b : Bool) : (d.wbit r i b).stp = d.stp := rfl
@[simp] theorem Device.wbit_pair (d : Device) (r : Reg) (i : Nat) (b : Bool) : (d.wbit r i b).pair = d.pair := rfl
@[simp] theorem Device.wbit_flt (d : Device) (r : Reg) (i : Nat) (b : Bool) : (d.wbit r i b).flt = d.flt := rfl
@[simp] theorem Device.wbit_rsv (d : Device) (r : Reg) (i : Nat) (b : Bool) : (d.wbit r i b).rsv = d.rsv := rfl
@[simp] theorem Device.wbit_alo (d : Device) (r : Reg) (i : Nat) (b : Bool) : (d.wbit r i b).alo = d.alo := rfl
@[simp] theorem Device.wbit_gov (d : Device) (r : Reg) (i : Nat) (b : Bool) : (d.wbit r i b).gov = d.gov := rfl
@[simp] theorem Device.wbit_fab (d : Device) (r : Reg) (i : Nat) (b : Bool) : (d.wbit r i b).fab = d.fab := rfl
@[simp] theorem Device.wbit_mem (d : Device) (r : Reg) (i : Nat) (b : Bool) : (d.wbit r i b).mem = d.mem := rfl
@[simp] theorem Device.wbit_dsp (d : Device) (r : Reg) (i : Nat) (b : Bool) : (d.wbit r i b).dsp = d.dsp := rfl
@[simp] theorem Device.wbit_mac (d : Device) (r : Reg) (i : Nat) (b : Bool) : (d.wbit r i b).mac = d.mac := rfl
@[simp] theorem Device.wbit_mtr (d : Device) (r : Reg) (i : Nat) (b : Bool) : (d.wbit r i b).mtr = d.mtr := rfl
@[simp] theorem Device.wbit_boot (d : Device) (r : Reg) (i : Nat) (b : Bool) : (d.wbit r i b).boot = d.boot := rfl
@[simp] theorem Device.wbit_pwr (d : Device) (r : Reg) (i : Nat) (b : Bool) : (d.wbit r i b).pwr = d.pwr := rfl
@[simp] theorem Device.wbit_age (d : Device) (r : Reg) (i : Nat) (b : Bool) : (d.wbit r i b).age = d.age := rfl
@[simp] theorem Device.wbit_pins (d : Device) (r : Reg) (i : Nat) (b : Bool) : (d.wbit r i b).pins = d.pins := rfl
@[simp] theorem Device.wbit_out (d : Device) (r : Reg) (i : Nat) (b : Bool) : (d.wbit r i b).out = d.out := rfl
@[simp] theorem Device.wbit_bus (d : Device) (r : Reg) (i : Nat) (b : Bool) : (d.wbit r i b).bus = d.bus := rfl
@[simp] theorem Device.wbit_hiLatch (d : Device) (r : Reg) (i : Nat) (b : Bool) : (d.wbit r i b).hiLatch = d.hiLatch := rfl
@[simp] theorem Device.wbit_loHeld (d : Device) (r : Reg) (i : Nat) (b : Bool) : (d.wbit r i b).loHeld = d.loHeld := rfl
@[simp] theorem Device.wbit_freeIx (d : Device) (r : Reg) (i : Nat) (b : Bool) : (d.wbit r i b).freeIx = d.freeIx := rfl

/-! ## raise -/

@[simp] theorem Device.raise_tim (d : Device) (r : Reg) (i : Nat) : (d.raise r i).tim = d.tim := rfl
@[simp] theorem Device.raise_gns (d : Device) (r : Reg) (i : Nat) : (d.raise r i).gns = d.gns := rfl
@[simp] theorem Device.raise_cor (d : Device) (r : Reg) (i : Nat) : (d.raise r i).cor = d.cor := rfl
@[simp] theorem Device.raise_slv (d : Device) (r : Reg) (i : Nat) : (d.raise r i).slv = d.slv := rfl
@[simp] theorem Device.raise_log (d : Device) (r : Reg) (i : Nat) : (d.raise r i).log = d.log := rfl
@[simp] theorem Device.raise_que (d : Device) (r : Reg) (i : Nat) : (d.raise r i).que = d.que := rfl
@[simp] theorem Device.raise_keys (d : Device) (r : Reg) (i : Nat) : (d.raise r i).keys = d.keys := rfl
@[simp] theorem Device.raise_tmp (d : Device) (r : Reg) (i : Nat) : (d.raise r i).tmp = d.tmp := rfl
@[simp] theorem Device.raise_hst (d : Device) (r : Reg) (i : Nat) : (d.raise r i).hst = d.hst := rfl
@[simp] theorem Device.raise_stp (d : Device) (r : Reg) (i : Nat) : (d.raise r i).stp = d.stp := rfl
@[simp] theorem Device.raise_pair (d : Device) (r : Reg) (i : Nat) : (d.raise r i).pair = d.pair := rfl
@[simp] theorem Device.raise_flt (d : Device) (r : Reg) (i : Nat) : (d.raise r i).flt = d.flt := rfl
@[simp] theorem Device.raise_rsv (d : Device) (r : Reg) (i : Nat) : (d.raise r i).rsv = d.rsv := rfl
@[simp] theorem Device.raise_alo (d : Device) (r : Reg) (i : Nat) : (d.raise r i).alo = d.alo := rfl
@[simp] theorem Device.raise_gov (d : Device) (r : Reg) (i : Nat) : (d.raise r i).gov = d.gov := rfl
@[simp] theorem Device.raise_fab (d : Device) (r : Reg) (i : Nat) : (d.raise r i).fab = d.fab := rfl
@[simp] theorem Device.raise_mem (d : Device) (r : Reg) (i : Nat) : (d.raise r i).mem = d.mem := rfl
@[simp] theorem Device.raise_dsp (d : Device) (r : Reg) (i : Nat) : (d.raise r i).dsp = d.dsp := rfl
@[simp] theorem Device.raise_mac (d : Device) (r : Reg) (i : Nat) : (d.raise r i).mac = d.mac := rfl
@[simp] theorem Device.raise_mtr (d : Device) (r : Reg) (i : Nat) : (d.raise r i).mtr = d.mtr := rfl
@[simp] theorem Device.raise_boot (d : Device) (r : Reg) (i : Nat) : (d.raise r i).boot = d.boot := rfl
@[simp] theorem Device.raise_pwr (d : Device) (r : Reg) (i : Nat) : (d.raise r i).pwr = d.pwr := rfl
@[simp] theorem Device.raise_age (d : Device) (r : Reg) (i : Nat) : (d.raise r i).age = d.age := rfl
@[simp] theorem Device.raise_pins (d : Device) (r : Reg) (i : Nat) : (d.raise r i).pins = d.pins := rfl
@[simp] theorem Device.raise_out (d : Device) (r : Reg) (i : Nat) : (d.raise r i).out = d.out := rfl
@[simp] theorem Device.raise_bus (d : Device) (r : Reg) (i : Nat) : (d.raise r i).bus = d.bus := rfl
@[simp] theorem Device.raise_hiLatch (d : Device) (r : Reg) (i : Nat) : (d.raise r i).hiLatch = d.hiLatch := rfl
@[simp] theorem Device.raise_loHeld (d : Device) (r : Reg) (i : Nat) : (d.raise r i).loHeld = d.loHeld := rfl
@[simp] theorem Device.raise_freeIx (d : Device) (r : Reg) (i : Nat) : (d.raise r i).freeIx = d.freeIx := rfl

/-! ## addHold -/

@[simp] theorem Device.addHold_tim (d : Device) (r : Reg) (n : Nat) : (d.addHold r n).tim = d.tim := rfl
@[simp] theorem Device.addHold_gns (d : Device) (r : Reg) (n : Nat) : (d.addHold r n).gns = d.gns := rfl
@[simp] theorem Device.addHold_cor (d : Device) (r : Reg) (n : Nat) : (d.addHold r n).cor = d.cor := rfl
@[simp] theorem Device.addHold_slv (d : Device) (r : Reg) (n : Nat) : (d.addHold r n).slv = d.slv := rfl
@[simp] theorem Device.addHold_log (d : Device) (r : Reg) (n : Nat) : (d.addHold r n).log = d.log := rfl
@[simp] theorem Device.addHold_que (d : Device) (r : Reg) (n : Nat) : (d.addHold r n).que = d.que := rfl
@[simp] theorem Device.addHold_keys (d : Device) (r : Reg) (n : Nat) : (d.addHold r n).keys = d.keys := rfl
@[simp] theorem Device.addHold_tmp (d : Device) (r : Reg) (n : Nat) : (d.addHold r n).tmp = d.tmp := rfl
@[simp] theorem Device.addHold_hst (d : Device) (r : Reg) (n : Nat) : (d.addHold r n).hst = d.hst := rfl
@[simp] theorem Device.addHold_stp (d : Device) (r : Reg) (n : Nat) : (d.addHold r n).stp = d.stp := rfl
@[simp] theorem Device.addHold_pair (d : Device) (r : Reg) (n : Nat) : (d.addHold r n).pair = d.pair := rfl
@[simp] theorem Device.addHold_flt (d : Device) (r : Reg) (n : Nat) : (d.addHold r n).flt = d.flt := rfl
@[simp] theorem Device.addHold_rsv (d : Device) (r : Reg) (n : Nat) : (d.addHold r n).rsv = d.rsv := rfl
@[simp] theorem Device.addHold_alo (d : Device) (r : Reg) (n : Nat) : (d.addHold r n).alo = d.alo := rfl
@[simp] theorem Device.addHold_gov (d : Device) (r : Reg) (n : Nat) : (d.addHold r n).gov = d.gov := rfl
@[simp] theorem Device.addHold_fab (d : Device) (r : Reg) (n : Nat) : (d.addHold r n).fab = d.fab := rfl
@[simp] theorem Device.addHold_mem (d : Device) (r : Reg) (n : Nat) : (d.addHold r n).mem = d.mem := rfl
@[simp] theorem Device.addHold_dsp (d : Device) (r : Reg) (n : Nat) : (d.addHold r n).dsp = d.dsp := rfl
@[simp] theorem Device.addHold_mac (d : Device) (r : Reg) (n : Nat) : (d.addHold r n).mac = d.mac := rfl
@[simp] theorem Device.addHold_mtr (d : Device) (r : Reg) (n : Nat) : (d.addHold r n).mtr = d.mtr := rfl
@[simp] theorem Device.addHold_boot (d : Device) (r : Reg) (n : Nat) : (d.addHold r n).boot = d.boot := rfl
@[simp] theorem Device.addHold_pwr (d : Device) (r : Reg) (n : Nat) : (d.addHold r n).pwr = d.pwr := rfl
@[simp] theorem Device.addHold_age (d : Device) (r : Reg) (n : Nat) : (d.addHold r n).age = d.age := rfl
@[simp] theorem Device.addHold_pins (d : Device) (r : Reg) (n : Nat) : (d.addHold r n).pins = d.pins := rfl
@[simp] theorem Device.addHold_out (d : Device) (r : Reg) (n : Nat) : (d.addHold r n).out = d.out := rfl
@[simp] theorem Device.addHold_bus (d : Device) (r : Reg) (n : Nat) : (d.addHold r n).bus = d.bus := rfl
@[simp] theorem Device.addHold_hiLatch (d : Device) (r : Reg) (n : Nat) : (d.addHold r n).hiLatch = d.hiLatch := rfl
@[simp] theorem Device.addHold_loHeld (d : Device) (r : Reg) (n : Nat) : (d.addHold r n).loHeld = d.loHeld := rfl
@[simp] theorem Device.addHold_freeIx (d : Device) (r : Reg) (n : Nat) : (d.addHold r n).freeIx = d.freeIx := rfl

/-! ## count -/

@[simp] theorem Device.count_tim (d : Device) (r : Reg) : (d.count r).tim = d.tim := rfl
@[simp] theorem Device.count_gns (d : Device) (r : Reg) : (d.count r).gns = d.gns := rfl
@[simp] theorem Device.count_cor (d : Device) (r : Reg) : (d.count r).cor = d.cor := rfl
@[simp] theorem Device.count_slv (d : Device) (r : Reg) : (d.count r).slv = d.slv := rfl
@[simp] theorem Device.count_log (d : Device) (r : Reg) : (d.count r).log = d.log := rfl
@[simp] theorem Device.count_que (d : Device) (r : Reg) : (d.count r).que = d.que := rfl
@[simp] theorem Device.count_keys (d : Device) (r : Reg) : (d.count r).keys = d.keys := rfl
@[simp] theorem Device.count_tmp (d : Device) (r : Reg) : (d.count r).tmp = d.tmp := rfl
@[simp] theorem Device.count_hst (d : Device) (r : Reg) : (d.count r).hst = d.hst := rfl
@[simp] theorem Device.count_stp (d : Device) (r : Reg) : (d.count r).stp = d.stp := rfl
@[simp] theorem Device.count_pair (d : Device) (r : Reg) : (d.count r).pair = d.pair := rfl
@[simp] theorem Device.count_flt (d : Device) (r : Reg) : (d.count r).flt = d.flt := rfl
@[simp] theorem Device.count_rsv (d : Device) (r : Reg) : (d.count r).rsv = d.rsv := rfl
@[simp] theorem Device.count_alo (d : Device) (r : Reg) : (d.count r).alo = d.alo := rfl
@[simp] theorem Device.count_gov (d : Device) (r : Reg) : (d.count r).gov = d.gov := rfl
@[simp] theorem Device.count_fab (d : Device) (r : Reg) : (d.count r).fab = d.fab := rfl
@[simp] theorem Device.count_mem (d : Device) (r : Reg) : (d.count r).mem = d.mem := rfl
@[simp] theorem Device.count_dsp (d : Device) (r : Reg) : (d.count r).dsp = d.dsp := rfl
@[simp] theorem Device.count_mac (d : Device) (r : Reg) : (d.count r).mac = d.mac := rfl
@[simp] theorem Device.count_mtr (d : Device) (r : Reg) : (d.count r).mtr = d.mtr := rfl
@[simp] theorem Device.count_boot (d : Device) (r : Reg) : (d.count r).boot = d.boot := rfl
@[simp] theorem Device.count_pwr (d : Device) (r : Reg) : (d.count r).pwr = d.pwr := rfl
@[simp] theorem Device.count_age (d : Device) (r : Reg) : (d.count r).age = d.age := rfl
@[simp] theorem Device.count_pins (d : Device) (r : Reg) : (d.count r).pins = d.pins := rfl
@[simp] theorem Device.count_out (d : Device) (r : Reg) : (d.count r).out = d.out := rfl
@[simp] theorem Device.count_bus (d : Device) (r : Reg) : (d.count r).bus = d.bus := rfl
@[simp] theorem Device.count_hiLatch (d : Device) (r : Reg) : (d.count r).hiLatch = d.hiLatch := rfl
@[simp] theorem Device.count_loHeld (d : Device) (r : Reg) : (d.count r).loHeld = d.loHeld := rfl
@[simp] theorem Device.count_freeIx (d : Device) (r : Reg) : (d.count r).freeIx = d.freeIx := rfl

/-! ## raiseIf -/

@[simp] theorem Device.raiseIf_tim (d : Device) (c : Bool) (r : Reg) (i : Nat) : (d.raiseIf c r i).tim = d.tim := by cases c <;> rfl
@[simp] theorem Device.raiseIf_gns (d : Device) (c : Bool) (r : Reg) (i : Nat) : (d.raiseIf c r i).gns = d.gns := by cases c <;> rfl
@[simp] theorem Device.raiseIf_cor (d : Device) (c : Bool) (r : Reg) (i : Nat) : (d.raiseIf c r i).cor = d.cor := by cases c <;> rfl
@[simp] theorem Device.raiseIf_slv (d : Device) (c : Bool) (r : Reg) (i : Nat) : (d.raiseIf c r i).slv = d.slv := by cases c <;> rfl
@[simp] theorem Device.raiseIf_log (d : Device) (c : Bool) (r : Reg) (i : Nat) : (d.raiseIf c r i).log = d.log := by cases c <;> rfl
@[simp] theorem Device.raiseIf_que (d : Device) (c : Bool) (r : Reg) (i : Nat) : (d.raiseIf c r i).que = d.que := by cases c <;> rfl
@[simp] theorem Device.raiseIf_keys (d : Device) (c : Bool) (r : Reg) (i : Nat) : (d.raiseIf c r i).keys = d.keys := by cases c <;> rfl
@[simp] theorem Device.raiseIf_tmp (d : Device) (c : Bool) (r : Reg) (i : Nat) : (d.raiseIf c r i).tmp = d.tmp := by cases c <;> rfl
@[simp] theorem Device.raiseIf_hst (d : Device) (c : Bool) (r : Reg) (i : Nat) : (d.raiseIf c r i).hst = d.hst := by cases c <;> rfl
@[simp] theorem Device.raiseIf_stp (d : Device) (c : Bool) (r : Reg) (i : Nat) : (d.raiseIf c r i).stp = d.stp := by cases c <;> rfl
@[simp] theorem Device.raiseIf_pair (d : Device) (c : Bool) (r : Reg) (i : Nat) : (d.raiseIf c r i).pair = d.pair := by cases c <;> rfl
@[simp] theorem Device.raiseIf_flt (d : Device) (c : Bool) (r : Reg) (i : Nat) : (d.raiseIf c r i).flt = d.flt := by cases c <;> rfl
@[simp] theorem Device.raiseIf_rsv (d : Device) (c : Bool) (r : Reg) (i : Nat) : (d.raiseIf c r i).rsv = d.rsv := by cases c <;> rfl
@[simp] theorem Device.raiseIf_alo (d : Device) (c : Bool) (r : Reg) (i : Nat) : (d.raiseIf c r i).alo = d.alo := by cases c <;> rfl
@[simp] theorem Device.raiseIf_gov (d : Device) (c : Bool) (r : Reg) (i : Nat) : (d.raiseIf c r i).gov = d.gov := by cases c <;> rfl
@[simp] theorem Device.raiseIf_fab (d : Device) (c : Bool) (r : Reg) (i : Nat) : (d.raiseIf c r i).fab = d.fab := by cases c <;> rfl
@[simp] theorem Device.raiseIf_mem (d : Device) (c : Bool) (r : Reg) (i : Nat) : (d.raiseIf c r i).mem = d.mem := by cases c <;> rfl
@[simp] theorem Device.raiseIf_dsp (d : Device) (c : Bool) (r : Reg) (i : Nat) : (d.raiseIf c r i).dsp = d.dsp := by cases c <;> rfl
@[simp] theorem Device.raiseIf_mac (d : Device) (c : Bool) (r : Reg) (i : Nat) : (d.raiseIf c r i).mac = d.mac := by cases c <;> rfl
@[simp] theorem Device.raiseIf_mtr (d : Device) (c : Bool) (r : Reg) (i : Nat) : (d.raiseIf c r i).mtr = d.mtr := by cases c <;> rfl
@[simp] theorem Device.raiseIf_boot (d : Device) (c : Bool) (r : Reg) (i : Nat) : (d.raiseIf c r i).boot = d.boot := by cases c <;> rfl
@[simp] theorem Device.raiseIf_pwr (d : Device) (c : Bool) (r : Reg) (i : Nat) : (d.raiseIf c r i).pwr = d.pwr := by cases c <;> rfl
@[simp] theorem Device.raiseIf_age (d : Device) (c : Bool) (r : Reg) (i : Nat) : (d.raiseIf c r i).age = d.age := by cases c <;> rfl
@[simp] theorem Device.raiseIf_pins (d : Device) (c : Bool) (r : Reg) (i : Nat) : (d.raiseIf c r i).pins = d.pins := by cases c <;> rfl
@[simp] theorem Device.raiseIf_out (d : Device) (c : Bool) (r : Reg) (i : Nat) : (d.raiseIf c r i).out = d.out := by cases c <;> rfl
@[simp] theorem Device.raiseIf_bus (d : Device) (c : Bool) (r : Reg) (i : Nat) : (d.raiseIf c r i).bus = d.bus := by cases c <;> rfl
@[simp] theorem Device.raiseIf_hiLatch (d : Device) (c : Bool) (r : Reg) (i : Nat) : (d.raiseIf c r i).hiLatch = d.hiLatch := by cases c <;> rfl
@[simp] theorem Device.raiseIf_loHeld (d : Device) (c : Bool) (r : Reg) (i : Nat) : (d.raiseIf c r i).loHeld = d.loHeld := by cases c <;> rfl
@[simp] theorem Device.raiseIf_freeIx (d : Device) (c : Bool) (r : Reg) (i : Nat) : (d.raiseIf c r i).freeIx = d.freeIx := by cases c <;> rfl

/-! ## send -/

@[simp] theorem Device.send_regs (d : Device) (c : Chan) (u k : Nat) (b : Bytes) : (d.send c u k b).regs = d.regs := rfl
@[simp] theorem Device.send_tim (d : Device) (c : Chan) (u k : Nat) (b : Bytes) : (d.send c u k b).tim = d.tim := rfl
@[simp] theorem Device.send_gns (d : Device) (c : Chan) (u k : Nat) (b : Bytes) : (d.send c u k b).gns = d.gns := rfl
@[simp] theorem Device.send_cor (d : Device) (c : Chan) (u k : Nat) (b : Bytes) : (d.send c u k b).cor = d.cor := rfl
@[simp] theorem Device.send_slv (d : Device) (c : Chan) (u k : Nat) (b : Bytes) : (d.send c u k b).slv = d.slv := rfl
@[simp] theorem Device.send_log (d : Device) (c : Chan) (u k : Nat) (b : Bytes) : (d.send c u k b).log = d.log := rfl
@[simp] theorem Device.send_que (d : Device) (c : Chan) (u k : Nat) (b : Bytes) : (d.send c u k b).que = d.que := rfl
@[simp] theorem Device.send_keys (d : Device) (c : Chan) (u k : Nat) (b : Bytes) : (d.send c u k b).keys = d.keys := rfl
@[simp] theorem Device.send_tmp (d : Device) (c : Chan) (u k : Nat) (b : Bytes) : (d.send c u k b).tmp = d.tmp := rfl
@[simp] theorem Device.send_hst (d : Device) (c : Chan) (u k : Nat) (b : Bytes) : (d.send c u k b).hst = d.hst := rfl
@[simp] theorem Device.send_stp (d : Device) (c : Chan) (u k : Nat) (b : Bytes) : (d.send c u k b).stp = d.stp := rfl
@[simp] theorem Device.send_pair (d : Device) (c : Chan) (u k : Nat) (b : Bytes) : (d.send c u k b).pair = d.pair := rfl
@[simp] theorem Device.send_flt (d : Device) (c : Chan) (u k : Nat) (b : Bytes) : (d.send c u k b).flt = d.flt := rfl
@[simp] theorem Device.send_rsv (d : Device) (c : Chan) (u k : Nat) (b : Bytes) : (d.send c u k b).rsv = d.rsv := rfl
@[simp] theorem Device.send_alo (d : Device) (c : Chan) (u k : Nat) (b : Bytes) : (d.send c u k b).alo = d.alo := rfl
@[simp] theorem Device.send_gov (d : Device) (c : Chan) (u k : Nat) (b : Bytes) : (d.send c u k b).gov = d.gov := rfl
@[simp] theorem Device.send_fab (d : Device) (c : Chan) (u k : Nat) (b : Bytes) : (d.send c u k b).fab = d.fab := rfl
@[simp] theorem Device.send_mem (d : Device) (c : Chan) (u k : Nat) (b : Bytes) : (d.send c u k b).mem = d.mem := rfl
@[simp] theorem Device.send_dsp (d : Device) (c : Chan) (u k : Nat) (b : Bytes) : (d.send c u k b).dsp = d.dsp := rfl
@[simp] theorem Device.send_mac (d : Device) (c : Chan) (u k : Nat) (b : Bytes) : (d.send c u k b).mac = d.mac := rfl
@[simp] theorem Device.send_mtr (d : Device) (c : Chan) (u k : Nat) (b : Bytes) : (d.send c u k b).mtr = d.mtr := rfl
@[simp] theorem Device.send_boot (d : Device) (c : Chan) (u k : Nat) (b : Bytes) : (d.send c u k b).boot = d.boot := rfl
@[simp] theorem Device.send_pwr (d : Device) (c : Chan) (u k : Nat) (b : Bytes) : (d.send c u k b).pwr = d.pwr := rfl
@[simp] theorem Device.send_age (d : Device) (c : Chan) (u k : Nat) (b : Bytes) : (d.send c u k b).age = d.age := rfl
@[simp] theorem Device.send_pins (d : Device) (c : Chan) (u k : Nat) (b : Bytes) : (d.send c u k b).pins = d.pins := rfl
@[simp] theorem Device.send_bus (d : Device) (c : Chan) (u k : Nat) (b : Bytes) : (d.send c u k b).bus = d.bus := rfl
@[simp] theorem Device.send_hiLatch (d : Device) (c : Chan) (u k : Nat) (b : Bytes) : (d.send c u k b).hiLatch = d.hiLatch := rfl
@[simp] theorem Device.send_loHeld (d : Device) (c : Chan) (u k : Nat) (b : Bytes) : (d.send c u k b).loHeld = d.loHeld := rfl
@[simp] theorem Device.send_freeIx (d : Device) (c : Chan) (u k : Nat) (b : Bytes) : (d.send c u k b).freeIx = d.freeIx := rfl

/-! ## setAnv -/

@[simp] theorem Device.setAnv_regs (d : Device) (a : Nat) (v : Anvil) : (d.setAnv a v).regs = d.regs := rfl
@[simp] theorem Device.setAnv_tim (d : Device) (a : Nat) (v : Anvil) : (d.setAnv a v).tim = d.tim := rfl
@[simp] theorem Device.setAnv_gns (d : Device) (a : Nat) (v : Anvil) : (d.setAnv a v).gns = d.gns := rfl
@[simp] theorem Device.setAnv_cor (d : Device) (a : Nat) (v : Anvil) : (d.setAnv a v).cor = d.cor := rfl
@[simp] theorem Device.setAnv_slv (d : Device) (a : Nat) (v : Anvil) : (d.setAnv a v).slv = d.slv := rfl
@[simp] theorem Device.setAnv_log (d : Device) (a : Nat) (v : Anvil) : (d.setAnv a v).log = d.log := rfl
@[simp] theorem Device.setAnv_que (d : Device) (a : Nat) (v : Anvil) : (d.setAnv a v).que = d.que := rfl
@[simp] theorem Device.setAnv_keys (d : Device) (a : Nat) (v : Anvil) : (d.setAnv a v).keys = d.keys := rfl
@[simp] theorem Device.setAnv_tmp (d : Device) (a : Nat) (v : Anvil) : (d.setAnv a v).tmp = d.tmp := rfl
@[simp] theorem Device.setAnv_hst (d : Device) (a : Nat) (v : Anvil) : (d.setAnv a v).hst = d.hst := rfl
@[simp] theorem Device.setAnv_stp (d : Device) (a : Nat) (v : Anvil) : (d.setAnv a v).stp = d.stp := rfl
@[simp] theorem Device.setAnv_pair (d : Device) (a : Nat) (v : Anvil) : (d.setAnv a v).pair = d.pair := rfl
@[simp] theorem Device.setAnv_flt (d : Device) (a : Nat) (v : Anvil) : (d.setAnv a v).flt = d.flt := rfl
@[simp] theorem Device.setAnv_rsv (d : Device) (a : Nat) (v : Anvil) : (d.setAnv a v).rsv = d.rsv := rfl
@[simp] theorem Device.setAnv_alo (d : Device) (a : Nat) (v : Anvil) : (d.setAnv a v).alo = d.alo := rfl
@[simp] theorem Device.setAnv_gov (d : Device) (a : Nat) (v : Anvil) : (d.setAnv a v).gov = d.gov := rfl
@[simp] theorem Device.setAnv_mem (d : Device) (a : Nat) (v : Anvil) : (d.setAnv a v).mem = d.mem := rfl
@[simp] theorem Device.setAnv_dsp (d : Device) (a : Nat) (v : Anvil) : (d.setAnv a v).dsp = d.dsp := rfl
@[simp] theorem Device.setAnv_mac (d : Device) (a : Nat) (v : Anvil) : (d.setAnv a v).mac = d.mac := rfl
@[simp] theorem Device.setAnv_mtr (d : Device) (a : Nat) (v : Anvil) : (d.setAnv a v).mtr = d.mtr := rfl
@[simp] theorem Device.setAnv_boot (d : Device) (a : Nat) (v : Anvil) : (d.setAnv a v).boot = d.boot := rfl
@[simp] theorem Device.setAnv_pwr (d : Device) (a : Nat) (v : Anvil) : (d.setAnv a v).pwr = d.pwr := rfl
@[simp] theorem Device.setAnv_age (d : Device) (a : Nat) (v : Anvil) : (d.setAnv a v).age = d.age := rfl
@[simp] theorem Device.setAnv_pins (d : Device) (a : Nat) (v : Anvil) : (d.setAnv a v).pins = d.pins := rfl
@[simp] theorem Device.setAnv_out (d : Device) (a : Nat) (v : Anvil) : (d.setAnv a v).out = d.out := rfl
@[simp] theorem Device.setAnv_bus (d : Device) (a : Nat) (v : Anvil) : (d.setAnv a v).bus = d.bus := rfl
@[simp] theorem Device.setAnv_hiLatch (d : Device) (a : Nat) (v : Anvil) : (d.setAnv a v).hiLatch = d.hiLatch := rfl
@[simp] theorem Device.setAnv_loHeld (d : Device) (a : Nat) (v : Anvil) : (d.setAnv a v).loHeld = d.loHeld := rfl
@[simp] theorem Device.setAnv_freeIx (d : Device) (a : Nat) (v : Anvil) : (d.setAnv a v).freeIx = d.freeIx := rfl

/-! ## setQ -/

@[simp] theorem Device.setQ_regs (d : Device) (n : Nat) (q : Queue) : (d.setQ n q).regs = d.regs := rfl
@[simp] theorem Device.setQ_tim (d : Device) (n : Nat) (q : Queue) : (d.setQ n q).tim = d.tim := rfl
@[simp] theorem Device.setQ_gns (d : Device) (n : Nat) (q : Queue) : (d.setQ n q).gns = d.gns := rfl
@[simp] theorem Device.setQ_cor (d : Device) (n : Nat) (q : Queue) : (d.setQ n q).cor = d.cor := rfl
@[simp] theorem Device.setQ_slv (d : Device) (n : Nat) (q : Queue) : (d.setQ n q).slv = d.slv := rfl
@[simp] theorem Device.setQ_log (d : Device) (n : Nat) (q : Queue) : (d.setQ n q).log = d.log := rfl
@[simp] theorem Device.setQ_keys (d : Device) (n : Nat) (q : Queue) : (d.setQ n q).keys = d.keys := rfl
@[simp] theorem Device.setQ_tmp (d : Device) (n : Nat) (q : Queue) : (d.setQ n q).tmp = d.tmp := rfl
@[simp] theorem Device.setQ_hst (d : Device) (n : Nat) (q : Queue) : (d.setQ n q).hst = d.hst := rfl
@[simp] theorem Device.setQ_stp (d : Device) (n : Nat) (q : Queue) : (d.setQ n q).stp = d.stp := rfl
@[simp] theorem Device.setQ_pair (d : Device) (n : Nat) (q : Queue) : (d.setQ n q).pair = d.pair := rfl
@[simp] theorem Device.setQ_flt (d : Device) (n : Nat) (q : Queue) : (d.setQ n q).flt = d.flt := rfl
@[simp] theorem Device.setQ_rsv (d : Device) (n : Nat) (q : Queue) : (d.setQ n q).rsv = d.rsv := rfl
@[simp] theorem Device.setQ_alo (d : Device) (n : Nat) (q : Queue) : (d.setQ n q).alo = d.alo := rfl
@[simp] theorem Device.setQ_gov (d : Device) (n : Nat) (q : Queue) : (d.setQ n q).gov = d.gov := rfl
@[simp] theorem Device.setQ_fab (d : Device) (n : Nat) (q : Queue) : (d.setQ n q).fab = d.fab := rfl
@[simp] theorem Device.setQ_mem (d : Device) (n : Nat) (q : Queue) : (d.setQ n q).mem = d.mem := rfl
@[simp] theorem Device.setQ_dsp (d : Device) (n : Nat) (q : Queue) : (d.setQ n q).dsp = d.dsp := rfl
@[simp] theorem Device.setQ_mac (d : Device) (n : Nat) (q : Queue) : (d.setQ n q).mac = d.mac := rfl
@[simp] theorem Device.setQ_mtr (d : Device) (n : Nat) (q : Queue) : (d.setQ n q).mtr = d.mtr := rfl
@[simp] theorem Device.setQ_boot (d : Device) (n : Nat) (q : Queue) : (d.setQ n q).boot = d.boot := rfl
@[simp] theorem Device.setQ_pwr (d : Device) (n : Nat) (q : Queue) : (d.setQ n q).pwr = d.pwr := rfl
@[simp] theorem Device.setQ_age (d : Device) (n : Nat) (q : Queue) : (d.setQ n q).age = d.age := rfl
@[simp] theorem Device.setQ_pins (d : Device) (n : Nat) (q : Queue) : (d.setQ n q).pins = d.pins := rfl
@[simp] theorem Device.setQ_out (d : Device) (n : Nat) (q : Queue) : (d.setQ n q).out = d.out := rfl
@[simp] theorem Device.setQ_bus (d : Device) (n : Nat) (q : Queue) : (d.setQ n q).bus = d.bus := rfl
@[simp] theorem Device.setQ_hiLatch (d : Device) (n : Nat) (q : Queue) : (d.setQ n q).hiLatch = d.hiLatch := rfl
@[simp] theorem Device.setQ_loHeld (d : Device) (n : Nat) (q : Queue) : (d.setQ n q).loHeld = d.loHeld := rfl
@[simp] theorem Device.setQ_freeIx (d : Device) (n : Nat) (q : Queue) : (d.setQ n q).freeIx = d.freeIx := rfl

/-! ## setEntry -/

@[simp] theorem Device.setEntry_regs (d : Device) (m : Nat) (r : Tab Nat) : (d.setEntry m r).regs = d.regs := rfl
@[simp] theorem Device.setEntry_tim (d : Device) (m : Nat) (r : Tab Nat) : (d.setEntry m r).tim = d.tim := rfl
@[simp] theorem Device.setEntry_gns (d : Device) (m : Nat) (r : Tab Nat) : (d.setEntry m r).gns = d.gns := rfl
@[simp] theorem Device.setEntry_cor (d : Device) (m : Nat) (r : Tab Nat) : (d.setEntry m r).cor = d.cor := rfl
@[simp] theorem Device.setEntry_slv (d : Device) (m : Nat) (r : Tab Nat) : (d.setEntry m r).slv = d.slv := rfl
@[simp] theorem Device.setEntry_log (d : Device) (m : Nat) (r : Tab Nat) : (d.setEntry m r).log = d.log := rfl
@[simp] theorem Device.setEntry_que (d : Device) (m : Nat) (r : Tab Nat) : (d.setEntry m r).que = d.que := rfl
@[simp] theorem Device.setEntry_keys (d : Device) (m : Nat) (r : Tab Nat) : (d.setEntry m r).keys = d.keys := rfl
@[simp] theorem Device.setEntry_tmp (d : Device) (m : Nat) (r : Tab Nat) : (d.setEntry m r).tmp = d.tmp := rfl
@[simp] theorem Device.setEntry_hst (d : Device) (m : Nat) (r : Tab Nat) : (d.setEntry m r).hst = d.hst := rfl
@[simp] theorem Device.setEntry_stp (d : Device) (m : Nat) (r : Tab Nat) : (d.setEntry m r).stp = d.stp := rfl
@[simp] theorem Device.setEntry_pair (d : Device) (m : Nat) (r : Tab Nat) : (d.setEntry m r).pair = d.pair := rfl
@[simp] theorem Device.setEntry_rsv (d : Device) (m : Nat) (r : Tab Nat) : (d.setEntry m r).rsv = d.rsv := rfl
@[simp] theorem Device.setEntry_alo (d : Device) (m : Nat) (r : Tab Nat) : (d.setEntry m r).alo = d.alo := rfl
@[simp] theorem Device.setEntry_gov (d : Device) (m : Nat) (r : Tab Nat) : (d.setEntry m r).gov = d.gov := rfl
@[simp] theorem Device.setEntry_fab (d : Device) (m : Nat) (r : Tab Nat) : (d.setEntry m r).fab = d.fab := rfl
@[simp] theorem Device.setEntry_mem (d : Device) (m : Nat) (r : Tab Nat) : (d.setEntry m r).mem = d.mem := rfl
@[simp] theorem Device.setEntry_dsp (d : Device) (m : Nat) (r : Tab Nat) : (d.setEntry m r).dsp = d.dsp := rfl
@[simp] theorem Device.setEntry_mac (d : Device) (m : Nat) (r : Tab Nat) : (d.setEntry m r).mac = d.mac := rfl
@[simp] theorem Device.setEntry_mtr (d : Device) (m : Nat) (r : Tab Nat) : (d.setEntry m r).mtr = d.mtr := rfl
@[simp] theorem Device.setEntry_boot (d : Device) (m : Nat) (r : Tab Nat) : (d.setEntry m r).boot = d.boot := rfl
@[simp] theorem Device.setEntry_pwr (d : Device) (m : Nat) (r : Tab Nat) : (d.setEntry m r).pwr = d.pwr := rfl
@[simp] theorem Device.setEntry_age (d : Device) (m : Nat) (r : Tab Nat) : (d.setEntry m r).age = d.age := rfl
@[simp] theorem Device.setEntry_pins (d : Device) (m : Nat) (r : Tab Nat) : (d.setEntry m r).pins = d.pins := rfl
@[simp] theorem Device.setEntry_out (d : Device) (m : Nat) (r : Tab Nat) : (d.setEntry m r).out = d.out := rfl
@[simp] theorem Device.setEntry_bus (d : Device) (m : Nat) (r : Tab Nat) : (d.setEntry m r).bus = d.bus := rfl
@[simp] theorem Device.setEntry_hiLatch (d : Device) (m : Nat) (r : Tab Nat) : (d.setEntry m r).hiLatch = d.hiLatch := rfl
@[simp] theorem Device.setEntry_loHeld (d : Device) (m : Nat) (r : Tab Nat) : (d.setEntry m r).loHeld = d.loHeld := rfl
@[simp] theorem Device.setEntry_freeIx (d : Device) (m : Nat) (r : Tab Nat) : (d.setEntry m r).freeIx = d.freeIx := rfl

/-! ## setFe -/

@[simp] theorem Device.setFe_regs (d : Device) (m o v : Nat) : (d.setFe m o v).regs = d.regs := rfl
@[simp] theorem Device.setFe_tim (d : Device) (m o v : Nat) : (d.setFe m o v).tim = d.tim := rfl
@[simp] theorem Device.setFe_gns (d : Device) (m o v : Nat) : (d.setFe m o v).gns = d.gns := rfl
@[simp] theorem Device.setFe_cor (d : Device) (m o v : Nat) : (d.setFe m o v).cor = d.cor := rfl
@[simp] theorem Device.setFe_slv (d : Device) (m o v : Nat) : (d.setFe m o v).slv = d.slv := rfl
@[simp] theorem Device.setFe_log (d : Device) (m o v : Nat) : (d.setFe m o v).log = d.log := rfl
@[simp] theorem Device.setFe_que (d : Device) (m o v : Nat) : (d.setFe m o v).que = d.que := rfl
@[simp] theorem Device.setFe_keys (d : Device) (m o v : Nat) : (d.setFe m o v).keys = d.keys := rfl
@[simp] theorem Device.setFe_tmp (d : Device) (m o v : Nat) : (d.setFe m o v).tmp = d.tmp := rfl
@[simp] theorem Device.setFe_hst (d : Device) (m o v : Nat) : (d.setFe m o v).hst = d.hst := rfl
@[simp] theorem Device.setFe_stp (d : Device) (m o v : Nat) : (d.setFe m o v).stp = d.stp := rfl
@[simp] theorem Device.setFe_pair (d : Device) (m o v : Nat) : (d.setFe m o v).pair = d.pair := rfl
@[simp] theorem Device.setFe_rsv (d : Device) (m o v : Nat) : (d.setFe m o v).rsv = d.rsv := rfl
@[simp] theorem Device.setFe_alo (d : Device) (m o v : Nat) : (d.setFe m o v).alo = d.alo := rfl
@[simp] theorem Device.setFe_gov (d : Device) (m o v : Nat) : (d.setFe m o v).gov = d.gov := rfl
@[simp] theorem Device.setFe_fab (d : Device) (m o v : Nat) : (d.setFe m o v).fab = d.fab := rfl
@[simp] theorem Device.setFe_mem (d : Device) (m o v : Nat) : (d.setFe m o v).mem = d.mem := rfl
@[simp] theorem Device.setFe_dsp (d : Device) (m o v : Nat) : (d.setFe m o v).dsp = d.dsp := rfl
@[simp] theorem Device.setFe_mac (d : Device) (m o v : Nat) : (d.setFe m o v).mac = d.mac := rfl
@[simp] theorem Device.setFe_mtr (d : Device) (m o v : Nat) : (d.setFe m o v).mtr = d.mtr := rfl
@[simp] theorem Device.setFe_boot (d : Device) (m o v : Nat) : (d.setFe m o v).boot = d.boot := rfl
@[simp] theorem Device.setFe_pwr (d : Device) (m o v : Nat) : (d.setFe m o v).pwr = d.pwr := rfl
@[simp] theorem Device.setFe_age (d : Device) (m o v : Nat) : (d.setFe m o v).age = d.age := rfl
@[simp] theorem Device.setFe_pins (d : Device) (m o v : Nat) : (d.setFe m o v).pins = d.pins := rfl
@[simp] theorem Device.setFe_out (d : Device) (m o v : Nat) : (d.setFe m o v).out = d.out := rfl
@[simp] theorem Device.setFe_bus (d : Device) (m o v : Nat) : (d.setFe m o v).bus = d.bus := rfl
@[simp] theorem Device.setFe_hiLatch (d : Device) (m o v : Nat) : (d.setFe m o v).hiLatch = d.hiLatch := rfl
@[simp] theorem Device.setFe_loHeld (d : Device) (m o v : Nat) : (d.setFe m o v).loHeld = d.loHeld := rfl
@[simp] theorem Device.setFe_freeIx (d : Device) (m o v : Nat) : (d.setFe m o v).freeIx = d.freeIx := rfl

/-! ## setFes -/

@[simp] theorem Device.setFes_regs (d : Device) (m : Nat) (l : List (Nat × Nat)) : (d.setFes m l).regs = d.regs := rfl
@[simp] theorem Device.setFes_tim (d : Device) (m : Nat) (l : List (Nat × Nat)) : (d.setFes m l).tim = d.tim := rfl
@[simp] theorem Device.setFes_gns (d : Device) (m : Nat) (l : List (Nat × Nat)) : (d.setFes m l).gns = d.gns := rfl
@[simp] theorem Device.setFes_cor (d : Device) (m : Nat) (l : List (Nat × Nat)) : (d.setFes m l).cor = d.cor := rfl
@[simp] theorem Device.setFes_slv (d : Device) (m : Nat) (l : List (Nat × Nat)) : (d.setFes m l).slv = d.slv := rfl
@[simp] theorem Device.setFes_log (d : Device) (m : Nat) (l : List (Nat × Nat)) : (d.setFes m l).log = d.log := rfl
@[simp] theorem Device.setFes_que (d : Device) (m : Nat) (l : List (Nat × Nat)) : (d.setFes m l).que = d.que := rfl
@[simp] theorem Device.setFes_keys (d : Device) (m : Nat) (l : List (Nat × Nat)) : (d.setFes m l).keys = d.keys := rfl
@[simp] theorem Device.setFes_tmp (d : Device) (m : Nat) (l : List (Nat × Nat)) : (d.setFes m l).tmp = d.tmp := rfl
@[simp] theorem Device.setFes_hst (d : Device) (m : Nat) (l : List (Nat × Nat)) : (d.setFes m l).hst = d.hst := rfl
@[simp] theorem Device.setFes_stp (d : Device) (m : Nat) (l : List (Nat × Nat)) : (d.setFes m l).stp = d.stp := rfl
@[simp] theorem Device.setFes_pair (d : Device) (m : Nat) (l : List (Nat × Nat)) : (d.setFes m l).pair = d.pair := rfl
@[simp] theorem Device.setFes_rsv (d : Device) (m : Nat) (l : List (Nat × Nat)) : (d.setFes m l).rsv = d.rsv := rfl
@[simp] theorem Device.setFes_alo (d : Device) (m : Nat) (l : List (Nat × Nat)) : (d.setFes m l).alo = d.alo := rfl
@[simp] theorem Device.setFes_gov (d : Device) (m : Nat) (l : List (Nat × Nat)) : (d.setFes m l).gov = d.gov := rfl
@[simp] theorem Device.setFes_fab (d : Device) (m : Nat) (l : List (Nat × Nat)) : (d.setFes m l).fab = d.fab := rfl
@[simp] theorem Device.setFes_mem (d : Device) (m : Nat) (l : List (Nat × Nat)) : (d.setFes m l).mem = d.mem := rfl
@[simp] theorem Device.setFes_dsp (d : Device) (m : Nat) (l : List (Nat × Nat)) : (d.setFes m l).dsp = d.dsp := rfl
@[simp] theorem Device.setFes_mac (d : Device) (m : Nat) (l : List (Nat × Nat)) : (d.setFes m l).mac = d.mac := rfl
@[simp] theorem Device.setFes_mtr (d : Device) (m : Nat) (l : List (Nat × Nat)) : (d.setFes m l).mtr = d.mtr := rfl
@[simp] theorem Device.setFes_boot (d : Device) (m : Nat) (l : List (Nat × Nat)) : (d.setFes m l).boot = d.boot := rfl
@[simp] theorem Device.setFes_pwr (d : Device) (m : Nat) (l : List (Nat × Nat)) : (d.setFes m l).pwr = d.pwr := rfl
@[simp] theorem Device.setFes_age (d : Device) (m : Nat) (l : List (Nat × Nat)) : (d.setFes m l).age = d.age := rfl
@[simp] theorem Device.setFes_pins (d : Device) (m : Nat) (l : List (Nat × Nat)) : (d.setFes m l).pins = d.pins := rfl
@[simp] theorem Device.setFes_out (d : Device) (m : Nat) (l : List (Nat × Nat)) : (d.setFes m l).out = d.out := rfl
@[simp] theorem Device.setFes_bus (d : Device) (m : Nat) (l : List (Nat × Nat)) : (d.setFes m l).bus = d.bus := rfl
@[simp] theorem Device.setFes_hiLatch (d : Device) (m : Nat) (l : List (Nat × Nat)) : (d.setFes m l).hiLatch = d.hiLatch := rfl
@[simp] theorem Device.setFes_loHeld (d : Device) (m : Nat) (l : List (Nat × Nat)) : (d.setFes m l).loHeld = d.loHeld := rfl
@[simp] theorem Device.setFes_freeIx (d : Device) (m : Nat) (l : List (Nat × Nat)) : (d.setFes m l).freeIx = d.freeIx := rfl

/-! ## setNode -/

@[simp] theorem Device.setNode_regs (d : Device) (n : Nat) (r : Tab Nat) : (d.setNode n r).regs = d.regs := rfl
@[simp] theorem Device.setNode_tim (d : Device) (n : Nat) (r : Tab Nat) : (d.setNode n r).tim = d.tim := rfl
@[simp] theorem Device.setNode_gns (d : Device) (n : Nat) (r : Tab Nat) : (d.setNode n r).gns = d.gns := rfl
@[simp] theorem Device.setNode_cor (d : Device) (n : Nat) (r : Tab Nat) : (d.setNode n r).cor = d.cor := rfl
@[simp] theorem Device.setNode_slv (d : Device) (n : Nat) (r : Tab Nat) : (d.setNode n r).slv = d.slv := rfl
@[simp] theorem Device.setNode_log (d : Device) (n : Nat) (r : Tab Nat) : (d.setNode n r).log = d.log := rfl
@[simp] theorem Device.setNode_que (d : Device) (n : Nat) (r : Tab Nat) : (d.setNode n r).que = d.que := rfl
@[simp] theorem Device.setNode_keys (d : Device) (n : Nat) (r : Tab Nat) : (d.setNode n r).keys = d.keys := rfl
@[simp] theorem Device.setNode_tmp (d : Device) (n : Nat) (r : Tab Nat) : (d.setNode n r).tmp = d.tmp := rfl
@[simp] theorem Device.setNode_hst (d : Device) (n : Nat) (r : Tab Nat) : (d.setNode n r).hst = d.hst := rfl
@[simp] theorem Device.setNode_stp (d : Device) (n : Nat) (r : Tab Nat) : (d.setNode n r).stp = d.stp := rfl
@[simp] theorem Device.setNode_pair (d : Device) (n : Nat) (r : Tab Nat) : (d.setNode n r).pair = d.pair := rfl
@[simp] theorem Device.setNode_rsv (d : Device) (n : Nat) (r : Tab Nat) : (d.setNode n r).rsv = d.rsv := rfl
@[simp] theorem Device.setNode_alo (d : Device) (n : Nat) (r : Tab Nat) : (d.setNode n r).alo = d.alo := rfl
@[simp] theorem Device.setNode_gov (d : Device) (n : Nat) (r : Tab Nat) : (d.setNode n r).gov = d.gov := rfl
@[simp] theorem Device.setNode_fab (d : Device) (n : Nat) (r : Tab Nat) : (d.setNode n r).fab = d.fab := rfl
@[simp] theorem Device.setNode_mem (d : Device) (n : Nat) (r : Tab Nat) : (d.setNode n r).mem = d.mem := rfl
@[simp] theorem Device.setNode_dsp (d : Device) (n : Nat) (r : Tab Nat) : (d.setNode n r).dsp = d.dsp := rfl
@[simp] theorem Device.setNode_mac (d : Device) (n : Nat) (r : Tab Nat) : (d.setNode n r).mac = d.mac := rfl
@[simp] theorem Device.setNode_mtr (d : Device) (n : Nat) (r : Tab Nat) : (d.setNode n r).mtr = d.mtr := rfl
@[simp] theorem Device.setNode_boot (d : Device) (n : Nat) (r : Tab Nat) : (d.setNode n r).boot = d.boot := rfl
@[simp] theorem Device.setNode_pwr (d : Device) (n : Nat) (r : Tab Nat) : (d.setNode n r).pwr = d.pwr := rfl
@[simp] theorem Device.setNode_age (d : Device) (n : Nat) (r : Tab Nat) : (d.setNode n r).age = d.age := rfl
@[simp] theorem Device.setNode_pins (d : Device) (n : Nat) (r : Tab Nat) : (d.setNode n r).pins = d.pins := rfl
@[simp] theorem Device.setNode_out (d : Device) (n : Nat) (r : Tab Nat) : (d.setNode n r).out = d.out := rfl
@[simp] theorem Device.setNode_bus (d : Device) (n : Nat) (r : Tab Nat) : (d.setNode n r).bus = d.bus := rfl
@[simp] theorem Device.setNode_hiLatch (d : Device) (n : Nat) (r : Tab Nat) : (d.setNode n r).hiLatch = d.hiLatch := rfl
@[simp] theorem Device.setNode_loHeld (d : Device) (n : Nat) (r : Tab Nat) : (d.setNode n r).loHeld = d.loHeld := rfl
@[simp] theorem Device.setNode_freeIx (d : Device) (n : Nat) (r : Tab Nat) : (d.setNode n r).freeIx = d.freeIx := rfl

/-! ## setNds -/

@[simp] theorem Device.setNds_regs (d : Device) (n : Nat) (l : List (Nat × Nat)) : (d.setNds n l).regs = d.regs := rfl
@[simp] theorem Device.setNds_tim (d : Device) (n : Nat) (l : List (Nat × Nat)) : (d.setNds n l).tim = d.tim := rfl
@[simp] theorem Device.setNds_gns (d : Device) (n : Nat) (l : List (Nat × Nat)) : (d.setNds n l).gns = d.gns := rfl
@[simp] theorem Device.setNds_cor (d : Device) (n : Nat) (l : List (Nat × Nat)) : (d.setNds n l).cor = d.cor := rfl
@[simp] theorem Device.setNds_slv (d : Device) (n : Nat) (l : List (Nat × Nat)) : (d.setNds n l).slv = d.slv := rfl
@[simp] theorem Device.setNds_log (d : Device) (n : Nat) (l : List (Nat × Nat)) : (d.setNds n l).log = d.log := rfl
@[simp] theorem Device.setNds_que (d : Device) (n : Nat) (l : List (Nat × Nat)) : (d.setNds n l).que = d.que := rfl
@[simp] theorem Device.setNds_keys (d : Device) (n : Nat) (l : List (Nat × Nat)) : (d.setNds n l).keys = d.keys := rfl
@[simp] theorem Device.setNds_tmp (d : Device) (n : Nat) (l : List (Nat × Nat)) : (d.setNds n l).tmp = d.tmp := rfl
@[simp] theorem Device.setNds_hst (d : Device) (n : Nat) (l : List (Nat × Nat)) : (d.setNds n l).hst = d.hst := rfl
@[simp] theorem Device.setNds_stp (d : Device) (n : Nat) (l : List (Nat × Nat)) : (d.setNds n l).stp = d.stp := rfl
@[simp] theorem Device.setNds_pair (d : Device) (n : Nat) (l : List (Nat × Nat)) : (d.setNds n l).pair = d.pair := rfl
@[simp] theorem Device.setNds_rsv (d : Device) (n : Nat) (l : List (Nat × Nat)) : (d.setNds n l).rsv = d.rsv := rfl
@[simp] theorem Device.setNds_alo (d : Device) (n : Nat) (l : List (Nat × Nat)) : (d.setNds n l).alo = d.alo := rfl
@[simp] theorem Device.setNds_gov (d : Device) (n : Nat) (l : List (Nat × Nat)) : (d.setNds n l).gov = d.gov := rfl
@[simp] theorem Device.setNds_fab (d : Device) (n : Nat) (l : List (Nat × Nat)) : (d.setNds n l).fab = d.fab := rfl
@[simp] theorem Device.setNds_mem (d : Device) (n : Nat) (l : List (Nat × Nat)) : (d.setNds n l).mem = d.mem := rfl
@[simp] theorem Device.setNds_dsp (d : Device) (n : Nat) (l : List (Nat × Nat)) : (d.setNds n l).dsp = d.dsp := rfl
@[simp] theorem Device.setNds_mac (d : Device) (n : Nat) (l : List (Nat × Nat)) : (d.setNds n l).mac = d.mac := rfl
@[simp] theorem Device.setNds_mtr (d : Device) (n : Nat) (l : List (Nat × Nat)) : (d.setNds n l).mtr = d.mtr := rfl
@[simp] theorem Device.setNds_boot (d : Device) (n : Nat) (l : List (Nat × Nat)) : (d.setNds n l).boot = d.boot := rfl
@[simp] theorem Device.setNds_pwr (d : Device) (n : Nat) (l : List (Nat × Nat)) : (d.setNds n l).pwr = d.pwr := rfl
@[simp] theorem Device.setNds_age (d : Device) (n : Nat) (l : List (Nat × Nat)) : (d.setNds n l).age = d.age := rfl
@[simp] theorem Device.setNds_pins (d : Device) (n : Nat) (l : List (Nat × Nat)) : (d.setNds n l).pins = d.pins := rfl
@[simp] theorem Device.setNds_out (d : Device) (n : Nat) (l : List (Nat × Nat)) : (d.setNds n l).out = d.out := rfl
@[simp] theorem Device.setNds_bus (d : Device) (n : Nat) (l : List (Nat × Nat)) : (d.setNds n l).bus = d.bus := rfl
@[simp] theorem Device.setNds_hiLatch (d : Device) (n : Nat) (l : List (Nat × Nat)) : (d.setNds n l).hiLatch = d.hiLatch := rfl
@[simp] theorem Device.setNds_loHeld (d : Device) (n : Nat) (l : List (Nat × Nat)) : (d.setNds n l).loHeld = d.loHeld := rfl
@[simp] theorem Device.setNds_freeIx (d : Device) (n : Nat) (l : List (Nat × Nat)) : (d.setNds n l).freeIx = d.freeIx := rfl

/-! ## setPort -/

@[simp] theorem Device.setPort_regs (d : Device) (p : Nat) (m : Mac) : (d.setPort p m).regs = d.regs := rfl
@[simp] theorem Device.setPort_tim (d : Device) (p : Nat) (m : Mac) : (d.setPort p m).tim = d.tim := rfl
@[simp] theorem Device.setPort_gns (d : Device) (p : Nat) (m : Mac) : (d.setPort p m).gns = d.gns := rfl
@[simp] theorem Device.setPort_cor (d : Device) (p : Nat) (m : Mac) : (d.setPort p m).cor = d.cor := rfl
@[simp] theorem Device.setPort_slv (d : Device) (p : Nat) (m : Mac) : (d.setPort p m).slv = d.slv := rfl
@[simp] theorem Device.setPort_log (d : Device) (p : Nat) (m : Mac) : (d.setPort p m).log = d.log := rfl
@[simp] theorem Device.setPort_que (d : Device) (p : Nat) (m : Mac) : (d.setPort p m).que = d.que := rfl
@[simp] theorem Device.setPort_keys (d : Device) (p : Nat) (m : Mac) : (d.setPort p m).keys = d.keys := rfl
@[simp] theorem Device.setPort_tmp (d : Device) (p : Nat) (m : Mac) : (d.setPort p m).tmp = d.tmp := rfl
@[simp] theorem Device.setPort_hst (d : Device) (p : Nat) (m : Mac) : (d.setPort p m).hst = d.hst := rfl
@[simp] theorem Device.setPort_stp (d : Device) (p : Nat) (m : Mac) : (d.setPort p m).stp = d.stp := rfl
@[simp] theorem Device.setPort_pair (d : Device) (p : Nat) (m : Mac) : (d.setPort p m).pair = d.pair := rfl
@[simp] theorem Device.setPort_flt (d : Device) (p : Nat) (m : Mac) : (d.setPort p m).flt = d.flt := rfl
@[simp] theorem Device.setPort_rsv (d : Device) (p : Nat) (m : Mac) : (d.setPort p m).rsv = d.rsv := rfl
@[simp] theorem Device.setPort_alo (d : Device) (p : Nat) (m : Mac) : (d.setPort p m).alo = d.alo := rfl
@[simp] theorem Device.setPort_gov (d : Device) (p : Nat) (m : Mac) : (d.setPort p m).gov = d.gov := rfl
@[simp] theorem Device.setPort_fab (d : Device) (p : Nat) (m : Mac) : (d.setPort p m).fab = d.fab := rfl
@[simp] theorem Device.setPort_mem (d : Device) (p : Nat) (m : Mac) : (d.setPort p m).mem = d.mem := rfl
@[simp] theorem Device.setPort_dsp (d : Device) (p : Nat) (m : Mac) : (d.setPort p m).dsp = d.dsp := rfl
@[simp] theorem Device.setPort_mtr (d : Device) (p : Nat) (m : Mac) : (d.setPort p m).mtr = d.mtr := rfl
@[simp] theorem Device.setPort_boot (d : Device) (p : Nat) (m : Mac) : (d.setPort p m).boot = d.boot := rfl
@[simp] theorem Device.setPort_pwr (d : Device) (p : Nat) (m : Mac) : (d.setPort p m).pwr = d.pwr := rfl
@[simp] theorem Device.setPort_age (d : Device) (p : Nat) (m : Mac) : (d.setPort p m).age = d.age := rfl
@[simp] theorem Device.setPort_pins (d : Device) (p : Nat) (m : Mac) : (d.setPort p m).pins = d.pins := rfl
@[simp] theorem Device.setPort_out (d : Device) (p : Nat) (m : Mac) : (d.setPort p m).out = d.out := rfl
@[simp] theorem Device.setPort_bus (d : Device) (p : Nat) (m : Mac) : (d.setPort p m).bus = d.bus := rfl
@[simp] theorem Device.setPort_hiLatch (d : Device) (p : Nat) (m : Mac) : (d.setPort p m).hiLatch = d.hiLatch := rfl
@[simp] theorem Device.setPort_loHeld (d : Device) (p : Nat) (m : Mac) : (d.setPort p m).loHeld = d.loHeld := rfl
@[simp] theorem Device.setPort_freeIx (d : Device) (p : Nat) (m : Mac) : (d.setPort p m).freeIx = d.freeIx := rfl

/-! ## setSlot -/

@[simp] theorem Device.setSlot_regs (d : Device) (n : Nat) (k : KeySlot) : (d.setSlot n k).regs = d.regs := rfl
@[simp] theorem Device.setSlot_tim (d : Device) (n : Nat) (k : KeySlot) : (d.setSlot n k).tim = d.tim := rfl
@[simp] theorem Device.setSlot_gns (d : Device) (n : Nat) (k : KeySlot) : (d.setSlot n k).gns = d.gns := rfl
@[simp] theorem Device.setSlot_cor (d : Device) (n : Nat) (k : KeySlot) : (d.setSlot n k).cor = d.cor := rfl
@[simp] theorem Device.setSlot_slv (d : Device) (n : Nat) (k : KeySlot) : (d.setSlot n k).slv = d.slv := rfl
@[simp] theorem Device.setSlot_log (d : Device) (n : Nat) (k : KeySlot) : (d.setSlot n k).log = d.log := rfl
@[simp] theorem Device.setSlot_que (d : Device) (n : Nat) (k : KeySlot) : (d.setSlot n k).que = d.que := rfl
@[simp] theorem Device.setSlot_tmp (d : Device) (n : Nat) (k : KeySlot) : (d.setSlot n k).tmp = d.tmp := rfl
@[simp] theorem Device.setSlot_hst (d : Device) (n : Nat) (k : KeySlot) : (d.setSlot n k).hst = d.hst := rfl
@[simp] theorem Device.setSlot_stp (d : Device) (n : Nat) (k : KeySlot) : (d.setSlot n k).stp = d.stp := rfl
@[simp] theorem Device.setSlot_pair (d : Device) (n : Nat) (k : KeySlot) : (d.setSlot n k).pair = d.pair := rfl
@[simp] theorem Device.setSlot_flt (d : Device) (n : Nat) (k : KeySlot) : (d.setSlot n k).flt = d.flt := rfl
@[simp] theorem Device.setSlot_rsv (d : Device) (n : Nat) (k : KeySlot) : (d.setSlot n k).rsv = d.rsv := rfl
@[simp] theorem Device.setSlot_alo (d : Device) (n : Nat) (k : KeySlot) : (d.setSlot n k).alo = d.alo := rfl
@[simp] theorem Device.setSlot_gov (d : Device) (n : Nat) (k : KeySlot) : (d.setSlot n k).gov = d.gov := rfl
@[simp] theorem Device.setSlot_fab (d : Device) (n : Nat) (k : KeySlot) : (d.setSlot n k).fab = d.fab := rfl
@[simp] theorem Device.setSlot_mem (d : Device) (n : Nat) (k : KeySlot) : (d.setSlot n k).mem = d.mem := rfl
@[simp] theorem Device.setSlot_dsp (d : Device) (n : Nat) (k : KeySlot) : (d.setSlot n k).dsp = d.dsp := rfl
@[simp] theorem Device.setSlot_mac (d : Device) (n : Nat) (k : KeySlot) : (d.setSlot n k).mac = d.mac := rfl
@[simp] theorem Device.setSlot_mtr (d : Device) (n : Nat) (k : KeySlot) : (d.setSlot n k).mtr = d.mtr := rfl
@[simp] theorem Device.setSlot_boot (d : Device) (n : Nat) (k : KeySlot) : (d.setSlot n k).boot = d.boot := rfl
@[simp] theorem Device.setSlot_pwr (d : Device) (n : Nat) (k : KeySlot) : (d.setSlot n k).pwr = d.pwr := rfl
@[simp] theorem Device.setSlot_age (d : Device) (n : Nat) (k : KeySlot) : (d.setSlot n k).age = d.age := rfl
@[simp] theorem Device.setSlot_pins (d : Device) (n : Nat) (k : KeySlot) : (d.setSlot n k).pins = d.pins := rfl
@[simp] theorem Device.setSlot_out (d : Device) (n : Nat) (k : KeySlot) : (d.setSlot n k).out = d.out := rfl
@[simp] theorem Device.setSlot_bus (d : Device) (n : Nat) (k : KeySlot) : (d.setSlot n k).bus = d.bus := rfl
@[simp] theorem Device.setSlot_hiLatch (d : Device) (n : Nat) (k : KeySlot) : (d.setSlot n k).hiLatch = d.hiLatch := rfl
@[simp] theorem Device.setSlot_loHeld (d : Device) (n : Nat) (k : KeySlot) : (d.setSlot n k).loHeld = d.loHeld := rfl
@[simp] theorem Device.setSlot_freeIx (d : Device) (n : Nat) (k : KeySlot) : (d.setSlot n k).freeIx = d.freeIx := rfl

/-! ## setSess -/

@[simp] theorem Device.setSess_regs (d : Device) (p : Nat) (x : Session) : (d.setSess p x).regs = d.regs := rfl
@[simp] theorem Device.setSess_tim (d : Device) (p : Nat) (x : Session) : (d.setSess p x).tim = d.tim := rfl
@[simp] theorem Device.setSess_gns (d : Device) (p : Nat) (x : Session) : (d.setSess p x).gns = d.gns := rfl
@[simp] theorem Device.setSess_cor (d : Device) (p : Nat) (x : Session) : (d.setSess p x).cor = d.cor := rfl
@[simp] theorem Device.setSess_slv (d : Device) (p : Nat) (x : Session) : (d.setSess p x).slv = d.slv := rfl
@[simp] theorem Device.setSess_log (d : Device) (p : Nat) (x : Session) : (d.setSess p x).log = d.log := rfl
@[simp] theorem Device.setSess_que (d : Device) (p : Nat) (x : Session) : (d.setSess p x).que = d.que := rfl
@[simp] theorem Device.setSess_keys (d : Device) (p : Nat) (x : Session) : (d.setSess p x).keys = d.keys := rfl
@[simp] theorem Device.setSess_tmp (d : Device) (p : Nat) (x : Session) : (d.setSess p x).tmp = d.tmp := rfl
@[simp] theorem Device.setSess_stp (d : Device) (p : Nat) (x : Session) : (d.setSess p x).stp = d.stp := rfl
@[simp] theorem Device.setSess_pair (d : Device) (p : Nat) (x : Session) : (d.setSess p x).pair = d.pair := rfl
@[simp] theorem Device.setSess_flt (d : Device) (p : Nat) (x : Session) : (d.setSess p x).flt = d.flt := rfl
@[simp] theorem Device.setSess_rsv (d : Device) (p : Nat) (x : Session) : (d.setSess p x).rsv = d.rsv := rfl
@[simp] theorem Device.setSess_alo (d : Device) (p : Nat) (x : Session) : (d.setSess p x).alo = d.alo := rfl
@[simp] theorem Device.setSess_gov (d : Device) (p : Nat) (x : Session) : (d.setSess p x).gov = d.gov := rfl
@[simp] theorem Device.setSess_fab (d : Device) (p : Nat) (x : Session) : (d.setSess p x).fab = d.fab := rfl
@[simp] theorem Device.setSess_mem (d : Device) (p : Nat) (x : Session) : (d.setSess p x).mem = d.mem := rfl
@[simp] theorem Device.setSess_dsp (d : Device) (p : Nat) (x : Session) : (d.setSess p x).dsp = d.dsp := rfl
@[simp] theorem Device.setSess_mac (d : Device) (p : Nat) (x : Session) : (d.setSess p x).mac = d.mac := rfl
@[simp] theorem Device.setSess_mtr (d : Device) (p : Nat) (x : Session) : (d.setSess p x).mtr = d.mtr := rfl
@[simp] theorem Device.setSess_boot (d : Device) (p : Nat) (x : Session) : (d.setSess p x).boot = d.boot := rfl
@[simp] theorem Device.setSess_pwr (d : Device) (p : Nat) (x : Session) : (d.setSess p x).pwr = d.pwr := rfl
@[simp] theorem Device.setSess_age (d : Device) (p : Nat) (x : Session) : (d.setSess p x).age = d.age := rfl
@[simp] theorem Device.setSess_pins (d : Device) (p : Nat) (x : Session) : (d.setSess p x).pins = d.pins := rfl
@[simp] theorem Device.setSess_out (d : Device) (p : Nat) (x : Session) : (d.setSess p x).out = d.out := rfl
@[simp] theorem Device.setSess_bus (d : Device) (p : Nat) (x : Session) : (d.setSess p x).bus = d.bus := rfl
@[simp] theorem Device.setSess_hiLatch (d : Device) (p : Nat) (x : Session) : (d.setSess p x).hiLatch = d.hiLatch := rfl
@[simp] theorem Device.setSess_loHeld (d : Device) (p : Nat) (x : Session) : (d.setSess p x).loHeld = d.loHeld := rfl
@[simp] theorem Device.setSess_freeIx (d : Device) (p : Nat) (x : Session) : (d.setSess p x).freeIx = d.freeIx := rfl

/-! ## setOwed -/

@[simp] theorem Device.setOwed_regs (d : Device) (p n : Nat) : (d.setOwed p n).regs = d.regs := rfl
@[simp] theorem Device.setOwed_tim (d : Device) (p n : Nat) : (d.setOwed p n).tim = d.tim := rfl
@[simp] theorem Device.setOwed_gns (d : Device) (p n : Nat) : (d.setOwed p n).gns = d.gns := rfl
@[simp] theorem Device.setOwed_cor (d : Device) (p n : Nat) : (d.setOwed p n).cor = d.cor := rfl
@[simp] theorem Device.setOwed_slv (d : Device) (p n : Nat) : (d.setOwed p n).slv = d.slv := rfl
@[simp] theorem Device.setOwed_log (d : Device) (p n : Nat) : (d.setOwed p n).log = d.log := rfl
@[simp] theorem Device.setOwed_que (d : Device) (p n : Nat) : (d.setOwed p n).que = d.que := rfl
@[simp] theorem Device.setOwed_keys (d : Device) (p n : Nat) : (d.setOwed p n).keys = d.keys := rfl
@[simp] theorem Device.setOwed_tmp (d : Device) (p n : Nat) : (d.setOwed p n).tmp = d.tmp := rfl
@[simp] theorem Device.setOwed_stp (d : Device) (p n : Nat) : (d.setOwed p n).stp = d.stp := rfl
@[simp] theorem Device.setOwed_pair (d : Device) (p n : Nat) : (d.setOwed p n).pair = d.pair := rfl
@[simp] theorem Device.setOwed_flt (d : Device) (p n : Nat) : (d.setOwed p n).flt = d.flt := rfl
@[simp] theorem Device.setOwed_rsv (d : Device) (p n : Nat) : (d.setOwed p n).rsv = d.rsv := rfl
@[simp] theorem Device.setOwed_alo (d : Device) (p n : Nat) : (d.setOwed p n).alo = d.alo := rfl
@[simp] theorem Device.setOwed_gov (d : Device) (p n : Nat) : (d.setOwed p n).gov = d.gov := rfl
@[simp] theorem Device.setOwed_fab (d : Device) (p n : Nat) : (d.setOwed p n).fab = d.fab := rfl
@[simp] theorem Device.setOwed_mem (d : Device) (p n : Nat) : (d.setOwed p n).mem = d.mem := rfl
@[simp] theorem Device.setOwed_dsp (d : Device) (p n : Nat) : (d.setOwed p n).dsp = d.dsp := rfl
@[simp] theorem Device.setOwed_mac (d : Device) (p n : Nat) : (d.setOwed p n).mac = d.mac := rfl
@[simp] theorem Device.setOwed_mtr (d : Device) (p n : Nat) : (d.setOwed p n).mtr = d.mtr := rfl
@[simp] theorem Device.setOwed_boot (d : Device) (p n : Nat) : (d.setOwed p n).boot = d.boot := rfl
@[simp] theorem Device.setOwed_pwr (d : Device) (p n : Nat) : (d.setOwed p n).pwr = d.pwr := rfl
@[simp] theorem Device.setOwed_age (d : Device) (p n : Nat) : (d.setOwed p n).age = d.age := rfl
@[simp] theorem Device.setOwed_pins (d : Device) (p n : Nat) : (d.setOwed p n).pins = d.pins := rfl
@[simp] theorem Device.setOwed_out (d : Device) (p n : Nat) : (d.setOwed p n).out = d.out := rfl
@[simp] theorem Device.setOwed_bus (d : Device) (p n : Nat) : (d.setOwed p n).bus = d.bus := rfl
@[simp] theorem Device.setOwed_hiLatch (d : Device) (p n : Nat) : (d.setOwed p n).hiLatch = d.hiLatch := rfl
@[simp] theorem Device.setOwed_loHeld (d : Device) (p n : Nat) : (d.setOwed p n).loHeld = d.loHeld := rfl
@[simp] theorem Device.setOwed_freeIx (d : Device) (p n : Nat) : (d.setOwed p n).freeIx = d.freeIx := rfl

/-! ## holdCmd -/

@[simp] theorem Device.holdCmd_regs (d : Device) (c : Cmd) : (d.holdCmd c).regs = d.regs := rfl
@[simp] theorem Device.holdCmd_tim (d : Device) (c : Cmd) : (d.holdCmd c).tim = d.tim := rfl
@[simp] theorem Device.holdCmd_gns (d : Device) (c : Cmd) : (d.holdCmd c).gns = d.gns := rfl
@[simp] theorem Device.holdCmd_cor (d : Device) (c : Cmd) : (d.holdCmd c).cor = d.cor := rfl
@[simp] theorem Device.holdCmd_slv (d : Device) (c : Cmd) : (d.holdCmd c).slv = d.slv := rfl
@[simp] theorem Device.holdCmd_log (d : Device) (c : Cmd) : (d.holdCmd c).log = d.log := rfl
@[simp] theorem Device.holdCmd_que (d : Device) (c : Cmd) : (d.holdCmd c).que = d.que := rfl
@[simp] theorem Device.holdCmd_keys (d : Device) (c : Cmd) : (d.holdCmd c).keys = d.keys := rfl
@[simp] theorem Device.holdCmd_tmp (d : Device) (c : Cmd) : (d.holdCmd c).tmp = d.tmp := rfl
@[simp] theorem Device.holdCmd_stp (d : Device) (c : Cmd) : (d.holdCmd c).stp = d.stp := rfl
@[simp] theorem Device.holdCmd_pair (d : Device) (c : Cmd) : (d.holdCmd c).pair = d.pair := rfl
@[simp] theorem Device.holdCmd_flt (d : Device) (c : Cmd) : (d.holdCmd c).flt = d.flt := rfl
@[simp] theorem Device.holdCmd_rsv (d : Device) (c : Cmd) : (d.holdCmd c).rsv = d.rsv := rfl
@[simp] theorem Device.holdCmd_alo (d : Device) (c : Cmd) : (d.holdCmd c).alo = d.alo := rfl
@[simp] theorem Device.holdCmd_gov (d : Device) (c : Cmd) : (d.holdCmd c).gov = d.gov := rfl
@[simp] theorem Device.holdCmd_fab (d : Device) (c : Cmd) : (d.holdCmd c).fab = d.fab := rfl
@[simp] theorem Device.holdCmd_mem (d : Device) (c : Cmd) : (d.holdCmd c).mem = d.mem := rfl
@[simp] theorem Device.holdCmd_dsp (d : Device) (c : Cmd) : (d.holdCmd c).dsp = d.dsp := rfl
@[simp] theorem Device.holdCmd_mac (d : Device) (c : Cmd) : (d.holdCmd c).mac = d.mac := rfl
@[simp] theorem Device.holdCmd_mtr (d : Device) (c : Cmd) : (d.holdCmd c).mtr = d.mtr := rfl
@[simp] theorem Device.holdCmd_boot (d : Device) (c : Cmd) : (d.holdCmd c).boot = d.boot := rfl
@[simp] theorem Device.holdCmd_pwr (d : Device) (c : Cmd) : (d.holdCmd c).pwr = d.pwr := rfl
@[simp] theorem Device.holdCmd_age (d : Device) (c : Cmd) : (d.holdCmd c).age = d.age := rfl
@[simp] theorem Device.holdCmd_pins (d : Device) (c : Cmd) : (d.holdCmd c).pins = d.pins := rfl
@[simp] theorem Device.holdCmd_out (d : Device) (c : Cmd) : (d.holdCmd c).out = d.out := rfl
@[simp] theorem Device.holdCmd_bus (d : Device) (c : Cmd) : (d.holdCmd c).bus = d.bus := rfl
@[simp] theorem Device.holdCmd_hiLatch (d : Device) (c : Cmd) : (d.holdCmd c).hiLatch = d.hiLatch := rfl
@[simp] theorem Device.holdCmd_loHeld (d : Device) (c : Cmd) : (d.holdCmd c).loHeld = d.loHeld := rfl
@[simp] theorem Device.holdCmd_freeIx (d : Device) (c : Cmd) : (d.holdCmd c).freeIx = d.freeIx := rfl

/-! ## mark -/

@[simp] theorem Device.mark_regs (d : Device) (k n : Nat) : (d.mark k n).regs = d.regs := rfl
@[simp] theorem Device.mark_tim (d : Device) (k n : Nat) : (d.mark k n).tim = d.tim := rfl
@[simp] theorem Device.mark_gns (d : Device) (k n : Nat) : (d.mark k n).gns = d.gns := rfl
@[simp] theorem Device.mark_cor (d : Device) (k n : Nat) : (d.mark k n).cor = d.cor := rfl
@[simp] theorem Device.mark_slv (d : Device) (k n : Nat) : (d.mark k n).slv = d.slv := rfl
@[simp] theorem Device.mark_log (d : Device) (k n : Nat) : (d.mark k n).log = d.log := rfl
@[simp] theorem Device.mark_que (d : Device) (k n : Nat) : (d.mark k n).que = d.que := rfl
@[simp] theorem Device.mark_keys (d : Device) (k n : Nat) : (d.mark k n).keys = d.keys := rfl
@[simp] theorem Device.mark_tmp (d : Device) (k n : Nat) : (d.mark k n).tmp = d.tmp := rfl
@[simp] theorem Device.mark_stp (d : Device) (k n : Nat) : (d.mark k n).stp = d.stp := rfl
@[simp] theorem Device.mark_pair (d : Device) (k n : Nat) : (d.mark k n).pair = d.pair := rfl
@[simp] theorem Device.mark_flt (d : Device) (k n : Nat) : (d.mark k n).flt = d.flt := rfl
@[simp] theorem Device.mark_rsv (d : Device) (k n : Nat) : (d.mark k n).rsv = d.rsv := rfl
@[simp] theorem Device.mark_alo (d : Device) (k n : Nat) : (d.mark k n).alo = d.alo := rfl
@[simp] theorem Device.mark_gov (d : Device) (k n : Nat) : (d.mark k n).gov = d.gov := rfl
@[simp] theorem Device.mark_fab (d : Device) (k n : Nat) : (d.mark k n).fab = d.fab := rfl
@[simp] theorem Device.mark_mem (d : Device) (k n : Nat) : (d.mark k n).mem = d.mem := rfl
@[simp] theorem Device.mark_dsp (d : Device) (k n : Nat) : (d.mark k n).dsp = d.dsp := rfl
@[simp] theorem Device.mark_mac (d : Device) (k n : Nat) : (d.mark k n).mac = d.mac := rfl
@[simp] theorem Device.mark_mtr (d : Device) (k n : Nat) : (d.mark k n).mtr = d.mtr := rfl
@[simp] theorem Device.mark_boot (d : Device) (k n : Nat) : (d.mark k n).boot = d.boot := rfl
@[simp] theorem Device.mark_pwr (d : Device) (k n : Nat) : (d.mark k n).pwr = d.pwr := rfl
@[simp] theorem Device.mark_age (d : Device) (k n : Nat) : (d.mark k n).age = d.age := rfl
@[simp] theorem Device.mark_pins (d : Device) (k n : Nat) : (d.mark k n).pins = d.pins := rfl
@[simp] theorem Device.mark_out (d : Device) (k n : Nat) : (d.mark k n).out = d.out := rfl
@[simp] theorem Device.mark_bus (d : Device) (k n : Nat) : (d.mark k n).bus = d.bus := rfl
@[simp] theorem Device.mark_hiLatch (d : Device) (k n : Nat) : (d.mark k n).hiLatch = d.hiLatch := rfl
@[simp] theorem Device.mark_loHeld (d : Device) (k n : Nat) : (d.mark k n).loHeld = d.loHeld := rfl
@[simp] theorem Device.mark_freeIx (d : Device) (k n : Nat) : (d.mark k n).freeIx = d.freeIx := rfl

/-! ## setGm -/

@[simp] theorem Device.setGm_regs (d : Device) (m : Nat) (g : GovMach) : (d.setGm m g).regs = d.regs := rfl
@[simp] theorem Device.setGm_tim (d : Device) (m : Nat) (g : GovMach) : (d.setGm m g).tim = d.tim := rfl
@[simp] theorem Device.setGm_gns (d : Device) (m : Nat) (g : GovMach) : (d.setGm m g).gns = d.gns := rfl
@[simp] theorem Device.setGm_cor (d : Device) (m : Nat) (g : GovMach) : (d.setGm m g).cor = d.cor := rfl
@[simp] theorem Device.setGm_slv (d : Device) (m : Nat) (g : GovMach) : (d.setGm m g).slv = d.slv := rfl
@[simp] theorem Device.setGm_log (d : Device) (m : Nat) (g : GovMach) : (d.setGm m g).log = d.log := rfl
@[simp] theorem Device.setGm_que (d : Device) (m : Nat) (g : GovMach) : (d.setGm m g).que = d.que := rfl
@[simp] theorem Device.setGm_keys (d : Device) (m : Nat) (g : GovMach) : (d.setGm m g).keys = d.keys := rfl
@[simp] theorem Device.setGm_tmp (d : Device) (m : Nat) (g : GovMach) : (d.setGm m g).tmp = d.tmp := rfl
@[simp] theorem Device.setGm_hst (d : Device) (m : Nat) (g : GovMach) : (d.setGm m g).hst = d.hst := rfl
@[simp] theorem Device.setGm_stp (d : Device) (m : Nat) (g : GovMach) : (d.setGm m g).stp = d.stp := rfl
@[simp] theorem Device.setGm_pair (d : Device) (m : Nat) (g : GovMach) : (d.setGm m g).pair = d.pair := rfl
@[simp] theorem Device.setGm_flt (d : Device) (m : Nat) (g : GovMach) : (d.setGm m g).flt = d.flt := rfl
@[simp] theorem Device.setGm_rsv (d : Device) (m : Nat) (g : GovMach) : (d.setGm m g).rsv = d.rsv := rfl
@[simp] theorem Device.setGm_alo (d : Device) (m : Nat) (g : GovMach) : (d.setGm m g).alo = d.alo := rfl
@[simp] theorem Device.setGm_fab (d : Device) (m : Nat) (g : GovMach) : (d.setGm m g).fab = d.fab := rfl
@[simp] theorem Device.setGm_mem (d : Device) (m : Nat) (g : GovMach) : (d.setGm m g).mem = d.mem := rfl
@[simp] theorem Device.setGm_dsp (d : Device) (m : Nat) (g : GovMach) : (d.setGm m g).dsp = d.dsp := rfl
@[simp] theorem Device.setGm_mac (d : Device) (m : Nat) (g : GovMach) : (d.setGm m g).mac = d.mac := rfl
@[simp] theorem Device.setGm_mtr (d : Device) (m : Nat) (g : GovMach) : (d.setGm m g).mtr = d.mtr := rfl
@[simp] theorem Device.setGm_boot (d : Device) (m : Nat) (g : GovMach) : (d.setGm m g).boot = d.boot := rfl
@[simp] theorem Device.setGm_pwr (d : Device) (m : Nat) (g : GovMach) : (d.setGm m g).pwr = d.pwr := rfl
@[simp] theorem Device.setGm_age (d : Device) (m : Nat) (g : GovMach) : (d.setGm m g).age = d.age := rfl
@[simp] theorem Device.setGm_pins (d : Device) (m : Nat) (g : GovMach) : (d.setGm m g).pins = d.pins := rfl
@[simp] theorem Device.setGm_out (d : Device) (m : Nat) (g : GovMach) : (d.setGm m g).out = d.out := rfl
@[simp] theorem Device.setGm_bus (d : Device) (m : Nat) (g : GovMach) : (d.setGm m g).bus = d.bus := rfl
@[simp] theorem Device.setGm_hiLatch (d : Device) (m : Nat) (g : GovMach) : (d.setGm m g).hiLatch = d.hiLatch := rfl
@[simp] theorem Device.setGm_loHeld (d : Device) (m : Nat) (g : GovMach) : (d.setGm m g).loHeld = d.loHeld := rfl
@[simp] theorem Device.setGm_freeIx (d : Device) (m : Nat) (g : GovMach) : (d.setGm m g).freeIx = d.freeIx := rfl

/-! ## setFilter -/

@[simp] theorem Device.setFilter_regs (d : Device) (m : Nat) (f : Filter) : (d.setFilter m f).regs = d.regs := rfl
@[simp] theorem Device.setFilter_tim (d : Device) (m : Nat) (f : Filter) : (d.setFilter m f).tim = d.tim := rfl
@[simp] theorem Device.setFilter_gns (d : Device) (m : Nat) (f : Filter) : (d.setFilter m f).gns = d.gns := rfl
@[simp] theorem Device.setFilter_cor (d : Device) (m : Nat) (f : Filter) : (d.setFilter m f).cor = d.cor := rfl
@[simp] theorem Device.setFilter_log (d : Device) (m : Nat) (f : Filter) : (d.setFilter m f).log = d.log := rfl
@[simp] theorem Device.setFilter_que (d : Device) (m : Nat) (f : Filter) : (d.setFilter m f).que = d.que := rfl
@[simp] theorem Device.setFilter_keys (d : Device) (m : Nat) (f : Filter) : (d.setFilter m f).keys = d.keys := rfl
@[simp] theorem Device.setFilter_tmp (d : Device) (m : Nat) (f : Filter) : (d.setFilter m f).tmp = d.tmp := rfl
@[simp] theorem Device.setFilter_hst (d : Device) (m : Nat) (f : Filter) : (d.setFilter m f).hst = d.hst := rfl
@[simp] theorem Device.setFilter_stp (d : Device) (m : Nat) (f : Filter) : (d.setFilter m f).stp = d.stp := rfl
@[simp] theorem Device.setFilter_pair (d : Device) (m : Nat) (f : Filter) : (d.setFilter m f).pair = d.pair := rfl
@[simp] theorem Device.setFilter_flt (d : Device) (m : Nat) (f : Filter) : (d.setFilter m f).flt = d.flt := rfl
@[simp] theorem Device.setFilter_rsv (d : Device) (m : Nat) (f : Filter) : (d.setFilter m f).rsv = d.rsv := rfl
@[simp] theorem Device.setFilter_alo (d : Device) (m : Nat) (f : Filter) : (d.setFilter m f).alo = d.alo := rfl
@[simp] theorem Device.setFilter_gov (d : Device) (m : Nat) (f : Filter) : (d.setFilter m f).gov = d.gov := rfl
@[simp] theorem Device.setFilter_fab (d : Device) (m : Nat) (f : Filter) : (d.setFilter m f).fab = d.fab := rfl
@[simp] theorem Device.setFilter_mem (d : Device) (m : Nat) (f : Filter) : (d.setFilter m f).mem = d.mem := rfl
@[simp] theorem Device.setFilter_dsp (d : Device) (m : Nat) (f : Filter) : (d.setFilter m f).dsp = d.dsp := rfl
@[simp] theorem Device.setFilter_mac (d : Device) (m : Nat) (f : Filter) : (d.setFilter m f).mac = d.mac := rfl
@[simp] theorem Device.setFilter_mtr (d : Device) (m : Nat) (f : Filter) : (d.setFilter m f).mtr = d.mtr := rfl
@[simp] theorem Device.setFilter_boot (d : Device) (m : Nat) (f : Filter) : (d.setFilter m f).boot = d.boot := rfl
@[simp] theorem Device.setFilter_pwr (d : Device) (m : Nat) (f : Filter) : (d.setFilter m f).pwr = d.pwr := rfl
@[simp] theorem Device.setFilter_age (d : Device) (m : Nat) (f : Filter) : (d.setFilter m f).age = d.age := rfl
@[simp] theorem Device.setFilter_pins (d : Device) (m : Nat) (f : Filter) : (d.setFilter m f).pins = d.pins := rfl
@[simp] theorem Device.setFilter_out (d : Device) (m : Nat) (f : Filter) : (d.setFilter m f).out = d.out := rfl
@[simp] theorem Device.setFilter_bus (d : Device) (m : Nat) (f : Filter) : (d.setFilter m f).bus = d.bus := rfl
@[simp] theorem Device.setFilter_hiLatch (d : Device) (m : Nat) (f : Filter) : (d.setFilter m f).hiLatch = d.hiLatch := rfl
@[simp] theorem Device.setFilter_loHeld (d : Device) (m : Nat) (f : Filter) : (d.setFilter m f).loHeld = d.loHeld := rfl
@[simp] theorem Device.setFilter_freeIx (d : Device) (m : Nat) (f : Filter) : (d.setFilter m f).freeIx = d.freeIx := rfl

/-! ## setFeed -/

@[simp] theorem Device.setFeed_regs (d : Device) (f : Nat) (x : MeterFeed) : (d.setFeed f x).regs = d.regs := rfl
@[simp] theorem Device.setFeed_tim (d : Device) (f : Nat) (x : MeterFeed) : (d.setFeed f x).tim = d.tim := rfl
@[simp] theorem Device.setFeed_gns (d : Device) (f : Nat) (x : MeterFeed) : (d.setFeed f x).gns = d.gns := rfl
@[simp] theorem Device.setFeed_cor (d : Device) (f : Nat) (x : MeterFeed) : (d.setFeed f x).cor = d.cor := rfl
@[simp] theorem Device.setFeed_slv (d : Device) (f : Nat) (x : MeterFeed) : (d.setFeed f x).slv = d.slv := rfl
@[simp] theorem Device.setFeed_log (d : Device) (f : Nat) (x : MeterFeed) : (d.setFeed f x).log = d.log := rfl
@[simp] theorem Device.setFeed_que (d : Device) (f : Nat) (x : MeterFeed) : (d.setFeed f x).que = d.que := rfl
@[simp] theorem Device.setFeed_keys (d : Device) (f : Nat) (x : MeterFeed) : (d.setFeed f x).keys = d.keys := rfl
@[simp] theorem Device.setFeed_tmp (d : Device) (f : Nat) (x : MeterFeed) : (d.setFeed f x).tmp = d.tmp := rfl
@[simp] theorem Device.setFeed_hst (d : Device) (f : Nat) (x : MeterFeed) : (d.setFeed f x).hst = d.hst := rfl
@[simp] theorem Device.setFeed_stp (d : Device) (f : Nat) (x : MeterFeed) : (d.setFeed f x).stp = d.stp := rfl
@[simp] theorem Device.setFeed_pair (d : Device) (f : Nat) (x : MeterFeed) : (d.setFeed f x).pair = d.pair := rfl
@[simp] theorem Device.setFeed_flt (d : Device) (f : Nat) (x : MeterFeed) : (d.setFeed f x).flt = d.flt := rfl
@[simp] theorem Device.setFeed_rsv (d : Device) (f : Nat) (x : MeterFeed) : (d.setFeed f x).rsv = d.rsv := rfl
@[simp] theorem Device.setFeed_alo (d : Device) (f : Nat) (x : MeterFeed) : (d.setFeed f x).alo = d.alo := rfl
@[simp] theorem Device.setFeed_gov (d : Device) (f : Nat) (x : MeterFeed) : (d.setFeed f x).gov = d.gov := rfl
@[simp] theorem Device.setFeed_fab (d : Device) (f : Nat) (x : MeterFeed) : (d.setFeed f x).fab = d.fab := rfl
@[simp] theorem Device.setFeed_mem (d : Device) (f : Nat) (x : MeterFeed) : (d.setFeed f x).mem = d.mem := rfl
@[simp] theorem Device.setFeed_dsp (d : Device) (f : Nat) (x : MeterFeed) : (d.setFeed f x).dsp = d.dsp := rfl
@[simp] theorem Device.setFeed_mac (d : Device) (f : Nat) (x : MeterFeed) : (d.setFeed f x).mac = d.mac := rfl
@[simp] theorem Device.setFeed_boot (d : Device) (f : Nat) (x : MeterFeed) : (d.setFeed f x).boot = d.boot := rfl
@[simp] theorem Device.setFeed_pwr (d : Device) (f : Nat) (x : MeterFeed) : (d.setFeed f x).pwr = d.pwr := rfl
@[simp] theorem Device.setFeed_age (d : Device) (f : Nat) (x : MeterFeed) : (d.setFeed f x).age = d.age := rfl
@[simp] theorem Device.setFeed_pins (d : Device) (f : Nat) (x : MeterFeed) : (d.setFeed f x).pins = d.pins := rfl
@[simp] theorem Device.setFeed_out (d : Device) (f : Nat) (x : MeterFeed) : (d.setFeed f x).out = d.out := rfl
@[simp] theorem Device.setFeed_bus (d : Device) (f : Nat) (x : MeterFeed) : (d.setFeed f x).bus = d.bus := rfl
@[simp] theorem Device.setFeed_hiLatch (d : Device) (f : Nat) (x : MeterFeed) : (d.setFeed f x).hiLatch = d.hiLatch := rfl
@[simp] theorem Device.setFeed_loHeld (d : Device) (f : Nat) (x : MeterFeed) : (d.setFeed f x).loHeld = d.loHeld := rfl
@[simp] theorem Device.setFeed_freeIx (d : Device) (f : Nat) (x : MeterFeed) : (d.setFeed f x).freeIx = d.freeIx := rfl

/-! ## cycles -/

@[simp] theorem Device.cycles_regs (d : Device) (n : Nat) : (d.cycles n).regs = d.regs := rfl
@[simp] theorem Device.cycles_gns (d : Device) (n : Nat) : (d.cycles n).gns = d.gns := rfl
@[simp] theorem Device.cycles_cor (d : Device) (n : Nat) : (d.cycles n).cor = d.cor := rfl
@[simp] theorem Device.cycles_slv (d : Device) (n : Nat) : (d.cycles n).slv = d.slv := rfl
@[simp] theorem Device.cycles_log (d : Device) (n : Nat) : (d.cycles n).log = d.log := rfl
@[simp] theorem Device.cycles_que (d : Device) (n : Nat) : (d.cycles n).que = d.que := rfl
@[simp] theorem Device.cycles_keys (d : Device) (n : Nat) : (d.cycles n).keys = d.keys := rfl
@[simp] theorem Device.cycles_tmp (d : Device) (n : Nat) : (d.cycles n).tmp = d.tmp := rfl
@[simp] theorem Device.cycles_hst (d : Device) (n : Nat) : (d.cycles n).hst = d.hst := rfl
@[simp] theorem Device.cycles_stp (d : Device) (n : Nat) : (d.cycles n).stp = d.stp := rfl
@[simp] theorem Device.cycles_pair (d : Device) (n : Nat) : (d.cycles n).pair = d.pair := rfl
@[simp] theorem Device.cycles_flt (d : Device) (n : Nat) : (d.cycles n).flt = d.flt := rfl
@[simp] theorem Device.cycles_rsv (d : Device) (n : Nat) : (d.cycles n).rsv = d.rsv := rfl
@[simp] theorem Device.cycles_alo (d : Device) (n : Nat) : (d.cycles n).alo = d.alo := rfl
@[simp] theorem Device.cycles_gov (d : Device) (n : Nat) : (d.cycles n).gov = d.gov := rfl
@[simp] theorem Device.cycles_fab (d : Device) (n : Nat) : (d.cycles n).fab = d.fab := rfl
@[simp] theorem Device.cycles_mem (d : Device) (n : Nat) : (d.cycles n).mem = d.mem := rfl
@[simp] theorem Device.cycles_dsp (d : Device) (n : Nat) : (d.cycles n).dsp = d.dsp := rfl
@[simp] theorem Device.cycles_mac (d : Device) (n : Nat) : (d.cycles n).mac = d.mac := rfl
@[simp] theorem Device.cycles_mtr (d : Device) (n : Nat) : (d.cycles n).mtr = d.mtr := rfl
@[simp] theorem Device.cycles_boot (d : Device) (n : Nat) : (d.cycles n).boot = d.boot := rfl
@[simp] theorem Device.cycles_pwr (d : Device) (n : Nat) : (d.cycles n).pwr = d.pwr := rfl
@[simp] theorem Device.cycles_age (d : Device) (n : Nat) : (d.cycles n).age = d.age := rfl
@[simp] theorem Device.cycles_pins (d : Device) (n : Nat) : (d.cycles n).pins = d.pins := rfl
@[simp] theorem Device.cycles_out (d : Device) (n : Nat) : (d.cycles n).out = d.out := rfl
@[simp] theorem Device.cycles_bus (d : Device) (n : Nat) : (d.cycles n).bus = d.bus := rfl
@[simp] theorem Device.cycles_hiLatch (d : Device) (n : Nat) : (d.cycles n).hiLatch = d.hiLatch := rfl
@[simp] theorem Device.cycles_loHeld (d : Device) (n : Nat) : (d.cycles n).loHeld = d.loHeld := rfl
@[simp] theorem Device.cycles_freeIx (d : Device) (n : Nat) : (d.cycles n).freeIx = d.freeIx := rfl

end Sys2Proof.Machine
end

