-- ==== Sys2Proof/Laws/Ops.lean ====
section
/-!
SUPPORT. Laws/Ops.lean: what each shared operation can change: fault records, queues, host commands and answers, time.
Each lemma says once which parts of the device an operation replaces; the rest stays.
-/
namespace Sys2Proof.Machine

/-! ## Fault records -/

/-- A fault record changes the registers and the slag log alone. -/
theorem Device.slag_only (d : Device) (b c u o : Nat) (x : Bytes) :
    ∃ r l, d.slag b c u o x = { d with regs := r, log := l } := by
  unfold Device.slag
  dsimp only
  have key : ∀ (l : ErrLog) (k : Bool), ∃ r m, (({ d with log := l } : Device).raise ERR_INT_STAT 0).doIf k
      (fun y => (y.count ERR_OVERWRITE).raise ERR_INT_STAT 2) = { d with regs := r, log := m } := by
    intro l k
    cases k <;> exact ⟨_, _, rfl⟩
  split
  · split
    · exact ⟨_, _, rfl⟩
    · exact key _ _
  · exact key _ _

/-- A transient fault changes the registers and the slag log alone. -/
theorem Device.transient_only (d : Device) (k : Option Reg) (b c u : Nat) (x : Bytes) (al : Bool) :
    ∃ r l, d.transient k b c u x al = { d with regs := r, log := l } := by
  unfold Device.transient
  dsimp only
  have key : ∀ (r : RegFile) (g : Bool), ∃ r2 l, (({ d with regs := r } : Device).count ERR_TRANSIENT).doIf g
      (fun e => e.slag b c u 1 x) = { d with regs := r2, log := l } := by
    intro r g
    cases g
    · exact ⟨_, _, rfl⟩
    · obtain ⟨r2, l, h⟩ := Device.slag_only (({ d with regs := r } : Device).count ERR_TRANSIENT) b c u 1 x
      exact ⟨r2, l, h⟩
  cases k <;> exact key _ _

/-- A lasting fault changes the registers and the slag log alone. -/
theorem Device.lasting_only (d : Device) (k : Option Reg) (b c u : Nat) (x : Bytes) (f : Bool) :
    ∃ r l, d.lasting k b c u x f = { d with regs := r, log := l } := by
  unfold Device.lasting
  dsimp only
  cases k with
  | none =>
    obtain ⟨r, l, h⟩ := Device.slag_only ((d.count ERR_LASTING).raise ERR_INT_STAT 1) b c u (2 + 4 * b2n f) x
    exact ⟨r, l, h⟩
  | some q =>
    obtain ⟨r, l, h⟩ :=
      Device.slag_only (((d.count q).count ERR_LASTING).raise ERR_INT_STAT 1) b c u (2 + 4 * b2n f) x
    exact ⟨r, l, h⟩

@[simp] theorem Device.slag_mem (d : Device) (b c u o : Nat) (x : Bytes) : (d.slag b c u o x).mem = d.mem := by
  obtain ⟨r, l, h⟩ := d.slag_only b c u o x
  rw [h]

@[simp] theorem Device.transient_mem (d : Device) (k : Option Reg) (b c u : Nat) (x : Bytes) (al : Bool) :
    (d.transient k b c u x al).mem = d.mem := by
  obtain ⟨r, l, h⟩ := d.transient_only k b c u x al
  rw [h]

@[simp] theorem Device.lasting_mem (d : Device) (k : Option Reg) (b c u : Nat) (x : Bytes) (f : Bool) :
    (d.lasting k b c u x f).mem = d.mem := by
  obtain ⟨r, l, h⟩ := d.lasting_only k b c u x f
  rw [h]

/-! ## Queues -/

/-- Spare granules change the registers and the queues alone. -/
theorem Device.respare_only (d : Device) (n k len : Nat) :
    ∃ r q, d.respare n k len = { d with regs := r, que := q } := by
  unfold Device.respare
  dsimp only
  split
  · exact ⟨_, _, rfl⟩
  · have key : ∀ (e : Device) (c : Bool), (∃ r q, e = { d with regs := r, que := q }) →
        ∃ r q, e.raiseIf c QUE_INT_STAT 5 = { d with regs := r, que := q } := by
      rintro e c ⟨r, q, rfl⟩
      cases c <;> exact ⟨_, _, rfl⟩
    exact key _ _ ⟨_, _, rfl⟩

/-- Packets that become visible change the registers and the queues alone. -/
theorem Device.show_only (d : Device) (n : Nat) (ps : List Packet) :
    ∃ r q, d.show n ps = { d with regs := r, que := q } := by
  unfold Device.show Device.levelEvent
  have key : ∀ (e : Device) (c : Bool), (∃ q, e = { d with que := q }) →
      ∃ r q, e.doIf c (fun e => (e.raise (QUE_LVL_STAT (n / 32)) (n % 32)).raise QUE_INT_STAT 0) =
        { d with regs := r, que := q } := by
    rintro e c ⟨q, rfl⟩
    cases c <;> exact ⟨_, _, rfl⟩
  exact key _ _ ⟨_, rfl⟩

/-- A hardware producer changes the registers and the queues alone. -/
theorem Device.hwPush_only (d : Device) (n : Nat) (b : Bytes) :
    ∃ r q, d.hwPush n b = { d with regs := r, que := q } := by
  unfold Device.hwPush
  dsimp only
  split
  · obtain ⟨r, q, h⟩ := d.respare_only n (d.q n).fin (granules b)
    rw [h]
    obtain ⟨r2, q2, h2⟩ := Device.show_only (({ d with regs := r, que := q } : Device).setQ n
      { ({ d with regs := r, que := q } : Device).q n with
        fin := (({ d with regs := r, que := q } : Device).q n).fin +
          (Packet.len ⟨(({ d with regs := r, que := q } : Device).q n).fin, padTo (16 * granules b) b, []⟩) }) n
      [⟨(({ d with regs := r, que := q } : Device).q n).fin, padTo (16 * granules b) b, []⟩]
    exact ⟨r2, q2, h2⟩
  · exact ⟨_, _, rfl⟩

/-! ## Answers -/

/-- A response changes the registers, the queues and the host state alone. -/
theorem Device.post_only (d : Device) (p code req st : Nat) (b : Bytes) :
    ∃ r q h, d.post p code req st b = { d with regs := r, que := q, hst := h } := by
  obtain ⟨r, q, h⟩ := (d.countCmd p st).hwPush_only (16 * p + 1) (packetBytes (code + 0x8000) req st b)
  exact ⟨r, q, _, h⟩

/-- An answer changes the registers, the queues, the host state and the pair's note of a configuration alone. -/
theorem Device.answer_only (d : Device) (c : Cmd) (st : Nat) (b : Bytes) :
    ∃ r q h p, d.answer c st b = { d with regs := r, que := q, hst := h, pair := p } := by
  have hn : ∃ p, d.noteCfg c st = { d with pair := p } := by
    unfold Device.noteCfg
    split <;> exact ⟨_, rfl⟩
  obtain ⟨p, hn⟩ := hn
  obtain ⟨r, q, h, hp⟩ := ((d.noteCfg c st).setOwed c.part (d.owedN c.part - respMax c.code)).post_only c.part c.code
    c.req st b
  refine ⟨r, q, h, p, ?_⟩
  rw [Device.answer, hp, hn]
  rfl

/-- A record on queue 1 changes the registers and the queues alone. -/
theorem Device.record_only (d : Device) (p ty : Nat) (b : Bytes) :
    ∃ r q, d.record p ty b = { d with regs := r, que := q } := by
  unfold Device.record
  dsimp only
  split
  · exact d.hwPush_only _ _
  · exact ⟨_, _, rfl⟩

/-! ## Host commands -/

/-- A host command that the device takes at once is done by what its arm says of it. -/
theorem Device.hostCmd_takes (d e : Device) (code : Nat) (h : HostPkt) (c : Cmd) (f : Cmd → Device → Device)
    (ht : d.takes code h = some (c, e)) : d.hostCmd code h f = f c e := by
  unfold Device.takes at ht
  unfold Device.hostCmd
  cases ha : d.accept h with
  | mk ok x =>
    rw [ha] at ht
    cases ok
    · simp at ht
    · simp only at ht ⊢
      by_cases hq : queuePkts (x.q (16 * h.part)) = 0
      · simp only [hq, if_true] at ht ⊢
        cases hk : (x.hwPush (16 * h.part) (packetBytes code h.req 0 h.body)).takeCmd h.part with
        | mk o y =>
          rw [hk] at ht
          cases o
          · simp at ht
          · simp only [Option.some.injEq, Prod.mk.injEq] at ht
            simp [ht.1, ht.2]
      · simp [hq] at ht

/-- A host's datagram that is not accepted leaves what the acceptance test leaves. -/
theorem Device.hostCmd_refused (d e : Device) (code : Nat) (h : HostPkt) (f : Cmd → Device → Device)
    (ha : d.accept h = (false, e)) : d.hostCmd code h f = e := by
  simp [Device.hostCmd, ha]

/-! ## Time -/

/-- Time changes the time block alone. -/
theorem Device.advanceTo_only (d : Device) (t : Nat) : ∃ x, d.advanceTo t = { d with tim := x } := by
  unfold Device.advanceTo
  dsimp only
  split <;> exact ⟨_, rfl⟩

theorem Device.advanceUp_only (d : Device) (t : Nat) : ∃ x, d.advanceUp t = { d with tim := x } := by
  unfold Device.advanceUp
  dsimp only
  split <;> exact ⟨_, rfl⟩

end Sys2Proof.Machine
end

