-- ==== Sys2Proof/Laws/Memory.lean ====
section
/-!
SUPPORT. Laws/Memory.lean: every operation on memory keeps its canonical form, reset memory has it, and a byte reads as
it was last written.
-/
namespace Sys2Proof.Machine

/-! ## Lists of words -/

theorem rises_mono (l : List Nat) {b c : Nat} (h : b ≤ c) (hc : rises c l = true) : rises b l = true := by
  cases l with
  | nil => rfl
  | cons x t =>
    simp only [rises, Bool.and_eq_true, decide_eq_true_eq] at hc ⊢
    exact ⟨by omega, hc.2⟩

theorem rises_putWord (w : Nat) (l : List Nat) (b : Nat) (hb : b ≤ w) (h : rises b l = true) :
    rises b (putWord w l) = true := by
  induction l generalizing b with
  | nil => simp [putWord, rises, hb]
  | cons x t ih =>
    simp only [rises, Bool.and_eq_true, decide_eq_true_eq] at h
    simp only [putWord]
    split
    · simp only [rises, Bool.and_eq_true, decide_eq_true_eq]
      exact ⟨hb, by omega, h.2⟩
    · split
      · simp only [rises, Bool.and_eq_true, decide_eq_true_eq]; exact h
      · simp only [rises, Bool.and_eq_true, decide_eq_true_eq]
        exact ⟨h.1, ih (x + 1) (by omega) h.2⟩

theorem rises_filter (p : Nat → Bool) (l : List Nat) (b : Nat) (h : rises b l = true) :
    rises b (l.filter p) = true := by
  induction l generalizing b with
  | nil => rfl
  | cons x t ih =>
    simp only [rises, Bool.and_eq_true, decide_eq_true_eq] at h
    simp only [List.filter_cons]
    split
    · simp only [rises, Bool.and_eq_true, decide_eq_true_eq]
      exact ⟨h.1, ih (x + 1) h.2⟩
    · exact ih b (rises_mono t (by omega) h.2)

theorem rises_foldl_putWord (ws l : List Nat) (h : rises 0 l = true) :
    rises 0 (ws.foldl (fun l w => putWord w l) l) = true := by
  induction ws generalizing l with
  | nil => exact h
  | cons w ws ih => exact ih _ (rises_putWord w l 0 (Nat.zero_le _) h)

/-! ## The canonical form -/

theorem Tab.wf_foldl_set {α β : Type} [DecidableEq α] (d : α) (k : β → Nat) (v : β → α) (l : List β) (t : Tab α)
    (h : Tab.wf d t = true) : Tab.wf d (l.foldl (fun t i => Tab.set d t (k i) (v i)) t) = true := by
  induction l generalizing t with
  | nil => exact h
  | cons x l ih => exact ih _ (Tab.wf_set d t (k x) (v x) h)

/-- A write within a record, or anywhere else, keeps memory canonical. -/
theorem Device.memPut_wf (d : Device) (a : Nat) (v : Bytes) (h : Memory.wf d.mem = true) :
    Memory.wf (d.memPut a v).mem = true := by
  unfold Device.memPut
  repeat' split
  · exact h
  · exact h
  · exact h
  · exact h
  · exact h
  · simp only [Memory.wf, Bool.and_eq_true] at h ⊢
    exact ⟨Tab.wf_foldl_set 0 (fun i => a + i) (fun i => v.getD i 0) _ _ h.1, h.2⟩

/-- A write within a record keeps the poisoned words. -/
@[simp] theorem Device.memPut_bad (d : Device) (a : Nat) (v : Bytes) : (d.memPut a v).mem.bad = d.mem.bad := by
  unfold Device.memPut
  repeat' split
  all_goals rfl

/-- Marking words keeps memory canonical. -/
theorem Device.memMark_wf (d : Device) (a n : Nat) (bad : Bool) (h : Memory.wf d.mem = true) :
    Memory.wf (d.memMark a n bad).mem = true := by
  simp only [Memory.wf, Bool.and_eq_true] at h ⊢
  refine ⟨h.1, ?_⟩
  have hr := rises_filter (fun w => !(wordsOf a n).contains w) d.mem.bad 0 h.2
  cases bad
  · simpa [Device.memMark] using hr
  · simpa [Device.memMark] using rises_foldl_putWord (wordsOf a n) _ hr

/-- Marking words changes no byte. -/
@[simp] theorem Device.memMark_bytes (d : Device) (a n : Nat) (bad : Bool) :
    (d.memMark a n bad).mem.bytes = d.mem.bytes := rfl

/-- A write of bytes keeps memory canonical. -/
theorem Device.memWrite_wf (d : Device) (a : Nat) (v : Bytes) (bad : Bool) (h : Memory.wf d.mem = true) :
    Memory.wf (d.memWrite a v bad).mem = true := by
  apply Device.memMark_wf
  suffices H : ∀ (l : List Nat) (e : Device), Memory.wf e.mem = true →
      Memory.wf (l.foldl (fun (e : Device) (k : Nat) =>
        let lo := if k = 0 then a else (a / 16 + k) * 16
        let w := sliceB v (lo - a) ((a / 16 + k + 1) * 16 - lo)
        if w = [] then e else e.memPut lo w) e).mem = true from H _ d h
  intro l
  induction l with
  | nil => exact fun e he => he
  | cons k l ih =>
    intro e he
    refine ih _ ?_
    dsimp only
    generalize (if k = 0 then a else (a / 16 + k) * 16) = lo
    by_cases hw : sliceB v (lo - a) ((a / 16 + k + 1) * 16 - lo) = []
    · rw [if_pos hw]; exact he
    · rw [if_neg hw]; exact Device.memPut_wf _ _ _ he

/-- A lasting fault of a memory keeps memory canonical. -/
theorem Device.lastingMem_wf (d : Device) (k : MemKind) (a : Nat) (h : Memory.wf d.mem = true) :
    Memory.wf (d.lastingMem k a).mem = true := by
  have hm := fun a n => Device.memMark_wf d a n true h
  have main : (d.lastingMem k a).mem = (match k with
      | .crucible _ => d.memMark a 1 true
      | _ => d.memMark (a / 64 * 64) 64 true).mem := by
    unfold Device.lastingMem
    cases k <;> simp <;> split <;> simp
  rw [main]
  cases k <;> exact hm _ _

/-- What ECC finds at a read keeps memory canonical. -/
theorem Device.eccRead_wf (d : Device) (k : MemKind) (a ecc : Nat) (h : Memory.wf d.mem = true) :
    Memory.wf (d.eccRead k a ecc).mem = true := by
  unfold Device.eccRead
  dsimp only
  split
  · simpa using h
  · split
    · simpa using h
    · split
      · exact Device.lastingMem_wf d k a h
      · split
        · exact Device.lastingMem_wf d k a h
        · exact h

/-- Reset memory is canonical. -/
theorem reset_mem_wf : Memory.wf State.reset.dev.mem = true := by decide

/-! ## Reading after writing -/

/-- A byte of memory outside the tables reads as it was last written; another byte reads as before. -/
theorem Device.memByte_memPut_one (d : Device) (a c : Nat) (x : Byte)
    (ha : lies a 1 forgeBase 0x200000 = false ∧ lies a 1 0x0010200000 0x200000 = false ∧
      lies a 1 0x0010400000 0x80000 = false ∧ lies a 1 lpBase 0x1000000 = false ∧
      lies a 1 atlasBase (65536 * 1296) = false) (hc : lies c 1 forgeBase 0x200000 = false ∧
      lies c 1 0x0010200000 0x200000 = false ∧ lies c 1 0x0010400000 0x80000 = false ∧
      lies c 1 lpBase 0x1000000 = false ∧ lies c 1 atlasBase (65536 * 1296) = false) :
    (d.memPut a [x]).memByte c = if c = a then x else d.memByte c := by
  obtain ⟨a1, a2, a3, a4, a5⟩ := ha
  obtain ⟨c1, c2, c3, c4, c5⟩ := hc
  simp only [Device.memPut, Device.memByte, a1, a2, a3, a4, a5, c1, c2, c3, c4, c5, Bool.false_eq_true, if_false]
  exact Tab.getD_set d.mem.bytes a c x 0

end Sys2Proof.Machine
end

