-- ==== Sys2Proof/Tests/Slice0.lean ====
section
/-!
SUPPORT. Tests/Slice0.lean: the author's own tests. Ill-formed commands that the check refuses, words of anvil
operations written out from R244 and R246, single steps on small states, and for each statement of
Certificates/Slice0/Obligations.lean with hypotheses one witness: states and operands that meet them, clause by clause.
-/
set_option Elab.async false

namespace Sys2Proof.Tests
open Sys2Proof Sys2Proof.Machine Sys2Proof.Claims

/-! ## Small states -/

/-- A state with no command waiting. -/
def st (d : Device) : State := ⟨[], d⟩

/-- 5 ms into heat 50, in RUN, with a root key and the claim. -/
def timed : Device :=
  let b := [(0, { baseReset 0 with acc := 5005000000 * 2 ^ 32 })]
  let t := { Time.reset with valid := true, heats := true, begun := 50, up := 100000000000 * 2 ^ 32, bases := b }
  { Device.reset with
    tim := t
    pwr := { Power.reset with started := true, starting := false }
    keys := { Keys.reset with rootOk := true }
    pair := { Pair.reset with claim := true } }

/-- An enabled queue of banks of `g` granules. -/
def queueOf (g : Nat) : Queue := { queueOff with on := true, g := g }

/-- A loaded key: partition 3's, of ENCRYPT with AES-128. -/
def keyOf (p attr : Nat) : KeySlot := { slotEmpty with st := 1, attr := attr, alg := 1, owner := p, parent := 1 + p }

/-- The data link runs over NET0, NET2 is up, and partition 3 has its record, its session and its queues. -/
def linked (d : Device) : Device :=
  let e := (d.wrN NET_CTRL 0xF).wrN HST_SPI_CFG 7
  let e := (e.setSlot 6 (sessionKey 3 0)).setSlot 7 (sessionKey 3 1)
  let q := [48, 49, 50, 51, 52, 53, 56, 57, 58, 59, 66, 67, 68, 69]
  let e := e.forEach q fun n e => e.setQ n (queueOf 4096)
  { e with hst := { e.hst with
      parts := [(3, ⟨true, 15⟩)], sess := [(3, ⟨true, false, 0, 0, none⟩)], link := [(0, true), (2, true)] } }

/-- A live device. -/
def live : Device := linked timed

/-- A datagram of partition 3 under its session's key. -/
def pkt (b : Bytes) : HostPkt := ⟨3, false, true, false, 1, 65535, b⟩

/-- The device after it took a command of partition 3, and the command. -/
def tookOf (d : Device) (code : Nat) (b : Bytes) : Cmd × Device :=
  (d.takes code (pkt b)).getD (⟨0, 0, 0, [], 0⟩, d)

/-- The command that a code and a body of partition 3 give. -/
def cmd (d : Device) (code : Nat) (b : Bytes) : Cmd := (tookOf d code b).1
/-- The device that holds it. -/
def dev (d : Device) (code : Nat) (b : Bytes) : Device := (tookOf d code b).2
/-- It is taken where anything is. -/
theorem took_takes (d : Device) (code : Nat) (b : Bytes) (h : (d.takes code (pkt b)).isSome = true) :
    d.takes code (pkt b) = some (cmd d code b, dev d code b) := by
  unfold cmd dev tookOf
  cases hx : d.takes code (pkt b) with
  | none => simp [hx] at h
  | some x => rfl

/-- Whether a list holds at least some elements, element by element. -/
def holdsN {α : Type} : List α → Nat → Bool
  | _, 0 => true
  | [], _ + 1 => false
  | _ :: l, n + 1 => holdsN l n
theorem le_length {α : Type} : ∀ (l : List α) (n : Nat), holdsN l n = true → n ≤ l.length
  | _, 0, _ => Nat.zero_le _
  | [], _ + 1, h => by simp [holdsN] at h
  | _ :: l, n + 1, h => Nat.succ_le_succ (le_length l n (by simpa [holdsN] using h))
/-- A command of partition 3 at the heat boundary. -/
def bc (code : Nat) (b : Bytes) : Cmd := ⟨3, code, 65535, b, 49⟩

/-! ## Anvils -/

/-- x1 to x6, v1 to v4 and p1, p2 with some contents. -/
def someSet : RSet :=
  { rsetOff with
    x := [(1, ⟨7, false⟩), (2, ⟨3, false⟩), (3, ⟨0x4000, true⟩), (4, ⟨48, false⟩), (5, ⟨0xFFFFFFFFFFFFFFFF, false⟩), (6, ⟨0x0030FFFFE0, false⟩),
      (7, ⟨0x0010FFFFE0, false⟩), (8, ⟨64, false⟩), (9, ⟨255, false⟩)]
    v := [(1, ⟨0x0000000200000001, 0⟩), (2, ⟨0x3FF00000000000004000000000000000, 0⟩), (3, ⟨1, 1⟩)]
    p := [(1, 255), (2, 0)]
    pc := 0x3FFC0
    task := some 0 }

/-- The fabric runs, with every hearth up; C3 of anvil 63 holds task 0, and the static set of anvil 0 runs a block. -/
def fabOn : Device :=
  let e := ((live.wrN FAB_CTRL 0xFF01).wrN FAB_STAT 0xFF04).wrN DSP_CTRL 1
  let e := e.setAnv 63 { anvilOff with sets := [(4, someSet)] }
  let e := e.setAnv 0 { anvilOff with sets := [(0, { someSet with task := none })], run := some ⟨1, 0, 100, false, 0, 0, [], []⟩ }
  let e := ((e.wrN (QUE_CFG 255) 0x404000).wrN (QUE_CFG 127) 0x8500).setQ 127 (queueOf 4096)
  let e := { e with mem := ⟨[(0x0010FFFFE3, 127), (0x0030FFFFE0, 1)], []⟩ }
  { e with dsp := { e.dsp with desc := [(0, ⟨2, 0, 64, 7, 48, 0, 0, 0, 0, 0, 0, 0, some (63, 3), none⟩)], fresh := 1 } }

/-- The same with queue 255, of the fabric contexts at both ends, in a state. -/
def withQ (q : Queue) : State := st (fabOn.setQ 255 q)
/-- Two granules are visible, and a packet of C3 of anvil 63 of one granule is open. -/
def busyQ : Queue :=
  { queueOf 16 with
    fin := 3, pkts := [⟨0, zeros 32, []⟩], opn := some ⟨zeros 16, [], false, false, ownerOf 63 4⟩, mark := some 0 }

/-- An operation of C3 of anvil 63, of guard predicate `g`. -/
def i63 (g : Nat) : Iss := ⟨63, 4, false, g, false⟩
/-- An operation of the static set of anvil 0. -/
def i0 : Iss := ⟨0, 0, false, 0, false⟩
/-- The bundle that it joins. -/
def b63 : Bundle := bundleOff 4
/-- The bundle of the static set. -/
def b0 : Bundle := bundleOff 0

/-! ## The contract -/

/-- The first bytes of a stock image: a variant of rung 0 with block 1 of anvil 0 at cycle 160 of stroke 0, a power-gate
window of hearth 7, and a reserve of anvil 0. -/
def img : Bytes :=
  leBytes 8 0x10191 ++ zeros 16 ++ leBytes 4 64 ++ leBytes 4 320 ++ zeros 32 ++
  leBytes 4 0x10000 ++ leBytes 4 1 ++ leBytes 4 160 ++ leBytes 4 64 ++ leBytes 4 96 ++ leBytes 4 160 ++ leBytes 4 96 ++ zeros 36 ++
  leBytes 4 1 ++ leBytes 4 160 ++ leBytes 4 100 ++ leBytes 4 160 ++ zeros 16 ++
  zeros 56 ++ leBytes 8 (9000000 * 2 ^ 32) ++
  leBytes 8 0 ++ leBytes 4 10000000 ++ leBytes 4 1200000 ++ leBytes 16 1

/-- The fabric with that image in force and no anvil at work. -/
def stocked : Device :=
  let e := fabOn.wrN FAB_STAT 0xFF04
  { e with fab := { e.fab with stock := some img, anvils := [], adm := some ⟨[0], false, none, false, 0⟩ } }

/-- A request packet of the tongs to queue 126 and tag 5. -/
def reqOf (op len lp die rows : Nat) : Bytes :=
  leBytes 1 op ++ leBytes 1 126 ++ leBytes 2 5 ++ leBytes 4 len ++ leBytes 8 lp ++ leBytes 8 die ++ leBytes 8 rows

/-- The last bytes of LPDDR into those of the crucible of anvil 63. -/
def reqRead : Bytes := reqOf 0 16 0x01FFFFFFF0 0x0030FFFFF0 1

/-- Request queue `q` holds one packet; completions go to queue 126. -/
def tongsOn (q : Nat) (b : Bytes) : Device :=
  ((fabOn.wrN (QUE_CFG 126) 0x408100).setQ 126 (queueOf 16)).setQ (128 + q) { queueOf 16 with fin := 2, pkts := [⟨0, b, []⟩] }

/-- The dispatcher with descriptor 0 as given. -/
def dspWith (x : Desc) : Device := { fabOn with dsp := { fabOn.dsp with desc := [(0, x)] } }

/-! ## Time and corrections -/

/-- A profile of station 1: radio port 3, fragments of 64 bytes, keys that roll every hour. -/
def prof : Bytes := putB (putB (putB (leBytes 1 1 ++ zeros 95) 11 [8]) 14 [64, 1, 1]) 4 [1]

/-- 5 ms into heat `h`. -/
def atHeat (h : Nat) (d : Device) : Device :=
  { d.setBase 0 { d.base 0 with acc := (h * 100000000 + 5000000) * 2 ^ 32 } with tim :=
    { (d.setBase 0 { d.base 0 with acc := (h * 100000000 + 5000000) * 2 ^ 32 }).tim with begun := h } }

/-- The profile in effect, the keys of correction output, a multicast key, and radio port 3 up. -/
def corOn : Device :=
  let e := ((live.setSlot 127 { keyOf 3 0 with alg := 5 }).setSlot 126 { keyOf 3 2 with alg := 2 }).setSlot 11
    ⟨1, 0, 1, 4, false, 0, 0, 0xFF⟩
  let e := (e.setSlot 125 (keyOf 3 0)).wrN (MAC_CTRL 3) 1
  let e := e.setPort 3 { e.port 3 with locked := true }
  { e with
    cor := { e.cor with prof := some prof, kid := 255 }
    hst := { e.hst with mkey := some ⟨3, 125, 1⟩, mkeyNext := none } }

/-- The GNSS engine runs with all four ports, and TB0 is not valid. -/
def gnssOff : Device := Device.reset.wrN GNS_CTRL 0x1F

/-! ## Power, starts and the service port -/

/-- An image of a kind with an empty body, for every stepping. -/
def imgOf (kind : Nat) : Bytes :=
  putB (putB (zeros 512) 0 [0x4E, 0x5A, 0x49, 0x4D, BitVec.ofNat 8 kind, 1]) 18 [0xFF, 0xFF]

/-- A set of four such images. -/
def aSet : Tab Bytes := [1, 2, 3, 4].map fun k => (k, imgOf k)

/-- In HIBERNATE with both wake sources. -/
def asleep : Device := (timed.wrN PWR_STATE 0x33).wrN PWR_WAKE 3

/-- The service port is served, with a vendor session of every right; slot 127 is loaded, and debug policy is open. -/
def svcOn : Device :=
  { live with boot := { live.boot with
      svcEn := true, warden := true, sess := some ⟨31, true, 5⟩, active := aSet, nonce := true, otp := [] } }

/-- An update command of the service port arrives with a body. -/
def svcUpd (_d : Device) (code : Nat) : Nat → Bytes → Device → Device := fun st bd x => x.svcAnswer code 7 st bd

/-- The staging lock is held by a source. -/
def lockOf (n : Nat) (d : Device) : Device := { d with boot := { d.boot with holder := n, holderAt := 5 } }

/-- A start with every check good. -/
def goodStart : StartIn := ⟨false, false, some 2, true, false, [1, 2, 3, 4], [], []⟩

/-! ## Keys and stops -/

/-- A blob of parent 4 with an attribute and an algorithm. -/
def blob (attr alg : BitVec 8) : Bytes := [0xD1, 1, 4, attr, 0, 0, alg, 0xFF] ++ zeros 88

/-- In the cinder state. -/
def cinders (d : Device) : Device := { d with tmp := { d.tmp with cinder := true } }

/-- The body of a stop or resume of the whole fleet, with causes. -/
def fleetStop (causes : Nat) : Bytes := zeros 2 ++ leBytes 2 causes ++ leBytes 8 0xFFFFFFFFFFFFFFFF

/-- The stop sequencer in a phase with the latched causes, on port 3, with a permit key. -/
def stopOn (phase latch : Nat) : Device :=
  let e := corOn.wfld STP_CTRL 0 4 8
  { e with stp := { e.stp with phase := phase, latch := latch, key := some ⟨3, 125, 7⟩ } }

/-- 32 sealed frames of the permit key. -/
def sealed (n : Nat) : List SealedFrame := (List.range n).map fun i => ⟨0xFFFF0000 + i, 50, 7, false⟩

/-- A ready unit, strapped away or home, with the pair key and the peer's identity. -/
def ready (away : Bool) : Device :=
  let e := (stopOn 0 0).wrN FAB_STAT 0xFF04
  let e := (e.setSlot 8 ⟨1, 0, 2, 4, true, 7, 0, 0xFF⟩).setSlot 9 ⟨1, 1, 2, 4, true, 7, 0, 0xFF⟩
  { e with
    stp := { e.stp with ahead := [(3, sealed 32)] }
    pwr := { e.pwr with armed := true, served := e.upNs }
    pair := { e.pair with claim := false, away := away, bound := true } }

/-- A ready unit of a pair. -/
def paired (away : Bool) : Device := (ready away).wrN PAIR_CTRL 1

/-- A datagram of the home unit. -/
def peer (b : Bytes) : PeerPkt := ⟨false, 1, true, b⟩

/-- A heartbeat with some flags. -/
def beat (flags : BitVec 8) : Bytes := [0xE1, 1, flags] ++ zeros 33

/-! ## The fleet -/

/-- Machine 4095 of partition 3 in a state, with node 0x3FFFD, and its twin key in slots 124 and 125. -/
def fleet (state : Nat) : Device :=
  let e := (live.setSlot 124 { keyOf 3 0 with twin := true }).setSlot 125 { keyOf 3 1 with twin := true }
  let e := e.setFes 4095 [(2, state), (3, 3), (4, 0x3FFFD), (8, 9), (22, 124), (23, 3), (28, 50), (340, 0xFFFFFFFF), (208, 0xFFFF)]
  e.setNds 0x3FFFD [(4, 3), (5, 1), (7, 3), (8, 9), (20, 4095), (24, 50)]

/-- A datagram of machine 4095 in the heat. -/
def machPkt (b : Bytes) : MachPkt := ⟨0x3FFFD, 1, true, 5006000000, b⟩

/-- A hello of EUI-64 9 for PAN 2. -/
def hello9 : Bytes := [0x21, 1, 6, 0] ++ leBytes 8 9 ++ leBytes 4 5 ++ leBytes 4 7 ++ zeros 4

/-! ## The plan -/

/-- A GRAPH_WRITE record of a segment from junction 0 to 32767 of some length. -/
def segRec (len : Nat) : Bytes :=
  leBytes 2 0 ++ leBytes 2 32767 ++ leBytes 4 len ++ leBytes 2 20000 ++ [3, 8, 0, 0, 0, 5] ++ leBytes 2 40 ++ zeros 14

/-- An entry of a machine on segment 65535, of `dwell` or PASS. -/
def ent (m enter exit : Nat) (held : Bool) : RsvEntry := ⟨65535, m, 0, enter, exit, false, held⟩

/-- Machine 4095 with a current entry and a hold of one entry, on segment 65535 between two task points; the store runs. -/
def railed : Device :=
  let e := ((fleet 2).wrN RSV_CTRL 1).wrN RSV_STAT 1
  { e with rsv := { e.rsv with
      juncs := [(0, [(12, 3)]), (32767, [(0, 10000), (12, 3)])]
      segs := [(65535, layRead laySeg (segRec 10000))]
      ents := [(0, ent 4095 490 520 false), (1048575, ent 4095 520 600 true)]
      holds := [(4095, ⟨65535, 520, some 0, 48, [1048575]⟩)]
      cur := [(4095, 0)] } }

/-- The same while the store is paused by a stop, and folds. -/
def paused : Device := ((railed.wrN RSV_STAT 7).wrN RSV_PAUSE_BASE 500).wrN RSV_PAUSE_OFS 0xFFFFFF

/-- An allotment profile at the ends of its ranges: the planner on, with discharging. -/
def allot : Bytes :=
  leBytes 1 1 ++ [7] ++ leBytes 2 300 ++ leBytes 2 0 ++ [50, 80, 95, 100] ++ leBytes 4 1000 ++ leBytes 2 10 ++ [0, 3] ++ zeros 14

/-- A task of partition 3 between the junctions in a state. -/
def taskOf (st : Nat) : Task :=
  { kind := 1, prio := 0, pin := none, start := 0, fin := 32767, work := 1, mask := 0, earliest := 0, deadline := 0
    energy := 0, tag := 5, st := st, part := 3, mach := if st = 1 then noTask else 4095, tries := 0, excl := [] }

/-- The profile in effect, and task 8191 in a state. -/
def allotted (st : Nat) : Device :=
  { railed with alo := { railed.alo with prof := some allot, tasks := [(8191, taskOf st)] } }

/-- Partition 3 has 2048 tasks. -/
def fullTasks : Device := { railed with alo := { railed.alo with tasks := (List.range 2048).map fun t => (t, taskOf 1) } }

/-- The governor runs: limits of 5 samples, and loop 6 of machine 4095 in region 15 is bounded to -5 to 5. -/
def governing : Device :=
  let e := (railed.wrN GOV_CTRL 1).wrN GOV_CFG 0x050505
  { e with gov := { e.gov with
      coef := [(coefKey 0 0 15 6, [(8, 0xFFFB), (10, 5)])]
      mach := [(4095, ⟨[0, 0, 0, 0, 0, 0, 1281], [], [], none, false⟩)]
      zones := [(255, ⟨2, 0, 0, 5, false⟩)] } }

/-! ## The solver -/

/-- A solver profile at the low ends of its ranges, with a grid of 256 by 256 cells and evidence on. -/
def solverProf : Bytes :=
  zeros 32 ++ [20, 0] ++ leBytes 2 256 ++ leBytes 2 256 ++ [254, 3, 15, 4, 1, 0, 5, 5, 0, 0] ++ leBytes 2 1 ++ leBytes 2 20000 ++
    leBytes 2 1 ++ leBytes 2 1 ++ zeros 8

/-- An observation frame of machine 4095 in heat 50, of one full entry. -/
def obs : Bytes := [0x31, 3, 0xFF, 0x0F] ++ leBytes 4 50 ++ leBytes 2 1 ++ zeros 26

/-- Its position report. -/
def rep : Bytes := [0x33, 7, 0xFF, 0x0F] ++ leBytes 4 50 ++ leBytes 4 0xFFFFFFFF ++ leBytes 4 0x7FFFFFFF ++ zeros 16

/-- Machine 4095 is enrolled at a rate, with a frame that waits and one that is late; the base epoch is there. -/
def solving (rate : Nat) : Device :=
  let e := (fleet 2).setFes 4095 [(36, enrolWord rate 0 3 0), (21, 1)]
  { e with
    slv := { e.slv with
      prof := some solverProf, slots := 1, frames := [(4095, obs)], late := [(4095, obs)], last := [0, 0, 0, 0]
      filters := if rate = 0 then [] else [(4095, { filterNew with misses := 1 })] }
    cor := { e.cor with base := some (50, 0, []) } }

/-- What a solve gives; `bad` says that the code residuals are too large. -/
def fit (bad : Bool) : SolveOut := ⟨[], 4, 5, bad, [], [], false, [-1, 2, 3], [0, 0, 32768], [1, 1, 1, 0, 0, 0], []⟩

/-! ## The radio -/

/-- A node's record on port 3: its kind, state, owner, EUI-64 and parent; it is secured under slot 123. -/
def nodeRec (kind sleepy eui par : Nat) : List (Nat × Nat) :=
  [(4, kind), (5, 1), (6, 4 + sleepy), (7, 3), (8, eui), (16, 0x30000 + par), (22, 1), (24, 50), (32, 6), (36, 8), (45, 123)]

/-- The fleet's device with radio port 3 up: sleepy sensor 1, relay 2 and its child 3, sensor 4, machine 4095; a frame is on
air for node 1, and one was forwarded for node 3. -/
def radio : Device :=
  let e := ((fleet 2).setSlot 123 (keyOf 3 2)).wrN (MAC_CTRL 3) 1
  let e := (e.setNds 0x30001 (nodeRec 1 1 11 0)).setNds 0x30002 (nodeRec 2 0 12 0)
  let e := (e.setNds 0x30003 (nodeRec 1 1 13 2)).setNds 0x30004 (nodeRec 1 0 14 0)
  let e := e.setNds 0x3FFFD [(6, 4), (45, 123)]
  e.setPort 3 { e.port 3 with
    locked := true
    store := [⟨1, 100000000001, 5, 3, [7], none, true⟩, ⟨3, 100000000001, 5, 3, [7], some 65535, false⟩] }

/-- PAN 3 admits every node. -/
def openPan : Device := { radio with flt := { radio.flt with cfg := [30, 2, 2, 2, 2, 0xC] } }

/-- A secured frame of a node of port 3 that asks for an acknowledgement. -/
def mpdu (src ctr : Nat) (b : Bytes) : Mpdu := ⟨true, 1, 0, 0, 0, src, 0, true, 123, ctr, true, true, true, b⟩
/-- An association request of an EUI-64 with a record 0x72 of a kind. -/
def joins (eui kind : Nat) : Mpdu :=
  ⟨true, 1, 0, 0, 0, 0xFFFF, eui, false, 0, 0, false, true, false, [0x72, BitVec.ofNat 8 kind, 1, 0, 0, 0, 100, 99, 96, 0]⟩
/-- It arrives on port 3. -/
def rxOf (m : Mpdu) (child : Option Mpdu) : RxFrame := ⟨3, 5006000000, 5006500000, true, 128, 255, m, child⟩
/-- The device after it. -/
def rxd (d : Device) (f : RxFrame) (assoc : Bool) : Device := (d.rx f assoc).2
/-- The device after a relay's frame and its child's. -/
def rxChild (d : Device) (f : RxFrame) (c : Mpdu) (assoc : Bool) : Device :=
  (((rxd d f false).oweAck f false false).mpduTake 3 c assoc).2
/-- An envelope of a relay. -/
def envelope : Bytes := [0xA6, 0, 3, 0, 0, 0, 128, 255]
/-- A relay's report of its child's frame. -/
def reported (st seq : Nat) : Bytes := [0xA5, BitVec.ofNat 8 st, 3, 0] ++ leBytes 2 seq ++ zeros 2
/-- A direct frame. -/
def directTo (short : Nat) : Direct := ⟨short, 0, false, 5, none, [7], 0, 0, none⟩

/-- A NODE_SEND body: the node, the persistence, and 200 bytes. -/
def sendTo (n per : Nat) : Bytes := leBytes 4 n ++ leBytes 2 per ++ leBytes 2 200 ++ leBytes 4 5 ++ zeros 200
/-- The port with some direct frames, a poll and an acknowledgement owed. -/
def sending (l : List Direct) : Device :=
  radio.setPort 3 { radio.port 3 with
    direct := l, polled := some ⟨1, 5006000000, false⟩, acks := [⟨1, 0, 5006500000, true, true, false, true⟩] }
/-- The indirect store is full. -/
def fullStore : Device := radio.setPort 3 { radio.port 3 with store := List.replicate 16384 ⟨2, 0, 0, 3, [], none, false⟩ }

/-! ## Hosts -/

/-- A session that waits for its first datagram, over the SPI or not. -/
def waits (spi : Bool) : Device :=
  { live with hst := { live.hst with sess := [(3, ⟨true, false, 0, 0, some spi⟩)], replay := [(keySession 3, ⟨1, 0⟩)] } }
/-- A datagram under the waiting session's key. -/
def newPkt (b : Bytes) : HostPkt := { pkt b with newKey := true }
/-- Queue 63 holds one packet, with poisoned granules. -/
def egressing (bad : List Nat) : Device := live.setQ 63 { queueOf 16 with fin := 2, pkts := [⟨0, zeros 32, bad⟩] }
/-- The MCAST_KEY commands' device: slot 125 holds a key of its partition for ENCRYPT. -/
def mcasting : Device := live.setSlot 125 (keyOf 3 0)
/-- Two datagrams wait for the SPI. -/
def spiWaits : Device := { live with hst := { live.hst with spiOut := [[1], [2]] } }

/-! ## Metering -/

/-- Feed 7 of busbar 3 is metered, TB6 is valid, and records 1 and 2 are in a ring of 4 at the last bytes of LPDDR. -/
def meters : Device :=
  let e := ((live.wrN MTR_CTRL 1).wrN (MTR_FEED_CFG 7) 7).wrN (MTR_BUS_CFG 3) 0x1000
  let e := ((e.wrN MTR_SEQ 2).wrN MTR_RING_LEN 4).wrN MTR_RING_BASE 0x1FFFE
  let e := e.setSlot 10 { keyOf 3 0 with alg := 3 }
  { e with
    mtr := { e.mtr with on := true, len := 1, align := -1 }
    mem := ⟨[(0x1FFFE80, 0xB1), (0x1FFFE84, 1), (0x1FFFF00, 0xB1), (0x1FFFF04, 2)], []⟩ }
/-- Its range is to become fine. -/
def toFine : Device := (meters.setFeed 7 { feedZero with due := some true }).wrN (MTR_FEED_CFG 7) 15
/-- A phase's sample. -/
def sampleOf (p q : Int) : List MeterSample := [⟨0, 0, 0, 0, 0⟩, ⟨0, 0, 0, 0, 0⟩, ⟨p, q, 5, 1, 1⟩]

/-! ## What the check of well-formed commands refuses -/

/-- Each field of Iss out of its range. -/
theorem test_wf_refuses_issue :
    ([{ i63 0 with anvil := 64 }, { i63 0 with set := 5 },
      { i63 0 with pg := 8 }] : List Iss).all (fun x => !x.wf) = true := by decide +kernel

/-- Each field of HostPkt out of its range. -/
theorem test_wf_refuses_host_packets :
    ([{ pkt [] with part := 4 }, { pkt [] with seq := 0 }, { pkt [] with seq := 2 ^ 32 },
     { pkt [] with req := 2 ^ 16 },
      pkt (zeros 1421)] : List HostPkt).all (fun x => !x.wf) = true := by decide +kernel

/-- Each field of MachPkt out of its range. -/
theorem test_wf_refuses_machine_packets :
    ([{ machPkt [1] with node := 2 ^ 18 }, { machPkt [1] with seq := 0 }, { machPkt [1] with seq := 2 ^ 32 },
     machPkt [], machPkt (zeros 1421)] : List MachPkt).all (fun x => !x.wf) = true := by decide +kernel

/-- Each field of PeerPkt out of its range. -/
theorem test_wf_refuses_peer_packets :
    ([{ peer [1] with seq := 0 }, { peer [1] with seq := 2 ^ 32 }, peer [],
      peer (zeros 1421)] : List PeerPkt).all (fun x => !x.wf) = true := by decide +kernel

/-- Each field of RxFrame out of its range. -/
theorem test_wf_refuses_radio_frames :
    ([{ rxOf (joins 9 3) none with port := 4 }, { rxOf (joins 9 3) none with sfd := 5006500001 },
     { rxOf (joins 9 3) none with rssi := 256 },
      { rxOf (joins 9 3) none with lqi := 256 }] : List RxFrame).all (fun x => !x.wf) = true := by decide +kernel

/-- Commands with one operand out of its range (1 of 5). -/
theorem test_wf_refuses_operands_1 :
    ([.registerWrite 1 1 (2 ^ 32), .misalignedAccess 1 256 false, .rcRead 1 (2 ^ 32), .lowWordRead (2 ^ 40),
     .heatStart 16, .portDisplaced 4, .signalAcquired 1 1 256, .corrProfile (pkt (zeros 1421)),
     .corrStatus (pkt (zeros 1421)), .correctionSet 3, .radioFragment 1 1 1 false 3, .keyAnnouncement 1 3,
     .solveEnrol (pkt (zeros 1421)), .solverProfile (pkt (zeros 1421)), .solverStatus (pkt (zeros 1421)),
     .atlasRead (pkt (zeros 1421)), .atlasWrite (pkt (zeros 1421)), .atlasClear (pkt (zeros 1421)),
     .observationFrame (machPkt []), .positionReport (machPkt []), .centralSolve (2 ^ 12) (fit true),
     .filterReset (2 ^ 12), .machineAdmit (pkt (zeros 1421)), .machineRelease (pkt (zeros 1421)),
     .ownerOffer (pkt (zeros 1421)), .ownerAccept (pkt (zeros 1421)), .transferExpiry (2 ^ 12),
     .readGrant (pkt (zeros 1421)), .nodeRead (pkt (zeros 1421)), .machineRead (pkt (zeros 1421)),
     .nodeAllow (pkt (zeros 1421)), .fleetCfg (pkt (zeros 1421)), .fleetStatus (pkt (zeros 1421)),
     .hello (machPkt []), .silent (2 ^ 12), .leavingComplete (2 ^ 12), .nodeTimeout (2 ^ 18),
     .quarantineExpiry (2 ^ 18), .graphWrite (pkt (zeros 1421)), .graphCheck (pkt (zeros 1421)),
     .rsvGraphCheck (2 ^ 32), .rsvDisable (2 ^ 32), .routeRequest (pkt (zeros 1421)),
     .routeCommit (pkt (zeros 1421)), .routeAbandon (pkt (zeros 1421)), .holdExpiry (2 ^ 12),
     .overstayReplan (2 ^ 12), .taskPost (pkt (zeros 1421)), .taskCancel (pkt (zeros 1421)),
     .auctionNow (pkt (zeros 1421)), .allotProfile (pkt (zeros 1421)), .dockCfg (pkt (zeros 1421)),
     .siteLoad (pkt (zeros 1421)), .taskReport (machPkt []), .taskExpiry 8192, .exclusionExpiry 1 (2 ^ 12),
     .batteryStale (2 ^ 12), .governorSample 5 [] [] false 1, .stale (2 ^ 12), .frozen (2 ^ 12)] :
      List Instr).all (fun c => !c.wf) = true := by decide +kernel

/-- Commands with one operand out of its range (2 of 5). -/
theorem test_wf_refuses_operands_2 :
    ([.regionChange (2 ^ 12), .machFault (2 ^ 12), .zoneTtl 256, .govCoef (pkt (zeros 1421)),
     .govSwap (pkt (zeros 1421)), .govMachine (pkt (zeros 1421)), .govOverride (pkt (zeros 1421)),
     .govRead (pkt (zeros 1421)), .zoneState (pkt (zeros 1421)), .stopCmd (pkt (zeros 1421)),
     .resumeCmd (pkt (zeros 1421)), .permitKey (pkt (zeros 1421)), .permitBeacon 16 1, .stopFrame 4 1 1,
     .sealAhead 4, .monitorCheck 16, .heartbeat (peer []), .forwardedCommand (peer []) false, .blockStart (2 ^ 16),
     .overrun 64, .rerun 64, .fabFence 64, .standInRemap 64, .admitVariant (2 ^ 32), .tongsRequest 8,
     .tongsAbort 8 false, .tongsCompletion 1 5 1, .powerGateWindow 8, .powerGateEnd 8, .nop (i63 0) 4,
     .alu (i63 0) false 1 1 1 32, .addi (i63 0) false 1 1 (2 ^ 12), .andi (i63 0) 1 1 (2 ^ 12),
     .ori (i63 0) 1 1 (2 ^ 12), .xori (i63 0) 1 1 (2 ^ 12), .shi (i63 0) 1 1 (2 ^ 12), .cmp (i63 0) 1 1 1 1 16,
     .cmpi (i63 0) 1 1 1 1 256, .plog (i63 0) 1 1 1 4, .movq (i63 0) 1 1 false (2 ^ 16), .br (i63 0) (2 ^ 22),
     .brl (i63 0) (2 ^ 22), .jr (i63 0) 32, .loop (i63 0) 1 1 1024, .loopi (i63 0) 1 1 1024,
     .mfs (i63 0) 1 (2 ^ 12), .mts (i63 0) 1 (2 ^ 12), .pad (i63 0) (2 ^ 16), .ends { i63 0 with set := 5 },
     .mul (i63 0) 1 1 1 32, .fopD (i63 0) 1 1 1 32, .fmaD (i63 0) 1 1 1 1 32, .fcvt (i63 0) 1 1 1 32,
     .fcmp (i63 0) 1 1 1 1 16, .frnd (i63 0) 1 1 1 32, .twosum (i63 0) 1 1 32, .twoprod (i63 0) 1 1 32,
     .cycsplit (i63 0) 1 1 32, .vopI (i63 0) 1 1 1 32, .vopS (i63 0) 1 1 1 32] :
      List Instr).all (fun c => !c.wf) = true := by decide +kernel

/-- Commands with one operand out of its range (3 of 5). -/
theorem test_wf_refuses_operands_3 :
    ([.vopD (i63 0) 1 1 1 32, .vfmaS (i63 0) 1 1 1 1 32, .vfmaD (i63 0) 1 1 1 1 32, .vcmpI (i63 0) 1 1 1 1 16,
     .vcmpS (i63 0) 1 1 1 1 16, .vcmpD (i63 0) 1 1 1 1 16, .vcvt (i63 0) 1 1 1 32, .vred (i63 0) 1 1 1 32,
     .vperm (i63 0) 1 1 1 32, .vbcast (i63 0) 1 1 1 32, .vmovx (i63 0) 1 1 1 32, .vins (i63 0) 1 1 1 32,
     .zredGauss (i63 0) 1 1 32, .zredSwap (i63 0) 1 1 32, .zsrchInit (i63 0) 1 1 32, .zsrchStep (i63 0) 1 1 32,
     .scalarLoad (i63 0) 1 1 1 1 4, .scalarStore (i63 0) 8 1 1 (2 ^ 12), .vld (i63 0) 1 1 1 4,
     .vst (i63 0) 1 1 (2 ^ 12), .resultWriteback 1 3, .qpush (i63 0) 1 1 1 256 false,
     .qseal (i63 0) 1 1 1 256 false, .qpop (i63 0) 1 1 1 256 false [], .qmark (i63 0) 1 1 1 256 false,
     .qrwnd (i63 0) 1 1 1 256 false, .qrel (i63 0) 1 1 1 256 false, .qstat (i63 0) 1 1 1 256 false,
     .rsvQuery (i63 0) 1 1 32, .rsvHold (i63 0) 1 1 32, .rsvCommit (i63 0) 1 1 32, .rsvAbandon (i63 0) 1 1 32,
     .gwr (i63 0) 1 1 (2 ^ 12), .anvilTaskPost (i63 0) 1 1 32, .anvilTaskCancel (i63 0) 1 1 32,
     .taskEnd (i63 0) 1 1 32, .triggerEnable 1 (2 ^ 32), .triggerTask 16, .notBeforeWake (2 ^ 12), .taskDispatch 8,
     .queueEnable 1 (2 ^ 32), .queueDisable 1 (2 ^ 32), .queFlush 256 false false, .flushEffect 256,
     .flushSettle 256, .handOver 256, .handOverComplete 256, .macEnable 1 (2 ^ 32), .indFlush 1 (2 ^ 32),
     .nodeSend (pkt (zeros 1421)), .dataFrame (rxOf (joins 9 3) none) (2 ^ 32) false, .acknowledgement 4 1,
     .dataRequest { rxOf (joins 9 3) none with port := 4 } 1 1, .indirectData 4 1 1, .frameExpiry 1 16384,
     .csmaCa 4 1 1 false, .associationRequest { rxOf (joins 9 3) none with port := 4 } false none,
     .disassociation { rxOf (joins 9 3) none with port := 4 },
     .relayReport { rxOf (joins 9 3) none with port := 4 }, .nodeResync (2 ^ 18)] :
      List Instr).all (fun c => !c.wf) = true := by decide +kernel

/-- Commands with one operand out of its range (4 of 5). -/
theorem test_wf_refuses_operands_4 :
    ([.markerError 4, .markerLock 4, .transceiverPllUnlock 4, .linkChange 3 false,
     .sessionOpen (pkt (zeros 1421)) false, .sessionTakeover (pkt []) 1 1 (2 ^ 16),
     .sessionClose (pkt (zeros 1421)), .sessionTimeout 4, .ping (pkt (zeros 1421)), .regRead (pkt (zeros 1421)),
     .regWrite (pkt (zeros 1421)), .mcastKey (pkt (zeros 1421)), .kernelData (pkt []) 4, .hostEgress 1 16,
     .spiWriteDatagram (pkt []) false 1 1 (2 ^ 16) false, .compareFire 32, .compareTargetWrite 1 (2 ^ 32),
     .capture 16, .timSnap 5, .timAdj 8 0, .masterChange 1 4, .meterSample 8 [], .chFault 36 false false,
     .rangeSwitch 8, .meterRead (pkt (zeros 1421)), .meterPubkey (pkt (zeros 1421)), .meterNow (pkt (zeros 1421)),
     .keyLoad (pkt (zeros 1421)) false, .keyUnload (pkt (zeros 1421)), .keyGenerate (pkt (zeros 1421)),
     .keyImport (pkt (zeros 1421)), .keyInvalidate (pkt (zeros 1421)), .keyStatus (pkt (zeros 1421)),
     .tamperEvent [] (2 ^ 16) false false, .rtcSet (2 ^ 32), .sysReset (2 ^ 32), .sysWdog (2 ^ 32),
     .updClaim (.svc 65536 []), .updData (.svc 65536 []), .updCommit (.svc 65536 []) [], .updAbort (.svc 65536 []),
     .updStatus (.svc 65536 []), .svcChallenge 1 (zeros 1041), .svcAuth 1 (zeros 1041) false,
     .svcSetBaud 1 (zeros 1041), .svcWriteRecovery (2 ^ 16) [] [], .svcRestore 1 (zeros 1041) [],
     .svcOtpWrite 1 (zeros 1041) false, .svcProvision (2 ^ 16) [], .svcPairBind 1 (zeros 1041) false,
     .svcStop 1 (zeros 1041), .svcResume 1 (zeros 1041), .svcClaimRelease 1 (zeros 1041),
     .svcLogClear 1 (zeros 1041), .svcDebugUnlock (2 ^ 16) false, .svcReset 1 (zeros 1041),
     .svcConfigWrite 1 (zeros 1041), .svcConfigRead 1 (zeros 1041), .stateRequest (2 ^ 32), .pllUnlock 10] :
      List Instr).all (fun c => !c.wf) = true := by decide +kernel

/-- Commands with one operand out of its range (5 of 5). -/
theorem test_wf_refuses_operands_5 :
    ([.errPick 1 (2 ^ 32), .datagramRejected 1 3 none, .unknownCommand (pkt []) (2 ^ 16),
     .neighbourDiscovery 1 false (2 ^ 128) [], .acknowledgementReceived 1 (2 ^ 16) 1, .illegalBundle (i63 0) 4,
     .jtagInstruction 5] :
      List Instr).all (fun c => !c.wf) = true := by decide +kernel

/-- The well-formed neighbours of some of them. -/
theorem test_wf_lets :
    ([.ping (pkt []), .hello (machPkt [1]), .heartbeat (peer [1]), .dataFrame (rxOf (joins 9 3) none) 0 true,
      .addi (i63 7) false 31 31 4095, .br (i63 0) 4194303, .nodeResync 262143, .jtagInstruction 4, .pllUnlock 9] :
      List Instr).all (fun c => c.wf) = true := by decide +kernel

/-! ## Words and single steps -/

/-- ADDI x3, x3, 32 in S0: SLOT 00, OP 0x01, D 3, A 3, imm 32 (R244, R248), the word of spec/11_anvil_isa.md's fields. -/
theorem test_decode_addi : decodeOp 5 1 0 0x00863020 = some (.addi ⟨5, 1, false, 0, false⟩ false 3 3 32) := by
  decide +kernel
/-- FMADD.D x10, x4, x5, x6 in S1 (R246, R249). -/
theorem test_decode_fma : decodeOp 5 1 1 0x01544298 = some (.fmaD ⟨5, 1, false, 0, false⟩ 0 10 4 5 6) := by
  decide +kernel
/-- VFMA.D v2, v0, v1, v2 under p2 in V (R246, R250). -/
theorem test_decode_vfma : decodeOp 5 1 2 0x21440088 = some (.vfmaD ⟨5, 1, false, 2, false⟩ 0 2 0 1 2) := by
  decide +kernel
/-- VLD v0, 64(x7) in M (R246, R251): the immediate counts 32 bytes. -/
theorem test_decode_vld : decodeOp 5 1 3 0x03007002 = some (.vld ⟨5, 1, false, 0, false⟩ 0 7 2 0) := by
  decide +kernel
/-- An OP that R248 reserves in S0 is no operation. -/
theorem test_decode_reserved : decodeOp 5 1 0 0x02800000 = none := by decide +kernel

/-- A step takes the command at the front, and leaves the rest (log entry 1). -/
theorem test_step_takes_the_front :
    (match step ⟨[.errClear, .load], live⟩ with | .next t => t.pending | _ => []) = [.load] := by decide +kernel
/-- From reset, LINK_CHANGE sets the link's interrupt bit (R368). -/
theorem test_link_change :
    (match exec (.linkChange 1 true) State.reset with | .next t => t.dev.bit NET_INT_STAT 1 | _ => false) = true := by
  decide +kernel
/-- 28.8 W over one sample of 125 µs are 1 µWh (R412). -/
theorem test_sample_energy : sampleEnergy 28800000 = 2 ^ 32 := by decide +kernel
/-- On a tie the highest loop code governs (R174). -/
theorem test_govern_tie : govern [9, 5, 9, 9, 9, 5, 9, 9] = (5, 5) := by decide +kernel
/-- The largest allowed step down is dec / 50, and PERMIT has none (R175). -/
theorem test_rate_limit : rateLimit 0 1000 500 5000 false = 900 ∧ rateLimit 0 1000 500 5000 true = 0 := by decide +kernel
/-- A replayed sequence is refused, one of the 64 below the highest is taken once (R372). -/
theorem test_replay :
    replayOk ⟨100, 0⟩ 100 = false ∧ replayOk ⟨100, 0⟩ 36 = true ∧ replayOk ⟨100, 0⟩ 35 = false ∧
      replayOk (replayMark ⟨100, 0⟩ 99) 99 = false := by decide +kernel

/-! ## Witnesses of the statements -/

/-- States and operands that meet what StepRunsTheCommandAtTheFront assumes, clause by clause. -/
theorem witness_StepRunsTheCommandAtTheFront :
    (∃ s : State, s.pending = []) :=
  ⟨st live, by decide +kernel⟩

/-- States and operands that meet what EveryCommandCompletesButOneDebugAccess assumes, clause by clause. -/
theorem witness_EveryCommandCompletesButOneDebugAccess :
    (∃ c : Instr, ((∀ i, c ≠ .jtagInstruction i))) ∧
    (∃ i : Nat, (i = 0 ∨ i = 2)) ∧
    (∃ i : Nat, i = 1) ∧
    (∃ (s : State) (i : Nat), 3 ≤ i ∧ (s.dev.boot.dbgOpen = false ∨ s.dev.boot.policy 0 = true)) ∧
    (∃ (s : State) (i : Nat), 3 ≤ i ∧ s.dev.boot.dbgOpen = true ∧ s.dev.boot.policy 0 = false) :=
  ⟨⟨Instr.errClear, fun _ => by simp⟩,
    ⟨0, by decide +kernel⟩,
    ⟨1, by decide +kernel⟩,
    ⟨st live, 3, by decide +kernel, by decide +kernel⟩,
    ⟨st { live with boot := { live.boot with dbgOpen := true } }, 3, by decide +kernel, by decide +kernel,
      by decide +kernel⟩⟩

/-- States and operands that meet what WaitingCommandsStayCommandsOfTheDevice assumes, clause by clause. -/
theorem witness_WaitingCommandsStayCommandsOfTheDevice :
    (∃ (s : State) (t : State), s.pendingWf ∧ step s = .next t) :=
  ⟨(⟨[.errClear], live⟩ : State), (⟨[], { live with log := { live.log with ring := [] } }⟩ : State),
      by unfold State.pendingWf; decide +kernel, by rfl⟩

/-- States and operands that meet what AnvilOperationsKeepMemoryCanonical assumes, clause by clause. -/
theorem witness_AnvilOperationsKeepMemoryCanonical :
    (∃ (s : State) (t : State) (c : Instr), Memory.wf s.dev.mem = true ∧ (((issOf c).isSome ∨ (∃ i slot,
      c = .illegalBundle i slot) ∨ ∃ a par, c = .resultWriteback a par)) ∧ exec c s = .next t) :=
  ⟨st live, st live, Instr.nop ⟨63, 4, false, 0, false⟩ 3, by decide +kernel, Or.inl (by decide +kernel), by rfl⟩

/-- States and operands that meet what EncodedOperationsDecodeToThemselves assumes, clause by clause. -/
theorem witness_EncodedOperationsDecodeToThemselves :
    (∃ (c : Instr) (slot : Nat) (w : Nat) (i : Iss), c.wf = true ∧ bareOp c = true ∧ encodeOp c = some (slot, w) ∧
      issOf c = some i) ∧
    (∃ (a : Nat) (k : Nat) (slot : Nat) (w : Nat) (c : Instr) (i : Iss), w < 2 ^ 32 ∧ slot < 4 ∧
      decodeOp a k slot w = some c ∧ issOf c = some i ∧ i.rsv = false) :=
  ⟨⟨Instr.addi ⟨63, 4, true, 7, false⟩ false 31 31 0xFFF, 0, ((encodeOp (.addi ⟨63, 4, true, 7,
      false⟩ false 31 31 0xFFF)).getD (0, 0)).2, (⟨63, 4, true, 7, false⟩ : Iss), by decide +kernel,
      by decide +kernel, by decide +kernel, by decide +kernel⟩,
    ⟨63, 4, 0, ((encodeOp (.addi ⟨63, 4, true, 7, false⟩ false 31 31 0xFFF)).getD (0, 0)).2, Instr.addi ⟨63, 4,
      true, 7, false⟩ false 31 31 0xFFF, (⟨63, 4, true, 7, false⟩ : Iss), by decide +kernel, by decide +kernel,
      by decide +kernel, by decide +kernel, by decide +kernel⟩⟩

/-- States and operands that meet what MisalignedAccessesHaveNoEffect assumes, clause by clause. -/
theorem witness_MisalignedAccessesHaveNoEffect :
    (∃ off : Nat, off < 0x10000 ∧ ∃ len : Nat, ((off % 4 ≠ 0 ∨ len ≠ 4)) ∧ ∃ r : Reg, r.blk ≠ .err) ∧
    (∃ off : Nat, off < 0x10000 ∧ off % 4 ≠ 0) ∧
    (∃ (b : Blk) (off : Nat), off < 0x10000 ∧ off % 4 = 0 ∧ ∃ row : RegRow, findRow ⟨b, off⟩ = some row ∧ isRc ⟨b,
      off⟩ = false ∧ isLow ⟨b, off⟩ = false ∧ isHigh ⟨b, off⟩ = false) ∧
    (∃ (b : Blk) (off : Nat), off < 0x10000 ∧ off % 4 = 0 ∧ ∃ row : RegRow, findRow ⟨b, off⟩ = some row ∧
      ∃ v : Nat, v < 2 ^ 32) :=
  ⟨⟨0xFFFF, by decide +kernel, 4, by decide +kernel, FAB_CTRL, by decide +kernel⟩,
    ⟨0xFFFF, by decide +kernel, by decide +kernel⟩,
    ⟨Blk.gns, 0xC, by decide +kernel, by decide +kernel, (⟨0xC, [], 0x5, [⟨0, 7, .rw, [(0, 90)]⟩]⟩ : RegRow),
      by decide +kernel, by decide +kernel, by decide +kernel, by decide +kernel⟩,
    ⟨Blk.gns, 0xC, by decide +kernel, by decide +kernel, (⟨0xC, [], 0x5, [⟨0, 7, .rw, [(0, 90)]⟩]⟩ : RegRow),
      by decide +kernel, 0xFFFFFFFF, by decide +kernel⟩⟩

/-- States and operands that meet what RegisterWritesFollowTheAccessCodes assumes, clause by clause. -/
theorem witness_RegisterWritesFollowTheAccessCodes :
    (∃ (s : State) (r : Reg) (row : RegRow) (v : Nat), r.off < 0x10000 ∧ r.off % 4 = 0 ∧ findRow r = some row ∧
      v < 2 ^ 32 ∧ s.dev.special 0 r row v = none ∧ s.dev.outOfRange r v = false ∧ ((∀ x, crossBad r x = [])) ∧
      r.blk ≠ .err ∧ ∃ f : FieldRow, f ∈ row.fields ∧ (f.acc = .rw ∨ f.acc = .rwl ∧ s.dev.locked r = false)) ∧
    (∃ (s : State) (r : Reg) (row : RegRow) (v : Nat), r.off < 0x10000 ∧ r.off % 4 = 0 ∧ findRow r = some row ∧
      v < 2 ^ 32 ∧ s.dev.special 0 r row v = none ∧ s.dev.outOfRange r v = false ∧ ((∀ x, crossBad r x = [])) ∧
      r.blk ≠ .err ∧ ∃ f : FieldRow, f ∈ row.fields ∧ (f.acc = .ro ∨ f.acc = .rc ∨ f.acc = .wo ∨ f.acc = .rwl ∧
      s.dev.locked r = true)) ∧
    (∃ (s : State) (r : Reg) (row : RegRow) (v : Nat), r.off < 0x10000 ∧ r.off % 4 = 0 ∧ findRow r = some row ∧
      v < 2 ^ 32 ∧ s.dev.special 0 r row v = none ∧ s.dev.outOfRange r v = false ∧ ((∀ x, crossBad r x = [])) ∧
      r.blk ≠ .err ∧ ∃ f : FieldRow, f ∈ row.fields ∧ f.acc = .w1c ∧ ∃ i : Nat, i < f.w) ∧
    (∃ (s : State) (r : Reg) (row : RegRow) (v : Nat), r.off < 0x10000 ∧ r.off % 4 = 0 ∧ findRow r = some row ∧
      v < 2 ^ 32 ∧ s.dev.special 0 r row v = none ∧ s.dev.outOfRange r v = false ∧ ((∀ x, crossBad r x = [])) ∧
      r.blk ≠ .err ∧ ∃ f : FieldRow, f ∈ row.fields ∧ f.acc = .w1s) ∧
    (∃ (s : State) (r : Reg) (row : RegRow) (v : Nat), r.off < 0x10000 ∧ r.off % 4 = 0 ∧ findRow r = some row ∧ v < 2 ^ 32 ∧ s.dev.special 0 r row v = none ∧ s.dev.outOfRange r v = false ∧ ((∀ x, crossBad r x = [])) ∧ r.blk ≠ .err ∧ ∃ f : FieldRow, f ∈ row.fields ∧ let new := bitsOf v f.lo f.w;
      ((f.acc = .rw ∨ f.acc = .rwl ∧ s.dev.locked r = false)) ∧ f.allows new = false) ∧
    (∃ (s : State) (r : Reg) (row : RegRow) (v : Nat), r.off < 0x10000 ∧ r.off % 4 = 0 ∧ findRow r = some row ∧
      v < 2 ^ 32 ∧ s.dev.special 0 r row v = none ∧ s.dev.outOfRange r v = false ∧ ((∀ x, crossBad r x = [])) ∧
      r.blk ≠ .err ∧ ∃ x : Reg, x ≠ r ∧ x.blk ≠ .err) :=
  ⟨⟨st live, GNS_MASK, (findRow GNS_MASK).getD ⟨0, [], 0, []⟩, 91, by decide +kernel, by decide +kernel,
      by decide +kernel, by decide +kernel, by decide +kernel, by decide +kernel, fun _ => by rfl,
      by decide +kernel, (⟨0, 7, .rw, [(0, 90)]⟩ : FieldRow), by decide +kernel, by decide +kernel⟩,
    ⟨st (live.wbit STP_CTRL 4 true), STP_CTRL, (findRow STP_CTRL).getD ⟨0, [], 0, []⟩, 0xFFFFFFFF,
      by decide +kernel, by decide +kernel, by decide +kernel, by decide +kernel, by decide +kernel,
      by decide +kernel, fun _ => by rfl, by decide +kernel, (⟨0, 4, .rwl, []⟩ : FieldRow), by decide +kernel,
      by decide +kernel⟩,
    ⟨st live, GNS_INT_STAT, (findRow GNS_INT_STAT).getD ⟨0, [], 0, []⟩, 0xFFFFFFFF, by decide +kernel,
      by decide +kernel, by decide +kernel, by decide +kernel, by decide +kernel, by decide +kernel,
      fun _ => by rfl, by decide +kernel, (⟨11, 1, .w1c, []⟩ : FieldRow), by decide +kernel, by decide +kernel, 0,
      by decide +kernel⟩,
    ⟨st live, STP_CTRL, (findRow STP_CTRL).getD ⟨0, [], 0, []⟩, 0x10, by decide +kernel, by decide +kernel,
      by decide +kernel, by decide +kernel, by decide +kernel, by decide +kernel, fun _ => by rfl,
      by decide +kernel, (⟨4, 1, .w1s, []⟩ : FieldRow), by decide +kernel, by decide +kernel⟩,
    ⟨st live, GNS_MASK, (findRow GNS_MASK).getD ⟨0, [], 0, []⟩, 91, by decide +kernel, by decide +kernel,
      by decide +kernel, by decide +kernel, by decide +kernel, by decide +kernel, fun _ => by rfl,
      by decide +kernel, (⟨0, 7, .rw, [(0, 90)]⟩ : FieldRow), by decide +kernel, by decide +kernel,
      by decide +kernel⟩,
    ⟨st live, GNS_MASK, (findRow GNS_MASK).getD ⟨0, [], 0, []⟩, 91, by decide +kernel, by decide +kernel,
      by decide +kernel, by decide +kernel, by decide +kernel, by decide +kernel, fun _ => by rfl,
      by decide +kernel, FAB_CTRL, by decide +kernel, by decide +kernel⟩⟩

/-- States and operands that meet what ReadingClearsAndPairsLatch assumes, clause by clause. -/
theorem witness_ReadingClearsAndPairsLatch :
    (∃ r : Reg, r.off < 0x10000 ∧ r.off % 4 = 0 ∧ (findRow r).isSome = true ∧ isRc r = true ∧ ∃ x : Reg, x ≠ r) ∧
    (∃ (s : State) (r : Reg), r.off < 0x10000 ∧ r.off % 4 = 0 ∧ (findRow r).isSome = true ∧ let h : Reg := ⟨r.blk, r.off + 4⟩;
      isLow r = true ∧ isRc r = false ∧ (findRow h).isSome = true ∧ ∃ v : Word,
      Tab.find s.dev.hiLatch (readerKey 0 h) = some v ∧ isLow h = false ∧ isRc h = false) ∧
    (∃ (s : State) (r : Reg), r.off < 0x10000 ∧ r.off % 4 = 0 ∧ (findRow r).isSome = true ∧ let h : Reg := ⟨r.blk, r.off + 4⟩;
      isLow r = true ∧ isRc r = false ∧ (findRow h).isSome = true ∧ r.blk = .gns ∧ ∃ v : Nat, v < 2 ^ 32 ∧
      ∃ lo : Word, Tab.find s.dev.loHeld (readerKey 0 r) = some lo) :=
  ⟨⟨RSV_PEAK, by decide +kernel, by decide +kernel, by decide +kernel, by decide +kernel, RSV_CTRL,
      by decide +kernel⟩,
    ⟨st { live with hiLatch := [(readerKey 0 ⟨.gns, 0x24⟩, 5)], loHeld := [(readerKey 0 ⟨.gns, 0x20⟩, 6)] },
      (⟨.gns, 0x20⟩ : Reg), by decide +kernel, by decide +kernel, by decide +kernel, by decide +kernel,
      by decide +kernel, by decide +kernel, (5 : Word), by decide +kernel, by decide +kernel, by decide +kernel⟩,
    ⟨st { live with hiLatch := [(readerKey 0 ⟨.gns, 0x24⟩, 5)], loHeld := [(readerKey 0 ⟨.gns, 0x20⟩, 6)] },
      (⟨.gns, 0x20⟩ : Reg), by decide +kernel, by decide +kernel, by decide +kernel, by decide +kernel,
      by decide +kernel, by decide +kernel, by decide +kernel, 0xFFFFFFFF, by decide +kernel, (6 : Word),
      by decide +kernel⟩⟩

/-- States and operands that meet what HostCommandsAreTakenAndAnswered assumes, clause by clause. -/
theorem witness_HostCommandsAreTakenAndAnswered :
    (∃ (d : Device) (e : Device) (h : HostPkt) (code : Nat) (c : Cmd), code < 65536 ∧ h.req < 65536 ∧
      h.body.length < 65536 ∧ d.takes code h = some (c, e)) ∧
    (∃ (d : Device) (c : Cmd) (st : Nat) (body : Bytes), let n := 16 * c.part + 1;
      let b := packetBytes (c.code + 0x8000) c.req st body;
      (d.q n).on = true ∧ (d.q n).opn = none ∧ granules b ≤ queueCredit (d.q n)) ∧
    (∃ (s : State) (h : HostPkt) (e : Device), s.dev.accept h = (true, e) ∧ 0 < queuePkts (e.q (16 * h.part))) ∧
    (∃ (s : State) (h : HostPkt), s.dev.hostPort h = true ∧ h.tagOk = false) :=
  ⟨⟨live, dev live 0x0003 [], pkt [], 0x0003, cmd live 0x0003 [], by decide +kernel, by decide +kernel,
      by decide +kernel, by decide +kernel⟩,
    ⟨live, cmd live 0x0003 [], 0, ([] : Bytes), by decide +kernel, by decide +kernel, by decide +kernel⟩,
    ⟨st (live.hwPush 48 (packetBytes 3 1 0 [])), pkt [],
      ((live.hwPush 48 (packetBytes 3 1 0 [])).accept (pkt [])).2, by decide +kernel, by decide +kernel⟩,
    ⟨st live, { pkt [] with tagOk := false }, by decide +kernel, by decide +kernel⟩⟩

/-- States and operands that meet what WindowCommandsReachOnlyTheWindow assumes, clause by clause. -/
theorem witness_WindowCommandsReachOnlyTheWindow :
    (∃ (s : State) (h : HostPkt) (c : Cmd) (e : Device), s.dev.takes 0x0010 h = some (c, e) ∧ c.body.length = 4 ∧
      rangeOk (uAt c.body 0 2) (uAt c.body 2 2) = true) ∧
    (∃ (s : State) (h : HostPkt) (c : Cmd) (e : Device), s.dev.takes 0x0010 h = some (c, e) ∧ c.body.length = 4 ∧
      rangeOk (uAt c.body 0 2) (uAt c.body 2 2) = false) ∧
    (∃ (e : Device) (p : Nat) (o : Nat), e.windowReg p o = none) ∧
    (∃ (s : State) (h : HostPkt) (c : Cmd) (e : Device), s.dev.takes 0x0011 h = some (c, e) ∧
      ∃ (o : Nat) (r : Reg) (v : Nat), c.body = leBytes 2 o ++ leBytes 2 1 ++ leBytes 4 v ∧ rangeOk o 1 = true ∧
      v < 2 ^ 32 ∧ (e.windowReg c.part o = none ∨ e.windowReg c.part o = some r ∧
      e.windowWrites c.part r = false)) ∧
    (∃ (s : State) (h : HostPkt) (c : Cmd) (e : Device), s.dev.takes 0x0011 h = some (c, e) ∧
      ∃ (o : Nat) (r : Reg) (v : Nat), c.body = leBytes 2 o ++ leBytes 2 1 ++ leBytes 4 v ∧ rangeOk o 1 = true ∧
      v < 2 ^ 32 ∧ e.windowReg c.part o = some r ∧ e.windowWrites c.part r = true) ∧
    (∃ (s : State) (h : HostPkt) (c : Cmd) (e : Device), s.dev.takes 0x0011 h = some (c, e) ∧ c.body.length < 4) :=
  ⟨⟨st live, pkt (leBytes 2 0 ++ leBytes 2 64), cmd live 0x10 (leBytes 2 0 ++ leBytes 2 64),
      dev live 0x10 (leBytes 2 0 ++ leBytes 2 64), by decide +kernel, by decide +kernel, by decide +kernel⟩,
    ⟨st live, pkt (leBytes 2 0xFFFC ++ leBytes 2 2), cmd live 0x10 (leBytes 2 0xFFFC ++ leBytes 2 2),
      dev live 0x10 (leBytes 2 0xFFFC ++ leBytes 2 2), by decide +kernel, by decide +kernel, by decide +kernel⟩,
    ⟨live, 3, 0, by decide +kernel⟩,
    ⟨st live, pkt (leBytes 2 0xFFFC ++ leBytes 2 1 ++ leBytes 4 1),
      cmd live 0x11 (leBytes 2 0xFFFC ++ leBytes 2 1 ++ leBytes 4 1),
      dev live 0x11 (leBytes 2 0xFFFC ++ leBytes 2 1 ++ leBytes 4 1), by decide +kernel, 0xFFFC, ERR_PICK, 1,
      by decide +kernel, by decide +kernel, by decide +kernel, by decide +kernel⟩,
    ⟨st live, pkt (leBytes 2 0xB020 ++ leBytes 2 1 ++ leBytes 4 0xFFFFFFFF),
      cmd live 0x11 (leBytes 2 0xB020 ++ leBytes 2 1 ++ leBytes 4 0xFFFFFFFF),
      dev live 0x11 (leBytes 2 0xB020 ++ leBytes 2 1 ++ leBytes 4 0xFFFFFFFF), by decide +kernel, 0xB020, ERR_PICK,
      0xFFFFFFFF, by decide +kernel, by decide +kernel, by decide +kernel, by decide +kernel, by decide +kernel⟩,
    ⟨st live, pkt [0, 0, 0], cmd live 0x11 [0, 0, 0], dev live 0x11 [0, 0, 0], by decide +kernel,
      by decide +kernel⟩⟩

/-- States and operands that meet what FaultRecordsKeepTheirPlaceAndPickersLatch assumes, clause by clause. -/
theorem witness_FaultRecordsKeepTheirPlaceAndPickersLatch :
    (∃ (d : Device) (block : Nat) (code : Nat) (unit : Nat) (outcome : Nat) (ctx : Bytes), let r : FaultRec := ⟨nextSeq d.log.seq, d.recHeat, d.recNs, block, outcome, code, unit, 0, padTo 12 ctx⟩;
      ∃ n : FaultRec, newestRec d.log = some n ∧ repeats r n = true) ∧
    (∃ (d : Device) (block : Nat) (code : Nat) (unit : Nat) (outcome : Nat) (ctx : Bytes), let r : FaultRec := ⟨nextSeq d.log.seq, d.recHeat, d.recNs, block, outcome, code, unit, 0, padTo 12 ctx⟩;
      ((∀ n, newestRec d.log = some n → repeats r n = false))) ∧
    (∃ (s : State) (seq : Nat) (r : FaultRec), Tab.find s.dev.log.ring (seq % 256) = some r ∧ r.seq = seq ∧
      seq ≠ 0 ∧ 0 ≤ diff32 s.dev.log.seq seq ∧ diff32 s.dev.log.seq seq < 256) ∧
    (∃ (s : State) (seq : Nat), 0 ≤ diff32 s.dev.log.seq seq ∧ Tab.find s.dev.log.ring (seq % 256) = none) :=
  ⟨⟨live.slag 0x0B 0x0103 63 4 [1], 0x0B, 0x0103, 63, 4, ([1] : Bytes),
      (newestRec (live.slag 0x0B 0x0103 63 4 [1]).log).getD ⟨0, 0, 0, 0, 0, 0, 0, 0, []⟩, by decide +kernel,
      by decide +kernel⟩,
    ⟨live, 0x0B, 0x0103, 63, 4, ([1] : Bytes), fun n hn => nomatch hn⟩,
    ⟨st (live.slag 0x0B 0x0103 63 4 [1]), 1, (newestRec (live.slag 0x0B 0x0103 63 4 [1]).log).getD ⟨0, 0, 0, 0, 0,
      0, 0, 0, []⟩, by decide +kernel, by decide +kernel, by decide +kernel, by decide +kernel, by decide +kernel⟩,
    ⟨st live, 0, by decide +kernel, by decide +kernel⟩⟩

/-- States and operands that meet what IntegerOperationsGiveTheirResults assumes, clause by clause. -/
theorem witness_IntegerOperationsGiveTheirResults :
    (∃ (s : State) (i : Iss) (b : Bundle) (d : Nat), s.dev.guarded i ∧ ∃ (s1 : Bool) (fn : Nat) (k : Nat),
      fn ≤ 16 ∧ ((15 ≤ fn → k = 0)) ∧ s.dev.joins i (b2n s1) [(0, d)] b) ∧
    (∃ (s : State) (i : Iss) (b : Bundle) (d : Nat), s.dev.guarded i ∧ ∃ s1 : Bool, s.dev.joins i (b2n s1) [(0,
      d)] b) ∧
    (∃ (s : State) (i : Iss) (b : Bundle) (d : Nat), s.dev.guarded i ∧ s.dev.joins i 0 [(0, d)] b) ∧
    (∃ (s : State) (i : Iss) (b : Bundle) (d : Nat), s.dev.guarded i ∧ ∃ (n : Nat) (sh : Nat), n < 64 ∧ sh < 3 ∧
      s.dev.joins i 0 [(0, d)] b) ∧
    (∃ (s : State) (i : Iss) (b : Bundle) (d : Nat), s.dev.guarded i ∧ ∃ fn : Nat, fn ≤ 6 ∧ s.dev.joins i 1 [(0,
      d)] b) :=
  ⟨⟨st fabOn, i63 1, b63, 31, by unfold Device.guarded; decide +kernel, true, 16, 0, by decide +kernel,
      by decide +kernel, by unfold Device.joins; decide +kernel⟩,
    ⟨st fabOn, i63 1, b63, 31, by unfold Device.guarded; decide +kernel, true,
      by unfold Device.joins; decide +kernel⟩,
    ⟨st fabOn, i63 1, b63, 31, by unfold Device.guarded; decide +kernel, by unfold Device.joins; decide +kernel⟩,
    ⟨st fabOn, i63 1, b63, 31, by unfold Device.guarded; decide +kernel, 63, 2, by decide +kernel,
      by decide +kernel, by unfold Device.joins; decide +kernel⟩,
    ⟨st fabOn, i63 1, b63, 31, by unfold Device.guarded; decide +kernel, 6, by decide +kernel,
      by unfold Device.joins; decide +kernel⟩⟩

/-- States and operands that meet what ScalarPredicateOperationsWriteTheirPredicate assumes, clause by clause. -/
theorem witness_ScalarPredicateOperationsWriteTheirPredicate :
    (∃ (s : State) (i : Iss) (b : Bundle) (pd : Nat) (a : Nat) (k : Nat), s.dev.guarded i ∧
      ∃ (mode : Nat) (cond : Nat), mode ≤ 2 ∧ cond ≤ 7 ∧ s.dev.joins i 0 [(2, pd)] b ∧
      ((s.dev.setOf i).xr a).bad = false ∧ ((s.dev.setOf i).xr k).bad = false) ∧
    (∃ (s : State) (i : Iss) (b : Bundle) (pd : Nat) (a : Nat) (k : Nat), s.dev.guarded i ∧
      ∃ (mode : Nat) (cond : Nat), mode ≤ 2 ∧ cond ≤ 7 ∧ s.dev.joins i 0 [(2, pd)] b ∧
      ((((s.dev.setOf i).xr a).bad = true ∨ ((s.dev.setOf i).xr k).bad = true))) ∧
    (∃ (s : State) (i : Iss) (b : Bundle) (pd : Nat) (a : Nat), s.dev.guarded i ∧ ∃ (mode : Nat) (cond : Nat),
      mode ≤ 2 ∧ cond ≤ 7 ∧ s.dev.joins i 0 [(2, pd)] b ∧ ((s.dev.setOf i).xr a).bad = false) ∧
    (∃ (s : State) (i : Iss) (b : Bundle) (pd : Nat) (a : Nat) (k : Nat), s.dev.guarded i ∧
      ∃ (mode : Nat) (cond : Nat), mode ≤ 2 ∧ cond ≤ 7 ∧ s.dev.joins i 1 [(2, pd)] b ∧
      ((s.dev.setOf i).xr a).bad = false ∧ ((s.dev.setOf i).xr k).bad = false) ∧
    (∃ (s : State) (i : Iss) (b : Bundle) (pd : Nat), s.dev.guarded i ∧ s.dev.joins i 0 [(2, pd)] b) :=
  ⟨⟨st fabOn, i0, b0, 7, 5, 1, by unfold Device.guarded; decide +kernel, 2, 7, by decide +kernel,
      by decide +kernel, by unfold Device.joins; decide +kernel, by decide +kernel, by decide +kernel⟩,
    ⟨st fabOn, i0, b0, 7, 3, 1, by unfold Device.guarded; decide +kernel, 0, 0, by decide +kernel,
      by decide +kernel, by unfold Device.joins; decide +kernel, by decide +kernel⟩,
    ⟨st fabOn, i0, b0, 7, 5, by unfold Device.guarded; decide +kernel, 2, 7, by decide +kernel, by decide +kernel,
      by unfold Device.joins; decide +kernel, by decide +kernel⟩,
    ⟨st fabOn, i0, b0, 7, 5, 1, by unfold Device.guarded; decide +kernel, 2, 7, by decide +kernel,
      by decide +kernel, by unfold Device.joins; decide +kernel, by decide +kernel, by decide +kernel⟩,
    ⟨st fabOn, i0, b0, 7, by unfold Device.guarded; decide +kernel, by unfold Device.joins; decide +kernel⟩⟩

/-- States and operands that meet what ConstantAndControlOperationsComplete assumes, clause by clause. -/
theorem witness_ConstantAndControlOperationsComplete :
    (∃ (s : State) (i : Iss) (b : Bundle) (d : Nat), s.dev.guarded i ∧ ∃ (n : Nat) (imm : Nat), n < 4 ∧
      imm < 65536 ∧ s.dev.joins i 0 [(0, d)] b) ∧
    (∃ (s : State) (i : Iss) (b : Bundle), s.dev.guarded i ∧ ∃ slot : Nat, slot < 4 ∧ s.dev.joins i slot [] b) ∧
    (∃ (s : State) (i : Iss) (b : Bundle), s.dev.guarded i ∧ ∃ ofs : BitVec 22, ((i.set = 0 → 0 < ofs.toInt)) ∧
      s.dev.joins i 0 [] b ∧ 0 ≤ ((s.dev.setOf i).pc : Int) + 16 * ofs.toInt ∧
      ((s.dev.setOf i).pc : Int) + 16 * ofs.toInt < 0x40000) ∧
    (∃ (s : State) (i : Iss) (b : Bundle), s.dev.guarded i ∧ ∃ ofs : BitVec 22, i.set ≠ 0 ∧ s.dev.joins i 0 [(0,
      31)] b ∧ 0 ≤ ((s.dev.setOf i).pc : Int) + 16 * ofs.toInt ∧
      ((s.dev.setOf i).pc : Int) + 16 * ofs.toInt < 0x40000) ∧
    (∃ (s : State) (i : Iss) (b : Bundle) (a : Nat), s.dev.guarded i ∧ i.set ≠ 0 ∧ s.dev.joins i 0 [] b ∧
      ((s.dev.setOf i).xr a).bad = false ∧ (s.dev.setOf i).xv a < 0x40000) ∧
    (∃ (s : State) (i : Iss) (b : Bundle) (a : Nat), s.dev.guarded i ∧ ∃ (lc : Nat) (len : Nat), i.set ≠ 0 ∧
      len ≠ 0 ∧ s.dev.joins i 0 [] b ∧ ((s.dev.setOf i).xr a).bad = false ∧ ((∀ l ∈ (s.dev.setOf i).loops,
      l.lc ≠ lc ∧ (s.dev.setOf i).pc + 16 * len ≤ l.last))) ∧
    (∃ (s : State) (i : Iss) (b : Bundle), s.dev.guarded i ∧ ∃ (lc : Nat) (len : Nat), len ≠ 0 ∧
      s.dev.joins i 0 [] b ∧ ((∀ l ∈ (s.dev.setOf i).loops, l.lc ≠ lc ∧ (s.dev.setOf i).pc + 16 * len ≤ l.last))) ∧
    (∃ (s : State) (i : Iss) (b : Bundle) (d : Nat), s.dev.guarded i ∧ ∃ (sreg : Nat) (val : Nat),
      s.dev.joins i 0 [(0, d)] b ∧ ((sreg = 0x002 ∧ val = s.dev.heat ∨ sreg = 0x003 ∧
      val = i.anvil ∨ sreg = 0x004 ∧ val = i.set ∨ sreg = 0x008 ∧ val = (s.dev.setOf i).fpcsr))) ∧
    (∃ (s : State) (i : Iss) (b : Bundle) (a : Nat), s.dev.guarded i ∧ s.dev.joins i 0 [] b ∧
      ((s.dev.setOf i).xr a).bad = false) ∧
    (∃ (s : State) (i : Iss) (b : Bundle), s.dev.guarded i ∧ s.dev.joins i 0 [] b) ∧
    (∃ (s : State) (i : Iss) (b : Bundle), s.dev.guarded i ∧ i.set = 0 ∧ s.dev.joins i 0 [] b) :=
  ⟨⟨st fabOn, i63 0, b63, 31, by unfold Device.guarded; decide +kernel, 3, 65535, by decide +kernel,
      by decide +kernel, by unfold Device.joins; decide +kernel⟩,
    ⟨st fabOn, i63 0, b63, by unfold Device.guarded; decide +kernel, 3, by decide +kernel,
      by unfold Device.joins; decide +kernel⟩,
    ⟨st fabOn, i63 0, b63, by unfold Device.guarded; decide +kernel, (3 : BitVec 22), by decide +kernel,
      by unfold Device.joins; decide +kernel, by decide +kernel, by decide +kernel⟩,
    ⟨st fabOn, i63 0, b63, by unfold Device.guarded; decide +kernel, (3 : BitVec 22), by decide +kernel,
      by unfold Device.joins; decide +kernel, by decide +kernel, by decide +kernel⟩,
    ⟨st fabOn, i63 0, b63, 4, by unfold Device.guarded; decide +kernel, by decide +kernel,
      by unfold Device.joins; decide +kernel, by decide +kernel, by decide +kernel⟩,
    ⟨st fabOn, i63 0, b63, 4, by unfold Device.guarded; decide +kernel, 3, 1, by decide +kernel, by decide +kernel,
      by unfold Device.joins; decide +kernel, by decide +kernel, by decide +kernel⟩,
    ⟨st fabOn, i63 0, b63, by unfold Device.guarded; decide +kernel, 3, 1, by decide +kernel,
      by unfold Device.joins; decide +kernel, by decide +kernel⟩,
    ⟨st fabOn, i63 0, b63, 31, by unfold Device.guarded; decide +kernel, 0x002, (st fabOn).dev.heat,
      by unfold Device.joins; decide +kernel, by decide +kernel⟩,
    ⟨st fabOn, i63 0, b63, 4, by unfold Device.guarded; decide +kernel, by unfold Device.joins; decide +kernel,
      by decide +kernel⟩,
    ⟨st fabOn, i63 0, b63, by unfold Device.guarded; decide +kernel, by unfold Device.joins; decide +kernel⟩,
    ⟨st fabOn, i0, b0, by unfold Device.guarded; decide +kernel, by decide +kernel,
      by unfold Device.joins; decide +kernel⟩⟩

/-- States and operands that meet what SuppressedOperationsWriteNothingAndIllegalOnesRaise assumes, clause by clause. -/
theorem witness_SuppressedOperationsWriteNothingAndIllegalOnesRaise :
    (∃ (s : State) (i : Iss) (b : Bundle) (d : Nat), ¬ s.dev.guarded i ∧ s.dev.joins i 0 [(0, d)] b) ∧
    (∃ (s : State) (i : Iss) (b : Bundle) (d : Nat), ¬ s.dev.guarded i ∧ s.dev.joins i 1 [(0, d)] b) ∧
    (∃ (s : State) (i : Iss) (b : Bundle), ¬ s.dev.guarded i ∧ i.set ≠ 0 ∧ s.dev.joins i 0 [] b) ∧
    (∃ (s : State) (i : Iss) (b : Bundle) (d : Nat), ¬ s.dev.guarded i ∧ ∃ op : Nat, 1 ≤ op ∧ op ≤ 7 ∧
      s.dev.joins i 3 [(0, d)] b) ∧
    (∃ (s : State) (i : Iss) (b : Bundle), ¬ s.dev.guarded i ∧ ∃ op : Nat, 8 ≤ op ∧ op ≤ 11 ∧
      s.dev.joins i 3 [] b) ∧
    (∃ (s : State) (i : Iss) (b : Bundle) (d : Nat), ¬ s.dev.guarded i ∧ i.set ≠ 0 ∧ s.dev.joins i 3 [(0, d)] b) ∧
    (∃ (s : State) (i : Iss) (b : Bundle), ¬ s.dev.guarded i ∧ i.set ≠ 0 ∧ s.dev.joins i 3 [] b) ∧
    (∃ (s : State) (i : Iss) (b : Bundle) (d : Nat), ¬ s.dev.guarded i ∧ ¬ s.dev.someLane i ∧ s.dev.joins i 2 [(1,
      d)] b) ∧
    (∃ (s : State) (i : Iss) (b : Bundle) (slot : Nat), s.dev.joins i slot [] b) ∧
    (∃ (s : State) (i : Iss) (b : Bundle) (d : Nat), s.dev.joins i 0 [(0, d)] b) :=
  ⟨⟨st fabOn, i63 2, b63, 31, by unfold Device.guarded; decide +kernel, by unfold Device.joins; decide +kernel⟩,
    ⟨st fabOn, i63 2, b63, 31, by unfold Device.guarded; decide +kernel, by unfold Device.joins; decide +kernel⟩,
    ⟨st fabOn, i63 2, b63, by unfold Device.guarded; decide +kernel, by decide +kernel,
      by unfold Device.joins; decide +kernel⟩,
    ⟨st fabOn, i63 2, b63, 31, by unfold Device.guarded; decide +kernel, 7, by decide +kernel, by decide +kernel,
      by unfold Device.joins; decide +kernel⟩,
    ⟨st fabOn, i63 2, b63, by unfold Device.guarded; decide +kernel, 11, by decide +kernel, by decide +kernel,
      by unfold Device.joins; decide +kernel⟩,
    ⟨st fabOn, i63 2, b63, 31, by unfold Device.guarded; decide +kernel, by decide +kernel,
      by unfold Device.joins; decide +kernel⟩,
    ⟨st fabOn, i63 2, b63, by unfold Device.guarded; decide +kernel, by decide +kernel,
      by unfold Device.joins; decide +kernel⟩,
    ⟨st fabOn, i63 2, b63, 31, by unfold Device.guarded; decide +kernel, by unfold Device.someLane; decide +kernel,
      by unfold Device.joins; decide +kernel⟩,
    ⟨st fabOn, i63 2, b63, 3, by unfold Device.joins; decide +kernel⟩,
    ⟨st fabOn, i63 2, b63, 31, by unfold Device.joins; decide +kernel⟩⟩

/-- States and operands that meet what FloatingOperationsGiveTheirResults assumes, clause by clause. -/
theorem witness_FloatingOperationsGiveTheirResults :
    (∃ (s : State) (i : Iss) (b : Bundle) (d : Nat) (k : Nat), s.dev.guarded i ∧ ∃ fn : Nat, fn ≤ 9 ∧
      ((fopUnary fn = true → k = 0)) ∧ s.dev.joins i 1 [(0, d)] b) ∧
    (∃ (s : State) (i : Iss) (b : Bundle) (d : Nat), s.dev.guarded i ∧ ∃ fn : Nat, fn ≤ 3 ∧ s.dev.joins i 1 [(0,
      d)] b) ∧
    (∃ (s : State) (i : Iss) (b : Bundle) (d : Nat), s.dev.guarded i ∧ ∃ fn : Nat, fn ≤ 5 ∧ s.dev.joins i 1 [(0,
      d)] b) ∧
    (∃ (s : State) (i : Iss) (b : Bundle) (d : Nat), s.dev.guarded i ∧ ∃ fn : Nat, fn ≤ 4 ∧ s.dev.joins i 1 [(0,
      d)] b) ∧
    (∃ (s : State) (i : Iss) (b : Bundle) (d : Nat), s.dev.guarded i ∧ d % 2 = 0 ∧ s.dev.joins i 1 [(0, d), (0,
      d + 1)] b) :=
  ⟨⟨st fabOn, i63 1, b63, 30, 0, by unfold Device.guarded; decide +kernel, 9, by decide +kernel, by decide +kernel,
      by unfold Device.joins; decide +kernel⟩,
    ⟨st fabOn, i63 1, b63, 30, by unfold Device.guarded; decide +kernel, 3, by decide +kernel,
      by unfold Device.joins; decide +kernel⟩,
    ⟨st fabOn, i63 1, b63, 30, by unfold Device.guarded; decide +kernel, 5, by decide +kernel,
      by unfold Device.joins; decide +kernel⟩,
    ⟨st fabOn, i63 1, b63, 30, by unfold Device.guarded; decide +kernel, 4, by decide +kernel,
      by unfold Device.joins; decide +kernel⟩,
    ⟨st fabOn, i63 1, b63, 30, by unfold Device.guarded; decide +kernel, by decide +kernel,
      by unfold Device.joins; decide +kernel⟩⟩

/-- States and operands that meet what VectorArithmeticIsLaneByLane assumes, clause by clause. -/
theorem witness_VectorArithmeticIsLaneByLane :
    (∃ (s : State) (i : Iss) (b : Bundle) (d : Nat), s.dev.someLane i ∧ s.dev.joins i 2 [(1, d)] b ∧ ∃ fn : Nat,
      fn ≤ 11) ∧
    (∃ (s : State) (i : Iss) (b : Bundle) (d : Nat) (k : Nat), s.dev.someLane i ∧ s.dev.joins i 2 [(1, d)] b ∧
      ∃ fn : Nat, fn ≤ 8 ∧ ((fopUnary fn = true → k = 0))) ∧
    (∃ (s : State) (i : Iss) (b : Bundle) (d : Nat), s.dev.someLane i ∧ s.dev.joins i 2 [(1, d)] b ∧ ∃ fn : Nat,
      fn ≤ 3) :=
  ⟨⟨st fabOn, i63 1, b63, 31, by unfold Device.someLane; decide +kernel, by unfold Device.joins; decide +kernel,
      11, by decide +kernel⟩,
    ⟨st fabOn, i63 1, b63, 31, 0, by unfold Device.someLane; decide +kernel,
      by unfold Device.joins; decide +kernel, 8, by decide +kernel, by decide +kernel⟩,
    ⟨st fabOn, i63 1, b63, 31, by unfold Device.someLane; decide +kernel, by unfold Device.joins; decide +kernel,
      3, by decide +kernel⟩⟩

/-- States and operands that meet what VectorMovesAndReductionsComplete assumes, clause by clause. -/
theorem witness_VectorMovesAndReductionsComplete :
    (∃ (s : State) (i : Iss) (b : Bundle) (d : Nat), s.dev.someLane i ∧ s.dev.joins i 2 [(1, d)] b ∧ ∃ l : Nat,
      l < 8) ∧
    (∃ (s : State) (i : Iss) (b : Bundle) (d : Nat), s.dev.guarded i ∧ s.dev.joins i 2 [(0, d)] b ∧ ∃ l : Nat,
      l < 8) ∧
    (∃ (s : State) (i : Iss) (b : Bundle) (d : Nat), s.dev.guarded i ∧ s.dev.joins i 2 [(0, d)] b ∧ ∃ l : Nat,
      l < 4) :=
  ⟨⟨st fabOn, i63 1, b63, 31, by unfold Device.someLane; decide +kernel, by unfold Device.joins; decide +kernel, 7,
      by decide +kernel⟩,
    ⟨st fabOn, i63 1, b63, 31, by unfold Device.guarded; decide +kernel, by unfold Device.joins; decide +kernel, 7,
      by decide +kernel⟩,
    ⟨st fabOn, i63 1, b63, 31, by unfold Device.guarded; decide +kernel, by unfold Device.joins; decide +kernel, 3,
      by decide +kernel⟩⟩

/-- States and operands that meet what VectorComparesWriteOneBitForEachLane assumes, clause by clause. -/
theorem witness_VectorComparesWriteOneBitForEachLane :
    (∃ (s : State) (i : Iss) (b : Bundle) (pd : Nat) (a : Nat) (k : Nat) (cond : Nat), cond ≤ 7 ∧
      s.dev.someLane i ∧ s.dev.joins i 2 [(2, pd)] b ∧ ((s.dev.setOf i).vr a).bad = 0 ∧
      ((s.dev.setOf i).vr k).bad = 0) :=
  ⟨st fabOn, i63 1, b63, 7, 1, 2, 7, by decide +kernel, by unfold Device.someLane; decide +kernel,
      by unfold Device.joins; decide +kernel, by decide +kernel, by decide +kernel⟩

/-- States and operands that meet what LatticeOperationsComplete assumes, clause by clause. -/
theorem witness_LatticeOperationsComplete :
    (∃ (s : State) (i : Iss) (b : Bundle) (d : Nat), s.dev.someLane i ∧ s.dev.joins i 2 [(1, d)] b) :=
  ⟨st fabOn, i63 1, b63, 31, by unfold Device.someLane; decide +kernel, by unfold Device.joins; decide +kernel⟩

/-- States and operands that meet what LoadsGiveTheBytesAtTheirAddress assumes, clause by clause. -/
theorem witness_LoadsGiveTheBytesAtTheirAddress :
    (∃ (s : State) (i : Iss) (b : Bundle) (d : Nat) (a : Nat) (imm : Nat) (k : Nat) (m : MemKind) (op : Nat),
      1 ≤ op ∧ op ≤ 7 ∧ s.dev.guarded i ∧ s.dev.joins i 3 [(0, d)] b ∧ served s i a imm (loadSize op) m k ∧
      ¬ s.dev.fab.lines.contains (addrSpec s i a imm (loadSize op) / 64)) ∧
    (∃ (s : State) (i : Iss) (b : Bundle) (d : Nat) (a : Nat) (imm : Nat) (k : Nat) (m : MemKind),
      s.dev.someLane i ∧ s.dev.joins i 3 [(1, d)] b ∧ served s i a imm 32 m k ∧
      ¬ s.dev.fab.lines.contains (addrSpec s i a imm 32 / 64)) :=
  ⟨⟨st fabOn, i63 1, b63, 31, 6, 0, 0, MemKind.crucible 63, 7, by decide +kernel, by decide +kernel,
      by unfold Device.guarded; decide +kernel, by unfold Device.joins; decide +kernel,
      by unfold served; decide +kernel, by decide +kernel⟩,
    ⟨st fabOn, i63 1, b63, 31, 6, 0, 0, MemKind.crucible 63, by unfold Device.someLane; decide +kernel,
      by unfold Device.joins; decide +kernel, by unfold served; decide +kernel, by decide +kernel⟩⟩

/-- States and operands that meet what StoresWriteTheirBytesAndNoOthers assumes, clause by clause. -/
theorem witness_StoresWriteTheirBytesAndNoOthers :
    (∃ (s : State) (i : Iss) (b : Bundle) (a : Nat) (imm : Nat) (k : Nat) (m : MemKind), m ≠ .forge ∧ ∃ op : Nat,
      8 ≤ op ∧ op ≤ 11 ∧ s.dev.guarded i ∧ s.dev.joins i 3 [] b ∧ served s i a imm (2 ^ (op - 8)) m k) ∧
    (∃ (s : State) (i : Iss) (b : Bundle) (a : Nat) (imm : Nat) (k : Nat) (m : MemKind), m ≠ .forge ∧ ∃ op : Nat,
      8 ≤ op ∧ op ≤ 11 ∧ s.dev.guarded i ∧ s.dev.joins i 3 [] b ∧ served s i a imm (2 ^ (op - 8)) m k ∧ ∃ c : Nat,
      c ≠ i.anvil) ∧
    (∃ (s : State) (i : Iss) (b : Bundle) (a : Nat) (imm : Nat) (k : Nat) (m : MemKind), m ≠ .forge ∧
      s.dev.someLane i ∧ s.dev.joins i 3 [] b ∧ served s i a imm 32 m k) ∧
    (∃ (s : State) (i : Iss) (b : Bundle) (a : Nat) (imm : Nat) (k : Nat) (m : MemKind), m ≠ .forge ∧
      s.dev.someLane i ∧ s.dev.joins i 3 [] b ∧ served s i a imm 32 m k ∧ ∃ c : Nat, c ≠ i.anvil) :=
  ⟨⟨st fabOn, i63 1, b63, 6, 0, 0, MemKind.crucible 63, by decide +kernel, 11, by decide +kernel,
      by decide +kernel, by unfold Device.guarded; decide +kernel, by unfold Device.joins; decide +kernel,
      by unfold served; decide +kernel⟩,
    ⟨st fabOn, i63 1, b63, 6, 0, 0, MemKind.crucible 63, by decide +kernel, 11, by decide +kernel,
      by decide +kernel, by unfold Device.guarded; decide +kernel, by unfold Device.joins; decide +kernel,
      by unfold served; decide +kernel, 0, by decide +kernel⟩,
    ⟨st fabOn, i63 1, b63, 6, 0, 0, MemKind.crucible 63, by decide +kernel,
      by unfold Device.someLane; decide +kernel, by unfold Device.joins; decide +kernel,
      by unfold served; decide +kernel⟩,
    ⟨st fabOn, i63 1, b63, 6, 0, 0, MemKind.crucible 63, by decide +kernel,
      by unfold Device.someLane; decide +kernel, by unfold Device.joins; decide +kernel,
      by unfold served; decide +kernel, 0, by decide +kernel⟩⟩

/-- States and operands that meet what QueueOperationsMoveGranules assumes, clause by clause. -/
theorem witness_QueueOperationsMoveGranules :
    (∃ (s : State) (i : Iss) (b : Bundle) (a : Nat) (qn : Nat) (n : Nat) (ind : Bool), s.dev.guarded i ∧ s.dev.namesQueue i a qn ind n ∧ let q := s.dev.q n;
      ∃ fn : Nat, fn ≤ 1 ∧ s.dev.joins i 3 [] b ∧ s.dev.mayUse i n 1 0 (1 + fn) ∧ q.parity = [] ∧
      1 + fn ≤ queueCredit q) ∧
    (∃ (s : State) (i : Iss) (b : Bundle) (a : Nat) (qn : Nat) (n : Nat) (ind : Bool), s.dev.guarded i ∧ s.dev.namesQueue i a qn ind n ∧ let q := s.dev.q n;
      ∃ fn : Nat, fn ≤ 1 ∧ s.dev.joins i 3 [] b ∧ s.dev.mayUse i n 1 0 (1 + fn) ∧ q.parity = [] ∧
      queueCredit q < 1 + fn) ∧
    (∃ (s : State) (i : Iss) (b : Bundle) (d : Nat) (a : Nat) (qn : Nat) (n : Nat) (ind : Bool), s.dev.guarded i ∧ s.dev.namesQueue i a qn ind n ∧ let q := s.dev.q n;
      ∃ o : OpenPacket, s.dev.joins i 3 [(0, d)] b ∧ s.dev.mayUse i n 1 1 0 ∧ q.opn = some o ∧ o.failed = false ∧
      o.dropped = false) ∧
    (∃ (s : State) (i : Iss) (b : Bundle) (d : Nat) (a : Nat) (qn : Nat) (n : Nat) (ind : Bool), s.dev.guarded i ∧ s.dev.namesQueue i a qn ind n ∧ let q := s.dev.q n;
      ∃ fn : Nat, fn ≤ 1 ∧ s.dev.joins i 3 [(1, d)] b ∧ s.dev.mayUse i n 0 (popEnters q) (popTakes (1 + fn) q) ∧
      q.parity = [] ∧ 1 + fn ≤ queueLeft q ∧ q.flush = false) ∧
    (∃ (s : State) (i : Iss) (b : Bundle) (d : Nat) (a : Nat) (qn : Nat) (n : Nat) (ind : Bool), s.dev.guarded i ∧
      s.dev.namesQueue i a qn ind n ∧ s.dev.joins i 3 [(0, d)] b ∧ s.dev.mayUse i n 0 0 0) ∧
    (∃ (s : State) (i : Iss) (b : Bundle) (d : Nat) (a : Nat) (qn : Nat) (n : Nat) (ind : Bool), s.dev.guarded i ∧ s.dev.namesQueue i a qn ind n ∧ let q := s.dev.q n;
      ∃ m : Nat, s.dev.joins i 3 [(0, d)] b ∧ s.dev.mayUse i n 0 0 0 ∧ q.mark = some m) ∧
    (∃ (s : State) (i : Iss) (b : Bundle) (d : Nat) (a : Nat) (qn : Nat) (n : Nat) (ind : Bool), s.dev.guarded i ∧ s.dev.namesQueue i a qn ind n ∧ let q := s.dev.q n;
      i.set ≠ 0 ∧ s.dev.joins i 3 [(0, d)] b ∧ s.dev.mayUse i n 0 0 0 ∧ q.rel < q.pos) ∧
    (∃ (s : State) (i : Iss) (b : Bundle) (d : Nat) (a : Nat) (qn : Nat) (n : Nat) (ind : Bool), s.dev.guarded i ∧
      s.dev.namesQueue i a qn ind n ∧ s.dev.joins i 3 [(0, d)] b ∧ s.dev.mayUse i n 2 0 0) :=
  ⟨⟨withQ busyQ, i63 1, b63, 0, 255, 255, false, by unfold Device.guarded; decide +kernel,
      by unfold Device.namesQueue; decide +kernel, 1, by decide +kernel, by unfold Device.joins; decide +kernel,
      by unfold Device.mayUse; decide +kernel, by decide +kernel, by decide +kernel⟩,
    ⟨withQ { queueOf 16 with fin := 15 }, i63 1, b63, 9, 0, 255, true, by unfold Device.guarded; decide +kernel,
      by unfold Device.namesQueue; decide +kernel, 1, by decide +kernel, by unfold Device.joins; decide +kernel,
      by unfold Device.mayUse; decide +kernel, by decide +kernel, by decide +kernel⟩,
    ⟨withQ busyQ, i63 1, b63, 31, 0, 255, 255, false, by unfold Device.guarded; decide +kernel,
      by unfold Device.namesQueue; decide +kernel, (⟨zeros 16, [], false, false, ownerOf 63 4⟩ : OpenPacket),
      by unfold Device.joins; decide +kernel, by unfold Device.mayUse; decide +kernel, by decide +kernel,
      by decide +kernel, by decide +kernel⟩,
    ⟨withQ busyQ, i63 1, b63, 31, 0, 255, 255, false, by unfold Device.guarded; decide +kernel,
      by unfold Device.namesQueue; decide +kernel, 1, by decide +kernel, by unfold Device.joins; decide +kernel,
      by unfold Device.mayUse; decide +kernel, by decide +kernel, by decide +kernel, by decide +kernel⟩,
    ⟨withQ busyQ, i63 1, b63, 31, 0, 255, 255, false, by unfold Device.guarded; decide +kernel,
      by unfold Device.namesQueue; decide +kernel, by unfold Device.joins; decide +kernel,
      by unfold Device.mayUse; decide +kernel⟩,
    ⟨withQ busyQ, i63 1, b63, 31, 0, 255, 255, false, by unfold Device.guarded; decide +kernel,
      by unfold Device.namesQueue; decide +kernel, 0, by unfold Device.joins; decide +kernel,
      by unfold Device.mayUse; decide +kernel, by decide +kernel⟩,
    ⟨withQ { busyQ with pos := 1 }, i63 1, b63, 31, 0, 255, 255, false, by unfold Device.guarded; decide +kernel,
      by unfold Device.namesQueue; decide +kernel, by decide +kernel, by unfold Device.joins; decide +kernel,
      by unfold Device.mayUse; decide +kernel, by decide +kernel⟩,
    ⟨withQ busyQ, i63 1, b63, 31, 0, 255, 255, false, by unfold Device.guarded; decide +kernel,
      by unfold Device.namesQueue; decide +kernel, by unfold Device.joins; decide +kernel,
      by unfold Device.mayUse; decide +kernel⟩⟩

/-- States and operands that meet what EngineOperationsOfContextsComplete assumes, clause by clause. -/
theorem witness_EngineOperationsOfContextsComplete :
    (∃ (s : State) (i : Iss) (b : Bundle) (d : Nat) (a : Nat) (k : Nat), i.set ≠ 0 ∧ s.dev.guarded i ∧ let r := s.dev.setOf i;
      s.dev.joins i 3 [(0, d)] b ∧ (r.vr a).bad % 4 = 0 ∧ (r.xr k).bad = false ∧ ∃ (fn : Nat) (op : Instr), (fn,
      op) ∈ [(0, Instr.rsvQuery i d a k), (1, .rsvHold i d a k), (2, .rsvCommit i d a k), (3,
      .rsvAbandon i d a k)] ∧ ((s.dev.folding = false ∨ 2 ≤ fn))) ∧
    (∃ (s : State) (i : Iss) (b : Bundle) (d : Nat) (a : Nat) (k : Nat), i.set ≠ 0 ∧ s.dev.guarded i ∧ let r := s.dev.setOf i;
      s.dev.joins i 3 [(0, d)] b ∧ (r.vr a).bad % 4 = 0 ∧ (r.xr k).bad = false ∧ s.dev.folding = true) ∧
    (∃ (s : State) (i : Iss) (b : Bundle) (d : Nat) (a : Nat), i.set ≠ 0 ∧ s.dev.guarded i ∧ let r := s.dev.setOf i;
      ∃ imm : Nat, s.dev.joins i 3 [] b ∧ (r.xr d).bad = false ∧ (r.xr a).bad = false ∧ imm < 7 ∧ r.xv a < 4096 ∧
      r.xv d < 2 ^ (gwrField imm).2 ∧ (s.dev.anv i.anvil).gwr.length < 4) ∧
    (∃ (s : State) (i : Iss) (b : Bundle) (d : Nat) (a : Nat) (k : Nat), i.set ≠ 0 ∧ s.dev.guarded i ∧ let r := s.dev.setOf i;
      let e := s.dev.withBundle i (b.plus 3 [(0, d)] [] 0);
      ∃ (n : Nat) (f : Device), s.dev.joins i 3 [(0, d)] b ∧ (r.xr a).bad = false ∧ (r.xr k).bad = false ∧
      s.dev.dspOn = true ∧
      e.postTask (r.xv a) (if bitOf (r.xv k) 6 then 64 else bitsOf (r.xv k) 0 6) (i.anvil / 8) 0 = (stDone, n, f)) ∧
    (∃ (s : State) (i : Iss) (b : Bundle) (d : Nat) (a : Nat) (k : Nat), i.set ≠ 0 ∧ s.dev.guarded i ∧ let r := s.dev.setOf i;
      let e := s.dev.withBundle i (b.plus 3 [(0, d)] [] 0);
      ∃ (st : Nat) (f : Device), s.dev.joins i 3 [(0, d)] b ∧ (r.xr a).bad = false ∧ (r.xr k).bad = false ∧
      s.dev.dspOn = true ∧ e.cancelTask (r.xv a % 4096) = (st, f)) ∧
    (∃ (s : State) (i : Iss) (b : Bundle) (a : Nat), i.set ≠ 0 ∧ s.dev.guarded i ∧ let r := s.dev.setOf i;
      ∃ n : Nat, s.dev.joins i 3 [] b ∧ (r.xr a).bad = false ∧ s.dev.dspOn = true ∧ r.task = some n ∧
      bitOf (s.dev.desc n).flags 2 = false) :=
  ⟨⟨st fabOn, i63 1, b63, 31, 7, 8, by decide +kernel, by unfold Device.guarded; decide +kernel,
      by unfold Device.joins; decide +kernel, by decide +kernel, by decide +kernel, 3,
      Instr.rsvAbandon (i63 1) 31 7 8, by decide +kernel, by decide +kernel⟩,
    ⟨st (fabOn.wbit RSV_STAT 2 true), i63 1, b63, 31, 7, 8, by decide +kernel,
      by unfold Device.guarded; decide +kernel, by unfold Device.joins; decide +kernel, by decide +kernel,
      by decide +kernel, by decide +kernel⟩,
    ⟨st fabOn, i63 1, b63, 9, 4, by decide +kernel, by unfold Device.guarded; decide +kernel, 6,
      by unfold Device.joins; decide +kernel, by decide +kernel, by decide +kernel, by decide +kernel,
      by decide +kernel, by decide +kernel, by decide +kernel⟩,
    ⟨st fabOn, i63 1, b63, 31, 7, 8, by decide +kernel, by unfold Device.guarded; decide +kernel, 1,
      (((st fabOn).dev.withBundle (i63 1) (b63.plus 3 [(0, 31)] [] 0)).postTask 0x0010FFFFE0 64 7 0).2.2,
      by unfold Device.joins; decide +kernel, by decide +kernel, by decide +kernel, by decide +kernel, by rfl⟩,
    ⟨st fabOn, i63 1, b63, 9, 4, 0, by decide +kernel, by unfold Device.guarded; decide +kernel, stNotFound,
      ((st fabOn).dev.withBundle (i63 1) (b63.plus 3 [(0, 9)] [] 0)), by unfold Device.joins; decide +kernel,
      by decide +kernel, by decide +kernel, by decide +kernel, by decide +kernel⟩,
    ⟨st fabOn, i63 1, b63, 4, by decide +kernel, by unfold Device.guarded; decide +kernel, 0,
      by unfold Device.joins; decide +kernel, by decide +kernel, by decide +kernel, by decide +kernel,
      by decide +kernel⟩⟩

/-- States and operands that meet what ResultsLandAtTheEndOfTheirCycle assumes, clause by clause. -/
theorem witness_ResultsLandAtTheEndOfTheirCycle :
    (∃ (s : State) (a : Nat) (set : Nat) (k : Nat) (val : Nat) (due : Nat) (r : RSet), a < 64 ∧
      (s.dev.anv a).bund = none ∧ (s.dev.anv a).gwr = [] ∧ Tab.find (s.dev.anv a).sets set = some r ∧ r.pend = [⟨0,
      k, val, 0, 0, some due⟩] ∧ k < 32 ∧ due ≤ (s.dev.anv a).now) ∧
    (∃ (s : State) (a : Nat) (set : Nat) (k : Nat) (val : Nat) (due : Nat) (r : RSet), a < 64 ∧
      (s.dev.anv a).bund = none ∧ (s.dev.anv a).gwr = [] ∧ Tab.find (s.dev.anv a).sets set = some r ∧ r.pend = [⟨0,
      k, val, 0, 0, some due⟩] ∧ k < 32 ∧ (s.dev.anv a).now < due) ∧
    (∃ (s : State) (a : Nat) (set : Nat) (k : Nat) (val : Nat) (due : Nat) (r : RSet), a < 64 ∧
      (s.dev.anv a).bund = none ∧ (s.dev.anv a).gwr = [] ∧ Tab.find (s.dev.anv a).sets set = some r ∧ r.pend = [⟨0,
      k, val, 0, 0, some due⟩] ∧ k < 32 ∧ ∃ c : Nat, c ≠ a) :=
  ⟨⟨st (fabOn.setAnv 63 { anvilOff with sets := [(4, { someSet with pend := [⟨0, 31, 5, 0, 0, some 0⟩] })] }), 63,
      4, 31, 5, 0, { someSet with pend := [⟨0, 31, 5, 0, 0, some 0⟩] }, by decide +kernel, by decide +kernel,
      by decide +kernel, by decide +kernel, by decide +kernel, by decide +kernel, by decide +kernel⟩,
    ⟨st (fabOn.setAnv 63 { anvilOff with sets := [(4, { someSet with pend := [⟨0, 0, 5, 0, 0, some 1⟩] })] }), 63,
      4, 0, 5, 1, { someSet with pend := [⟨0, 0, 5, 0, 0, some 1⟩] }, by decide +kernel, by decide +kernel,
      by decide +kernel, by decide +kernel, by decide +kernel, by decide +kernel, by decide +kernel⟩,
    ⟨st (fabOn.setAnv 63 { anvilOff with sets := [(4, { someSet with pend := [⟨0, 31, 5, 0, 0, some 0⟩] })] }), 63,
      4, 31, 5, 0, { someSet with pend := [⟨0, 31, 5, 0, 0, some 0⟩] }, by decide +kernel, by decide +kernel,
      by decide +kernel, by decide +kernel, by decide +kernel, by decide +kernel, 0, by decide +kernel⟩⟩

/-- States and operands that meet what HardwiredRegistersReadTheirConstants assumes, clause by clause. -/
theorem witness_HardwiredRegistersReadTheirConstants :
    (∃ p : Pend, p.reg = 0 ∧ ((p.kind = 0 ∨ p.kind = 2))) ∧
    (∃ (s : State) (i : Iss) (b : Bundle), s.dev.joins i 0 [(0, 0)] b) ∧
    (∃ (s : State) (i : Iss) (b : Bundle), s.dev.joins i 0 [(2, 0)] b) :=
  ⟨⟨(⟨2, 0, 5, 0, 0, none⟩ : Pend), by decide +kernel, by decide +kernel⟩,
    ⟨st fabOn, i63 1, b63, by unfold Device.joins; decide +kernel⟩,
    ⟨st fabOn, i63 1, b63, by unfold Device.joins; decide +kernel⟩⟩

/-- States and operands that meet what StrokeBlocksStartEndAndRerun assumes, clause by clause. -/
theorem witness_StrokeBlocksStartEndAndRerun :
    (∃ (s : State) (a : Nat) (id : Nat) (k : BlockRec) (v : Variant) (start : Nat) (base : Nat),
      (s.dev.blocks.find? fun p => p.1.id = id) = some (k, v) ∧ s.dev.runsAt k = some (a, start, base) ∧
      s.dev.fabRuns = true ∧ s.dev.tim.heats = true ∧ k.stroke = s.dev.tim.stroke ∧ s.dev.hearthUp (a / 8) = true ∧
      (s.dev.anv a).run = none ∧ (s.dev.anv a).bund = none ∧ (s.dev.anv a).cyc ≤ start ∧
      (s.dev.anv a).started.contains id = false) ∧
    (∃ (s : State) (a : Nat) (r : BlockRun), (s.dev.anv a).run = some r ∧ (s.dev.anv a).bund = none ∧
      r.again = false) ∧
    (∃ (s : State) (a : Nat) (f : FailedBlock) (rest : List FailedBlock) (sv : Variant) (k : BlockRec) (v : Variant),
      (s.dev.anv a).fails = f :: rest ∧ s.dev.stockVar = some sv ∧ (s.dev.anv a).run = none ∧
      (s.dev.anv a).bund = none ∧ s.dev.fenced a = false ∧ (s.dev.blocks.find? fun p => p.1.id = f.id) = some (k,
      v) ∧
      (let c0 := Nat.max (Nat.max (sv.str s.dev.tim.stroke a 8 4) (s.dev.anv a).reEnd) (s.dev.anv a).cyc; c0 + (k.start + 16 - c0 % 16) % 16 + k.declared ≤ sv.str s.dev.tim.stroke a 8 4 + sv.str s.dev.tim.stroke a 12 4)) ∧
    (∃ (s : State) (a : Nat) (b : Bundle), a < 64 ∧ s.dev.fenced a = false ∧ (s.dev.anv a).bund = some b) ∧
    (∃ (s : State) (a : Nat) (t : Nat) (sv : Variant), (s.dev.fab.fences.find? fun f => f.1 = a) = some (a, t) ∧
      s.dev.stockVar = some sv ∧ s.dev.tim.heats = true ∧ t + 5000000 ≤ s.dev.upNs - s.dev.inHeat ∧
      ∃ p : BlockRec × Variant, p ∈ s.dev.blocks ∧ p.1.anvil = a) :=
  ⟨⟨st stocked, 0, 1, (⟨1, 0, 0, 160, 100, 160, 0, 0, 0, 0, 0, 0⟩ : BlockRec), (⟨img, 64⟩ : Variant), 160, 0,
      by decide +kernel, by decide +kernel, by decide +kernel, by decide +kernel, by decide +kernel,
      by decide +kernel, by decide +kernel, by decide +kernel, by decide +kernel, by decide +kernel⟩,
    ⟨st (stocked.setAnv 0 { anvilOff with run := some ⟨1, 160, 100, false, 0, 0, [], []⟩ }), 0, (⟨1, 160, 100,
      false, 0, 0, [], []⟩ : BlockRun), by decide +kernel, by decide +kernel, by decide +kernel⟩,
    ⟨st (stocked.setAnv 0 { anvilOff with fails := [⟨1, 1, 0⟩] }), 0, (⟨1, 1, 0⟩ : FailedBlock),
      ([] : List FailedBlock), (⟨img, 64⟩ : Variant), (⟨1, 0, 0, 160, 100, 160, 0, 0, 0, 0, 0, 0⟩ : BlockRec),
      (⟨img, 64⟩ : Variant), by decide +kernel, by decide +kernel, by decide +kernel, by decide +kernel,
      by decide +kernel, by decide +kernel, by decide +kernel⟩,
    ⟨st (stocked.setAnv 63 { anvilOff with bund := some b63 }), 63, b63, by decide +kernel, by decide +kernel,
      by decide +kernel⟩,
    ⟨st { (stocked.raise FAB_FENCE_LO 0) with fab := { stocked.fab with fences := [(0, stocked.upNs - stocked.inHeat - 5000000)] } },
      0, (stocked.upNs - stocked.inHeat - 5000000), (⟨img, 64⟩ : Variant), by decide +kernel, by decide +kernel,
      by decide +kernel, by decide +kernel, ((⟨1, 0, 0, 160, 100, 160, 0, 0, 0, 0, 0, 0⟩, ⟨img,
      64⟩) : BlockRec × Variant), by decide +kernel, by decide +kernel⟩⟩

/-- States and operands that meet what AdmissionAndPowerGatesAct assumes, clause by clause. -/
theorem witness_AdmissionAndPowerGatesAct :
    (∃ s : State, s.dev.bit FAB_ADM_CTRL 3 = false) ∧
    (∃ (s : State) (a : Admission) (r : Nat), s.dev.fab.adm = some a ∧ a.rung = none ∧ a.down = false ∧
      a.tries = [r] ∧ s.dev.bit FAB_STAT 2 = true) ∧
    (∃ (s : State) (a : Admission) (r : Nat), s.dev.fab.adm = some a ∧ a.rung = some r ∧ r < 4 ∧ a.down = false ∧
      s.dev.tim.heats = true ∧ a.heat < s.dev.tb0 / 100000000 ∧ s.dev.bit FAB_STAT 2 = true) ∧
    (∃ (s : State) (h : Nat) (v : Variant), h < 8 ∧ s.dev.stockVar = some v ∧ s.dev.fabRuns = true ∧
      s.dev.hearthUp h = true ∧ (v.gate s.dev.tim.stroke h).2 ≠ 0 ∧
      s.dev.tb0 ≤ s.dev.cycleTime ((v.gate s.dev.tim.stroke h).1 + (v.gate s.dev.tim.stroke h).2) ∧
      s.dev.hearthBusy h = false ∧ s.dev.tongsTouch h = false) ∧
    (∃ (s : State) (h : Nat), h < 8 ∧ s.dev.bit FAB_STAT (16 + h) = true) :=
  ⟨⟨st stocked, by decide +kernel⟩,
    ⟨st stocked, (⟨[0], false, none, false, 0⟩ : Admission), 0, by decide +kernel, by decide +kernel,
      by decide +kernel, by decide +kernel, by decide +kernel⟩,
    ⟨st { stocked with fab := { stocked.fab with adm := some ⟨[], false, some 0, false, 49⟩ } }, (⟨[], false,
      some 0, false, 49⟩ : Admission), 0, by decide +kernel, by decide +kernel, by decide +kernel,
      by decide +kernel, by decide +kernel, by decide +kernel, by decide +kernel⟩,
    ⟨st stocked, 7, (⟨img, 64⟩ : Variant), by decide +kernel, by decide +kernel, by decide +kernel,
      by decide +kernel, by decide +kernel, by decide +kernel, by decide +kernel, by decide +kernel⟩,
    ⟨st (stocked.raise FAB_STAT 23), 7, by decide +kernel, by decide +kernel⟩⟩

/-- States and operands that meet what TongsRequestsRunAndEnd assumes, clause by clause. -/
theorem witness_TongsRequestsRunAndEnd :
    (∃ (s : State) (q : Nat), q < 8 ∧ ∃ (p : Packet) (rest : List Packet), (s.dev.tq q).served = [] ∧
      (s.dev.tq q).run = none ∧ (s.dev.tq q).recs = [] ∧ s.dev.tongsWaiting q = p :: rest ∧
      ((p :: rest).any fun x => (treqOf x.data).op = 2) = false ∧ treqOk (treqOf p.data) = true ∧ p.bad = [] ∧
      s.dev.waitsGate (treqOf p.data) = false ∧ s.dev.tongsQueue (treqOf p.data).cq = true ∧
      s.dev.badPage (treqOf p.data) = false) ∧
    (∃ (s : State) (q : Nat), q < 8 ∧ ∃ (p : Packet) (k : Nat) (x : TQueue), ((s.dev.tongsWaiting q).find? fun p => (treqOf p.data).op = 2) = some p ∧ s.dev.tongsQueue (treqOf p.data).cq = true ∧ abortOk (treqOf p.data) = true ∧ (s.dev.fab.tongs.find? fun x => match x.2.run with | some y => y.tag = (treqOf p.data).tag && y.cq = (treqOf p.data).cq | none => false) = some (k, x)) ∧
    (∃ (s : State) (q : Nat), q < 8 ∧ ∃ r : TReq, (s.dev.tq q).run = some r) :=
  ⟨⟨st (tongsOn 7 reqRead), 7, by decide +kernel, (⟨0, reqRead, []⟩ : Packet), ([] : List Packet),
      by decide +kernel, by decide +kernel, by decide +kernel, by decide +kernel, by decide +kernel,
      by decide +kernel, by decide +kernel, by decide +kernel, by decide +kernel, by decide +kernel⟩,
    ⟨st ((tongsOn 7 (reqOf 2 0 0 0 0)).setTq 0 ⟨some (treqOf reqRead), [], []⟩), 7, by decide +kernel, (⟨0,
      reqOf 2 0 0 0 0, []⟩ : Packet), 0, (⟨some (treqOf reqRead), [], []⟩ : TQueue), by decide +kernel,
      by decide +kernel, by decide +kernel, by decide +kernel⟩,
    ⟨st (fabOn.setTq 7 ⟨some (treqOf reqRead), [], []⟩), 7, by decide +kernel, treqOf reqRead, by decide +kernel⟩⟩

/-- States and operands that meet what QueueCommandsChangeTheirQueue assumes, clause by clause. -/
theorem witness_QueueCommandsChangeTheirQueue :
    (∃ (s : State) (n : Nat), n < 256 ∧ let q := s.dev.q n;
      ∃ value : Nat, q.on = false ∧ bitsOf value 1 4 ≤ 8 ∧
      (s.dev.queCfgWrite n (setBits value 0 1 0)).enableFails n = none ∧ ∃ m : Nat, m ≠ n) ∧
    (∃ (s : State) (n : Nat), n < 256 ∧ let q := s.dev.q n; q.on = true ∧ ∃ m : Nat, m ≠ n) ∧
    (∃ (s : State) (n : Nat), n < 256 ∧ let q := s.dev.q n;
      q.on = true ∧ q.opn = none ∧ ∃ force : Bool, ((force = true ∨ queueAtBoundary q = true)) ∧ ∃ m : Nat, m ≠ n) ∧
    (∃ (s : State) (n : Nat), n < 256 ∧ let q := s.dev.q n;
      q.on = true ∧ q.opn = none ∧ q.flush = true ∧ queueAtBoundary q = true ∧ ∃ m : Nat, m ≠ n) ∧
    (∃ (s : State) (n : Nat), n < 256 ∧ let q := s.dev.q n; q.on = true ∧ q.opn = none ∧ q.settle = true) ∧
    (∃ (s : State) (n : Nat), n < 256 ∧ let q := s.dev.q n;
      handOverDue q (s.dev.bit DSP_STAT 9) (s.dev.bit (QUE_CFG n) 24) = true ∧ ∃ m : Nat, m ≠ n) ∧
    (∃ (s : State) (n : Nat), n < 256 ∧ let q := s.dev.q n;
      q.handing = true ∧ q.opn = none ∧ ((64 ≤ n ∨ n % 16 ≠ 1)) ∧ ∃ m : Nat, m ≠ n) :=
  ⟨⟨st ((live.wrN (QUE_BASE 255) 0x3E000).wrN (QUE_BASE 127) 0), 255, by decide +kernel, 0x404010,
      by decide +kernel, by decide +kernel, by decide +kernel, 127, by decide +kernel⟩,
    ⟨withQ { queueOf 4096 with fin := 4096, handing := true }, 255, by decide +kernel, by decide +kernel, 127,
      by decide +kernel⟩,
    ⟨withQ { queueOf 4096 with fin := 4096, handing := true }, 255, by decide +kernel, by decide +kernel,
      by decide +kernel, true, by decide +kernel, 127, by decide +kernel⟩,
    ⟨withQ { queueOf 4096 with fin := 4096, flush := true }, 255, by decide +kernel, by decide +kernel,
      by decide +kernel, by decide +kernel, by decide +kernel, 127, by decide +kernel⟩,
    ⟨withQ { queueOf 4096 with fin := 4096, settle := true, pos := 4096, rel := 4096 }, 255, by decide +kernel,
      by decide +kernel, by decide +kernel, by decide +kernel⟩,
    ⟨withQ { queueOf 4096 with fin := 4096, flush := true }, 255, by decide +kernel, by decide +kernel, 127,
      by decide +kernel⟩,
    ⟨withQ { queueOf 4096 with fin := 4096, handing := true }, 255, by decide +kernel, by decide +kernel,
      by decide +kernel, by decide +kernel, 127, by decide +kernel⟩⟩

/-- States and operands that meet what BellowsCommandsMoveTasks assumes, clause by clause. -/
theorem witness_BellowsCommandsMoveTasks :
    (∃ (s : State) (k : Nat) (value : Nat), k < 16 ∧ bitOf value 14 = true ∧ s.dev.bit (DSP_TRIG_Q k) 14 = false ∧
      s.dev.fld (QUE_CFG (bitsOf value 0 8)) 16 8 = 0x40 ∧ s.dev.bit (QUE_CFG (bitsOf value 0 8)) 24 = true) ∧
    (∃ (s : State) (k : Nat) (d : Nat), ∃ e' : Device, s.dev.dspOn = true ∧ s.dev.bit (DSP_TRIG_Q k) 14 = true ∧
      Tab.getD s.dev.dsp.made k 0 < (s.dev.q (s.dev.fld (DSP_TRIG_Q k) 0 8)).vis ∧
      s.dev.postTask (s.dev.rdN (DSP_TRIG_ADDR k)) (Tab.getD s.dev.dsp.lastOf k (s.dev.fld (DSP_TRIG_Q k) 8 6)) (Tab.getD s.dev.dsp.lastOf k (s.dev.fld (DSP_TRIG_Q k) 8 6) / 8) (0x80 + k) = (stDone,
      d, e')) ∧
    (∃ (s : State) (n : Nat), s.dev.dspOn = true ∧ (s.dev.desc n).st = 3 ∧
      s.dev.later (s.dev.desc n).nbHeat (s.dev.desc n).nbStroke = false) ∧
    (∃ (s : State) (n : Nat) (h : Nat) (a : Nat) (c : Nat) (l : Nat) (rest : List Nat), s.dev.dspOn = true ∧
      s.dev.placeAt h = some a ∧ s.dev.freeCtx a = some c ∧ s.dev.takesFrom a = some l ∧
      s.dev.ready l = n :: rest) ∧
    (∃ (s : State) (n : Nat), s.dev.recordDue = some n) :=
  ⟨⟨st (fabOn.setQ 255 { queueOf 16 with vis := 3 } |>.wbit (QUE_CFG 255) 24 true), 15, 0x40FF, by decide +kernel,
      by decide +kernel, by decide +kernel, by decide +kernel, by decide +kernel⟩,
    ⟨st (((fabOn.setQ 255 { queueOf 16 with vis := 1 }).wrN (DSP_TRIG_Q 15) 0x7FFF).wrN (DSP_TRIG_ADDR 15) 0x0010FFFFE0),
      15, 1,
      ((((fabOn.setQ 255 { queueOf 16 with vis := 1 }).wrN (DSP_TRIG_Q 15) 0x7FFF).wrN (DSP_TRIG_ADDR 15) 0x0010FFFFE0).postTask 0x0010FFFFE0 63 7 (0x80 + 15)).2.2,
      by decide +kernel, by decide +kernel, by decide +kernel, by rfl⟩,
    ⟨st (dspWith { descFree with st := 3, flags := 2, nbHeat := 50, nbStroke := 0, cq := 127 }), 0,
      by decide +kernel, by decide +kernel, by decide +kernel⟩,
    ⟨st { (dspWith { descFree with st := 1, home := 63, cq := 127, entry := 0x3FFF0 }) with dsp := { (dspWith { descFree with st := 1, home := 63, cq := 127, entry := 0x3FFF0 }).dsp with lists := [(63, [0])] } },
      0, 7, 63, 0, 63, ([] : List Nat), by decide +kernel, by decide +kernel, by decide +kernel, by decide +kernel,
      by decide +kernel⟩,
    ⟨st { (dspWith { descFree with st := 2, cq := 127, ended := some (1, 7) }) with dsp := { (dspWith { descFree with st := 2, cq := 127, ended := some (1, 7) }).dsp with recs := [0] } },
      0, by decide +kernel⟩⟩

/-- States and operands that meet what HeatsAndStrokesBegin assumes, clause by clause. -/
theorem witness_HeatsAndStrokesBegin :
    (∃ (s : State) (e : Device), s.dev.tim.valid = true ∧
      e = { (s.dev.advanceTo ((s.dev.tim.begun + 1) * 100000000)).fabStroke with tim :=
          { (s.dev.advanceTo ((s.dev.tim.begun + 1) * 100000000)).fabStroke.tim with
            heats := true, stroke := 0
            begun := (s.dev.advanceTo ((s.dev.tim.begun + 1) * 100000000)).fabStroke.heatAbs } } ∧
        e.pairBoundary.boot.restart = false) ∧
    (∃ s : State, s.dev.tim.heats = true ∧ s.dev.tim.stroke < 9) ∧
    (∃ (s : State) (f : Fix), s.dev.tim.valid = false ∧ s.dev.gnsOn = true ∧ 5 ≤ f.sats ∧
      s.dev.gns.alarm = false) :=
  ⟨⟨st timed, _, by decide +kernel, rfl, by decide +kernel⟩,
    ⟨st { timed with tim := { timed.tim with stroke := 8 } }, by decide +kernel, by decide +kernel⟩,
    ⟨st gnssOff, (⟨5, (1, 2, 3), 0, -7, 0, 0⟩ : Fix), by decide +kernel, by decide +kernel, by decide +kernel,
      by decide +kernel⟩⟩

/-- States and operands that meet what Tb0HoldoverFollowsItsRules assumes, clause by clause. -/
theorem witness_Tb0HoldoverFollowsItsRules :
    (∃ s : State, s.dev.tim.valid = true ∧ s.dev.holdCond = true ∧ (s.dev.base 0).hold = false ∧ ∃ b : Nat, b ≠ 0) ∧
    (∃ (s : State) (t : Nat), (s.dev.base 0).hold = true ∧ (s.dev.base 0).slewing = false ∧
      s.dev.tim.clearAt = some t ∧ s.dev.since t 10000000000 = true ∧ s.dev.holdCond = false ∧ ∃ b : Nat, b ≠ 0) ∧
    (∃ s : State, (s.dev.base 0).slewing = true ∧ 10 ≤ s.dev.tim.inLock ∧ ∃ b : Nat, b ≠ 0) ∧
    (∃ s : State, s.dev.fld TIM_PTP_CFG 0 2 = 2 ∧ (s.dev.base 1).master = 2 ∧ (s.dev.base 1).hold = false ∧
      ∃ b : Nat, b ≠ 1) :=
  ⟨⟨st { timed with tim := { timed.tim with lastGood := 98000000000 } }, by decide +kernel, by decide +kernel,
      by decide +kernel, 7, by decide +kernel⟩,
    ⟨st { (timed.setBase 0 { timed.base 0 with hold := true }) with tim := { (timed.setBase 0 { timed.base 0 with hold := true }).tim with lastGood := 99999999999, clearAt := some 90000000000, heats := false } },
      90000000000, by decide +kernel, by decide +kernel, by decide +kernel, by decide +kernel, by decide +kernel,
      7, by decide +kernel⟩,
    ⟨st { (timed.setBase 0 { timed.base 0 with hold := true, slewing := true }) with tim := { (timed.setBase 0 { timed.base 0 with hold := true, slewing := true }).tim with inLock := 10, holdRate := -5 } },
      by decide +kernel, by decide +kernel, 1, by decide +kernel⟩,
    ⟨st ((timed.wfld TIM_PTP_CFG 0 2 2).setBase 1 { baseReset 1 with master := 2 }), by decide +kernel,
      by decide +kernel, by decide +kernel, 0, by decide +kernel⟩⟩

/-- States and operands that meet what BasesAndSnapshotsFollowTheirCommands assumes, clause by clause. -/
theorem witness_BasesAndSnapshotsFollowTheirCommands :
    (∃ (s : State) (b : Nat), (s.dev.base b).joining = none ∧ ((∀ j, 16 ≤ j → j < 32 → s.dev.cmpBase j ≠ b)) ∧
      (s.dev.base b).master = 0) ∧
    (∃ (s : State) (b : Nat), (s.dev.base b).joining = none ∧ ((∀ j, 16 ≤ j → j < 32 → s.dev.cmpBase j ≠ b)) ∧
      (s.dev.base b).master = 3) ∧
    (∃ (b : Nat) (m : Nat), b ≠ 0 ∧ masterOk b m = true ∧ ∃ c : Nat, c ≠ b) ∧
    (∃ (s : State) (offset : Int), s.dev.fld TIM_PTP_CFG 0 2 = 2 ∧ (s.dev.base 1).master = 2 ∧
      (s.dev.base 1).joining = none ∧ s.dev.fld TIM_PTP_CFG 11 10 * 1000 < offset.natAbs ∧ ∃ c : Nat, c ≠ 1) ∧
    (∃ s : State, s.dev.fld TIM_PTP_CFG 0 2 = 1 ∧ s.dev.tim.valid = true) ∧
    (∃ (s : State) (k : Nat), s.dev.cmpArmed k = true ∧ s.dev.rdN (TIM_CMP_PER k) = 0) ∧
    (∃ (s : State) (k : Nat), s.dev.cmpArmed k = true ∧ s.dev.rdN (TIM_CMP_PER k) ≠ 0) ∧
    (∃ (s : State) (k : Nat) (target : Nat), 16 ≤ k ∧ k < 32 ∧
      diff32 (s.dev.baseNs (s.dev.cmpBase k)) (target % 2 ^ 32) < 0) ∧
    (∃ (s : State) (k : Nat) (target : Nat), 16 ≤ k ∧ k < 32 ∧
      0 ≤ diff32 (s.dev.baseNs (s.dev.cmpBase k)) (target % 2 ^ 32) ∧ s.dev.tim.valid = true) ∧
    (∃ (s : State) (k : Nat), s.dev.bit (TIM_CAP_CFG k) 7 = true ∧ s.dev.bit (TIM_CAP_STAT k) 0 = true) :=
  ⟨⟨st (timed.setBase 7 { baseReset 7 with master := 0, acc := 5 * 2 ^ 32 }), 7, by decide +kernel,
      by intro j h1 h2; clear h1; revert j; decide +kernel, by decide +kernel⟩,
    ⟨st timed, 2, by decide +kernel, by intro j h1 h2; clear h1; revert j; decide +kernel, by decide +kernel⟩,
    ⟨2, 3, by decide +kernel, by decide +kernel, 3, by decide +kernel⟩,
    ⟨st ((timed.wfld TIM_PTP_CFG 0 2 2).setBase 1 { baseReset 1 with master := 2, acc := 5 * 2 ^ 32 }),
      (70000000 : Int), by decide +kernel, by decide +kernel, by decide +kernel, by decide +kernel, 0,
      by decide +kernel⟩,
    ⟨st (timed.wfld TIM_PTP_CFG 0 2 1), by decide +kernel, by decide +kernel⟩,
    ⟨st ((timed.wrN (TIM_CMP_CFG 31) 0xFFFC).wrN (TIM_CMP_TGT 31) 3), 31, by decide +kernel, by decide +kernel⟩,
    ⟨st (((timed.wrN (TIM_CMP_CFG 31) 0x18).wrN (TIM_CMP_TGT 31) 0xFFFFFFFF).wrN (TIM_CMP_PER 31) 2), 31,
      by decide +kernel, by decide +kernel⟩,
    ⟨st timed, 16, 710032705, by decide +kernel, by decide +kernel, by decide +kernel⟩,
    ⟨st timed, 31, 710032704, by decide +kernel, by decide +kernel, by decide +kernel, by decide +kernel⟩,
    ⟨st ((timed.wrN (TIM_CAP_CFG 15) 0x1FF).wrN (TIM_CAP_STAT 15) 1), 15, by decide +kernel, by decide +kernel⟩⟩

/-- States and operands that meet what GnssCommandsActOnTheEngine assumes, clause by clause. -/
theorem witness_GnssCommandsActOnTheEngine :
    (∃ s : State, s.dev.gnsOn = true) ∧
    (∃ (s : State) (p : Nat) (code : Nat) (sat : Nat), s.dev.gnsOn = true ∧ s.dev.gns.found.contains (p, code,
      sat) = false) ∧
    (∃ (s : State) (p : Nat), p < 4 ∧ s.dev.fld GNS_INT_CFG 12 4 ≤ Tab.getD s.dev.gns.disp p 0 ∧
      3 ≤ ((List.range 4).filter fun i => bitOf (s.dev.gnsEff GNS_CTRL) (1 + i)).length ∧
      s.dev.displaced p = false) ∧
    (∃ s : State, s.dev.gns.alarm = true ∧ s.dev.fld GNS_INT_CFG 8 4 ≤ s.dev.gns.quiet) :=
  ⟨⟨st { (gnssOff.wfld GNS_INT_CFG 12 4 3) with gns := { gnssOff.gns with disp := [(3, 3)] } }, by decide +kernel⟩,
    ⟨st { (gnssOff.wfld GNS_INT_CFG 12 4 3) with gns := { gnssOff.gns with disp := [(3, 3)] } }, 3, 19, 255,
      by decide +kernel, by decide +kernel⟩,
    ⟨st { (gnssOff.wfld GNS_INT_CFG 12 4 3) with gns := { gnssOff.gns with disp := [(3, 3)] } }, 3,
      by decide +kernel, by decide +kernel, by decide +kernel, by decide +kernel⟩,
    ⟨st { (gnssOff.wfld GNS_INT_CFG 8 4 3) with gns := { gnssOff.gns with alarm := true, quiet := 3 } },
      by decide +kernel, by decide +kernel⟩⟩

/-- States and operands that meet what ReferencePositionCommandsAct assumes, clause by clause. -/
theorem witness_ReferencePositionCommandsAct :
    (∃ s : State, s.dev.gns.survey = true) ∧
    (∃ (s : State) (f : Ecef), s.dev.gns.check = true ∧ s.dev.gns.fix = some f ∧ let p := s.dev.gns.pos;
      let dist2 := ((f.x - p.x) * (f.x - p.x) + (f.y - p.y) * (f.y - p.y) + (f.z - p.z) * (f.z - p.z)).toNat;
      let lim := s.dev.fld GNS_INT_CFG 16 7 * 10000; dist2 ≤ lim * lim) ∧
    (∃ (s : State) (f : Ecef), s.dev.gns.check = true ∧ s.dev.gns.fix = some f ∧ let p := s.dev.gns.pos;
      let dist2 := ((f.x - p.x) * (f.x - p.x) + (f.y - p.y) * (f.y - p.y) + (f.z - p.z) * (f.z - p.z)).toNat;
      let lim := s.dev.fld GNS_INT_CFG 16 7 * 10000; lim * lim < dist2) ∧
    (∃ s : State, s.dev.gns.survey = false) ∧
    (∃ s : State, s.dev.gns.survey = true ∧ s.dev.surveyDone = true ∧ s.dev.gns.load = none) :=
  ⟨⟨st { (gnssOff.wrN GNS_REF_X_HI 0xFFFFFFFF) with gns := { gnssOff.gns with survey := true } },
      by decide +kernel⟩,
    ⟨st { (gnssOff.wfld GNS_INT_CFG 16 7 1) with gns := { gnssOff.gns with check := true, fix := some ⟨10000, 0, 0⟩ } },
      (⟨10000, 0, 0⟩ : Ecef), by decide +kernel, by decide +kernel, by decide +kernel⟩,
    ⟨st { (gnssOff.wfld GNS_INT_CFG 16 7 1) with gns := { gnssOff.gns with check := true, fix := some ⟨10000, 1, 0⟩ } },
      (⟨10000, 1, 0⟩ : Ecef), by decide +kernel, by decide +kernel, by decide +kernel⟩,
    ⟨st { (gnssOff.wfld GNS_INT_CFG 16 7 1) with gns := { gnssOff.gns with check := true, fix := some ⟨10000, 0, 0⟩ } },
      by decide +kernel⟩,
    ⟨st { (gnssOff.wfld GNS_SURVEY_CFG 0 7 1) with gns := { gnssOff.gns with survey := true, counted := 3600000 } },
      by decide +kernel, by decide +kernel, by decide +kernel⟩⟩

/-- States and operands that meet what CorrectionOutputActs assumes, clause by clause. -/
theorem witness_CorrectionOutputActs :
    (∃ (s : State) (b : Bytes), s.dev.cor.prof = some b ∧ s.dev.running = true ∧
      s.dev.cor.built ≠ some s.dev.heatAbs) ∧
    (∃ (s : State) (tag : Nat) (r : RadioSet) (p : Nat) (start : Nat) (air : Nat) (clear : Bool) (next : Nat) (h : Nat) (n : Nat), ∃ e' : Device, let d := s.dev.advanceTo start;
      d.cor.radio = some r ∧ Tab.find r.ports p = some (next, h, n) ∧ d.running = true ∧
      d.mayFragment r p start air clear = true ∧ d.tmp.cinder = false ∧ d.corrKeys = true ∧ (d.slot 11).st ≠ 0 ∧
      d.useKey 11 0 tag = (stDone, e')) ∧
    (∃ (s : State) (b : Bytes), s.dev.cor.prof = some b ∧ s.dev.running = true ∧ s.dev.corrKeys = true ∧
      s.dev.cor.nextFirst = none) ∧
    (∃ (s : State) (h : Nat), s.dev.cor.nextFirst = some h ∧ s.dev.running = true ∧ h ≤ s.dev.heatAbs ∧
      (s.dev.slot 12).st ≠ 0) ∧
    (∃ (s : State) (tag : Nat) (b : Bytes) (k : Nat), ∃ e' : Device, s.dev.cor.prof = some b ∧
      s.dev.corrSlot 5 0 = some k ∧ s.dev.running = true ∧ s.dev.heatAbs % 300 = 8 ∧
      s.dev.cor.built = some s.dev.heatAbs ∧ s.dev.corrKeys = true ∧ s.dev.cor.kid ≠ 0 ∧ (s.dev.slot 11).st ≠ 0 ∧
      s.dev.useKey k 0 tag = (stDone, e') ∧ e'.mcastSlot.isSome = true ∧ e'.gate = true ∧ e'.netUp = true ∧ ((∀ x,
      Tab.getD e'.hst.seqs x 0 < 0xFFFFFFFF))) :=
  ⟨⟨st corOn, prof, by decide +kernel, by decide +kernel, by decide +kernel⟩,
    ⟨st { corOn with cor := { corOn.cor with radio := some ⟨50, zeros 65, 1, 64, 1, false, [(3, 0, 49, 1)]⟩ } }, 0,
      (⟨50, zeros 65, 1, 64, 1, false, [(3, 0, 49, 1)]⟩ : RadioSet), 3, 5012000000, 1000000, false, 0, 49, 1,
      { corOn with cor := { corOn.cor with radio := some ⟨50, zeros 65, 1, 64, 1, false, [(3, 0, 49, 1)]⟩ } }.advanceTo 5012000000,
      by decide +kernel, by decide +kernel, by decide +kernel, by decide +kernel, by decide +kernel,
      by decide +kernel, by decide +kernel, by rfl⟩,
    ⟨st corOn, prof, by decide +kernel, by decide +kernel, by decide +kernel, by decide +kernel⟩,
    ⟨st { (corOn.setSlot 12 ⟨1, 0, 1, 4, false, 0, 1, 0xFF⟩) with cor := { corOn.cor with nextFirst := some 50 } },
      50, by decide +kernel, by decide +kernel, by decide +kernel, by decide +kernel⟩,
    ⟨st { (atHeat 308 corOn) with cor := { corOn.cor with built := some 308 } }, 0, prof, 127,
      { (atHeat 308 corOn) with cor := { corOn.cor with built := some 308 } }, by decide +kernel,
      by decide +kernel, by decide +kernel, by decide +kernel, by decide +kernel, by decide +kernel,
      by decide +kernel, by decide +kernel, by rfl, by decide +kernel, by decide +kernel, by decide +kernel,
      fun _ => (by decide : 0 < 0xFFFFFFFF)⟩⟩

/-- States and operands that meet what ResetsAndDeviceStatesFollowTheirCommands assumes, clause by clause. -/
theorem witness_ResetsAndDeviceStatesFollowTheirCommands :
    (∃ s : State, s.dev.pwr.off = false) ∧
    (∃ s : State, s.dev.pwr.off = true) ∧
    (∃ value : Nat, value % 65536 = 0xA5A5) ∧
    (∃ value : Nat, value % 65536 ≠ 0xA5A5) ∧
    (∃ value : Nat, value % 65536 = 0x5A5A) ∧
    (∃ value : Nat, value % 65536 ≠ 0x5A5A) ∧
    (∃ s : State, s.dev.pwr.armed = true ∧ s.dev.pstate ≠ 3) ∧
    (∃ pll : Nat, 3 ≤ pll ∧ pll ≤ 9) ∧
    (∃ value : Nat, bitsOf value 0 3 < 4) ∧
    (∃ value : Nat, 4 ≤ bitsOf value 0 3) ∧
    (∃ s : State, let t := s.dev.fld PWR_STATE 0 3;
      s.dev.bit PWR_STATE 7 = true ∧ t < 4 ∧ ((s.dev.tim.heats = true → s.dev.pwr.reqHeat < s.dev.heatAbs)) ∧
      ((s.dev.pstate < t → s.dev.wakeActive t = false)) ∧ s.dev.pstate = 0) ∧
    (∃ s : State, s.dev.bit PWR_WAKE 0 = true ∧ (s.dev.pstate = 1 ∨ s.dev.pstate = 2)) ∧
    (∃ s : State, s.dev.bit PWR_WAKE 0 = true ∧ s.dev.pstate = 3) ∧
    (∃ s : State, s.dev.pstate = 3 ∧ s.dev.bit PWR_WAKE 1 = true) :=
  ⟨⟨st timed, by decide +kernel⟩,
    ⟨st { timed with pwr := { timed.pwr with off := true } }, by decide +kernel⟩,
    ⟨0xFFFFA5A5, by decide +kernel⟩,
    ⟨0x5A5A, by decide +kernel⟩,
    ⟨0x5A5A, by decide +kernel⟩,
    ⟨0xFFFFA5A5, by decide +kernel⟩,
    ⟨st { timed with pwr := { timed.pwr with armed := true, served := 99000000000 } }, by decide +kernel,
      by decide +kernel⟩,
    ⟨3, by decide +kernel, by decide +kernel⟩,
    ⟨0x5A5A, by decide +kernel⟩,
    ⟨0xFFFFA5A5, by decide +kernel⟩,
    ⟨st { ((timed.wrN PWR_STATE 0x83).wrN PWR_WAKE 0) with pwr := { timed.pwr with wakeIn := true } },
      by decide +kernel, by decide +kernel, by decide +kernel, by decide +kernel, by decide +kernel⟩,
    ⟨st ((timed.wrN PWR_STATE 0x22).wrN PWR_WAKE 3), by decide +kernel, by decide +kernel⟩,
    ⟨st asleep, by decide +kernel, by decide +kernel⟩,
    ⟨st asleep, by decide +kernel, by decide +kernel⟩⟩

/-- States and operands that meet what AgeingCommandsTrimTheRunningRung assumes, clause by clause. -/
theorem witness_AgeingCommandsTrimTheRunningRung :
    (∃ (s : State) (m : Nat), s.dev.bit AGE_CTRL 0 = true ∧ s.dev.monitorOn m = true) ∧
    (∃ (s : State) (c : Instr), ((c = .trend ∧ s.dev.trendDue = true ∨ c = .trendNow ∧
      s.dev.bit AGE_CTRL 0 = true)) ∧ s.dev.rung < 4) ∧
    (∃ s : State, s.dev.age.trimDue = true ∧ s.dev.rung < 4) ∧
    (∃ (s : State) (r : Nat), r < 4 ∧ r ≠ s.dev.rung) :=
  ⟨⟨st { (timed.wrN AGE_CTRL 1) with age := { timed.age with mons := [(95, ⟨-7, [(0, -7)], [(0, -7)], 0⟩)], alarm := true } },
      95, by decide +kernel, by decide +kernel⟩,
    ⟨st { (timed.wrN AGE_CTRL 1) with age := { timed.age with mons := [(95, ⟨-7, [(0, -7)], [(0, -7)], 0⟩)], alarm := true } },
      Instr.trend, by decide +kernel, by decide +kernel⟩,
    ⟨st { ((timed.wrN (AGE_TRIM 0) 8).wfld AGE_CFG 14 4 8) with age := { timed.age with trimDue := true } },
      by decide +kernel, by decide +kernel⟩,
    ⟨st { ((timed.wrN (AGE_TRIM 0) 8).wfld AGE_CFG 14 4 8) with age := { timed.age with trimDue := true } }, 3,
      by decide +kernel, by decide +kernel⟩⟩

/-- States and operands that meet what StartAndStagingFollowTheirCommands assumes, clause by clause. -/
theorem witness_StartAndStagingFollowTheirCommands :
    (∃ (s : State) (x : StartIn), s.dev.pwr.started = false ∧ s.dev.pwr.off = false ∧ s.dev.pwr.held = false ∧ let bt : Boot := { s.dev.boot with gen := s.dev.boot.highest };
      (x.svcBoot = true ∨ bt.source = 2 ∨ bt.failed = 3)) ∧
    (∃ (s : State) (x : StartIn), s.dev.pwr.started = false ∧ s.dev.pwr.off = false ∧ s.dev.pwr.held = false ∧ let bt : Boot := { s.dev.boot with gen := s.dev.boot.highest };
      x.svcBoot = false ∧ bt.source ≠ 2 ∧ bt.failed ≤ 1 ∧ bt.recovery = false ∧ x.vbat = true ∧
      x.ref.isSome = true ∧ x.rootBad = false ∧ s.dev.keys.rootOk = true ∧ bt.staged = false ∧
      bt.activeBad = false ∧ ({ s.dev with boot := bt } : Device).setOk bt.active x.active = true ∧
      x.failing = [] ∧ bt.cfg = none) ∧
    (∃ s : State, s.dev.boot.warden = true ∧ s.dev.pwr.starting = true ∧ s.dev.stockPasses = false) ∧
    (∃ (s : State) (u : UpdFrom) (src : Nat) (b : Bytes) (d : Device) (reply : Nat → Bytes → Device → Device),
      UpdComes s 0x0A00 u src b d reply ∧ b = [] ∧ d.boot.restart = false ∧
      (d.boot.holder = 0 ∨ d.boot.holder = src)) ∧
    (∃ (s : State) (u : UpdFrom) (src : Nat) (b : Bytes) (d : Device) (reply : Nat → Bytes → Device → Device),
      UpdComes s 0x0A00 u src b d reply ∧ b = [] ∧ d.boot.restart = false ∧ d.boot.holder ≠ 0 ∧
      d.boot.holder ≠ src ∧ src ≠ 5) ∧
    (∃ (s : State) (u : UpdFrom) (src : Nat) (b : Bytes) (d : Device) (reply : Nat → Bytes → Device → Device),
      UpdComes s 0x0A00 u src b d reply ∧ b = [] ∧ d.boot.restart = false ∧ d.boot.holder ≠ 0 ∧ src = 5) ∧
    (∃ (s : State) (u : UpdFrom) (src : Nat) (b : Bytes) (d : Device) (reply : Nat → Bytes → Device → Device) (k : Nat),
      UpdComes s 0x0A01 u src b d reply ∧ 9 ≤ b.length ∧ b.length ≤ 1032 ∧ d.boot.restart = false ∧
      d.boot.holder = src ∧ k = uAt b 0 1 ∧ 1 ≤ k ∧ k ≤ 5 ∧ uAt b 1 3 = 0 ∧ uAt b 4 4 = (d.staged k).length ∧
      d.boot.stage.foldl (fun a x => a + x.2.length) 0 + (b.length - 8) ≤ 7 * 1048576) ∧
    (∃ (s : State) (u : UpdFrom) (src : Nat) (b : Bytes) (d : Device) (reply : Nat → Bytes → Device → Device) (good : List Nat),
      UpdComes s 0x0A02 u src b d reply ∧ b.length = 4 ∧ uAt b 0 1 ≤ 1 ∧ uAt b 1 3 = 0 ∧ d.boot.restart = false ∧
      d.boot.holder = src ∧ ((uAt b 0 1 = 0 ∨ d.running = true)) ∧ d.setOk d.candidateSet good = true) ∧
    (∃ (s : State) (u : UpdFrom) (src : Nat) (b : Bytes) (d : Device) (reply : Nat → Bytes → Device → Device) (good : List Nat),
      UpdComes s 0x0A02 u src b d reply ∧ b.length = 4 ∧ uAt b 0 1 ≤ 1 ∧ uAt b 1 3 = 0 ∧ d.boot.restart = false ∧
      d.boot.holder = src ∧ ((uAt b 0 1 = 0 ∨ d.running = true)) ∧ d.setOk d.candidateSet good = false) ∧
    (∃ (s : State) (u : UpdFrom) (src : Nat) (b : Bytes) (d : Device) (reply : Nat → Bytes → Device → Device),
      UpdComes s 0x0A03 u src b d reply ∧ b = [] ∧ d.boot.restart = false ∧ d.boot.holder = src) ∧
    (∃ (s : State) (u : UpdFrom) (src : Nat) (b : Bytes) (d : Device) (reply : Nat → Bytes → Device → Device),
      UpdComes s 0x0A04 u src b d reply ∧ b = [] ∧ d.boot.restart = false ∧ d.boot.holder < 6) ∧
    (∃ s : State, s.dev.boot.holder ≠ 0) :=
  ⟨⟨st (Device.reset), { goodStart with svcBoot := true }, by decide +kernel, by decide +kernel, by decide +kernel,
      by decide +kernel⟩,
    ⟨st ({ Device.reset with keys := { Keys.reset with rootOk := true }, boot := { Device.reset.boot with active := aSet, failed := 1 } }),
      goodStart, by decide +kernel, by decide +kernel, by decide +kernel, by decide +kernel, by decide +kernel,
      by decide +kernel, by decide +kernel, by decide +kernel, by decide +kernel, by decide +kernel,
      by decide +kernel, by decide +kernel, by decide +kernel, by decide +kernel, by decide +kernel,
      by decide +kernel⟩,
    ⟨st ({ svcOn with pwr := { svcOn.pwr with starting := true } }), by decide +kernel, by decide +kernel,
      by decide +kernel⟩,
    ⟨st ({ svcOn with pwr := { svcOn.pwr with starting := true } }), UpdFrom.svc 7 ([]), 5, ([] : Bytes),
      svcTook ({ svcOn with pwr := { svcOn.pwr with starting := true } }),
      svcUpd ({ svcOn with pwr := { svcOn.pwr with starting := true } }) 0x0A00,
      by unfold UpdComes; exact ⟨by decide +kernel, by decide +kernel, rfl, rfl, rfl, rfl⟩, by decide +kernel,
      by decide +kernel, by decide +kernel⟩,
    ⟨st (lockOf 1 svcOn), UpdFrom.host (pkt ([])), 4, ([] : Bytes), dev (lockOf 1 svcOn) 0x0A00 ([]),
      (fun st body x => x.answer (cmd (lockOf 1 svcOn) 0x0A00 ([])) st body : Nat → Bytes → Device → Device),
      by unfold UpdComes; exact ⟨cmd (lockOf 1 svcOn) 0x0A00 ([]), by decide +kernel, by decide +kernel,
      by decide +kernel, by decide +kernel, by decide +kernel, by decide +kernel, rfl⟩, by decide +kernel,
      by decide +kernel, by decide +kernel, by decide +kernel, by decide +kernel⟩,
    ⟨st (lockOf 4 svcOn), UpdFrom.svc 7 ([]), 5, ([] : Bytes), svcTook (lockOf 4 svcOn),
      svcUpd (lockOf 4 svcOn) 0x0A00, by unfold UpdComes; exact ⟨by decide +kernel, by decide +kernel, rfl, rfl,
      rfl, rfl⟩, by decide +kernel, by decide +kernel, by decide +kernel, by decide +kernel⟩,
    ⟨st (lockOf 4 { svcOn with boot := { svcOn.boot with stage := [(5, [1])] } }),
      UpdFrom.host (pkt (leBytes 4 5 ++ leBytes 5 1)), 4, (leBytes 4 5 ++ leBytes 5 1 : Bytes),
      dev (lockOf 4 { svcOn with boot := { svcOn.boot with stage := [(5, [1])] } }) 0x0A01 (leBytes 4 5 ++ leBytes 5 1),
      (fun st body x => x.answer (cmd (lockOf 4 { svcOn with boot := { svcOn.boot with stage := [(5, [1])] } }) 0x0A01 (leBytes 4 5 ++ leBytes 5 1)) st body : Nat → Bytes → Device → Device),
      5,
      by unfold UpdComes; exact ⟨cmd (lockOf 4 { svcOn with boot := { svcOn.boot with stage := [(5, [1])] } }) 0x0A01 (leBytes 4 5 ++ leBytes 5 1),
      by decide +kernel, by decide +kernel, by decide +kernel, by decide +kernel, by decide +kernel,
      by decide +kernel, rfl⟩, by decide +kernel, by decide +kernel, by decide +kernel, by decide +kernel,
      by decide +kernel, by decide +kernel, by decide +kernel, by decide +kernel, by decide +kernel,
      by decide +kernel⟩,
    ⟨st (lockOf 5 svcOn), UpdFrom.svc 7 (leBytes 4 0), 5, (leBytes 4 0 : Bytes), svcTook (lockOf 5 svcOn),
      svcUpd (lockOf 5 svcOn) 0x0A02, [1, 2, 3, 4], by unfold UpdComes; exact ⟨by decide +kernel,
      by decide +kernel, rfl, rfl, rfl, rfl⟩, by decide +kernel, by decide +kernel, by decide +kernel,
      by decide +kernel, by decide +kernel, by decide +kernel, by decide +kernel⟩,
    ⟨st (lockOf 5 svcOn), UpdFrom.svc 7 (leBytes 4 1), 5, (leBytes 4 1 : Bytes), svcTook (lockOf 5 svcOn),
      svcUpd (lockOf 5 svcOn) 0x0A02, [1, 2, 3], by unfold UpdComes; exact ⟨by decide +kernel, by decide +kernel,
      rfl, rfl, rfl, rfl⟩, by decide +kernel, by decide +kernel, by decide +kernel, by decide +kernel,
      by decide +kernel, by decide +kernel, by decide +kernel⟩,
    ⟨st (lockOf 5 svcOn), UpdFrom.svc 7 ([]), 5, ([] : Bytes), svcTook (lockOf 5 svcOn),
      svcUpd (lockOf 5 svcOn) 0x0A03, by unfold UpdComes; exact ⟨by decide +kernel, by decide +kernel, rfl, rfl,
      rfl, rfl⟩, by decide +kernel, by decide +kernel, by decide +kernel⟩,
    ⟨st (lockOf 5 svcOn), UpdFrom.svc 7 ([]), 5, ([] : Bytes), svcTook (lockOf 5 svcOn),
      svcUpd (lockOf 5 svcOn) 0x0A04, by unfold UpdComes; exact ⟨by decide +kernel, by decide +kernel, rfl, rfl,
      rfl, rfl⟩, by decide +kernel, by decide +kernel, by decide +kernel⟩,
    ⟨st (lockOf 1 svcOn), by decide +kernel⟩⟩

/-- States and operands that meet what ServicePortCommandsAnswer assumes, clause by clause. -/
theorem witness_ServicePortCommandsAnswer :
    (∃ (s : State) (b : Bytes), s.dev.svcUp = true ∧ b = []) ∧
    (∃ (s : State) (b : Bytes), s.dev.svcUp = true ∧ let d := svcTook s.dev;
      ∃ ok : Bool, b.length = 194 ∧ uAt b 0 1 < 32 ∧ uAt b 1 1 ≤ 1 ∧ d.boot.nonce = true ∧ ok = true) ∧
    (∃ (s : State) (b : Bytes), s.dev.svcUp = true ∧ let d := svcTook s.dev;
      ∃ ok : Bool, b.length = 194 ∧ uAt b 0 1 < 32 ∧ uAt b 1 1 ≤ 1 ∧ (d.boot.nonce = false ∨ ok = false)) ∧
    (∃ (s : State) (b : Bytes), s.dev.svcUp = true ∧ b.length = 1 ∧ uAt b 0 1 ≤ 2) ∧
    (∃ s : State, s.dev.svcUp = true ∧ let d := svcTook s.dev;
      let may (r : Nat) : Prop := bitOf s.dev.svcRights r = true;
      ∃ imgs : List (Nat × List (BitVec 8)), ∃ good : List Nat, may 0 ∧ let set : Tab Bytes := imgs.foldl (fun t e => Tab.put t e.1 e.2) [];
      d.setOk set good = true) ∧
    (∃ s : State, s.dev.svcUp = true ∧ let d := svcTook s.dev;
      let may (r : Nat) : Prop := bitOf s.dev.svcRights r = true;
      ∃ imgs : List (Nat × List (BitVec 8)), ∃ good : List Nat, may 0 ∧ let set : Tab Bytes := imgs.foldl (fun t e => Tab.put t e.1 e.2) [];
      d.setOk set good = false) ∧
    (∃ (s : State) (b : Bytes), s.dev.svcUp = true ∧ let d := svcTook s.dev;
      let may (r : Nat) : Prop := bitOf s.dev.svcRights r = true;
      ∃ good : List Nat, may 0 ∧ b = [] ∧ (d.boot.holder = 0 ∨ d.boot.holder = 5) ∧ let e : Device := { d with boot := { d.boot with stage := d.boot.recov, holder := 5 } };
      e.setOk e.candidateSet good = true) ∧
    (∃ (s : State) (b : Bytes), s.dev.svcUp = true ∧ let d := svcTook s.dev;
      let may (r : Nat) : Prop := bitOf s.dev.svcRights r = true; may 1 ∧ b.length = 64 ∧ d.boot.otp.length < 4) ∧
    (∃ s : State, s.dev.svcUp = true ∧ let d := svcTook s.dev;
      let may (r : Nat) : Prop := bitOf s.dev.svcRights r = true; may 1 ∧ d.tmp.active = 0) ∧
    (∃ s : State, s.dev.svcUp = true ∧ let d := svcTook s.dev;
      let may (r : Nat) : Prop := bitOf s.dev.svcRights r = true;
      ∃ (id : List (BitVec 8)) (ok : Bool), may 1 ∧ id.length = 12 ∧ d.keyed = true ∧ ok = true) ∧
    (∃ s : State, s.dev.svcUp = true ∧ let d := svcTook s.dev;
      let may (r : Nat) : Prop := bitOf s.dev.svcRights r = true;
      ∃ id : List (BitVec 8), may 1 ∧ id.length = 12 ∧ d.keyed = false) ∧
    (∃ (s : State) (b : Bytes), s.dev.svcUp = true ∧ let d := svcTook s.dev;
      let may (r : Nat) : Prop := bitOf s.dev.svcRights r = true;
      may 3 ∧ d.standby = false ∧ stopBodyOk b false = true ∧ uAt b 0 1 = 0) ∧
    (∃ (s : State) (b : Bytes), s.dev.svcUp = true ∧ let d := svcTook s.dev;
      let may (r : Nat) : Prop := bitOf s.dev.svcRights r = true;
      may 3 ∧ d.standby = false ∧ stopBodyOk b true = true ∧ b.take 4 = [0, 0, 0, 4] ∧
      bitOf d.stp.latch 10 = true) ∧
    (∃ (s : State) (b : Bytes), s.dev.svcUp = true ∧ let d := svcTook s.dev;
      let may (r : Nat) : Prop := bitOf s.dev.svcRights r = true;
      may 3 ∧ b = [] ∧ d.standalone = false ∧ d.tmp.cinder = true) ∧
    (∃ (s : State) (b : Bytes), s.dev.svcUp = true ∧ let may (r : Nat) : Prop := bitOf s.dev.svcRights r = true;
      may 4 ∧ b = []) ∧
    (∃ s : State, s.dev.svcUp = true ∧ let d := svcTook s.dev;
      let may (r : Nat) : Prop := bitOf s.dev.svcRights r = true;
      ∃ (ok : Bool) (y : SvcSession), may 2 ∧ d.boot.sess = some y ∧ y.vendor = true ∧ d.boot.policy 0 = false ∧
      (d.boot.policy 1 = false ∨ ok = true)) ∧
    (∃ (s : State) (b : Bytes), s.dev.svcUp = true ∧ let may (r : Nat) : Prop := bitOf s.dev.svcRights r = true;
      may 1 ∧ cfgOk b = true) ∧
    (∃ (s : State) (b : Bytes), s.dev.svcUp = true ∧ let may (r : Nat) : Prop := bitOf s.dev.svcRights r = true;
      may 1 ∧ cfgOk b = false) ∧
    (∃ (s : State) (b : Bytes), s.dev.svcUp = true ∧ let d := svcTook s.dev;
      let may (r : Nat) : Prop := bitOf s.dev.svcRights r = true;
      ∃ c : Bytes, may 1 ∧ b = [] ∧ d.boot.cfg = some c) ∧
    (∃ s : State, s.dev.svcUp = true ∧ bitOf s.dev.svcRights 1 = false) ∧
    (∃ s : State, s.dev.svcUp = true ∧ ∃ y : SvcSession, s.dev.boot.sess = some y) :=
  ⟨⟨st (svcOn), ([] : Bytes), by decide +kernel, by decide +kernel⟩,
    ⟨st (svcOn), ([31, 1] ++ zeros 192 : Bytes), by decide +kernel, true, by decide +kernel, by decide +kernel,
      by decide +kernel, by decide +kernel, by decide +kernel⟩,
    ⟨st (svcOn), ([31, 1] ++ zeros 192 : Bytes), by decide +kernel, false, by decide +kernel, by decide +kernel,
      by decide +kernel, by decide +kernel⟩,
    ⟨st (svcOn), ([2] : Bytes), by decide +kernel, by decide +kernel, by decide +kernel⟩,
    ⟨st (svcOn), by decide +kernel, aSet, [1, 2, 3, 4], by decide +kernel, by decide +kernel⟩,
    ⟨st (svcOn), by decide +kernel, aSet, [1, 2, 3], by decide +kernel, by decide +kernel⟩,
    ⟨st (svcOn), ([] : Bytes), by decide +kernel, [1, 2, 3, 4], by decide +kernel, by decide +kernel,
      by decide +kernel, by decide +kernel⟩,
    ⟨st (svcOn), (zeros 64 : Bytes), by decide +kernel, by decide +kernel, by decide +kernel, by decide +kernel⟩,
    ⟨st (svcOn), by decide +kernel, by decide +kernel, by decide +kernel⟩,
    ⟨st (svcOn), by decide +kernel, zeros 12, true, by decide +kernel, by decide +kernel, by decide +kernel,
      by decide +kernel⟩,
    ⟨st ({ svcOn with keys := { svcOn.keys with rootOk := false } }), by decide +kernel, zeros 12,
      by decide +kernel, by decide +kernel, by decide +kernel⟩,
    ⟨st (svcOn), (zeros 4 ++ leBytes 8 0xFFFFFFFFFFFFFFFF : Bytes), by decide +kernel, by decide +kernel,
      by decide +kernel, by decide +kernel, by decide +kernel⟩,
    ⟨st ({ svcOn with stp := { svcOn.stp with latch := 0x400 } }), ([0, 0, 0,
      4] ++ leBytes 8 0xFFFFFFFFFFFFFFFF : Bytes), by decide +kernel, by decide +kernel, by decide +kernel,
      by decide +kernel, by decide +kernel, by decide +kernel⟩,
    ⟨st ({ (svcOn.wrN PAIR_CTRL 1) with tmp := { svcOn.tmp with cinder := true } }), ([] : Bytes),
      by decide +kernel, by decide +kernel, by decide +kernel, by decide +kernel, by decide +kernel⟩,
    ⟨st (svcOn), ([] : Bytes), by decide +kernel, by decide +kernel, by decide +kernel⟩,
    ⟨st ({ (svcOn.wrN PAIR_CTRL 1) with tmp := { svcOn.tmp with cinder := true } }), by decide +kernel, false,
      (⟨31, true, svcOn.upNs⟩ : SvcSession), by decide +kernel, by decide +kernel, by decide +kernel,
      by decide +kernel, by decide +kernel⟩,
    ⟨st (svcOn), ([0xF1, 1, 0, 0] ++ leBytes 4 (crc32 [0xF1, 1, 0, 0]) : Bytes), by decide +kernel,
      by decide +kernel, by decide +kernel⟩,
    ⟨st (svcOn), ([] : Bytes), by decide +kernel, by decide +kernel, by decide +kernel⟩,
    ⟨st ({ svcOn with boot := { svcOn.boot with cfg := some [1] } }), ([] : Bytes), by decide +kernel,
      ([1] : Bytes), by decide +kernel, by decide +kernel, by decide +kernel⟩,
    ⟨st ({ svcOn with boot := { svcOn.boot with sess := some ⟨29, true, 5⟩ } }), by decide +kernel,
      by decide +kernel⟩,
    ⟨st ({ svcOn with boot := { svcOn.boot with sess := some ⟨29, true, 5⟩ } }), by decide +kernel, (⟨29, true,
      5⟩ : SvcSession), by decide +kernel⟩⟩

/-- States and operands that meet what KeyCommandsChangeTheSlots assumes, clause by clause. -/
theorem witness_KeyCommandsChangeTheSlots :
    (∃ (s : State) (h : HostPkt) (c : Cmd) (e : Device) (code : Nat) (cmd : Instr), ((code = 0x0900 ∧ (∃ ok,
      cmd = .keyLoad h ok) ∧ c.body.length = 100 ∨ code = 0x0901 ∧ cmd = .keyUnload h ∧
      c.body.length = 4 ∨ code = 0x0902 ∧ cmd = .keyGenerate h ∧ c.body.length = 8 ∨ code = 0x0903 ∧
      cmd = .keyImport h ∧ c.body.length = 56 ∨ code = 0x0904 ∧ cmd = .keyInvalidate h ∧
      c.body.length = 4 ∨ code = 0x0905 ∧ cmd = .keyStatus h ∧ c.body.length = 0)) ∧ s.dev.takes code h = some (c,
      e) ∧ ((e.keyed = false ∨ e.right c.part rPlan = false ∧ code ≠ 0x0905))) ∧
    (∃ (s : State) (h : HostPkt) (c : Cmd) (e : Device), e.keyed = true ∧ e.right c.part rPlan = true ∧ let n := uAt c.body 0 1;
      let fl := uAt c.body 1 1; s.dev.takes 0x0900 h = some (c, e) ∧ c.body.length = 100 ∧ let b := c.body.drop 4;
      n < 128 ∧ fl < 2 ∧ uAt c.body 2 2 = 0 ∧ e.maySlot c.part n = true ∧
      ((fl = 1 → e.maySlot c.part (n + 1) = true)) ∧ blobOk b = true ∧
      keyShapeOk n fl (uAt b 3 1) (uAt b 6 1) (uAt b 7 1) = true ∧ e.mayParent c.part (uAt b 2 1) = true ∧
      e.parentLoaded (uAt b 2 1) = true ∧ uAt b 4 2 = e.gen (uAt b 2 1)) ∧
    (∃ (s : State) (h : HostPkt) (c : Cmd) (e : Device), e.keyed = true ∧ e.right c.part rPlan = true ∧ let n := uAt c.body 0 1;
      let fl := uAt c.body 1 1;
      ∃ (code : Nat) (cmd : Instr), ((code = 0x0902 ∧ cmd = .keyGenerate h ∧ c.body.length = 8 ∨ code = 0x0903 ∧
      cmd = .keyImport h ∧ c.body.length = 56)) ∧ s.dev.takes code h = some (c, e) ∧ n < 128 ∧ uAt c.body 6 2 = 0 ∧
      uAt c.body 2 1 < 64 ∧ keyShapeOk n fl (uAt c.body 3 1) (uAt c.body 4 1) (uAt c.body 5 1) = true ∧
      e.maySlot c.part n = true ∧ ((fl = 1 → e.maySlot c.part (n + 1) = true)) ∧
      e.mayParent c.part (uAt c.body 2 1) = true ∧ e.parentLoaded (uAt c.body 2 1) = true ∧
      ((uAt c.body 5 1 = 0xFF ∨ Tab.find e.keys.regs (uAt c.body 5 1) = none))) ∧
    (∃ (s : State) (h : HostPkt) (c : Cmd) (e : Device), e.keyed = true ∧ e.right c.part rPlan = true ∧ let n := uAt c.body 0 1;
      s.dev.takes 0x0901 h = some (c, e) ∧ c.body.length = 4 ∧ n < 128 ∧ uAt c.body 1 3 = 0 ∧
      e.maySlot c.part n = true ∧ (e.slot n).st ≠ 0) ∧
    (∃ (s : State) (h : HostPkt) (c : Cmd) (e : Device), e.keyed = true ∧ e.right c.part rPlan = true ∧ let n := uAt c.body 0 1;
      s.dev.takes 0x0901 h = some (c, e) ∧ c.body.length = 4 ∧ n < 128 ∧ uAt c.body 1 3 = 0 ∧
      e.maySlot c.part n = true ∧ (e.slot n).st = 0) ∧
    (∃ (s : State) (h : HostPkt) (c : Cmd) (e : Device), e.keyed = true ∧ e.right c.part rPlan = true ∧ let n := uAt c.body 0 1;
      s.dev.takes 0x0904 h = some (c, e) ∧ c.body.length = 4 ∧ n < 64 ∧ uAt c.body 1 3 = 0 ∧
      e.mayParent c.part n = true ∧ ((∀ k, e.gen k < 0xFFFF))) ∧
    (∃ (s : State) (h : HostPkt) (c : Cmd) (e : Device), e.keyed = true ∧ s.dev.takes 0x0905 h = some (c, e) ∧
      c.body = []) ∧
    (∃ (s : State) (src : Nat), src < 11 ∧ s.dev.armed src = true) ∧
    (∃ (s : State) (src : Nat), src < 11 ∧ s.dev.armed src = true ∧ s.dev.tmp.cinder = false ∧ ∃ p : Nat, p < 4) :=
  ⟨⟨st ({ live with hst := { live.hst with parts := [] } }), pkt [127, 0, 0, 0],
      cmd ({ live with hst := { live.hst with parts := [] } }) 0x0901 [127, 0, 0, 0],
      dev ({ live with hst := { live.hst with parts := [] } }) 0x0901 [127, 0, 0, 0], 0x0901,
      Instr.keyUnload (pkt [127, 0, 0, 0]), Or.inr (Or.inl ⟨rfl, rfl, by decide +kernel⟩), by decide +kernel,
      by decide +kernel⟩,
    ⟨st live, pkt ([127, 0, 0, 0] ++ blob 2 2), cmd live 0x0900 ([127, 0, 0, 0] ++ blob 2 2),
      dev live 0x0900 ([127, 0, 0, 0] ++ blob 2 2), by decide +kernel, by decide +kernel, by decide +kernel,
      by decide +kernel, by decide +kernel, by decide +kernel, by decide +kernel, by decide +kernel,
      by decide +kernel, by decide +kernel, by decide +kernel, by decide +kernel, by decide +kernel,
      by decide +kernel⟩,
    ⟨st live, pkt [127, 0, 4, 2, 2, 63, 0, 0], cmd live 0x0902 [127, 0, 4, 2, 2, 63, 0, 0], dev live 0x0902 [127,
      0, 4, 2, 2, 63, 0, 0], by decide +kernel, by decide +kernel, 0x0902, Instr.keyGenerate (pkt [127, 0, 4, 2, 2,
      63, 0, 0]), by decide +kernel, by decide +kernel, by decide +kernel, by decide +kernel, by decide +kernel,
      by decide +kernel, by decide +kernel, by decide +kernel, by decide +kernel, by decide +kernel,
      by decide +kernel⟩,
    ⟨st (live.setSlot 127 (keyOf 3 1)), pkt [127, 0, 0, 0], cmd (live.setSlot 127 (keyOf 3 1)) 0x0901 [127, 0, 0,
      0], dev (live.setSlot 127 (keyOf 3 1)) 0x0901 [127, 0, 0, 0], by decide +kernel, by decide +kernel,
      by decide +kernel, by decide +kernel, by decide +kernel, by decide +kernel, by decide +kernel,
      by decide +kernel⟩,
    ⟨st live, pkt [127, 0, 0, 0], cmd live 0x0901 [127, 0, 0, 0], dev live 0x0901 [127, 0, 0, 0],
      by decide +kernel, by decide +kernel, by decide +kernel, by decide +kernel, by decide +kernel,
      by decide +kernel, by decide +kernel, by decide +kernel⟩,
    ⟨st (live.setSlot 127 (keyOf 3 1)), pkt [4, 0, 0, 0], cmd (live.setSlot 127 (keyOf 3 1)) 0x0904 [4, 0, 0, 0],
      dev (live.setSlot 127 (keyOf 3 1)) 0x0904 [4, 0, 0, 0], by decide +kernel, by decide +kernel,
      by decide +kernel, by decide +kernel, by decide +kernel, by decide +kernel, by decide +kernel,
      fun _ => (by decide : 0 < 0xFFFF)⟩,
    ⟨st (live.setSlot 127 (keyOf 2 1)), pkt ([] : Bytes), cmd (live.setSlot 127 (keyOf 2 1)) 0x0905 ([] : Bytes),
      dev (live.setSlot 127 (keyOf 2 1)) 0x0905 ([] : Bytes), by decide +kernel, by decide +kernel,
      by decide +kernel⟩,
    ⟨st live, 10, by decide +kernel, by decide +kernel⟩,
    ⟨st live, 10, by decide +kernel, by decide +kernel, by decide +kernel, 3, by decide +kernel⟩⟩

/-- States and operands that meet what StopsLatchAndResumesClear assumes, clause by clause. -/
theorem witness_StopsLatchAndResumesClear :
    (∃ (s : State) (ch : Bool), Tab.getD s.dev.stp.ch (b2n ch) false ≠ Tab.getD s.dev.stp.raw (b2n ch) false ∧
      Tab.getD s.dev.stp.raw (b2n ch) false = true) ∧
    (∃ (s : State) (ch : Bool), Tab.getD s.dev.stp.ch (b2n ch) false ≠ Tab.getD s.dev.stp.raw (b2n ch) false ∧
      Tab.getD s.dev.stp.raw (b2n ch) false = false) ∧
    (∃ s : State, Tab.getD s.dev.stp.ch 0 false ≠ Tab.getD s.dev.stp.ch 1 false ∧ s.dev.stp.disc = false) ∧
    (∃ s : State, Tab.getD s.dev.stp.ch 0 false = Tab.getD s.dev.stp.ch 1 false ∧ s.dev.stp.disc = true) ∧
    (∃ (s : State) (h : HostPkt) (e : Device), s.dev.accept h = (true, e) ∧ h.part < 4 ∧ e.standby = false ∧
      stopBodyOk h.body false = true ∧ e.right h.part rStop = false) ∧
    (∃ (s : State) (h : HostPkt) (e : Device), s.dev.accept h = (true, e) ∧ h.part < 4 ∧ e.standby = false ∧
      stopBodyOk h.body false = true ∧ e.right h.part rStop = true ∧ uAt h.body 0 1 = 0) ∧
    (∃ (s : State) (h : HostPkt) (e : Device), s.dev.accept h = (true, e) ∧ h.part < 4 ∧ e.standby = false ∧
      stopBodyOk h.body false = true ∧ e.right h.part rStop = true ∧ uAt h.body 0 1 = 1 ∧ uAt h.body 1 1 = 1 ∧
      e.stp.list.length < 16 ∧ stopEntry e.stp.list (uAt h.body 4 2) = none) ∧
    (∃ (s : State) (h : HostPkt) (e : Device), s.dev.accept h = (true, e) ∧ h.part < 4 ∧ e.standby = false ∧
      stopBodyOk h.body false = false) ∧
    (∃ (s : State) (h : HostPkt) (e : Device), s.dev.accept h = (true, e) ∧ h.part < 4 ∧ e.standby = false ∧ stopBodyOk h.body true = true ∧ e.right h.part rStop = true ∧ uAt h.body 0 1 = 0 ∧ let cs := setBitsOf 12 (uAt h.body 2 2);
      ((∀ i ∈ cs, e.mayClear h.part i = true ∧ bitOf e.stp.latch i = true ∧ e.causeHolds i = false))) ∧
    (∃ (s : State) (h : HostPkt) (e : Device), s.dev.accept h = (true, e) ∧ h.part < 4 ∧ e.standby = false ∧ stopBodyOk h.body true = true ∧ e.right h.part rStop = true ∧ uAt h.body 0 1 = 0 ∧ let cs := setBitsOf 12 (uAt h.body 2 2);
      ((∃ i ∈ cs, e.mayClear h.part i = false))) ∧
    (∃ (s : State) (h : HostPkt) (c : Cmd) (e : Device), s.dev.takes 0x0102 h = some (c, e) ∧ c.body.length = 4 ∧ uAt c.body 2 2 = 0 ∧ uAt c.body 1 1 ≠ 0 ∧ uAt c.body 0 1 < 128 ∧ e.right c.part rStop = true ∧ let k := e.slot (uAt c.body 0 1);
      k.st = 1 ∧ k.owner = c.part ∧ k.attr = 0 ∧ k.alg = 1) ∧
    (∃ (s : State) (h : HostPkt) (c : Cmd) (e : Device), s.dev.takes 0x0102 h = some (c, e) ∧ c.body.length = 4 ∧ uAt c.body 2 2 = 0 ∧ uAt c.body 1 1 ≠ 0 ∧ uAt c.body 0 1 < 128 ∧ e.right c.part rStop = true ∧ let k := e.slot (uAt c.body 0 1);
      k.st = 0) ∧
    (∃ (s : State) (t : Nat), s.dev.stp.phase = 1 ∧ s.dev.stp.latch = 0 ∧ s.dev.standby = false ∧
      s.dev.stp.firstUp = some t) :=
  ⟨⟨st { live with stp := { live.stp with raw := [(1, true)], ch := [] } }, true, by decide +kernel,
      by decide +kernel⟩,
    ⟨st { live with stp := { live.stp with raw := [], ch := [(0, true)] } }, false, by decide +kernel,
      by decide +kernel⟩,
    ⟨st { live with stp := { live.stp with raw := [], ch := [(0, true)] } }, by decide +kernel, by decide +kernel⟩,
    ⟨st { live with stp := { live.stp with raw := [], ch := [], disc := true } }, by decide +kernel,
      by decide +kernel⟩,
    ⟨st { live with hst := { live.hst with parts := [] } }, pkt (fleetStop 0),
      ({ live with hst := { live.hst with parts := [] } }.accept (pkt (fleetStop 0))).2, by decide +kernel,
      by decide +kernel, by decide +kernel, by decide +kernel, by decide +kernel⟩,
    ⟨st live, pkt (fleetStop 0), (live.accept (pkt (fleetStop 0))).2, by decide +kernel, by decide +kernel,
      by decide +kernel, by decide +kernel, by decide +kernel, by decide +kernel⟩,
    ⟨st live, pkt ([1, 1, 0, 0, 0xFF, 0x0F] ++ leBytes 6 0xFFFFFFFFFFFF), (live.accept (pkt ([1, 1, 0, 0, 0xFF,
      0x0F] ++ leBytes 6 0xFFFFFFFFFFFF))).2, by decide +kernel, by decide +kernel, by decide +kernel,
      by decide +kernel, by decide +kernel, by decide +kernel, by decide +kernel, by decide +kernel,
      by decide +kernel⟩,
    ⟨st live, pkt [2], (live.accept (pkt [2])).2, by decide +kernel, by decide +kernel, by decide +kernel,
      by decide +kernel⟩,
    ⟨st { live with stp := { live.stp with latch := 0x810 } }, pkt (fleetStop 0x10),
      ({ live with stp := { live.stp with latch := 0x810 } }.accept (pkt (fleetStop 0x10))).2, by decide +kernel,
      by decide +kernel, by decide +kernel, by decide +kernel, by decide +kernel, by decide +kernel,
      by decide +kernel⟩,
    ⟨st live, pkt (fleetStop 0x2), (live.accept (pkt (fleetStop 0x2))).2, by decide +kernel, by decide +kernel,
      by decide +kernel, by decide +kernel, by decide +kernel, by decide +kernel, by decide +kernel⟩,
    ⟨st (live.setSlot 127 (keyOf 3 0)), pkt [127, 255, 0, 0], cmd (live.setSlot 127 (keyOf 3 0)) 0x0102 [127, 255,
      0, 0], dev (live.setSlot 127 (keyOf 3 0)) 0x0102 [127, 255, 0, 0], by decide +kernel, by decide +kernel,
      by decide +kernel, by decide +kernel, by decide +kernel, by decide +kernel, by decide +kernel,
      by decide +kernel, by decide +kernel, by decide +kernel⟩,
    ⟨st live, pkt [127, 255, 0, 0], cmd live 0x0102 [127, 255, 0, 0], dev live 0x0102 [127, 255, 0, 0],
      by decide +kernel, by decide +kernel, by decide +kernel, by decide +kernel, by decide +kernel,
      by decide +kernel, by decide +kernel⟩,
    ⟨st { live with stp := { live.stp with phase := 1, latch := 0, firstUp := some 5 } }, 5, by decide +kernel,
      by decide +kernel, by decide +kernel, by decide +kernel⟩⟩

/-- States and operands that meet what PermitsAndStopFramesAreSent assumes, clause by clause. -/
theorem witness_PermitsAndStopFramesAreSent :
    (∃ s : State, let d := s.dev.advanceTo (s.dev.tb0 / 100000000 * 100000000 + 1800000); d.running = true) ∧
    (∃ (s : State) (clear : Nat) (b : Beacon) (p : Nat), let d := s.dev.advanceTo (s.dev.tb0 / 100000000 * 100000000 + 2000000);
      d.stp.payload = some b ∧ d.stp.sent = false ∧ d.stp.phase ≠ 1 ∧ d.running = true ∧ b.heat = d.heat ∧
      d.openedLate = false ∧ b.stop = false ∧ d.mayRun = true ∧ d.permitPorts = [p] ∧ d.portUp p = true ∧
      ((d.lbt p = true → bitOf clear p = true)) ∧ d.canLive p = true) ∧
    (∃ (s : State) (p : Nat) (start : Nat), let d := s.dev.advanceTo start;
      d.stp.phase = 1 ∧ d.permitPorts.contains p = true ∧ d.portUp p = true ∧ d.stopDue p ≤ start ∧
      ((d.canLive p = true ∨ Tab.getD d.stp.ahead p [] ≠ []))) ∧
    (∃ (s : State) (p : Nat), s.dev.canSeal = true ∧ s.dev.permitPorts.contains p = true ∧
      ((Tab.getD s.dev.stp.ahead p []).filter fun f => f.fresh s.dev.keyIndex).length < 32 ∧
      Tab.getD s.dev.stp.used p 0 < s.dev.resvRange.2) ∧
    (∃ s : State, s.dev.gate = true ∧ s.dev.stp.payload.isSome = true ∧ s.dev.permitPorts ≠ [] ∧
      s.dev.stp.sent = false ∧ s.dev.stp.byStopTest = false ∧ s.dev.stp.misses = 2 ∧
      bitOf s.dev.stp.latch 11 = false) ∧
    (∃ (s : State) (good : Nat), s.dev.gate = true ∧ s.dev.stp.payload.isSome = true ∧ s.dev.stp.sent = true ∧
      ((∀ p ∈ s.dev.permitPorts, bitOf good p = true))) :=
  ⟨⟨st (stopOn 2 0), by decide +kernel⟩,
    ⟨st { ready false with pair := { (ready false).pair with claim := true }, stp := { (ready false).stp with payload := some ⟨50, false, false, 0, [4095]⟩ } },
      0, (⟨50, false, false, 0, [4095]⟩ : Beacon), 3, by decide +kernel, by decide +kernel, by decide +kernel,
      by decide +kernel, by decide +kernel, by decide +kernel, by decide +kernel, by decide +kernel,
      by decide +kernel, by decide +kernel, by decide +kernel, by decide +kernel⟩,
    ⟨st { stopOn 1 0x800 with stp := { (stopOn 1 0x800).stp with phaseTb := 5005000000, ahead := [(3, sealed 1)] } },
      3, 5005000000, by decide +kernel, by decide +kernel, by decide +kernel, by decide +kernel, by decide +kernel⟩,
    ⟨st { stopOn 1 0x800 with stp := { (stopOn 1 0x800).stp with phaseTb := 5005000000, ahead := [(3, sealed 1)] } },
      3, by decide +kernel, by decide +kernel, by decide +kernel, by decide +kernel⟩,
    ⟨st { stopOn 0 0 with stp := { (stopOn 0 0).stp with payload := some ⟨50, false, false, 0, []⟩, misses := 2 } },
      by decide +kernel, by decide +kernel, by decide +kernel, by decide +kernel, by decide +kernel,
      by decide +kernel, by decide +kernel⟩,
    ⟨st { stopOn 0 0 with stp := { (stopOn 0 0).stp with payload := some ⟨50, false, false, 0, []⟩, misses := 2, sent := true } },
      8, by decide +kernel, by decide +kernel, by decide +kernel, by decide +kernel⟩⟩

/-- States and operands that meet what PairCommandsMoveTheClaim assumes, clause by clause. -/
theorem witness_PairCommandsMoveTheClaim :
    (∃ s : State, s.dev.pair.claim = true ∧ s.dev.refreshes = true) ∧
    (∃ s : State, s.dev.pair.claim = true ∧ s.dev.refreshes = false) ∧
    (∃ s : State, s.dev.pair.claim = true ∧ s.dev.pair.confirm = false) ∧
    (∃ s : State, s.dev.pair.claim = true ∧ s.dev.pair.confirm = true) ∧
    (∃ (s : State) (lv : Bool), s.dev.pair.claim = false ∧ s.dev.pair.confirm = false ∧ let d := (s.dev.advanceTo s.dev.nextSample).peerLevel lv;
      ((d.pairReady = false ∨ lv = true))) ∧
    (∃ (s : State) (lv : Bool), s.dev.pair.claim = false ∧ s.dev.pair.confirm = false ∧ let d := (s.dev.advanceTo s.dev.nextSample).peerLevel lv;
      let need := if d.pair.away then 6 else 2; d.pairReady = true ∧ lv = false ∧ d.pair.lows + 1 < need) ∧
    (∃ (s : State) (lv : Bool), s.dev.pair.claim = false ∧ s.dev.pair.confirm = false ∧ let d := (s.dev.advanceTo s.dev.nextSample).peerLevel lv;
      let need := if d.pair.away then 6 else 2;
      d.pairReady = true ∧ lv = false ∧ need ≤ d.pair.lows + 1 ∧ d.pair.away = false) ∧
    (∃ (s : State) (at_ : Nat), s.dev.pair.bothAt = some at_ ∧ s.dev.pair.claim = true ∧
      s.dev.pair.peerClaim = true) ∧
    (∃ (s : State) (p : PeerPkt) (e : Device), s.dev.acceptPeer p = (true, e) ∧ e.heartbeatOk p.body = true) ∧
    (∃ (s : State) (p : PeerPkt) (e : Device), s.dev.acceptPeer p = (true, e) ∧ e.heartbeatOk p.body = false) ∧
    (∃ s : State, s.dev.pair.seen = true ∧ 3 ≤ s.dev.pair.quiet) ∧
    (∃ (s : State) (m : MirrorIn), s.dev.pairLink = true ∧ s.dev.standby = true ∧ m.complete = true ∧
      m.seq = (s.dev.pair.seq + 1) % 2 ^ 32 ∧ ∃ b : List (BitVec 8), m.secs = [(4, [b])] ∧ uAt b 4 1 ≠ 0) ∧
    (∃ (s : State) (m : MirrorIn), s.dev.pairLink = true ∧ s.dev.standby = true ∧ m.complete = false) ∧
    (∃ (s : State) (p : PeerPkt) (e : Device), s.dev.acceptPeer p = (true, e) ∧ p.body.length = 17 ∧
      uAt p.body 0 2 = 0x0100 ∧ e.standby = false ∧ e.right (uAt p.body 2 1 % 4) rStop = true ∧
      stopBodyOk (p.body.drop 5) false = true ∧ uAt p.body 5 1 = 0) ∧
    (∃ (s : State) (p : PeerPkt) (e : Device), s.dev.acceptPeer p = (true, e) ∧ p.body.length = 6 ∧
      e.standby = true) ∧
    (∃ s : State, let d := s.dev.advanceUp (s.dev.pair.okAt + s.dev.fld PAIR_CFG 0 10 * 1000000000);
      s.dev.mayRevert = true ∧ d.mayRevert = true) ∧
    (∃ s : State, let k := s.dev.pair; k.claim = true ∧ k.seen = true ∧ k.peerReady = true ∧ k.peerMirror = true) ∧
    (∃ s : State, let k := s.dev.pair;
      (k.claim = false ∨ k.seen = false ∨ k.peerReady = false ∨ k.peerMirror = false)) :=
  ⟨⟨st { paired false with pair := { (paired false).pair with claim := true } }, by decide +kernel,
      by decide +kernel⟩,
    ⟨st { live.wrN PAIR_CTRL 1 with pair := { live.pair with claim := true } }, by decide +kernel,
      by decide +kernel⟩,
    ⟨st { paired false with pair := { (paired false).pair with claim := true } }, by decide +kernel,
      by decide +kernel⟩,
    ⟨st { paired true with pair := { (paired true).pair with claim := true, confirm := true } }, by decide +kernel,
      by decide +kernel⟩,
    ⟨st { paired true with pair := { (paired true).pair with lows := 5 } }, true, by decide +kernel,
      by decide +kernel, by decide +kernel⟩,
    ⟨st { paired true with pair := { (paired true).pair with lows := 4 } }, false, by decide +kernel,
      by decide +kernel, by decide +kernel, by decide +kernel, by decide +kernel⟩,
    ⟨st { paired false with pair := { (paired false).pair with lows := 1 } }, false, by decide +kernel,
      by decide +kernel, by decide +kernel, by decide +kernel, by decide +kernel, by decide +kernel⟩,
    ⟨st { live with pair := { live.pair with peerClaim := true, bothAt := some 5 } }, 5, by decide +kernel,
      by decide +kernel, by decide +kernel⟩,
    ⟨st (paired true), peer (beat 0x7F), ((paired true).acceptPeer (peer (beat 0x7F))).2, by decide +kernel,
      by decide +kernel⟩,
    ⟨st (paired true), peer (beat 0x80), ((paired true).acceptPeer (peer (beat 0x80))).2, by decide +kernel,
      by decide +kernel⟩,
    ⟨st { live with pair := { live.pair with seen := true, quiet := 3 } }, by decide +kernel, by decide +kernel⟩,
    ⟨st { paired true with pair := { (paired true).pair with seq := 0xFFFFFFFF } }, (⟨true, 1, 0, 0, false, false,
      [(4, [leBytes 4 0xFFF ++ [1] ++ zeros 59])]⟩ : MirrorIn), by decide +kernel, by decide +kernel,
      by decide +kernel, by decide +kernel, (leBytes 4 0xFFF ++ [1] ++ zeros 59 : Bytes), by decide +kernel,
      by decide +kernel⟩,
    ⟨st (paired true), (⟨false, 1, 0, 0, false, false, []⟩ : MirrorIn), by decide +kernel, by decide +kernel,
      by decide +kernel⟩,
    ⟨st { paired false with pair := { (paired false).pair with claim := true } },
      peer (leBytes 5 0x30100 ++ fleetStop 0),
      ({ paired false with pair := { (paired false).pair with claim := true } }.acceptPeer (peer (leBytes 5 0x30100 ++ fleetStop 0))).2,
      by decide +kernel, by decide +kernel, by decide +kernel, by decide +kernel, by decide +kernel,
      by decide +kernel, by decide +kernel⟩,
    ⟨st (paired true), peer (leBytes 6 0x30100), ((paired true).acceptPeer (peer (leBytes 6 0x30100))).2,
      by decide +kernel, by decide +kernel, by decide +kernel⟩,
    ⟨st { (paired false).wrN PAIR_CTRL 3 with pair := { (paired false).pair with seen := true, peerClaim := true, mirrorOk := true } },
      by decide +kernel, by decide +kernel⟩,
    ⟨st { paired false with pair := { (paired false).pair with claim := true, seen := true, peerReady := true, peerMirror := true } },
      by decide +kernel, by decide +kernel, by decide +kernel, by decide +kernel⟩,
    ⟨st { paired false with pair := { (paired false).pair with claim := true } }, by decide +kernel⟩⟩

/-- States and operands that meet what BoundaryCommandsWaitForTheHeatBoundary assumes, clause by clause. -/
theorem witness_BoundaryCommandsWaitForTheHeatBoundary :
    (∃ (s : State) (h : HostPkt) (c : Cmd) (e : Device) (x : Nat × Instr × List Nat × Bool × Bool),
      x ∈ boundaryCmds h ∧ s.dev.takes x.1 h = some (c, e) ∧ ((x.2.2.2.1 = true → e.right c.part rPlan = true)) ∧
      ((x.2.2.1 = [] ∨ c.body.length ∈ x.2.2.1)) ∧ ((x.2.2.2.2 = true → e.standby = false))) ∧
    (∃ (s : State) (h : HostPkt) (c : Cmd) (e : Device) (x : Nat × Instr × List Nat × Bool × Bool),
      x ∈ boundaryCmds h ∧ s.dev.takes x.1 h = some (c, e) ∧ ((x.2.2.2.1 = true → e.right c.part rPlan = true)) ∧
      ((x.2.2.1 = [] ∨ c.body.length ∈ x.2.2.1)) ∧ x.2.2.2.2 = true ∧ e.standby = true) ∧
    (∃ (s : State) (h : HostPkt) (c : Cmd) (e : Device) (x : Nat × Instr × List Nat × Bool × Bool),
      x ∈ boundaryCmds h ∧ s.dev.takes x.1 h = some (c, e) ∧ ((x.2.2.2.1 = true → e.right c.part rPlan = true)) ∧
      x.2.2.1 ≠ [] ∧ c.body.length ∉ x.2.2.1 ∧ e.standby = false) ∧
    (∃ (d : Device) (c : Cmd), d.hst.waiting = [c] ∧ c.part < 4 ∧ c.code ≠ 0x0502) ∧
    (∃ (d : Device) (c : Cmd), d.hst.waiting = [c] ∧ c.code = 0x0502) :=
  ⟨⟨st live, pkt (zeros 4), cmd live 0x0401 (zeros 4), dev live 0x0401 (zeros 4), ((0x0401,
      .machineRelease (pkt (zeros 4)), [4], false, true) : Nat × Instr × List Nat × Bool × Bool),
      by decide +kernel, by decide +kernel, by decide +kernel, by decide +kernel, by decide +kernel⟩,
    ⟨st ({ (live.wrN PAIR_CTRL 1) with pair := { live.pair with claim := false } }), pkt (zeros 4),
      cmd ({ (live.wrN PAIR_CTRL 1) with pair := { live.pair with claim := false } }) 0x0401 (zeros 4),
      dev ({ (live.wrN PAIR_CTRL 1) with pair := { live.pair with claim := false } }) 0x0401 (zeros 4), ((0x0401,
      .machineRelease (pkt (zeros 4)), [4], false, true) : Nat × Instr × List Nat × Bool × Bool),
      by decide +kernel, by decide +kernel, by decide +kernel, by decide +kernel, by decide +kernel,
      by decide +kernel⟩,
    ⟨st live, pkt (zeros 5), cmd live 0x0401 (zeros 5), dev live 0x0401 (zeros 5), ((0x0401,
      .machineRelease (pkt (zeros 5)), [4], false, true) : Nat × Instr × List Nat × Bool × Bool),
      by decide +kernel, by decide +kernel, by decide +kernel, by decide +kernel, by decide +kernel,
      by decide +kernel⟩,
    ⟨{ live with hst := { live.hst with waiting := [bc 0x0401 (zeros 4)] } }, bc 0x0401 (zeros 4),
      by decide +kernel, by decide +kernel, by decide +kernel⟩,
    ⟨{ live with hst := { live.hst with waiting := [bc 0x0502 (zeros 24)] } }, bc 0x0502 (zeros 24),
      by decide +kernel, by decide +kernel⟩⟩

/-- States and operands that meet what FleetBoundaryCommandsChangeTheEntry assumes, clause by clause. -/
theorem witness_FleetBoundaryCommandsChangeTheEntry :
    (∃ (d : Device) (c : Cmd), c.part < 4 ∧ let b := c.body; let m := uAt b 0 2;
      let plan : Prop := d.right c.part rPlan = true;
      plan ∧ admitOk b = true ∧ d.mstate m = 0 ∧ d.machOf (uAt b 2 8) = none) ∧
    (∃ (d : Device) (c : Cmd), c.part < 4 ∧ let b := c.body; let m := uAt b 0 2;
      let plan : Prop := d.right c.part rPlan = true;
      m < 4096 ∧ d.mstate m ≠ 0 ∧ d.owns c.part m = true ∧ plan ∧ tailZero b 2 = true ∧ d.mstate m ≠ 4) ∧
    (∃ (d : Device) (c : Cmd), c.part < 4 ∧ let b := c.body; let m := uAt b 0 2;
      m < 4096 ∧ d.mstate m ≠ 0 ∧ d.owns c.part m = true ∧ uAt b 2 1 < 4 ∧ tailZero b 3 = true) ∧
    (∃ (d : Device) (c : Cmd), c.part < 4 ∧ let b := c.body; let m := uAt b 0 2;
      m < 4096 ∧ d.mstate m ≠ 0 ∧ d.owns c.part m = true ∧ uAt b 2 1 < 16 ∧ tailZero b 3 = true) ∧
    (∃ (d : Device) (c : Cmd), c.part < 4 ∧ let b := c.body; let m := uAt b 0 2;
      m < 4096 ∧ d.mstate m ≠ 0 ∧ d.owns c.part m = false ∧ uAt b 2 1 < 4 ∧ tailZero b 3 = true) ∧
    (∃ (d : Device) (c : Cmd), c.part < 4 ∧ let b := c.body; let m := uAt b 0 2;
      let plan : Prop := d.right c.part rPlan = true;
      ∃ t : Transfer, plan ∧ tailZero b 2 = true ∧ m < 4096 ∧ d.mstate m ≠ 0 ∧ Tab.find d.flt.offers m = some t ∧
      t.target = c.part) ∧
    (∃ (d : Device) (c : Cmd), c.part < 4 ∧ let b := c.body;
      uAt b 0 4 < 0x40000 ∧ d.nodeReadable c.part (uAt b 0 4) = true) ∧
    (∃ (d : Device) (c : Cmd), c.part < 4 ∧ let b := c.body; let m := uAt b 0 2;
      tailZero b 2 = true ∧ m < 4096 ∧ d.mstate m ≠ 0 ∧ d.mayRead c.part m = true) ∧
    (∃ (d : Device) (c : Cmd), c.part < 4 ∧ let b := c.body; let m := uAt b 0 2;
      tailZero b 2 = true ∧ m < 4096 ∧ d.mstate m ≠ 0 ∧ d.mayRead c.part m = false) ∧
    (∃ (d : Device) (c : Cmd), c.part < 4 ∧ let b := c.body; let plan : Prop := d.right c.part rPlan = true;
      plan ∧ uAt b 0 1 < 4 ∧ allZero (sliceB b 1 3) = true) :=
  ⟨⟨live, bc 0 (leBytes 2 4095 ++ leBytes 8 9 ++ leBytes 5 0 ++ [2, 127, 3, 15] ++ zeros 5), by decide +kernel,
      by decide +kernel, by decide +kernel, by decide +kernel, by decide +kernel⟩,
    ⟨fleet 3, bc 0 (leBytes 4 4095), by decide +kernel, by decide +kernel, by decide +kernel, by decide +kernel,
      by decide +kernel, by decide +kernel, by decide +kernel⟩,
    ⟨fleet 3, bc 0 (leBytes 4 4095), by decide +kernel, by decide +kernel, by decide +kernel, by decide +kernel,
      by decide +kernel, by decide +kernel⟩,
    ⟨fleet 3, bc 0 (leBytes 4 4095), by decide +kernel, by decide +kernel, by decide +kernel, by decide +kernel,
      by decide +kernel, by decide +kernel⟩,
    ⟨(fleet 3).setFe 4095 3 0x72, bc 0 (leBytes 4 4095), by decide +kernel, by decide +kernel, by decide +kernel,
      by decide +kernel, by decide +kernel, by decide +kernel⟩,
    ⟨{ fleet 3 with flt := { (fleet 3).flt with offers := [(4095, ⟨3, 5⟩)] } }, bc 0 (leBytes 4 4095),
      by decide +kernel, (⟨3, 5⟩ : Transfer), by decide +kernel, by decide +kernel, by decide +kernel,
      by decide +kernel, by decide +kernel, by decide +kernel⟩,
    ⟨fleet 3, bc 0 (leBytes 4 0x3FFFD), by decide +kernel, by decide +kernel, by decide +kernel⟩,
    ⟨fleet 3, bc 0 (leBytes 4 4095), by decide +kernel, by decide +kernel, by decide +kernel, by decide +kernel,
      by decide +kernel⟩,
    ⟨(fleet 3).setFe 4095 3 0x72, bc 0 (leBytes 4 4095), by decide +kernel, by decide +kernel, by decide +kernel,
      by decide +kernel, by decide +kernel⟩,
    ⟨live, bc 0 ([3, 0, 0, 0] ++ leBytes 8 9), by decide +kernel, by decide +kernel, by decide +kernel,
      by decide +kernel⟩⟩

/-- States and operands that meet what FleetCommandsAndTimesAct assumes, clause by clause. -/
theorem witness_FleetCommandsAndTimesAct :
    (∃ (s : State) (h : HostPkt) (c : Cmd) (e : Device), s.dev.takes 0x0408 h = some (c, e) ∧ c.body.length = 16 ∧
      e.right c.part rPlan = true ∧ e.standby = false ∧ fleetCfgOk c.body = true) ∧
    (∃ (s : State) (h : HostPkt) (c : Cmd) (e : Device), s.dev.takes 0x0408 h = some (c, e) ∧ c.body.length = 16 ∧
      e.right c.part rPlan = true ∧ e.standby = false ∧ fleetCfgOk c.body = false) ∧
    (∃ (s : State) (h : HostPkt) (c : Cmd) (e : Device), s.dev.takes 0x0409 h = some (c, e) ∧
      statusBodyOk c.body = true ∧ uAt c.body 0 1 = 0) ∧
    (∃ (s : State) (h : HostPkt) (c : Cmd) (e : Device), s.dev.takes 0x0409 h = some (c, e) ∧
      statusBodyOk c.body = true ∧ uAt c.body 0 1 = 1) ∧
    (∃ (s : State) (m : Nat) (t : Transfer), Tab.find s.dev.flt.offers m = some t ∧
      s.dev.since t.at_ 10000000000 = true) ∧
    (∃ (s : State) (e : Device) (m : Nat) (p : MachPkt), let d := s.dev.advanceTo p.stamp;
      d.linkTakes false = true ∧ helloOk p.body = true ∧ d.machOf (uAt p.body 4 8) = some m ∧
      p.node % 65536 = 0xFFFF ∧ d.acceptUnder m p = (true, e)) ∧
    (∃ (s : State) (m : Nat), s.dev.mstate m = 2 ∧
      ((s.dev.flt.cfg.getD 0 30 : Int) + 1) ≤ diff32 s.dev.heat (s.dev.fe m 28)) ∧
    (∃ (s : State) (m : Nat), s.dev.mstate m = 4 ∧ 3 ≤ Tab.getD s.dev.flt.leave m 0 ∧ s.dev.standby = false ∧
      s.dev.fe m 4 ≠ 0xFFFFFFFF) ∧
    (∃ (s : State) (n : Nat), ((s.dev.flt.cfg.getD 1 72 * 36000 : Nat) : Int) ≤ diff32 s.dev.heat (s.dev.nd n 24) ∧
      s.dev.pair.claim = true ∧ ((s.dev.nkind n = 1 ∨ s.dev.nkind n = 2 ∨ s.dev.nkind n = 3 ∧
      s.dev.mstate (s.dev.nd n 20) = 3))) ∧
    (∃ (s : State) (n : Nat) (t : Nat), Tab.find s.dev.flt.quar n = some t ∧ s.dev.since t 3600000000000 = true) :=
  ⟨⟨st live, pkt ([10, 1, 2, 2, 2, 14] ++ zeros 10), cmd live 0x0408 ([10, 1, 2, 2, 2, 14] ++ zeros 10),
      dev live 0x0408 ([10, 1, 2, 2, 2, 14] ++ zeros 10), by decide +kernel, by decide +kernel, by decide +kernel,
      by decide +kernel, by decide +kernel⟩,
    ⟨st live, pkt ([9, 1, 2, 2, 2, 14] ++ zeros 10), cmd live 0x0408 ([9, 1, 2, 2, 2, 14] ++ zeros 10),
      dev live 0x0408 ([9, 1, 2, 2, 2, 14] ++ zeros 10), by decide +kernel, by decide +kernel, by decide +kernel,
      by decide +kernel, by decide +kernel⟩,
    ⟨st live, pkt (zeros 4), cmd live 0x0409 (zeros 4), dev live 0x0409 (zeros 4), by decide +kernel,
      by decide +kernel, by decide +kernel⟩,
    ⟨st live, pkt (leBytes 4 1), cmd live 0x0409 (leBytes 4 1), dev live 0x0409 (leBytes 4 1), by decide +kernel,
      by decide +kernel, by decide +kernel⟩,
    ⟨st { fleet 3 with flt := { (fleet 3).flt with offers := [(4095, ⟨3, 90000000000⟩)], quar := [(0x3FFFD, 5)] } },
      4095, (⟨3, 90000000000⟩ : Transfer), by decide +kernel, by decide +kernel⟩,
    ⟨st (fleet 1), (((fleet 1).advanceTo 5006000000).acceptUnder 4095 { machPkt hello9 with node := 0xFFFF }).2,
      4095, { machPkt hello9 with node := 0xFFFF }, by decide +kernel, by decide +kernel, by decide +kernel,
      by decide +kernel, by decide +kernel⟩,
    ⟨st ((fleet 2).setFe 4095 28 19), 4095, by decide +kernel, by decide +kernel⟩,
    ⟨st { fleet 4 with flt := { (fleet 4).flt with leave := [(4095, 3)] } }, 4095, by decide +kernel,
      by decide +kernel, by decide +kernel, by decide +kernel⟩,
    ⟨st ((fleet 3).setNds 0x3FFFD [(24, 4292375346)]), 0x3FFFD, by decide +kernel, by decide +kernel,
      by decide +kernel⟩,
    ⟨st { (fleet 3) with tim := { live.tim with up := 3600000000005 * 2 ^ 32 }, flt := { (fleet 3).flt with quar := [(0x3FFFD, 5)] } },
      0x3FFFD, 5, by decide +kernel, by decide +kernel⟩⟩

/-- States and operands that meet what ReservationCommandsKeepTheGraphAndTheHolds assumes, clause by clause. -/
theorem witness_ReservationCommandsKeepTheGraphAndTheHolds :
    (∃ (d : Device) (c : Cmd), d.right c.part rPlan = true ∧ graphBodyOk c.body = true ∧ uAt c.body 0 1 = 0 ∧ let r := layRead laySeg (c.body.drop 4);
      let i := uAt c.body 2 2; ((structural (d.seg i) = structural r ∨ d.segBusy i = false))) ∧
    (∃ (d : Device) (c : Cmd), d.right c.part rPlan = true ∧ graphBodyOk c.body = true ∧ uAt c.body 0 1 = 0 ∧ let r := layRead laySeg (c.body.drop 4);
      let i := uAt c.body 2 2; structural (d.seg i) ≠ structural r ∧ d.segBusy i = true) ∧
    (∃ (d : Device) (c : Cmd) (m : Nat) (h : Hold), d.right c.part rPlan = true ∧ m = uAt c.body 0 2 ∧ m < 4096 ∧
      d.owns c.part m = true ∧ d.bit RSV_CTRL 0 = true ∧ Tab.find d.rsv.holds m = some h ∧ h.id = uAt c.body 2 2) ∧
    (∃ s : State, ((∀ x ∈ s.dev.rsv.segs, recGet x.2 4 ≠ 0 → s.dev.segOk x.1 = true))) ∧
    (∃ s : State, ((∃ x ∈ s.dev.rsv.segs, recGet x.2 4 ≠ 0 ∧ s.dev.segOk x.1 = false))) ∧
    (∃ s : State, s.dev.bit RSV_CTRL 0 = true) ∧
    (∃ (s : State) (c : Cmd), s.dev.running = true ∧ s.dev.standby = false ∧ s.dev.hst.waiting = [c] ∧
      c.code = 0x0502 ∧ c.part < 4 ∧ c.heat ≠ s.dev.heat ∧ s.dev.rsv.reqs = []) ∧
    (∃ (s : State) (m : Nat) (h : Hold), Tab.find s.dev.rsv.holds m = some h ∧ h.made + 2 ≤ s.dev.heatAbs ∧
      ∃ i : Nat, i ∈ h.ix) ∧
    (∃ (s : State) (m : Nat), s.dev.rsv.overs.contains m = true) ∧
    (∃ s : State, s.dev.folding = true ∧ s.dev.rsvPaused = true ∧ s.dev.rsv.waits = [] ∧
      ∃ (i : Nat) (x : RsvEntry), Tab.find s.dev.rsv.ents i = some x) ∧
    (∃ s : State, s.dev.rsvPaused = true ∧ s.dev.rsv.sat = false ∧
      s.dev.fld RSV_CFG 0 8 * 6000 ≤ s.dev.rdN RSV_PAUSE_OFS) :=
  ⟨⟨railed, bc 0x0500 (leBytes 2 0 ++ leBytes 2 65535 ++ segRec 10000), by decide +kernel, by decide +kernel,
      by decide +kernel, by decide +kernel⟩,
    ⟨railed, bc 0x0500 (leBytes 2 0 ++ leBytes 2 65535 ++ segRec 250), by decide +kernel, by decide +kernel,
      by decide +kernel, by decide +kernel, by decide +kernel⟩,
    ⟨railed, bc 0x0503 (leBytes 2 4095 ++ leBytes 2 65535), 4095, (⟨65535, 520, some 0, 48, [1048575]⟩ : Hold),
      by decide +kernel, by decide +kernel, by decide +kernel, by decide +kernel, by decide +kernel,
      by decide +kernel, by decide +kernel⟩,
    ⟨st railed, by decide +kernel⟩,
    ⟨st { railed with rsv := { railed.rsv with juncs := [] } }, by decide +kernel⟩,
    ⟨st railed, by decide +kernel⟩,
    ⟨st { railed with hst := { railed.hst with waiting := [bc 0x0502 (leBytes 2 4095 ++ leBytes 2 32767 ++ zeros 20)] } },
      bc 0x0502 (leBytes 2 4095 ++ leBytes 2 32767 ++ zeros 20), by decide +kernel, by decide +kernel,
      by decide +kernel, by decide +kernel, by decide +kernel, by decide +kernel, by decide +kernel⟩,
    ⟨st { railed with rsv := { railed.rsv with overs := [4095] } }, 4095, (⟨65535, 520, some 0, 48,
      [1048575]⟩ : Hold), by decide +kernel, by decide +kernel, 1048575, by decide +kernel⟩,
    ⟨st { railed with rsv := { railed.rsv with overs := [4095] } }, 4095, by decide +kernel⟩,
    ⟨st paused, by decide +kernel, by decide +kernel, by decide +kernel, 0, ent 4095 490 520 false,
      by decide +kernel⟩,
    ⟨st paused, by decide +kernel, by decide +kernel, by decide +kernel⟩⟩

/-- States and operands that meet what TaskCommandsMoveTheTasks assumes, clause by clause. -/
theorem witness_TaskCommandsMoveTheTasks :
    (∃ (d : Device) (c : Cmd) (t : Nat) (k : Task), d.right c.part rPlan = true ∧ d.taskBodyOk c.body = true ∧
      k = taskOfBody c.body c.part ∧ ((∀ x, k.pin = some x → d.owns c.part x = true)) ∧ d.newTask c.part = some t) ∧
    (∃ (d : Device) (c : Cmd) (k : Task), d.right c.part rPlan = true ∧ d.taskBodyOk c.body = true ∧
      k = taskOfBody c.body c.part ∧ ((∀ x, k.pin = some x → d.owns c.part x = true)) ∧ d.newTask c.part = none) ∧
    (∃ (d : Device) (c : Cmd) (t : Nat) (k : Task), d.right c.part rPlan = true ∧ t = uAt c.body 0 2 ∧ t < 8192 ∧
      tailZero c.body 2 = true ∧ d.task t = some k ∧ k.part = c.part ∧ terminal k.st = false) ∧
    (∃ (d : Device) (c : Cmd) (t : Nat) (k : Task), d.right c.part rPlan = true ∧ t = uAt c.body 0 2 ∧ t < 8192 ∧
      tailZero c.body 2 = true ∧ d.task t = some k ∧ k.part = c.part ∧ terminal k.st = true) ∧
    (∃ (d : Device) (c : Cmd), d.right c.part rPlan = true ∧ uAt c.body 0 1 < 16 ∧ uAt c.body 1 2 < 32768 ∧
      d.juncFlag (uAt c.body 1 2) 0 = true ∧ uAt c.body 3 1 < 128 ∧ tailZero c.body 8 = true) ∧
    (∃ (s : State) (c : Cmd) (h : HostPkt) (e : Device), s.dev.takes 0x0603 h = some (c, e) ∧ c.body.length = 32 ∧
      e.right c.part rPlan = true ∧ e.standby = false ∧ allotOk c.body = true) ∧
    (∃ (s : State) (c : Cmd) (h : HostPkt) (e : Device), s.dev.takes 0x0603 h = some (c, e) ∧ c.body.length = 32 ∧
      e.right c.part rPlan = true ∧ e.standby = false ∧ allotOk c.body = false) ∧
    (∃ (s : State) (m : Nat) (p : MachPkt) (e : Device), s.dev.acceptMach false p = (some m, e) ∧
      uAt p.body 0 1 = 0x52 ∧ e.standby = false ∧ e.canPush 68 p.body = true ∧ taskReportOk p.body = true ∧
      uAt p.body 2 2 = m) ∧
    (∃ s : State, let a := s.dev.advanceTo (s.dev.heatAbs * 100000000 + 10000000);
      a.running = true ∧ a.standby = false ∧ a.rsvPaused = false ∧ a.alo.ran ≠ some a.heatAbs ∧
      a.alo.prof.isSome = true ∧ ((a.heat % Nat.max 1 (a.ap 0 1) = 0 ∨ a.alo.dueNow = true)) ∧
      Tab.risingFrom 0 a.alo.tasks = true ∧ ∃ (n : Nat) (x : Machine.Task), a.task n = some x ∧ x.st ≠ 1 ∧
      x.sort ≠ 3) ∧
    (∃ (s : State) (m : Nat), s.dev.running = true ∧ s.dev.standby = false ∧ s.dev.alo.prof.isSome = true ∧
      bitOf (s.dev.ap 17 1) 0 = true ∧ s.dev.heat % 10 = 0 ∧ s.dev.alo.planned ≠ some s.dev.heatAbs ∧
      s.dev.loadStale = true ∧ m ∈ s.dev.machines ∧ bitOf (s.dev.fe m 212) 0 = true) ∧
    (∃ (s : State) (m : Nat), s.dev.running = true ∧ s.dev.standby = false ∧ s.dev.alo.prof.isSome = true ∧
      bitOf (s.dev.ap 17 1) 0 = true ∧ s.dev.loadStale = true ∧ s.dev.alo.staleSaid = false ∧ m ∈ s.dev.machines ∧
      bitOf (s.dev.fe m 212) 0 = true) ∧
    (∃ (s : State) (t : Nat) (k : Task), s.dev.task t = some k ∧ k.st = 1 ∧ k.deadline ≠ 0 ∧
      0 ≤ diff32 s.dev.heat k.deadline ∧ s.dev.standby = false) ∧
    (∃ (s : State) (m : Nat), s.dev.mstate m ≠ 0 ∧ 300 < diff32 s.dev.heat (s.dev.fe m 232)) :=
  ⟨⟨allotted 1, bc 0x0600 ([1, 4] ++ leBytes 2 0 ++ leBytes 2 32767 ++ zeros 16 ++ leBytes 2 4095 ++ zeros 8), 0,
      taskOfBody ([1, 4] ++ leBytes 2 0 ++ leBytes 2 32767 ++ zeros 16 ++ leBytes 2 4095 ++ zeros 8) 3,
      by decide +kernel, by decide +kernel, by decide +kernel, by decide +kernel, by decide +kernel⟩,
    ⟨fullTasks, bc 0x0600 ([1, 0] ++ leBytes 2 0 ++ leBytes 2 32767 ++ zeros 26), taskOfBody ([1,
      0] ++ leBytes 2 0 ++ leBytes 2 32767 ++ zeros 26) 3, by decide +kernel, by decide +kernel, by decide +kernel,
      by decide +kernel, by decide +kernel⟩,
    ⟨allotted 1, bc 0x0601 (leBytes 4 8191), 8191, taskOf 1, by decide +kernel, by decide +kernel,
      by decide +kernel, by decide +kernel, by decide +kernel, by decide +kernel, by decide +kernel⟩,
    ⟨allotted 7, bc 0x0601 (leBytes 4 8191), 8191, taskOf 7, by decide +kernel, by decide +kernel,
      by decide +kernel, by decide +kernel, by decide +kernel, by decide +kernel, by decide +kernel⟩,
    ⟨fullTasks, bc 0x0600 ([1, 0] ++ leBytes 2 0 ++ leBytes 2 32767 ++ zeros 26), by decide +kernel,
      by decide +kernel, by decide +kernel, by decide +kernel, by decide +kernel, by decide +kernel⟩,
    ⟨st railed, cmd railed 0x0603 allot, pkt allot, dev railed 0x0603 allot, by decide +kernel, by decide +kernel,
      by decide +kernel, by decide +kernel, by decide +kernel⟩,
    ⟨st railed, cmd railed 0x0603 (zeros 32), pkt (zeros 32), dev railed 0x0603 (zeros 32), by decide +kernel,
      by decide +kernel, by decide +kernel, by decide +kernel, by decide +kernel⟩,
    ⟨st railed, 4095, machPkt ([0x52, 5, 0xFF, 0x0F] ++ zeros 20), (railed.acceptMach false (machPkt ([0x52, 5,
      0xFF, 0x0F] ++ zeros 20))).2, by decide +kernel, by decide +kernel, by decide +kernel, by decide +kernel,
      by decide +kernel, by decide +kernel⟩,
    ⟨st (allotted 2), by decide +kernel, by decide +kernel, by decide +kernel, by decide +kernel,
      by decide +kernel, by decide +kernel, by decide +kernel, 8191, taskOf 2, by decide +kernel,
      by decide +kernel, by decide +kernel⟩,
    ⟨st { (allotted 1).setFe 4095 212 1 with alo := { (allotted 1).alo with staleSaid := false } }, 4095,
      by decide +kernel, by decide +kernel, by decide +kernel, by decide +kernel, by decide +kernel,
      by decide +kernel, by decide +kernel, by decide +kernel, by decide +kernel⟩,
    ⟨st { (allotted 1).setFe 4095 212 1 with alo := { (allotted 1).alo with staleSaid := false } }, 4095,
      by decide +kernel, by decide +kernel, by decide +kernel, by decide +kernel, by decide +kernel,
      by decide +kernel, by decide +kernel, by decide +kernel⟩,
    ⟨st ((allotted 1).setTask 8191 { taskOf 1 with deadline := 50, excl := [(4095, some 50), (1, some 5), (4095, none)] }),
      8191, { taskOf 1 with deadline := 50, excl := [(4095, some 50), (1, some 5), (4095, none)] },
      by decide +kernel, by decide +kernel, by decide +kernel, by decide +kernel, by decide +kernel⟩,
    ⟨st (railed.setFe 4095 232 4294967045), 4095, by decide +kernel, by decide +kernel⟩⟩

/-- States and operands that meet what GovernorCommandsAct assumes, clause by clause. -/
theorem witness_GovernorCommandsAct :
    (∃ s : State, let g := s.dev; ∃ k : Nat, let a := g.advanceTo (g.heatAbs * 100000000 + k * 20000000);
      a.sampleDue k = false) ∧
    (∃ (s : State) (m : Nat), let g := s.dev;
      ∃ (k : Nat) (late : List Nat), let a := g.advanceTo (g.heatAbs * 100000000 + k * 20000000);
      a.sampleDue k = true ∧ g.governed m = true ∧ (Tab.find g.gov.mach m).isSome = true ∧ m ∈ late) ∧
    (∃ (s : State) (m : Nat), let g := s.dev;
      g.governed m = true ∧ g.fld GOV_CFG 0 8 ≤ g.sepMissed m ∧ g.govFlag m 2 = false) ∧
    (∃ (s : State) (m : Nat), let g := s.dev; g.governed m = true ∧ g.sepMissed m < g.fld GOV_CFG 0 8) ∧
    (∃ (s : State) (m : Nat), let g := s.dev;
      g.governed m = true ∧ g.fld GOV_CFG 8 8 ≤ g.fe m 97 ∧ g.govFlag m 3 = false) ∧
    (∃ (s : State) (m : Nat), let g := s.dev;
      g.governed m = true ∧ bitsOf (g.fe m 99) 4 2 = 3 ∧ ∃ i : Nat, i < 7 ∧ let k := g.coef g.bankOn (g.fe m 80 % 16) (g.fe m 99 % 16) i;
      toSigned 16 (recGet k 8) ≤ toSigned 16 (recGet k 10)) ∧
    (∃ (s : State) (m : Nat), let g := s.dev;
      g.governed m = true ∧ g.fe m 98 = 3 ∧ g.govFlag m 6 = false ∧ m < 2 ^ 32) ∧
    (∃ s : State, let g := s.dev; g.fld GOV_STAT 6 2 = 3 ∧ g.stp.engineFault = false) ∧
    (∃ s : State, let g := s.dev; ∃ z : Nat, g.zoneOver z = true ∧ (g.zone z).said = false) ∧
    (∃ d : Device, d.bit GOV_STAT 1 = true) ∧
    (∃ (s : State) (e : Device) (h : HostPkt) (c : Cmd), let g := s.dev; let b := c.body;
      g.takes 0x0705 h = some (c, e) ∧ b.length = 12 ∧ e.right c.part rPlan = true ∧ e.standby = false ∧
      uAt b 1 1 < 3 ∧ uAt b 2 2 = 0) ∧
    (∃ (s : State) (e : Device) (h : HostPkt) (c : Cmd), let g := s.dev; let b := c.body;
      g.takes 0x0705 h = some (c, e) ∧ b.length = 12 ∧ e.right c.part rPlan = true ∧ e.standby = false ∧
      (3 ≤ uAt b 1 1 ∨ uAt b 2 2 ≠ 0)) ∧
    (∃ (d : Device) (c : Cmd), let b := c.body; d.right c.part rPlan = true ∧ let t := uAt b 2 1;
      (t ≤ 6 ∨ t = 8 ∨ t = 9) ∧ b.length = 4 + coefLen t ∧ uAt b 0 1 < 16 ∧ uAt b 1 1 < 16 ∧ uAt b 3 1 = 0 ∧
      coefOk t (b.drop 4) = true) ∧
    (∃ (d : Device) (c : Cmd) (m : Nat), let b := c.body;
      d.right c.part rPlan = true ∧ m = uAt b 0 2 ∧ m < 4096 ∧ d.mstate m ≠ 0 ∧ d.owns c.part m = true ∧
      uAt b 2 1 < 16) ∧
    (∃ (d : Device) (c : Cmd) (m : Nat), let b := c.body;
      m = uAt b 0 2 ∧ m < 4096 ∧ d.mstate m ≠ 0 ∧ d.mayRead c.part m = true ∧ tailZero b 2 = true) :=
  ⟨⟨st governing, 5, by decide +kernel⟩,
    ⟨st governing, 4095, 4, [4095], by decide +kernel, by decide +kernel, by decide +kernel, by decide +kernel⟩,
    ⟨st (governing.setFe 4095 96 5), 4095, by decide +kernel, by decide +kernel, by decide +kernel⟩,
    ⟨st governing, 4095, by decide +kernel, by decide +kernel⟩,
    ⟨st (governing.setFe 4095 97 5), 4095, by decide +kernel, by decide +kernel, by decide +kernel⟩,
    ⟨st (governing.setFe 4095 99 0x3F), 4095, by decide +kernel, by decide +kernel, 6, by decide +kernel,
      by decide +kernel⟩,
    ⟨st (governing.setFe 4095 98 3), 4095, by decide +kernel, by decide +kernel, by decide +kernel,
      by decide +kernel⟩,
    ⟨st (governing.wrN GOV_STAT 0xC0), by decide +kernel, by decide +kernel⟩,
    ⟨st governing, 255, by decide +kernel, by decide +kernel⟩,
    ⟨governing.wrN GOV_STAT 3, by decide +kernel⟩,
    ⟨st governing, dev governing 0x0705 ([255, 2, 0, 0] ++ zeros 8), pkt ([255, 2, 0, 0] ++ zeros 8),
      cmd governing 0x0705 ([255, 2, 0, 0] ++ zeros 8), by decide +kernel, by decide +kernel, by decide +kernel,
      by decide +kernel, by decide +kernel, by decide +kernel⟩,
    ⟨st governing, dev governing 0x0705 ([255, 3, 0, 0] ++ zeros 8), pkt ([255, 3, 0, 0] ++ zeros 8),
      cmd governing 0x0705 ([255, 3, 0, 0] ++ zeros 8), by decide +kernel, by decide +kernel, by decide +kernel,
      by decide +kernel, by decide +kernel⟩,
    ⟨governing, bc 0x700 ([15, 15, 9, 0, 255, 255] ++ zeros 14), by decide +kernel, by decide +kernel,
      by decide +kernel, by decide +kernel, by decide +kernel, by decide +kernel, by decide +kernel⟩,
    ⟨governing, bc 0x700 (leBytes 2 4095 ++ [15, 255] ++ zeros 8), 4095, by decide +kernel, by decide +kernel,
      by decide +kernel, by decide +kernel, by decide +kernel, by decide +kernel⟩,
    ⟨governing, bc 0x700 (leBytes 4 4095), 4095, by decide +kernel, by decide +kernel, by decide +kernel,
      by decide +kernel, by decide +kernel⟩⟩

/-- States and operands that meet what StoppedMachinesGetAllowanceZero assumes, clause by clause. -/
theorem witness_StoppedMachinesGetAllowanceZero :
    (∃ (s : State) (m : Nat) (k : Nat) (late : List Nat) (ecc : List (Nat × Nat × Bool)),
      (s.dev.advanceTo (s.dev.heatAbs * 100000000 + k * 20000000)).sampleDue k = true ∧ s.dev.governed m = true ∧
      s.dev.permitZero m = true ∧ m ∉ late ∧ m ∉ s.dev.gov.bad ∧ ((∀ x ∈ ecc, x.1 = m → x.2.2 = false))) ∧
    (∃ prop : List Nat, prop.length = 8 ∧ ∃ i : Nat, i < 8 ∧ prop.getD i 0 = (govern prop).1) :=
  ⟨⟨st (((governing.setFe 4095 92 20000).wrN STP_CTRL 0)), 4095, 4, [4094], [(4094, 0, true)], by decide +kernel,
      by decide +kernel, by decide +kernel, by decide +kernel, by decide +kernel, by decide +kernel⟩,
    ⟨[20000, 5, 20000, 20000, 20000, 5, 20000, 65535], by decide +kernel, 5, by decide +kernel, by decide +kernel⟩⟩

/-- States and operands that meet what SolverAndCorrectionCommandsAct assumes, clause by clause. -/
theorem witness_SolverAndCorrectionCommandsAct :
    (∃ (s : State) (e : Device) (h : HostPkt) (c : Cmd), let g := s.dev;
      g.takes 0x0200 h = some (c, e) ∧ c.body.length = 96 ∧ e.right c.part rPlan = true ∧ e.standby = false ∧ let ok := profileOk c.body (1000 / [1, 2, 5, 10, 20].getD (e.fld GNS_CTRL 5 3) 10);
      ok = true) ∧
    (∃ (s : State) (e : Device) (h : HostPkt) (c : Cmd), let g := s.dev;
      g.takes 0x0200 h = some (c, e) ∧ c.body.length = 96 ∧ e.right c.part rPlan = true ∧ e.standby = false ∧ let ok := profileOk c.body (1000 / [1, 2, 5, 10, 20].getD (e.fld GNS_CTRL 5 3) 10);
      ok = false) ∧
    (∃ (s : State) (e : Device) (h : HostPkt) (c : Cmd), let g := s.dev;
      g.takes 0x0301 h = some (c, e) ∧ c.body.length = 64 ∧ e.right c.part rPlan = true ∧ e.standby = false ∧
      solverProfOk c.body = true) ∧
    (∃ (s : State) (e : Device) (h : HostPkt) (c : Cmd), let g := s.dev;
      g.takes 0x0301 h = some (c, e) ∧ c.body.length = 64 ∧ e.right c.part rPlan = true ∧ e.standby = false ∧
      solverProfOk c.body = false) ∧
    (∃ (s : State) (e : Device) (h : HostPkt) (c : Cmd), let g := s.dev;
      g.takes 0x0201 h = some (c, e) ∧ statusBodyOk c.body = true ∧ uAt c.body 0 1 = 0) ∧
    (∃ (s : State) (e : Device) (h : HostPkt) (c : Cmd), let g := s.dev;
      g.takes 0x0201 h = some (c, e) ∧ statusBodyOk c.body = true ∧ uAt c.body 0 1 = 1) ∧
    (∃ (s : State) (e : Device) (h : HostPkt) (c : Cmd), let g := s.dev;
      g.takes 0x0302 h = some (c, e) ∧ statusBodyOk c.body = true ∧ e.slv.last.length = 4) ∧
    (∃ (s : State) (e : Device) (h : HostPkt) (c : Cmd), let g := s.dev;
      g.takes 0x0302 h = some (c, e) ∧ statusBodyOk c.body = true ∧ uAt c.body 0 1 = 0) ∧
    (∃ (s : State) (e : Device) (h : HostPkt) (c : Cmd), let g := s.dev;
      g.takes 0x0302 h = some (c, e) ∧ statusBodyOk c.body = true ∧ uAt c.body 0 1 = 1) ∧
    (∃ (s : State) (e : Device) (h : HostPkt) (c : Cmd), let g := s.dev;
      g.takes 0x0303 h = some (c, e) ∧ c.body.length = 2 ∧ e.right c.part rPlan = true ∧ uAt c.body 0 2 < e.cells) ∧
    (∃ (s : State) (e : Device) (h : HostPkt) (c : Cmd), let g := s.dev;
      g.takes 0x0303 h = some (c, e) ∧ c.body.length = 2 ∧ e.right c.part rPlan = true ∧ e.cells ≤ uAt c.body 0 2) ∧
    (∃ (s : State) (e : Device) (m : Nat) (p : MachPkt), let g := s.dev;
      g.acceptMach false p = (some m, e) ∧ uAt p.body 0 1 = 0x31 ∧ e.canPush 66 p.body = true ∧
      frameOk p.body = true ∧ uAt p.body 2 2 = m ∧ e.dueNow m = true ∧ uAt p.body 4 4 = e.heat ∧
      e.slv.taken.contains (m, p.stamp / 100000000) = false ∧ p.stamp % 100000000 < 60000000) ∧
    (∃ (s : State) (e : Device) (m : Nat) (p : MachPkt), let g := s.dev;
      g.acceptMach false p = (some m, e) ∧ uAt p.body 0 1 = 0x31 ∧ e.canPush 66 p.body = true ∧
      frameOk p.body = false) ∧
    (∃ (s : State) (e : Device) (m : Nat) (p : MachPkt), let g := s.dev;
      g.acceptMach false p = (some m, e) ∧ uAt p.body 0 1 = 0x33 ∧ e.canPush 67 p.body = true ∧
      reportOk p.body = true ∧ uAt p.body 2 2 = m ∧ uAt p.body 4 4 = e.heat ∧ p.stamp % 100000000 < 60000000 ∧
      ((e.fe m 21 = 1 ∨ e.fe m 21 = 2)) ∧ (Tab.find e.slv.reports m).isNone = true ∧
      e.slv.published ≠ some e.heatAbs) ∧
    (∃ (s : State) (m : Nat) (o : SolveOut) (b : Bytes), let g := s.dev;
      let a := g.advanceTo (g.heatAbs * 100000000 + 60000000);
      Tab.find a.slv.frames m = some b ∧ a.running = true ∧ a.standby = false ∧ a.slv.prof.isSome = true ∧
      a.inHeat ≤ 78000000 ∧ a.dueNow m = true ∧ a.slv.solved.length < a.slv.slots ∧
      a.slv.published ≠ some a.heatAbs ∧ a.baseEpoch = true ∧ a.gns.alarm = false ∧ o.badFit = false) ∧
    (∃ (s : State) (m : Nat) (o : SolveOut) (b : Bytes), let g := s.dev;
      let a := g.advanceTo (g.heatAbs * 100000000 + 60000000);
      Tab.find a.slv.frames m = some b ∧ a.running = true ∧ a.standby = false ∧ a.slv.prof.isSome = true ∧
      a.inHeat ≤ 78000000 ∧ a.dueNow m = true ∧ a.slv.solved.length < a.slv.slots ∧
      a.slv.published ≠ some a.heatAbs ∧ a.baseEpoch = true ∧ a.gns.alarm = false ∧ o.badFit = true) ∧
    (∃ (s : State) (m : Nat) (b : Bytes), let g := s.dev; let a := g.advanceTo (g.heatAbs * 100000000 + 60000000);
      Tab.find a.slv.frames m = some b ∧ a.running = true ∧ a.standby = false ∧ a.slv.prof.isSome = true ∧
      a.inHeat ≤ 78000000 ∧ a.dueNow m = true ∧ a.slv.solved.length < a.slv.slots ∧
      a.slv.published ≠ some a.heatAbs ∧ a.baseEpoch = false) ∧
    (∃ (s : State) (m : Nat) (o : SolveOut) (b : Bytes), let g := s.dev;
      let z := g.advanceTo (g.heatAbs * 100000000 + 80000000);
      ∃ l : List (Nat × Bytes), z.slv.late = (m, b) :: l ∧ z.running = true ∧ z.standby = false ∧
      z.slv.prof.isSome = true ∧ z.rate m ≠ 0 ∧ z.baseEpoch = true ∧ z.gns.alarm = false ∧ o.badFit = false) ∧
    (∃ (s : State) (m : Nat), let g := s.dev;
      g.slv.prof.isSome = true ∧ (Tab.find g.slv.filters m).isSome = true ∧ g.sp 42 1 ≤ (g.filter m).misses) ∧
    (∃ (s : State) (m : Nat) (b : Bytes), let g := s.dev;
      g.running = true ∧ g.standby = false ∧ g.inHeat ≤ 78000000 ∧ g.slv.published ≠ some g.heatAbs ∧
      Tab.risingFrom 0 g.slv.reports = true ∧ Tab.find g.slv.reports m = some b ∧ g.dueNow m = false) ∧
    (∃ s : State, let g := s.dev; bitOf (g.sp 39 1) 0 = false) ∧
    (∃ s : State, let g := s.dev;
      ∃ (v : Evidence) (k : Nat), g.slv.evid = [v] ∧ v.cell = some k ∧ bitOf (g.sp 39 1) 0 = true) ∧
    (∃ (d : Device) (c : Cmd), let k := uAt c.body 0 2; k < d.cells) ∧
    (∃ (d : Device) (c : Cmd) (m : Nat), d.right c.part rPlan = true ∧ m = uAt c.body 0 2 ∧ m < 4096 ∧
      uAt c.body 2 1 < 5 ∧ uAt c.body 3 1 < 16 ∧ tailZero c.body 4 = true ∧ d.owns c.part m = true ∧
      d.slv.prof.isSome = true ∧ uAt c.body 2 1 = 0) ∧
    (∃ (d : Device) (c : Cmd) (m : Nat), d.right c.part rPlan = true ∧ m = uAt c.body 0 2 ∧ m < 4096 ∧
      uAt c.body 2 1 < 5 ∧ uAt c.body 3 1 < 16 ∧ tailZero c.body 4 = true ∧ d.owns c.part m = true ∧
      d.slv.prof.isSome = true ∧ uAt c.body 2 1 ≠ 0 ∧ d.enrolled = [] ∧ 1 ≤ d.slv.slots) ∧
    (∃ (d : Device) (c : Cmd) (m : Nat), d.right c.part rPlan = true ∧ m = uAt c.body 0 2 ∧ m < 4096 ∧
      uAt c.body 2 1 < 5 ∧ uAt c.body 3 1 < 16 ∧ tailZero c.body 4 = true ∧ d.owns c.part m = true ∧
      d.slv.prof.isSome = true ∧ uAt c.body 2 1 ≠ 0 ∧ d.rate m = 0 ∧ ((∀ i,
      i < 10 → d.slv.slots ≤ (d.loads (some m)).getD i 0))) :=
  ⟨⟨st (solving 4), dev (solving 4) 0x0200 (putB prof 8 [121]), pkt (putB prof 8 [121]),
      cmd (solving 4) 0x0200 (putB prof 8 [121]), by decide +kernel, by decide +kernel, by decide +kernel,
      by decide +kernel, by decide +kernel⟩,
    ⟨st (solving 4), dev (solving 4) 0x0200 (zeros 96), pkt (zeros 96), cmd (solving 4) 0x0200 (zeros 96),
      by decide +kernel, by decide +kernel, by decide +kernel, by decide +kernel, by decide +kernel⟩,
    ⟨st (solving 4), dev (solving 4) 0x0301 solverProf, pkt solverProf, cmd (solving 4) 0x0301 solverProf,
      by decide +kernel, by decide +kernel, by decide +kernel, by decide +kernel, by decide +kernel⟩,
    ⟨st (solving 4), dev (solving 4) 0x0301 (zeros 64), pkt (zeros 64), cmd (solving 4) 0x0301 (zeros 64),
      by decide +kernel, by decide +kernel, by decide +kernel, by decide +kernel, by decide +kernel⟩,
    ⟨st (solving 4), dev (solving 4) 0x0201 (leBytes 4 0), pkt (leBytes 4 0), cmd (solving 4) 0x0201 (leBytes 4 0),
      by decide +kernel, by decide +kernel, by decide +kernel⟩,
    ⟨st (solving 4), dev (solving 4) 0x0201 (leBytes 4 1), pkt (leBytes 4 1), cmd (solving 4) 0x0201 (leBytes 4 1),
      by decide +kernel, by decide +kernel, by decide +kernel⟩,
    ⟨st (solving 4), dev (solving 4) 0x0302 (leBytes 4 0), pkt (leBytes 4 0), cmd (solving 4) 0x0302 (leBytes 4 0),
      by decide +kernel, by decide +kernel, by decide +kernel⟩,
    ⟨st (solving 4), dev (solving 4) 0x0302 (leBytes 4 0), pkt (leBytes 4 0), cmd (solving 4) 0x0302 (leBytes 4 0),
      by decide +kernel, by decide +kernel, by decide +kernel⟩,
    ⟨st (solving 4), dev (solving 4) 0x0302 (leBytes 4 1), pkt (leBytes 4 1), cmd (solving 4) 0x0302 (leBytes 4 1),
      by decide +kernel, by decide +kernel, by decide +kernel⟩,
    ⟨st (solving 4), dev (solving 4) 0x0303 (leBytes 2 65535), pkt (leBytes 2 65535),
      cmd (solving 4) 0x0303 (leBytes 2 65535), by decide +kernel, by decide +kernel, by decide +kernel,
      by decide +kernel⟩,
    ⟨st live, dev live 0x0303 (leBytes 2 0), pkt (leBytes 2 0), cmd live 0x0303 (leBytes 2 0), by decide +kernel,
      by decide +kernel, by decide +kernel, by decide +kernel⟩,
    ⟨st (solving 4), ((solving 4).acceptMach false (machPkt obs)).2, 4095, machPkt obs, by decide +kernel,
      by decide +kernel, by decide +kernel, by decide +kernel, by decide +kernel, by decide +kernel,
      by decide +kernel, by decide +kernel, by decide +kernel⟩,
    ⟨st (solving 4), ((solving 4).acceptMach false (machPkt (obs ++ [0]))).2, 4095, machPkt (obs ++ [0]),
      by decide +kernel, by decide +kernel, by decide +kernel, by decide +kernel⟩,
    ⟨st (solving 4), ((solving 4).acceptMach false (machPkt rep)).2, 4095, machPkt rep, by decide +kernel,
      by decide +kernel, by decide +kernel, by decide +kernel, by decide +kernel, by decide +kernel,
      by decide +kernel, by decide +kernel, by decide +kernel, by decide +kernel⟩,
    ⟨st (solving 4), 4095, fit false, obs, by decide +kernel, by decide +kernel, by decide +kernel,
      by decide +kernel, by decide +kernel, by decide +kernel, by decide +kernel, by decide +kernel,
      by decide +kernel, by decide +kernel, by decide +kernel⟩,
    ⟨st (solving 4), 4095, fit true, obs, by decide +kernel, by decide +kernel, by decide +kernel,
      by decide +kernel, by decide +kernel, by decide +kernel, by decide +kernel, by decide +kernel,
      by decide +kernel, by decide +kernel, by decide +kernel⟩,
    ⟨st { solving 4 with cor := live.cor }, 4095, obs, by decide +kernel, by decide +kernel, by decide +kernel,
      by decide +kernel, by decide +kernel, by decide +kernel, by decide +kernel, by decide +kernel,
      by decide +kernel⟩,
    ⟨st (solving 4), 4095, fit false, obs, [], by decide +kernel, by decide +kernel, by decide +kernel,
      by decide +kernel, by decide +kernel, by decide +kernel, by decide +kernel, by decide +kernel⟩,
    ⟨st (solving 4), 4095, by decide +kernel, by decide +kernel, by decide +kernel⟩,
    ⟨st { solving 0 with slv := { (solving 0).slv with reports := [(4095, rep)], evid := [⟨4095, some 65535, 0, 1295, 2, 1, false⟩] } },
      4095, rep, by decide +kernel, by decide +kernel, by decide +kernel, by decide +kernel, by decide +kernel,
      by decide +kernel, by decide +kernel⟩,
    ⟨st live, by decide +kernel⟩,
    ⟨st { solving 0 with slv := { (solving 0).slv with reports := [(4095, rep)], evid := [⟨4095, some 65535, 0, 1295, 2, 1, false⟩] } },
      (⟨4095, some 65535, 0, 1295, 2, 1, false⟩ : Evidence), 65535, by decide +kernel, by decide +kernel,
      by decide +kernel⟩,
    ⟨solving 4, cmd (solving 4) 0x0200 (putB prof 8 [121]), by decide +kernel⟩,
    ⟨solving 0, bc 0 (leBytes 2 4095 ++ [0, 15] ++ zeros 4), 4095, by decide +kernel, by decide +kernel,
      by decide +kernel, by decide +kernel, by decide +kernel, by decide +kernel, by decide +kernel,
      by decide +kernel, by decide +kernel⟩,
    ⟨solving 0, bc 0 (leBytes 2 4095 ++ [4, 15] ++ zeros 4), 4095, by decide +kernel, by decide +kernel,
      by decide +kernel, by decide +kernel, by decide +kernel, by decide +kernel, by decide +kernel,
      by decide +kernel, by decide +kernel, by decide +kernel, by decide +kernel⟩,
    ⟨{ solving 0 with slv := { (solving 0).slv with slots := 0 } }, bc 0 (leBytes 2 4095 ++ [4, 15] ++ zeros 4),
      4095, by decide +kernel, by decide +kernel, by decide +kernel, by decide +kernel, by decide +kernel,
      by decide +kernel, by decide +kernel, by decide +kernel, by decide +kernel, by decide +kernel,
      by decide +kernel⟩⟩

/-- States and operands that meet what RadioFramesAreTakenOrDropped assumes, clause by clause. -/
theorem witness_RadioFramesAreTakenOrDropped :
    (∃ (s : State) (e : Device) (f : RxFrame), let g := s.dev; let k := f.mpdu;
      let took : Prop := g.rx f false = (true, e); took ∧ k.secured = true) ∧
    (∃ (s : State) (f : RxFrame), let g := s.dev; let a := g.advanceTo f.fin;
      a.hears f.port f.sfd = true ∧ f.fcs = false) ∧
    (∃ (s : State) (f : RxFrame), let g := s.dev; let a := g.advanceTo f.fin; let k := f.mpdu;
      let w := nodeNum f.port k.src;
      a.hears f.port f.sfd = true ∧ f.fcs = true ∧ k.feature = true ∧ a.addrOk f.port k false = true ∧
      k.secured = true ∧ a.secOk w k = false) ∧
    (∃ (s : State) (e : Device) (f : RxFrame), let g := s.dev; let k := f.mpdu; let w := nodeNum f.port k.src;
      let took : Prop := g.rx f false = (true, e);
      took ∧ (e.nkind w = 1 ∨ e.nkind w = 2 ∧ uAt k.body 0 1 ≠ 0xA5 ∧ uAt k.body 0 1 ≠ 0xA6)) ∧
    (∃ (s : State) (e : Device) (f : RxFrame), let g := s.dev; let k := f.mpdu; let w := nodeNum f.port k.src;
      let took : Prop := g.rx f false = (true, e); took ∧ e.nkind w = 3) ∧
    (∃ (s : State) (e : Device) (f : RxFrame), let g := s.dev; let k := f.mpdu; let w := nodeNum f.port k.src;
      let took : Prop := g.rx f false = (true, e); took ∧ e.nkind w = 2 ∧ uAt k.body 0 1 = 0xA6 ∧ f.child = none) ∧
    (∃ (s : State) (e : Device) (x : Device) (f : RxFrame), let g := s.dev; let k := f.mpdu;
      let w := nodeNum f.port k.src; let o := e.oweAck f false false; let took : Prop := g.rx f false = (true, e);
      took ∧ e.nkind w = 2 ∧ uAt k.body 0 1 = 0xA6 ∧ ∃ c : Mpdu, f.child = some c ∧
      o.mpduTake f.port c false = (true, x)) ∧
    (∃ (s : State) (e : Device) (f : RxFrame), let g := s.dev; let k := f.mpdu;
      let took : Prop := g.rx f false = (true, e); took ∧ k.ackReq = true) ∧
    (∃ (s : State) (e : Device) (f : RxFrame) (n : Nat), let g := s.dev; let k := f.mpdu;
      f.child = none ∧ g.rx f true = (true, e) ∧ rec72Ok k.body = true ∧ e.machOf k.eui = none ∧
      uAt k.body 1 1 = 1 ∧ e.policyLets f.port k.eui = true ∧ e.children f.port < 8192 ∧
      e.assocNode f.port k.eui = some n) ∧
    (∃ (s : State) (e : Device) (f : RxFrame), let g := s.dev; let k := f.mpdu;
      f.child = none ∧ g.rx f true = (true, e) ∧ rec72Ok k.body = true ∧ e.machOf k.eui = none ∧
      e.nodeOfEui f.port k.eui = none ∧ e.policyLets f.port k.eui = false) ∧
    (∃ (s : State) (e : Device) (f : RxFrame) (n : Nat) (m : Nat), let g := s.dev; let k := f.mpdu;
      f.child = none ∧ g.rx f true = (true, e) ∧ rec72Ok k.body = true ∧ e.machOf k.eui = some m ∧
      uAt k.body 1 1 = 3 ∧ e.mstate m ≠ 4 ∧ e.assocNode f.port k.eui = some n) ∧
    (∃ (s : State) (e : Device) (x : Device) (f : RxFrame), let g := s.dev; let k := f.mpdu;
      let w := nodeNum f.port k.src; let o := e.oweAck f false false; let took : Prop := g.rx f false = (true, e);
      ∃ c : Mpdu, took ∧ f.child = some c ∧ e.nkind w = 2 ∧ uAt k.body 0 1 = 0xA6 ∧
      o.mpduTake f.port c true = (true, x) ∧ rec72Ok c.body = true) ∧
    (∃ (s : State) (e : Device) (f : RxFrame), let g := s.dev; let k := f.mpdu; let w := nodeNum f.port k.src;
      let took : Prop := g.rx f false = (true, e); took ∧ (e.nkind w = 1 ∨ e.nkind w = 2)) ∧
    (∃ (s : State) (e : Device) (f : RxFrame), let g := s.dev; let k := f.mpdu; let w := nodeNum f.port k.src;
      let took : Prop := g.rx f false = (true, e);
      took ∧ e.nkind w = 2 ∧ uAt k.body 0 1 = 0xA5 ∧ k.body.length = 8 ∧ uAt k.body 1 1 ≤ 2 ∧ let mine (h : Held) : Bool := h.short = uAt k.body 2 2 && h.relay = some (uAt k.body 4 2);
      (e.port f.port).store.find? mine = none) ∧
    (∃ (s : State) (e : Device) (f : RxFrame), let g := s.dev; let k := f.mpdu; let w := nodeNum f.port k.src;
      let took : Prop := g.rx f false = (true, e);
      took ∧ e.nkind w = 2 ∧ uAt k.body 0 1 = 0xA5 ∧ k.body.length = 8 ∧ uAt k.body 1 1 ≤ 2 ∧ let mine (h : Held) : Bool := h.short = uAt k.body 2 2 && h.relay = some (uAt k.body 4 2);
      ∃ h : Held, (e.port f.port).store.find? mine = some h ∧ uAt k.body 1 1 = 1) ∧
    (∃ (s : State) (p : Nat), let g := s.dev; ∃ (short : Nat) (fin : Nat), let z := g.advanceTo fin;
      let mine (h : Held) : Bool := h.short = short && h.onAir;
      z.bit (MAC_CTRL p) 0 = true ∧ (z.port p).locked = true ∧ (z.port p).fault = false ∧ ∃ h : Held,
      (z.port p).store.find? mine = some h) ∧
    (∃ (s : State) (p : Nat), let g := s.dev; ∃ (short : Nat) (fin : Nat), let z := g.advanceTo fin;
      let mine (h : Held) : Bool := h.short = short && h.onAir;
      z.bit (MAC_CTRL p) 0 = true ∧ (z.port p).locked = true ∧ (z.port p).fault = false ∧
      ∃ (r : Direct) (l : List Direct), (z.port p).store.find? mine = none ∧ (z.port p).direct = r :: l ∧
      r.short = short ∧ r.sent.isSome = true) ∧
    (∃ (s : State) (n : Nat), let g := s.dev; let gap := diff32 g.heat (g.nd n 24);
      let per : Int := ((g.nd n 22 * 10 : Nat) : Int);
      g.nkind n ≠ 0 ∧ nodeReserved n = false ∧ per ≠ 0 ∧ g.pair.claim = true ∧ g.nd n 5 = 1 ∧ 2 * per ≤ gap) ∧
    (∃ (s : State) (n : Nat), let g := s.dev; let gap := diff32 g.heat (g.nd n 24);
      let per : Int := ((g.nd n 22 * 10 : Nat) : Int);
      g.nkind n ≠ 0 ∧ nodeReserved n = false ∧ per ≠ 0 ∧ g.pair.claim = true ∧ g.nd n 5 = 2 ∧
      (3 + ((g.nd n 42 : Nat) : Int)) * per ≤ gap) ∧
    (∃ (s : State) (p : Nat), let g := s.dev; p < 4 ∧ (g.port p).locked = true) :=
  ⟨⟨st radio, rxd radio (rxOf (mpdu 1 7 [9]) none) false, rxOf (mpdu 1 7 [9]) none, by decide +kernel,
      by decide +kernel⟩,
    ⟨st radio, { rxOf (mpdu 1 7 [9]) none with fcs := false }, by decide +kernel, by decide +kernel⟩,
    ⟨st radio, rxOf (mpdu 1 6 [9]) none, by decide +kernel, by decide +kernel, by decide +kernel,
      by decide +kernel, by decide +kernel, by decide +kernel⟩,
    ⟨st radio, rxd radio (rxOf (mpdu 1 7 [9]) none) false, rxOf (mpdu 1 7 [9]) none, by decide +kernel,
      by decide +kernel⟩,
    ⟨st radio, rxd radio (rxOf (mpdu 0xFFFD 7 [0x52]) none) false, rxOf (mpdu 0xFFFD 7 [0x52]) none,
      by decide +kernel, by decide +kernel⟩,
    ⟨st radio, rxd radio (rxOf (mpdu 2 7 envelope) none) false, rxOf (mpdu 2 7 envelope) none, by decide +kernel,
      by decide +kernel, by decide +kernel, by decide +kernel⟩,
    ⟨st radio, rxd radio (rxOf (mpdu 2 7 envelope) (some (mpdu 3 7 [9]))) false,
      rxChild radio (rxOf (mpdu 2 7 envelope) (some (mpdu 3 7 [9]))) (mpdu 3 7 [9]) false,
      rxOf (mpdu 2 7 envelope) (some (mpdu 3 7 [9])), by decide +kernel, by decide +kernel, by decide +kernel,
      mpdu 3 7 [9], by decide +kernel, by decide +kernel⟩,
    ⟨st radio, rxd radio (rxOf (mpdu 1 7 [9]) none) false, rxOf (mpdu 1 7 [9]) none, by decide +kernel,
      by decide +kernel⟩,
    ⟨st openPan, rxd openPan (rxOf (joins 20 1) none) true, rxOf (joins 20 1) none, 0x30005, by decide +kernel,
      by decide +kernel, by decide +kernel, by decide +kernel, by decide +kernel, by decide +kernel,
      by decide +kernel, by decide +kernel⟩,
    ⟨st radio, rxd radio (rxOf (joins 20 1) none) true, rxOf (joins 20 1) none, by decide +kernel,
      by decide +kernel, by decide +kernel, by decide +kernel, by decide +kernel, by decide +kernel⟩,
    ⟨st radio, rxd radio (rxOf (joins 9 3) none) true, rxOf (joins 9 3) none, 0x3FFFD, 4095, by decide +kernel,
      by decide +kernel, by decide +kernel, by decide +kernel, by decide +kernel, by decide +kernel,
      by decide +kernel⟩,
    ⟨st openPan, rxd openPan (rxOf (mpdu 2 7 envelope) (some (joins 20 1))) false,
      rxChild openPan (rxOf (mpdu 2 7 envelope) (some (joins 20 1))) (joins 20 1) true,
      rxOf (mpdu 2 7 envelope) (some (joins 20 1)), joins 20 1, by decide +kernel, by decide +kernel,
      by decide +kernel, by decide +kernel, by decide +kernel, by decide +kernel⟩,
    ⟨st radio, rxd radio (rxOf (mpdu 1 7 [9]) none) false, rxOf (mpdu 1 7 [9]) none, by decide +kernel,
      by decide +kernel⟩,
    ⟨st radio, rxd radio (rxOf (mpdu 2 7 (reported 2 65534)) none) false, rxOf (mpdu 2 7 (reported 2 65534)) none,
      by decide +kernel, by decide +kernel, by decide +kernel, by decide +kernel, by decide +kernel,
      by decide +kernel⟩,
    ⟨st radio, rxd radio (rxOf (mpdu 2 7 (reported 1 65535)) none) false, rxOf (mpdu 2 7 (reported 1 65535)) none,
      by decide +kernel, by decide +kernel, by decide +kernel, by decide +kernel, by decide +kernel, (⟨3,
      100000000001, 5, 3, [7], some 65535, false⟩ : Held), by decide +kernel, by decide +kernel⟩,
    ⟨st radio, 3, 1, 5007000000, by decide +kernel, by decide +kernel, by decide +kernel, (⟨1, 100000000001, 5, 3,
      [7], none, true⟩ : Held), by decide +kernel⟩,
    ⟨st (radio.setPort 3 { radio.port 3 with direct := [{ directTo 4 with sent := some 5005000000 }] }), 3, 4,
      5007000000, by decide +kernel, by decide +kernel, by decide +kernel,
      { directTo 4 with sent := some 5005000000 }, ([] : List Direct), by decide +kernel, by decide +kernel,
      by decide +kernel, by decide +kernel⟩,
    ⟨st (radio.setNds 0x30001 [(24, 30)]), 0x30001, by decide +kernel, by decide +kernel, by decide +kernel,
      by decide +kernel, by decide +kernel, by decide +kernel⟩,
    ⟨st (radio.setNds 0x30001 [(5, 2), (24, 20)]), 0x30001, by decide +kernel, by decide +kernel,
      by decide +kernel, by decide +kernel, by decide +kernel, by decide +kernel⟩,
    ⟨st radio, 3, by decide +kernel, by decide +kernel⟩⟩

/-- States and operands that meet what RadioFramesAreHeldAndSent assumes, clause by clause. -/
theorem witness_RadioFramesAreHeldAndSent :
    (∃ (s : State) (p : Nat), p < 4 ∧ let g := s.dev;
      (g.fld (MAC_REGION p) 0 4 = 1 ∨ g.fld (MAC_REGION p) 0 4 = 2)) ∧
    (∃ (s : State) (p : Nat), p < 4 ∧ let g := s.dev; g.fld (MAC_REGION p) 0 4 ≠ 1 ∧ g.fld (MAC_REGION p) 0 4 ≠ 2) ∧
    (∃ (s : State) (e : Device) (h : HostPkt) (c : Cmd) (p : Nat), p < 4 ∧ let g := s.dev;
      g.takes 0x040A h = some (c, e) ∧ e.standby = false ∧ let b := c.body; let n := uAt b 0 4;
      b.length = 12 + uAt b 6 2 ∧ 1 ≤ uAt b 6 2 ∧ uAt b 6 2 ≤ 200 ∧ e.right c.part rPlan = true ∧ n < 0x40000 ∧
      nodeReserved n = false ∧ e.nkind n = 0) ∧
    (∃ (s : State) (e : Device) (h : HostPkt) (c : Cmd) (p : Nat), p < 4 ∧ let g := s.dev;
      g.takes 0x040A h = some (c, e) ∧ e.standby = false ∧ let b := c.body; let n := uAt b 0 4;
      b.length = 12 + uAt b 6 2 ∧ 1 ≤ uAt b 6 2 ∧ uAt b 6 2 ≤ 200 ∧ e.right c.part rPlan = true ∧ n < 0x40000 ∧
      nodeReserved n = false ∧ e.nkind n ≠ 0 ∧ e.nd n 5 = 1 ∧ bitsOf (e.nd n 7) 0 2 ≠ c.part) ∧
    (∃ (s : State) (e : Device) (h : HostPkt) (c : Cmd) (p : Nat), p < 4 ∧ let g := s.dev;
      g.takes 0x040A h = some (c, e) ∧ e.standby = false ∧ let b := c.body; let n := uAt b 0 4; let i := panOf n;
      let per := uAt b 4 2;
      b.length = 12 + uAt b 6 2 ∧ 1 ≤ uAt b 6 2 ∧ uAt b 6 2 ≤ 200 ∧ e.right c.part rPlan = true ∧ n < 0x40000 ∧
      nodeReserved n = false ∧ e.nkind n ≠ 0 ∧ e.nd n 5 = 1 ∧ bitsOf (e.nd n 7) 0 2 = c.part ∧ e.relayOf n = none ∧
      e.sleepy n = true ∧ e.nkind n ≠ 2 ∧ 1 ≤ per ∧ per ≤ 3600 ∧ (e.port i).store.length < 16384 ∧
      ((e.port i).store.filter fun x => x.short = n % 65536).length < 16) ∧
    (∃ (s : State) (e : Device) (h : HostPkt) (c : Cmd) (p : Nat), p < 4 ∧ let g := s.dev;
      g.takes 0x040A h = some (c, e) ∧ e.standby = false ∧ let b := c.body; let n := uAt b 0 4; let i := panOf n;
      let per := uAt b 4 2;
      b.length = 12 + uAt b 6 2 ∧ 1 ≤ uAt b 6 2 ∧ uAt b 6 2 ≤ 200 ∧ e.right c.part rPlan = true ∧ n < 0x40000 ∧
      nodeReserved n = false ∧ e.nkind n ≠ 0 ∧ e.nd n 5 = 1 ∧ bitsOf (e.nd n 7) 0 2 = c.part ∧ e.relayOf n = none ∧
      e.sleepy n = true ∧ e.nkind n ≠ 2 ∧ 1 ≤ per ∧ per ≤ 3600 ∧ 16384 ≤ (e.port i).store.length) ∧
    (∃ (s : State) (e : Device) (h : HostPkt) (c : Cmd) (p : Nat), p < 4 ∧ let g := s.dev;
      g.takes 0x040A h = some (c, e) ∧ e.standby = false ∧ let b := c.body; let n := uAt b 0 4;
      b.length = 12 + uAt b 6 2 ∧ 1 ≤ uAt b 6 2 ∧ uAt b 6 2 ≤ 200 ∧ e.right c.part rPlan = true ∧ n < 0x40000 ∧
      nodeReserved n = false ∧ e.nkind n ≠ 0 ∧ e.nd n 5 = 1 ∧ bitsOf (e.nd n 7) 0 2 = c.part ∧ e.relayOf n = none ∧
      (e.sleepy n = false ∨ e.nkind n = 2)) ∧
    (∃ (s : State) (e : Device) (h : HostPkt) (c : Cmd) (p : Nat), p < 4 ∧ let g := s.dev;
      g.takes 0x040A h = some (c, e) ∧ e.standby = false ∧ let b := c.body; let n := uAt b 0 4; let i := panOf n;
      let per := uAt b 4 2;
      b.length = 12 + uAt b 6 2 ∧ 1 ≤ uAt b 6 2 ∧ uAt b 6 2 ≤ 200 ∧ e.right c.part rPlan = true ∧ n < 0x40000 ∧
      nodeReserved n = false ∧ e.nkind n ≠ 0 ∧ e.nd n 5 = 1 ∧ ∃ r : Nat, bitsOf (e.nd n 7) 0 2 = c.part ∧
      e.relayOf n = some r ∧ e.sleepy n = true ∧ e.nkind n ≠ 2 ∧ 1 ≤ per ∧ per ≤ 3600 ∧
      (e.port i).store.length < 16384 ∧ ((e.port i).store.filter fun x => x.short = n % 65536).length < 16) ∧
    (∃ (s : State) (e : Device) (h : HostPkt) (c : Cmd) (p : Nat), p < 4 ∧ let g := s.dev;
      g.takes 0x040A h = some (c, e) ∧ e.standby = false ∧ let b := c.body; let n := uAt b 0 4;
      b.length = 12 + uAt b 6 2 ∧ 1 ≤ uAt b 6 2 ∧ uAt b 6 2 ≤ 200 ∧ e.right c.part rPlan = true ∧ n < 0x40000 ∧
      nodeReserved n = false ∧ e.nkind n ≠ 0 ∧ e.nd n 5 = 1 ∧ ∃ r : Nat, bitsOf (e.nd n 7) 0 2 = c.part ∧
      e.relayOf n = some r ∧ (e.sleepy n = false ∨ e.nkind n = 2)) ∧
    (∃ (s : State) (p : Nat) (air : Nat), p < 4 ∧ let g := s.dev;
      ∃ (d : AckDue) (l : List AckDue), let at_ := d.fin + 1000000; let y := g.advanceTo at_;
      let r := y.reservation p at_; let next := if at_ < r.1 then r.1 else r.1 + 100000000;
      (g.port p).acks = d :: l ∧ y.portUp p = true ∧ ((at_ < r.1 ∨ r.2 ≤ at_)) ∧ at_ + air ≤ next ∧
      y.mayAir p at_ air = true ∧ d.poll = true ∧ d.pending = true) ∧
    (∃ (s : State) (p : Nat) (air : Nat), p < 4 ∧ let g := s.dev;
      ∃ (d : AckDue) (l : List AckDue), let at_ := d.fin + 1000000; let y := g.advanceTo at_;
      let r := y.reservation p at_; let next := if at_ < r.1 then r.1 else r.1 + 100000000;
      (g.port p).acks = d :: l ∧ y.portUp p = true ∧ ((r.1 ≤ at_ ∧ at_ < r.2 ∨ next < at_ + air))) ∧
    (∃ (s : State) (p : Nat) (start : Nat) (air : Nat), p < 4 ∧ let g := s.dev; let z := g.advanceTo start;
      ∃ q : Poll, (z.port p).polled = some q ∧ q.ended ≤ start ∧ start ≤ q.ended + 5000000 ∧
      z.mayAir p start air = true ∧ z.canSecure (nodeNum p q.short) = true) ∧
    (∃ (s : State) (p : Nat), p < 4 ∧ let g := s.dev;
      ∃ (k : Nat) (x : Held), (g.port p).store[k]? = some x ∧ x.onAir = false) ∧
    (∃ (s : State) (p : Nat) (start : Nat), p < 4 ∧ let g := s.dev; let z := g.advanceTo start;
      ∃ (x : Direct) (l : List Direct), (z.port p).direct = x :: l ∧ x.sent = none ∧
      x.retries ≤ z.fld (MAC_CSMA p) 11 3 ∧ x.backoffs + 1 ≤ z.fld (MAC_CSMA p) 8 3) ∧
    (∃ (s : State) (p : Nat) (start : Nat), p < 4 ∧ let g := s.dev; let z := g.advanceTo start;
      ∃ (x : Direct) (l : List Direct), (z.port p).direct = x :: l ∧ x.sent = none ∧
      x.retries ≤ z.fld (MAC_CSMA p) 11 3 ∧ z.fld (MAC_CSMA p) 8 3 < x.backoffs + 1) ∧
    (∃ (s : State) (p : Nat) (start : Nat) (air : Nat), p < 4 ∧ let g := s.dev; let z := g.advanceTo start;
      ∃ (x : Direct) (l : List Direct), (z.port p).direct = x :: l ∧ x.sent = none ∧
      x.retries ≤ z.fld (MAC_CSMA p) 11 3 ∧ z.mayAir p start air = true ∧
      ((0xFFFE ≤ x.short ∨ z.canSecure (nodeNum p x.short) = true))) :=
  ⟨⟨st (radio.wrN (MAC_REGION 3) 2), 3, by decide +kernel, by decide +kernel⟩,
    ⟨st (radio.wrN (MAC_REGION 3) 3), 3, by decide +kernel, by decide +kernel, by decide +kernel⟩,
    ⟨st radio, dev radio 0x040A (sendTo 0x30010 1), pkt (sendTo 0x30010 1), cmd radio 0x040A (sendTo 0x30010 1), 3,
      by decide +kernel, by decide +kernel, by decide +kernel, by decide +kernel, by decide +kernel,
      by decide +kernel, by decide +kernel, by decide +kernel, by decide +kernel, by decide +kernel⟩,
    ⟨st (radio.setNds 0x30001 [(7, 2)]), dev (radio.setNds 0x30001 [(7, 2)]) 0x040A (sendTo 0x30001 1),
      pkt (sendTo 0x30001 1), cmd (radio.setNds 0x30001 [(7, 2)]) 0x040A (sendTo 0x30001 1), 3, by decide +kernel,
      by decide +kernel, by decide +kernel, by decide +kernel, by decide +kernel, by decide +kernel,
      by decide +kernel, by decide +kernel, by decide +kernel, by decide +kernel, by decide +kernel,
      by decide +kernel⟩,
    ⟨st radio, dev radio 0x040A (sendTo 0x30001 3600), pkt (sendTo 0x30001 3600),
      cmd radio 0x040A (sendTo 0x30001 3600), 3, by decide +kernel, by decide +kernel, by decide +kernel,
      by decide +kernel, by decide +kernel, by decide +kernel, by decide +kernel, by decide +kernel,
      by decide +kernel, by decide +kernel, by decide +kernel, by decide +kernel, by decide +kernel,
      by decide +kernel, by decide +kernel, by decide +kernel, by decide +kernel, by decide +kernel,
      by decide +kernel⟩,
    ⟨st fullStore, dev fullStore 0x040A (sendTo 0x30001 1), pkt (sendTo 0x30001 1),
      cmd fullStore 0x040A (sendTo 0x30001 1), 3, by decide +kernel, by exact took_takes _ _ _ (by decide +kernel),
      by decide +kernel, by decide +kernel, by decide +kernel, by decide +kernel, by decide +kernel,
      by decide +kernel, by decide +kernel, by decide +kernel, by decide +kernel, by decide +kernel,
      by decide +kernel, by decide +kernel, by decide +kernel, by decide +kernel, by decide +kernel,
      by exact le_length _ _ (by decide +kernel)⟩,
    ⟨st radio, dev radio 0x040A (sendTo 0x30004 0), pkt (sendTo 0x30004 0), cmd radio 0x040A (sendTo 0x30004 0), 3,
      by decide +kernel, by decide +kernel, by decide +kernel, by decide +kernel, by decide +kernel,
      by decide +kernel, by decide +kernel, by decide +kernel, by decide +kernel, by decide +kernel,
      by decide +kernel, by decide +kernel, by decide +kernel, by decide +kernel⟩,
    ⟨st radio, dev radio 0x040A (sendTo 0x30003 1), pkt (sendTo 0x30003 1), cmd radio 0x040A (sendTo 0x30003 1), 3,
      by decide +kernel, by decide +kernel, by decide +kernel, by decide +kernel, by decide +kernel,
      by decide +kernel, by decide +kernel, by decide +kernel, by decide +kernel, by decide +kernel,
      by decide +kernel, 0x30002, by decide +kernel, by decide +kernel, by decide +kernel, by decide +kernel,
      by decide +kernel, by decide +kernel, by decide +kernel, by decide +kernel⟩,
    ⟨st (radio.setNds 0x30003 [(6, 4)]), dev (radio.setNds 0x30003 [(6, 4)]) 0x040A (sendTo 0x30003 0),
      pkt (sendTo 0x30003 0), cmd (radio.setNds 0x30003 [(6, 4)]) 0x040A (sendTo 0x30003 0), 3, by decide +kernel,
      by decide +kernel, by decide +kernel, by decide +kernel, by decide +kernel, by decide +kernel,
      by decide +kernel, by decide +kernel, by decide +kernel, by decide +kernel, by decide +kernel, 0x30002,
      by decide +kernel, by decide +kernel, by decide +kernel⟩,
    ⟨st (sending [directTo 4]), 3, 1000000, by decide +kernel, (⟨1, 0, 5006500000, true, true, false,
      true⟩ : AckDue), ([] : List AckDue), by decide +kernel, by decide +kernel, by decide +kernel,
      by decide +kernel, by decide +kernel, by decide +kernel, by decide +kernel⟩,
    ⟨st (sending [{ directTo 4 with backoffs := 7, retries := 3 }]), 3, 94400001, by decide +kernel, (⟨1, 0,
      5006500000, true, true, false, true⟩ : AckDue), ([] : List AckDue), by decide +kernel, by decide +kernel,
      by decide +kernel⟩,
    ⟨st (sending [directTo 4]), 3, 5011000000, 1000000, by decide +kernel, (⟨1, 5006000000, false⟩ : Poll),
      by decide +kernel, by decide +kernel, by decide +kernel, by decide +kernel, by decide +kernel⟩,
    ⟨st (radio.wrN (MAC_REGION 3) 3), 3, by decide +kernel, 1, (⟨3, 100000000001, 5, 3, [7], some 65535,
      false⟩ : Held), by decide +kernel, by decide +kernel⟩,
    ⟨st (sending [directTo 4]), 3, 5011000000, by decide +kernel, directTo 4, ([] : List Direct),
      by decide +kernel, by decide +kernel, by decide +kernel, by decide +kernel⟩,
    ⟨st (sending [{ directTo 4 with backoffs := 7, retries := 3 }]), 3, 5011000000, by decide +kernel,
      { directTo 4 with backoffs := 7, retries := 3 }, ([] : List Direct), by decide +kernel, by decide +kernel,
      by decide +kernel, by decide +kernel⟩,
    ⟨st (sending [directTo 4]), 3, 5011000000, 1000000, by decide +kernel, directTo 4, ([] : List Direct),
      by decide +kernel, by decide +kernel, by decide +kernel, by decide +kernel, by decide +kernel⟩⟩

/-- States and operands that meet what SessionsAndDatagramsFollowTheirCommands assumes, clause by clause. -/
theorem witness_SessionsAndDatagramsFollowTheirCommands :
    (∃ (s : State) (h : HostPkt) (n : Nat), h.part < 4 ∧ let g := s.dev;
      ∃ up : Bool, n < 3 ∧ g.linkUp n ≠ up ∧ ∃ k : Nat, k ≠ n) ∧
    (∃ (s : State) (h : HostPkt) (n : Nat), h.part < 4 ∧ let g := s.dev; ∃ up : Bool, n < 3 ∧ g.linkUp n = up) ∧
    (∃ (s : State) (h : HostPkt), h.part < 4 ∧ let g := s.dev; let q := h.part;
      g.hostPort h = true ∧ h.tagOk = true ∧ g.keyed = true ∧ replayOk (g.replay (keyHost q)) h.seq = true ∧
      h.body.length = 16 ∧ (g.part q).prov = true ∧ Tab.getD g.hst.seqs (keyHost q) 0 < 0xFFFFFFFF ∧
      h.spi = false) ∧
    (∃ (s : State) (h : HostPkt), h.part < 4 ∧ let g := s.dev; let q := h.part;
      g.hostPort h = true ∧ h.tagOk = true ∧ g.keyed = true ∧ replayOk (g.replay (keyHost q)) h.seq = true ∧
      h.body.length = 16 ∧ (g.part q).prov = true ∧ Tab.getD g.hst.seqs (keyHost q) 0 < 0xFFFFFFFF ∧ h.spi = true) ∧
    (∃ (s : State) (h : HostPkt), h.part < 4 ∧ let g := s.dev; g.hostPort h = true ∧ h.tagOk = false) ∧
    (∃ (s : State) (e : Device) (h : HostPkt) (c : Cmd), h.part < 4 ∧ let g := s.dev;
      g.takes 0x0001 h = some (c, e)) ∧
    (∃ (s : State) (e : Device) (h : HostPkt), h.part < 4 ∧ let g := s.dev; let q := h.part;
      ∃ (cls : Nat) (sub : Nat), g.accept { h with newKey := true } = (true, e) ∧ cls = 4 ∧
      (e.q (16 * q + 8 + sub % 4)).on = true ∧ h.body ≠ []) ∧
    (∃ (s : State) (e : Device) (h : HostPkt) (c : Cmd), h.part < 4 ∧ let g := s.dev;
      ∃ (cls : Nat) (code : Nat), g.accept { h with newKey := true } = (true, e) ∧ ∃ y : Device, cls = 1 ∧
      code = 0x0003 ∧ h.body = [] ∧ g.takes code { h with newKey := true } = some (c, y)) ∧
    (∃ (s : State) (e : Device) (h : HostPkt) (c : Cmd), h.part < 4 ∧ let g := s.dev;
      g.takes 0x0002 h = some (c, e) ∧ c.body = [] ∧ (e.sess c.part).open_ = true) ∧
    (∃ (s : State) (h : HostPkt) (p : Nat), h.part < 4 ∧ let g := s.dev;
      p < 4 ∧ (g.sess p).open_ = true ∧ g.since (g.sess p).lastRx 30000000000 = true) ∧
    (∃ (s : State) (e : Device) (h : HostPkt) (c : Cmd), h.part < 4 ∧ let g := s.dev;
      g.takes 0x0003 h = some (c, e) ∧ c.body = []) ∧
    (∃ (s : State) (e : Device) (h : HostPkt) (c : Cmd), h.part < 4 ∧ let g := s.dev;
      ∃ code : Nat, code < 65536 ∧ code ∉ tableCodes ∧ g.takes code h = some (c, e)) ∧
    (∃ (s : State) (e : Device) (h : HostPkt) (c : Cmd), h.part < 4 ∧ let g := s.dev;
      g.takes 0x0103 h = some (c, e) ∧ c.body.length = 4 ∧ e.right c.part rPlan = true ∧ uAt c.body 2 2 = 0 ∧ uAt c.body 1 1 ≠ 0 ∧ uAt c.body 0 1 < 128 ∧ let k := e.slot (uAt c.body 0 1);
      k.st = 0) ∧
    (∃ (s : State) (e : Device) (h : HostPkt) (c : Cmd), h.part < 4 ∧ let g := s.dev;
      g.takes 0x0103 h = some (c, e) ∧ c.body.length = 4 ∧ e.right c.part rPlan = true ∧ uAt c.body 2 2 = 0 ∧ uAt c.body 1 1 ≠ 0 ∧ uAt c.body 0 1 < 128 ∧ let k := e.slot (uAt c.body 0 1);
      k.st = 1 ∧ k.owner = c.part ∧ k.attr = 0 ∧ k.alg = 1) ∧
    (∃ (s : State) (e : Device) (h : HostPkt), h.part < 4 ∧ let g := s.dev; let q := h.part;
      ∃ sub : Nat, g.accept h = (true, e) ∧ let k := 16 * q + 8 + sub % 4; (e.q k).on = true ∧ h.body ≠ []) ∧
    (∃ (s : State) (e : Device) (h : HostPkt), h.part < 4 ∧ let g := s.dev; let q := h.part;
      ∃ sub : Nat, g.accept h = (true, e) ∧ let k := 16 * q + 8 + sub % 4; (e.q k).on = false) ∧
    (∃ (s : State) (h : HostPkt) (n : Nat) (p : Nat), h.part < 4 ∧ let g := s.dev;
      ∃ k : Packet, p < 4 ∧ n < 16 ∧
      (g.q (16 * p + n)).pkts.find? (fun k => (g.q (16 * p + n)).pos < k.start + k.len) = some k ∧
      egressQueue n = true ∧ (g.slot (2 * p)).st = 1 ∧ g.keyed = true ∧ (g.sess p).open_ = false) ∧
    (∃ (s : State) (h : HostPkt) (n : Nat) (p : Nat), h.part < 4 ∧ let g := s.dev;
      ∃ k : Packet, p < 4 ∧ n < 16 ∧
      (g.q (16 * p + n)).pkts.find? (fun k => (g.q (16 * p + n)).pos < k.start + k.len) = some k ∧
      egressQueue n = true ∧ (g.slot (2 * p)).st = 1 ∧ g.keyed = true ∧ (g.sess p).open_ = true ∧
      (g.sess p).spi = false ∧ g.netUp = true ∧ k.bad ≠ []) ∧
    (∃ (s : State) (h : HostPkt) (n : Nat) (p : Nat), h.part < 4 ∧ let g := s.dev;
      ∃ k : Packet, p < 4 ∧ n < 16 ∧
      (g.q (16 * p + n)).pkts.find? (fun k => (g.q (16 * p + n)).pos < k.start + k.len) = some k ∧
      egressQueue n = true ∧ (g.slot (2 * p)).st = 1 ∧ g.keyed = true ∧ (g.sess p).open_ = true ∧
      (g.sess p).spi = false ∧ g.netUp = true ∧ k.bad = [] ∧ Tab.getD g.hst.seqs (keySession p) 0 < 0xFFFFFFFF) ∧
    (∃ (s : State) (h : HostPkt), h.part < 4 ∧ let g := s.dev; g.bit HST_SPI_CFG 0 = false) ∧
    (∃ (s : State) (e : Device) (h : HostPkt), h.part < 4 ∧ let g := s.dev; let q := h.part;
      ∃ (enc : Bool) (cls : Nat) (sub : Nat), g.bit HST_SPI_CFG 0 = true ∧ g.accept { h with spi := true } = (true,
      e) ∧ enc = true ∧ cls = 4 ∧ (e.q (16 * q + 8 + sub % 4)).on = true ∧ h.body ≠ []) ∧
    (∃ (s : State) (e : Device) (h : HostPkt) (c : Cmd), h.part < 4 ∧ let g := s.dev;
      ∃ (enc : Bool) (cls : Nat) (code : Nat), g.bit HST_SPI_CFG 0 = true ∧
      g.takes code { h with spi := true } = some (c, e) ∧ enc = true ∧ cls = 1 ∧ code = 0x0003 ∧ c.body = []) ∧
    (∃ (s : State) (h : HostPkt), h.part < 4 ∧ let g := s.dev; g.bit HST_SPI_CFG 0 = true ∧ g.hst.spiOut = []) ∧
    (∃ (s : State) (h : HostPkt), h.part < 4 ∧ let g := s.dev;
      g.bit HST_SPI_CFG 0 = true ∧ ∃ (b : Bytes) (l : List Bytes), g.hst.spiOut = b :: l) ∧
    (∃ (s : State) (h : HostPkt), h.part < 4 ∧ let g := s.dev; g.bit HST_SPI_CFG 0 = true) ∧
    (∃ (s : State) (e : Device) (h : HostPkt) (n : Nat) (p : Nat), h.part < 4 ∧ let g := s.dev;
      g.portTakes p = true ∧ ∃ k : MachPkt, g.acceptMach false k = (some n, e) ∧ uAt k.body 0 1 ∉ [0x21, 0x31,
      0x33, 0x52]) ∧
    (∃ (s : State) (h : HostPkt) (p : Nat), h.part < 4 ∧ let g := s.dev;
      ∃ (v6 : Bool) (target : Nat), p < 3 ∧ g.portTakes p = true ∧ g.linkUp p = true ∧ target = g.ownAddr v6) ∧
    (∃ (s : State) (h : HostPkt) (p : Nat), h.part < 4 ∧ let g := s.dev;
      ∃ (v6 : Bool) (target : Nat), p < 3 ∧ g.portTakes p = true ∧ g.linkUp p = true ∧ target ≠ g.ownAddr v6) :=
  ⟨⟨st live, pkt (zeros 16), 2, by decide +kernel, false, by decide +kernel, by decide +kernel, 0,
      by decide +kernel⟩,
    ⟨st live, { pkt (zeros 16) with spi := true }, 0, by decide +kernel, true, by decide +kernel,
      by decide +kernel⟩,
    ⟨st live, pkt (zeros 16), by decide +kernel, by decide +kernel, by decide +kernel, by decide +kernel,
      by decide +kernel, by decide +kernel, by decide +kernel, by decide +kernel, by decide +kernel⟩,
    ⟨st live, { pkt (zeros 16) with spi := true }, by decide +kernel, by decide +kernel, by decide +kernel,
      by decide +kernel, by decide +kernel, by decide +kernel, by decide +kernel, by decide +kernel,
      by decide +kernel⟩,
    ⟨st live, { pkt (zeros 16) with tagOk := false }, by decide +kernel, by decide +kernel, by decide +kernel⟩,
    ⟨st live, dev live 0x0001 [], pkt [], cmd live 0x0001 [], by decide +kernel, by decide +kernel⟩,
    ⟨st (waits false), ((waits false).accept (newPkt [5])).2, pkt [5], by decide +kernel, 4, 3, by decide +kernel,
      by decide +kernel, by decide +kernel, by decide +kernel⟩,
    ⟨st (waits true), ((waits true).accept (newPkt [])).2, pkt [],
      (((waits true).takes 3 (newPkt [])).getD (bc 0 [], live)).1, by decide +kernel, 1, 3, by decide +kernel,
      (((waits true).takes 3 (newPkt [])).getD (bc 0 [], live)).2, by decide +kernel, by decide +kernel,
      by decide +kernel, by decide +kernel⟩,
    ⟨st live, dev live 0x0002 [], pkt [], cmd live 0x0002 [], by decide +kernel, by decide +kernel,
      by decide +kernel, by decide +kernel⟩,
    ⟨st live, { pkt (zeros 16) with spi := true }, 3, by decide +kernel, by decide +kernel, by decide +kernel,
      by decide +kernel⟩,
    ⟨st live, dev live 0x0003 [], pkt [], cmd live 0x0003 [], by decide +kernel, by decide +kernel,
      by decide +kernel⟩,
    ⟨st live, dev live 0xFFFF [], pkt [], cmd live 0xFFFF [], by decide +kernel, 0xFFFF, by decide +kernel,
      by decide +kernel, by decide +kernel⟩,
    ⟨st mcasting, dev mcasting 0x0103 [127, 1, 0, 0], pkt [127, 1, 0, 0], cmd mcasting 0x0103 [127, 1, 0, 0],
      by decide +kernel, by decide +kernel, by decide +kernel, by decide +kernel, by decide +kernel,
      by decide +kernel, by decide +kernel, by decide +kernel⟩,
    ⟨st mcasting, dev mcasting 0x0103 [125, 255, 0, 0], pkt [125, 255, 0, 0], cmd mcasting 0x0103 [125, 255, 0, 0],
      by decide +kernel, by decide +kernel, by decide +kernel, by decide +kernel, by decide +kernel,
      by decide +kernel, by decide +kernel, by decide +kernel, by decide +kernel, by decide +kernel,
      by decide +kernel⟩,
    ⟨st live, (live.accept (pkt [5])).2, pkt [5], by decide +kernel, 3, by decide +kernel, by decide +kernel,
      by decide +kernel⟩,
    ⟨st (live.setQ 59 queueOff), ((live.setQ 59 queueOff).accept (pkt [5])).2, pkt [5], by decide +kernel, 3,
      by decide +kernel, by decide +kernel⟩,
    ⟨st ((egressing []).setSess 3 sessNone), pkt [5], 15, 3, by decide +kernel, (⟨0, zeros 32, []⟩ : Packet),
      by decide +kernel, by decide +kernel, by decide +kernel, by decide +kernel, by decide +kernel,
      by decide +kernel, by decide +kernel⟩,
    ⟨st (egressing [1]), pkt [5], 15, 3, by decide +kernel, (⟨0, zeros 32, [1]⟩ : Packet), by decide +kernel,
      by decide +kernel, by decide +kernel, by decide +kernel, by decide +kernel, by decide +kernel,
      by decide +kernel, by decide +kernel, by decide +kernel, by decide +kernel⟩,
    ⟨st (egressing []), pkt [5], 15, 3, by decide +kernel, (⟨0, zeros 32, []⟩ : Packet), by decide +kernel,
      by decide +kernel, by decide +kernel, by decide +kernel, by decide +kernel, by decide +kernel,
      by decide +kernel, by decide +kernel, by decide +kernel, by decide +kernel, by decide +kernel⟩,
    ⟨st (live.wrN HST_SPI_CFG 6), pkt [5], by decide +kernel, by decide +kernel⟩,
    ⟨st live, (live.accept { pkt [5] with spi := true }).2, pkt [5], by decide +kernel, true, 4, 3,
      by decide +kernel, by decide +kernel, by decide +kernel, by decide +kernel, by decide +kernel,
      by decide +kernel⟩,
    ⟨st live, ((live.takes 3 { pkt [] with spi := true }).getD (bc 0 [], live)).2, pkt [],
      ((live.takes 3 { pkt [] with spi := true }).getD (bc 0 [], live)).1, by decide +kernel, true, 1, 3,
      by decide +kernel, by decide +kernel, by decide +kernel, by decide +kernel, by decide +kernel,
      by decide +kernel⟩,
    ⟨st live, pkt (zeros 16), by decide +kernel, by decide +kernel, by decide +kernel⟩,
    ⟨st spiWaits, pkt [], by decide +kernel, by decide +kernel, ([1] : Bytes), ([[2]] : List Bytes),
      by decide +kernel⟩,
    ⟨st live, pkt [5], by decide +kernel, by decide +kernel⟩,
    ⟨st (fleet 2), ((fleet 2).acceptMach false (machPkt [0x53])).2, pkt [], 4095, 3, by decide +kernel,
      by decide +kernel, machPkt [0x53], by decide +kernel, by decide +kernel⟩,
    ⟨st live, pkt (zeros 16), 2, by decide +kernel, true, 0, by decide +kernel, by decide +kernel,
      by decide +kernel, by decide +kernel⟩,
    ⟨st live, { pkt (zeros 16) with tagOk := false }, 2, by decide +kernel, false, 1, by decide +kernel,
      by decide +kernel, by decide +kernel, by decide +kernel⟩⟩

/-- States and operands that meet what MeteringFollowsItsCommands assumes, clause by clause. -/
theorem witness_MeteringFollowsItsCommands :
    (∃ (s : State) (f : Nat), let g := s.dev; g.metered f = false) ∧
    (∃ (s : State) (f : Nat) (i : Nat), let g := s.dev;
      ∃ ph : List MeterSample, let x := (g.feed f).phases.getD i phaseZero; let m := ph.getD i ⟨0, 0, 0, 0, 0⟩;
      g.metered f = true ∧ i < 3 ∧ x.acc.length = 8 ∧ g.bit (MTR_FEED_CFG f) 4 = false ∧ (g.feed f).blank = 0 ∧
      g.phaseFault f i = false ∧ 0 ≤ m.p ∧ 0 ≤ m.q) ∧
    (∃ (s : State) (f : Nat) (i : Nat), let g := s.dev;
      ∃ ph : List MeterSample, let x := (g.feed f).phases.getD i phaseZero; let m := ph.getD i ⟨0, 0, 0, 0, 0⟩;
      g.metered f = true ∧ i < 3 ∧ x.acc.length = 8 ∧ g.bit (MTR_FEED_CFG f) 4 = false ∧ (g.feed f).blank = 0 ∧
      g.phaseFault f i = false ∧ 0 ≤ m.p ∧ m.q < 0) ∧
    (∃ (s : State) (f : Nat) (i : Nat), let g := s.dev;
      ∃ ph : List MeterSample, let x := (g.feed f).phases.getD i phaseZero; let m := ph.getD i ⟨0, 0, 0, 0, 0⟩;
      g.metered f = true ∧ i < 3 ∧ x.acc.length = 8 ∧ g.bit (MTR_FEED_CFG f) 4 = false ∧ (g.feed f).blank = 0 ∧
      g.phaseFault f i = false ∧ m.p < 0 ∧ 0 ≤ m.q) ∧
    (∃ (s : State) (f : Nat) (i : Nat), let g := s.dev;
      ∃ ph : List MeterSample, let x := (g.feed f).phases.getD i phaseZero; let m := ph.getD i ⟨0, 0, 0, 0, 0⟩;
      g.metered f = true ∧ i < 3 ∧ x.acc.length = 8 ∧ g.bit (MTR_FEED_CFG f) 4 = false ∧ (g.feed f).blank = 0 ∧
      g.phaseFault f i = false ∧ m.p < 0 ∧ m.q < 0) ∧
    (∃ (s : State) (f : Nat) (i : Nat), let g := s.dev; let x := (g.feed f).phases.getD i phaseZero;
      g.metered f = true ∧ i < 3 ∧ x.acc.length = 8 ∧ g.bit (MTR_FEED_CFG f) 4 = false ∧ (g.feed f).blank = 0 ∧
      g.phaseFault f i = false ∧ ∃ k : Nat, k ≠ f) ∧
    (∃ (s : State) (f : Nat) (i : Nat), let g := s.dev; let x := (g.feed f).phases.getD i phaseZero;
      g.metered f = true ∧ i < 3 ∧ x.acc.length = 8 ∧ g.bit (MTR_FEED_CFG f) 4 = false ∧ (g.feed f).blank = 0 ∧
      g.phaseFault f i = true) ∧
    (∃ s : State, let g := s.dev; ∃ n : Nat, n < 36 ∧ g.mtr.on = true ∧ g.mtr.faults.contains n = false) ∧
    (∃ (s : State) (f : Nat), let g := s.dev;
      ∃ b : Bool, g.metered f = true ∧ ((g.bit (MTR_FEED_CFG f) 3 = true ∧
      (g.feed f).due = some b ∨ g.bit (MTR_FEED_CFG f) 3 = false ∧ (g.feed f).fine ≠ b ∧
      g.bit (MTR_FEED_CFG f) 5 = b)) ∧ ((b = true → (g.feed f).blank = 0))) ∧
    (∃ s : State, let g := s.dev;
      let runs : Prop := g.baseValid 6 = true ∧ g.mtr.on = true ∧ g.bit MTR_CTRL 0 = true;
      runs ∧ ∃ k : Nat, k ∈ g.feedsOn) ∧
    (∃ s : State, let g := s.dev;
      let runs : Prop := g.baseValid 6 = true ∧ g.mtr.on = true ∧ g.bit MTR_CTRL 0 = true; runs) ∧
    (∃ (s : State) (f : Nat), let g := s.dev; f < 8 ∧ g.baseValid 6 = false) ∧
    (∃ (s : State) (f : Nat), let g := s.dev; f < 8 ∧ g.baseValid 6 = true) ∧
    (∃ (s : State) (e : Device) (h : HostPkt) (c : Cmd), let g := s.dev;
      g.takes 0x0800 h = some (c, e) ∧ c.body.length = 8 ∧ e.right c.part rMeter = true ∧ uAt c.body 5 3 = 0 ∧ let q := uAt c.body 0 4;
      let n := uAt c.body 4 1; 1 ≤ n ∧ n ≤ 8 ∧ e.inRing q = false) ∧
    (∃ (s : State) (e : Device) (h : HostPkt) (c : Cmd), let g := s.dev;
      g.takes 0x0800 h = some (c, e) ∧ c.body.length = 8 ∧ e.right c.part rMeter = true ∧ uAt c.body 5 3 = 0 ∧ let q := uAt c.body 0 4;
      let n := uAt c.body 4 1; 1 ≤ n ∧ n ≤ 8 ∧ e.inRing q = true) ∧
    (∃ (s : State) (e : Device) (h : HostPkt) (c : Cmd), let g := s.dev;
      g.takes 0x0801 h = some (c, e) ∧ c.body = [] ∧ e.right c.part rMeter = true ∧
      (e.keyed = false ∨ e.keyIs 10 0 = false)) ∧
    (∃ (s : State) (e : Device) (h : HostPkt) (c : Cmd), let g := s.dev;
      g.takes 0x0801 h = some (c, e) ∧ c.body = [] ∧ e.right c.part rMeter = true ∧ e.keyed = true ∧
      e.keyIs 10 0 = true) ∧
    (∃ (s : State) (e : Device) (h : HostPkt) (c : Cmd), let g := s.dev;
      g.takes 0x0802 h = some (c, e) ∧ c.body.length = 4 ∧ e.right c.part rMeter = true ∧ uAt c.body 0 1 < 8 ∧
      uAt c.body 1 3 = 0) ∧
    (∃ (s : State) (e : Device) (h : HostPkt) (c : Cmd), let g := s.dev;
      g.takes 0x0802 h = some (c, e) ∧ c.body.length = 4 ∧ e.right c.part rMeter = true ∧
      (8 ≤ uAt c.body 0 1 ∨ uAt c.body 1 3 ≠ 0)) ∧
    (∃ s : State, let g := s.dev; g.mtr.on = true) ∧
    (∃ s : State, let g := s.dev; g.mtr.on = false) :=
  ⟨⟨st Device.reset, 7, by decide +kernel⟩,
    ⟨st meters, 7, 2, sampleOf 0 0, by decide +kernel, by decide +kernel, by decide +kernel, by decide +kernel,
      by decide +kernel, by decide +kernel, by decide +kernel, by decide +kernel⟩,
    ⟨st meters, 7, 2, sampleOf 5000000 (-1), by decide +kernel, by decide +kernel, by decide +kernel,
      by decide +kernel, by decide +kernel, by decide +kernel, by decide +kernel, by decide +kernel⟩,
    ⟨st meters, 7, 2, sampleOf (-5000000) 0, by decide +kernel, by decide +kernel, by decide +kernel,
      by decide +kernel, by decide +kernel, by decide +kernel, by decide +kernel, by decide +kernel⟩,
    ⟨st meters, 7, 2, sampleOf (-1) (-1), by decide +kernel, by decide +kernel, by decide +kernel,
      by decide +kernel, by decide +kernel, by decide +kernel, by decide +kernel, by decide +kernel⟩,
    ⟨st meters, 7, 2, by decide +kernel, by decide +kernel, by decide +kernel, by decide +kernel,
      by decide +kernel, by decide +kernel, 6, by decide +kernel⟩,
    ⟨st { meters with mtr := { meters.mtr with faults := [23] } }, 7, 2, by decide +kernel, by decide +kernel,
      by decide +kernel, by decide +kernel, by decide +kernel, by decide +kernel⟩,
    ⟨st meters, 35, by decide +kernel, by decide +kernel, by decide +kernel⟩,
    ⟨st toFine, 7, true, by decide +kernel, by decide +kernel, by decide +kernel⟩,
    ⟨st meters, by decide +kernel, 7, by decide +kernel⟩,
    ⟨st meters, by decide +kernel⟩,
    ⟨st Device.reset, 7, by decide +kernel, by decide +kernel⟩,
    ⟨st meters, 7, by decide +kernel, by decide +kernel⟩,
    ⟨st meters, dev meters 0x0800 (leBytes 4 3 ++ [1, 0, 0, 0]), pkt (leBytes 4 3 ++ [1, 0, 0, 0]),
      cmd meters 0x0800 (leBytes 4 3 ++ [1, 0, 0, 0]), by decide +kernel, by decide +kernel, by decide +kernel,
      by decide +kernel, by decide +kernel, by decide +kernel, by decide +kernel⟩,
    ⟨st meters, dev meters 0x0800 (leBytes 4 2 ++ [8, 0, 0, 0]), pkt (leBytes 4 2 ++ [8, 0, 0, 0]),
      cmd meters 0x0800 (leBytes 4 2 ++ [8, 0, 0, 0]), by decide +kernel, by decide +kernel, by decide +kernel,
      by decide +kernel, by decide +kernel, by decide +kernel, by decide +kernel⟩,
    ⟨st live, dev live 0x0801 [], pkt [], cmd live 0x0801 [], by decide +kernel, by decide +kernel,
      by decide +kernel, by decide +kernel⟩,
    ⟨st meters, dev meters 0x0801 [], pkt [], cmd meters 0x0801 [], by decide +kernel, by decide +kernel,
      by decide +kernel, by decide +kernel, by decide +kernel⟩,
    ⟨st meters, dev meters 0x0802 [7, 0, 0, 0], pkt [7, 0, 0, 0], cmd meters 0x0802 [7, 0, 0, 0],
      by decide +kernel, by decide +kernel, by decide +kernel, by decide +kernel, by decide +kernel⟩,
    ⟨st meters, dev meters 0x0802 [8, 0, 0, 0], pkt [8, 0, 0, 0], cmd meters 0x0802 [8, 0, 0, 0],
      by decide +kernel, by decide +kernel, by decide +kernel, by decide +kernel⟩,
    ⟨st meters, by decide +kernel⟩,
    ⟨st Device.reset, by decide +kernel⟩⟩

/-- States and operands that meet what CommandsLeaveOtherUnitsAlone assumes, clause by clause. -/
theorem witness_CommandsLeaveOtherUnitsAlone :
    (∃ (c : Instr) (s : State) (t : State), exec c s = .next t) :=
  ⟨Instr.markerLock 3, st live, st (live.setPort 3 { live.port 3 with locked := true, fault := false }), by rfl⟩

end Sys2Proof.Tests
end

section
/-!
PROOFS. Registers: what reading and writing a register leaves, what a fault record leaves, and which register an
address names (R8 to R12, R512, R516, R517).
-/
namespace Sys2Proof.Machine

/-! ## Fields of a number -/

theorem bitOf_eq_testBit (x i : Nat) : bitOf x i = x.testBit i := by
  simp [bitOf, Nat.testBit_eq_decide_div_mod_eq]

theorem testBit_bitsOf (x lo w i : Nat) : (bitsOf x lo w).testBit i = (decide (i < w) && x.testBit (lo + i)) := by
  simp [bitsOf, Nat.testBit_mod_two_pow, Nat.testBit_div_two_pow, Nat.add_comm]

theorem bitsOf_lt (x lo w : Nat) : bitsOf x lo w < 2 ^ w := Nat.mod_lt _ (Nat.two_pow_pos w)

/-- A replaced field holds the new bits; every other bit stays. -/
theorem testBit_setBits (x lo w v i : Nat) :
    (setBits x lo w v).testBit i = if lo ≤ i ∧ i < lo + w then v.testBit (i - lo) else x.testBit i := by
  have shape : setBits x lo w v = 2 ^ lo * (2 ^ w * (x / 2 ^ (lo + w)) + v % 2 ^ w) + x % 2 ^ lo := by
    rw [setBits, Nat.mul_add, ← Nat.mul_assoc, ← Nat.pow_add, Nat.mul_comm (2 ^ lo), Nat.mul_comm (2 ^ (lo + w)),
      Nat.add_comm _ (v % 2 ^ w * 2 ^ lo), Nat.add_comm (_ + _) (x / 2 ^ (lo + w) * 2 ^ (lo + w)), ← Nat.add_assoc]
  rw [shape, Nat.testBit_two_pow_mul_add _ (Nat.mod_lt _ (Nat.two_pow_pos lo)),
    Nat.testBit_two_pow_mul_add _ (Nat.mod_lt _ (Nat.two_pow_pos w))]
  by_cases hlo : i < lo
  · simp [hlo, Nat.testBit_mod_two_pow, Nat.not_le.mpr hlo]
  · by_cases hw : i - lo < w
    · have hin : lo ≤ i ∧ i < lo + w := by omega
      simp [hlo, hw, hin, Nat.testBit_mod_two_pow]
    · have hout : ¬ (lo ≤ i ∧ i < lo + w) := by omega
      have hsum : i - lo - w + (lo + w) = i := by omega
      simp [hlo, hw, hout, Nat.testBit_div_two_pow, hsum]

theorem bitsOf_setBits_same (x lo w v : Nat) : bitsOf (setBits x lo w v) lo w = v % 2 ^ w := by
  apply Nat.eq_of_testBit_eq
  intro i
  by_cases h : i < w <;> simp [testBit_bitsOf, testBit_setBits, Nat.testBit_mod_two_pow, h]

/-- Replacing a field leaves a field apart from it. -/
theorem bitsOf_setBits_apart (x lo w v : Nat) {lo' w' : Nat} (h : lo + w ≤ lo' ∨ lo' + w' ≤ lo) :
    bitsOf (setBits x lo w v) lo' w' = bitsOf x lo' w' := by
  apply Nat.eq_of_testBit_eq
  intro i
  rw [testBit_bitsOf, testBit_bitsOf, testBit_setBits]
  by_cases hi : i < w'
  · rw [if_neg (by omega)]
  · simp [hi]

@[simp] theorem setBits_bitsOf (x lo w : Nat) : setBits x lo w (bitsOf x lo w) = x := by
  apply Nat.eq_of_testBit_eq
  intro i
  rw [testBit_setBits, testBit_bitsOf]
  split
  · next h =>
    have hlt : i - lo < w := by omega
    simp [hlt, Nat.add_sub_cancel' h.1]
  · rfl

/-- A field within the low `n` bits does not see the bits above them. -/
theorem bitsOf_mod_two_pow (x : Nat) {lo w n : Nat} (h : lo + w ≤ n) : bitsOf (x % 2 ^ n) lo w = bitsOf x lo w := by
  apply Nat.eq_of_testBit_eq
  intro i
  rw [testBit_bitsOf, testBit_bitsOf, Nat.testBit_mod_two_pow]
  by_cases hi : i < w
  · have hn : lo + i < n := by omega
    simp [hn]
  · simp [hi]

/-- A number summed from its bits has these bits. -/
theorem testBit_foldl_bits (p : Nat → Bool) (w : Nat) :
    (List.range w).foldl (fun a i => a + b2n (p i) * 2 ^ i) 0 < 2 ^ w ∧
      ∀ j, ((List.range w).foldl (fun a i => a + b2n (p i) * 2 ^ i) 0).testBit j = (decide (j < w) && p j) := by
  induction w with
  | zero => simp
  | succ w ih =>
    obtain ⟨hlt, hbit⟩ := ih
    simp only [List.range_succ, List.foldl_append, List.foldl_cons, List.foldl_nil]
    generalize (List.range w).foldl (fun a i => a + b2n (p i) * 2 ^ i) 0 = a at hlt hbit ⊢
    have hb : b2n (p w) ≤ 1 := by cases p w <;> simp [b2n]
    have hone : ∀ k, (b2n (p w)).testBit k = (decide (k = 0) && p w) := by
      intro k
      cases p w <;> cases k <;> simp [b2n, Nat.testBit_succ]
    refine ⟨?_, fun j => ?_⟩
    · calc a + b2n (p w) * 2 ^ w
          < 2 ^ w + 1 * 2 ^ w := Nat.add_lt_add_of_lt_of_le hlt (Nat.mul_le_mul_right _ hb)
        _ = 2 ^ (w + 1) := by rw [Nat.one_mul, Nat.two_pow_succ]
    · rw [Nat.add_comm, Nat.mul_comm, Nat.testBit_two_pow_mul_add _ hlt, hbit, hone]
      rcases Nat.lt_trichotomy j w with h | h | h
      · simp [h, Nat.lt_succ_of_lt h]
      · simp [h]
      · have h0 : ¬ j - w = 0 := by omega
        have h1 : ¬ j < w + 1 := by omega
        simp [Nat.not_lt.mpr (Nat.le_of_lt h), h0, h1]

/-! ## Registers after a write -/

theorem tabOf_setTabOf (f : RegFile) (b c : Blk) (t : Tab Word) :
    tabOf (setTabOf f b t) c = if c = b then t else tabOf f c := by
  cases b <;> cases c <;> rfl

@[simp] theorem Device.rd_wr_same (d : Device) (r : Reg) (v : Word) : (d.wr r v).rd r = v := by
  simp [Device.rd, Device.wr, tabOf_setTabOf]

theorem Device.rd_wr_ne (d : Device) {r x : Reg} (v : Word) (h : x ≠ r) : (d.wr r v).rd x = d.rd x := by
  unfold Device.rd Device.wr
  by_cases hb : x.blk = r.blk
  · have ho : x.off ≠ r.off := fun ho => h ((Reg.mk.injEq ..).mpr ⟨hb, ho⟩)
    simp only [tabOf_setTabOf, hb, if_true, Tab.getD_put_ne _ ho]
  · simp only [tabOf_setTabOf, if_neg hb]

/-- Registers read the same in two devices with the same register file. -/
theorem Device.rd_of_regs_eq {d e : Device} (h : e.regs = d.regs) (r : Reg) : e.rd r = d.rd r := by
  simp only [Device.rd, h]

@[simp] theorem Device.rdN_wrN_same (d : Device) (r : Reg) (v : Nat) : (d.wrN r v).rdN r = v % 2 ^ 32 := by
  simp [Device.rdN, Device.wrN]

theorem Device.rd_wrN_ne (d : Device) {r x : Reg} (v : Nat) (h : x ≠ r) : (d.wrN r v).rd x = d.rd x :=
  d.rd_wr_ne _ h

theorem Device.rd_raise_ne (d : Device) {r x : Reg} (i : Nat) (h : x ≠ r) : (d.raise r i).rd x = d.rd x :=
  d.rd_wrN_ne _ h

theorem Device.rd_count_ne (d : Device) {r x : Reg} (h : x ≠ r) : (d.count r).rd x = d.rd x :=
  d.rd_wrN_ne _ h

/-! ## Fault records -/

theorem newestRec_eq_some {l : ErrLog} {r : FaultRec} :
    newestRec l = some r ↔ Tab.find l.ring (l.seq % 256) = some r ∧ r.seq = l.seq ∧ l.seq ≠ 0 := by
  unfold newestRec
  cases Tab.find l.ring (l.seq % 256) with
  | none => simp
  | some x =>
    by_cases h : x.seq = l.seq ∧ l.seq ≠ 0
    · simp only [if_pos h, Option.some.injEq]
      exact ⟨fun hx => ⟨hx, hx ▸ h⟩, fun hx => hx.1⟩
    · simp only [if_neg h, Option.some.injEq, reduceCtorEq, false_iff]
      exact fun ⟨hx, hr⟩ => h (hx ▸ hr)

theorem nextSeq_ne_zero (n : Nat) : nextSeq n ≠ 0 := by
  unfold nextSeq
  split <;> omega

/-- The record that a fault writes where it repeats none (R517). -/
def Device.faultRec (d : Device) (block code unit outcome : Nat) (ctx : Bytes) : FaultRec :=
  { seq := Machine.nextSeq d.log.seq, heat := d.recHeat, ns := d.recNs, block := block, outcome := outcome,
    code := code, unit := unit, rep := 0, ctx := padTo 12 ctx }

/-- The device once a fault record that repeats none has entered the ring as the newest (R516, R519). -/
def Device.withRecord (d : Device) (r : FaultRec) : Device :=
  let e := { d with log := { d.log with ring := Tab.put d.log.ring (r.seq % 256) r, seq := r.seq } }
  (e.raise ERR_INT_STAT 0).doIf (Tab.find d.log.ring (r.seq % 256)).isSome fun x =>
    (x.count ERR_OVERWRITE).raise ERR_INT_STAT 2

theorem Device.withRecord_log (d : Device) (r : FaultRec) :
    (d.withRecord r).log = { d.log with ring := Tab.put d.log.ring (r.seq % 256) r, seq := r.seq } := by
  unfold Device.withRecord
  cases (Tab.find d.log.ring (r.seq % 256)).isSome <;> rfl

theorem Device.withRecord_rd (d : Device) (r : FaultRec) {x : Reg} (hx : x.blk ≠ .err) :
    (d.withRecord r).rd x = d.rd x := by
  have hstat : x ≠ ERR_INT_STAT := fun h => hx (h ▸ rfl)
  have hover : x ≠ ERR_OVERWRITE := fun h => hx (h ▸ rfl)
  unfold Device.withRecord
  cases (Tab.find d.log.ring (r.seq % 256)).isSome with
  | false => exact Device.rd_raise_ne _ _ hstat
  | true =>
    exact (Device.rd_raise_ne _ _ hstat).trans ((Device.rd_count_ne _ hover).trans (Device.rd_raise_ne _ _ hstat))

/-- What a fault record can do (R516, R519): count one more repeat in the newest record, which names the same block, code
and unit, or enter the ring as the newest. -/
theorem Device.slag_cases (d : Device) (block code unit outcome : Nat) (ctx : Bytes) :
    (∃ n, newestRec d.log = some n ∧ n.block = block ∧ n.code = code ∧ n.unit = unit ∧
      d.slag block code unit outcome ctx = { d with log := { d.log with
        ring := Tab.put d.log.ring (n.seq % 256) { n with rep := holdAt 0xFFFF (n.rep + 1) } } }) ∨
    d.slag block code unit outcome ctx = d.withRecord (d.faultRec block code unit outcome ctx) := by
  cases hn : newestRec d.log with
  | none => exact .inr (by simp only [Device.slag, hn]; rfl)
  | some n =>
    by_cases hrep : repeats (d.faultRec block code unit outcome ctx) n = true
    · have hsame := hrep
      simp only [repeats, Bool.and_eq_true, decide_eq_true_eq] at hsame
      obtain ⟨⟨⟨⟨hblock, hcode⟩, hunit⟩, -⟩, -⟩ := hsame
      refine .inl ⟨n, rfl, hblock.symm, hcode.symm, hunit.symm, ?_⟩
      simp only [Device.slag, hn]
      exact if_pos hrep
    · refine .inr ?_
      simp only [Device.slag, hn]
      exact if_neg hrep

/-- After a fault record, the newest record of the slag log is of its block, code and unit. -/
theorem Device.slag_newest (d : Device) (block code unit outcome : Nat) (ctx : Bytes) :
    Claims.NewestIs (d.slag block code unit outcome ctx) block code unit := by
  rcases d.slag_cases block code unit outcome ctx with
    ⟨n, hn, hblock, hcode, hunit, he⟩ | he
  · obtain ⟨-, hseq, hzero⟩ := newestRec_eq_some.mp hn
    refine ⟨{ n with rep := holdAt 0xFFFF (n.rep + 1) }, newestRec_eq_some.mpr ?_, hblock, hcode, hunit⟩
    rw [he]
    exact ⟨by simp only [← hseq, Tab.find_put_self], hseq, hzero⟩
  · refine ⟨d.faultRec block code unit outcome ctx, newestRec_eq_some.mpr ?_, rfl, rfl, rfl⟩
    rw [he, Device.withRecord_log]
    exact ⟨Tab.find_put_self _ _ _, rfl, nextSeq_ne_zero d.log.seq⟩

/-- A fault record leaves every register outside ERR. -/
theorem Device.slag_rd (d : Device) (block code unit outcome : Nat) (ctx : Bytes) {x : Reg} (hx : x.blk ≠ .err) :
    (d.slag block code unit outcome ctx).rd x = d.rd x := by
  rcases d.slag_cases block code unit outcome ctx with ⟨n, -, -, -, -, he⟩ | he
  · rw [he]
    exact Device.rd_of_regs_eq rfl x
  · rw [he, Device.withRecord_rd _ _ hx]

@[simp] theorem Device.slag_que (d : Device) (b c u o : Nat) (x : Bytes) : (d.slag b c u o x).que = d.que := by
  obtain ⟨r, l, h⟩ := d.slag_only b c u o x
  rw [h]

/-! ## The registers by address (R512) -/

@[simp] theorem blkOf_blkNum (b : Blk) : blkOf (blkNum b) = some b := by
  cases b <;> rfl

theorem blkNum_lt (b : Blk) : blkNum b < 0x1B := by
  cases b <;> decide

/-- The address of a register lies among the register blocks, its block and offset can be read off it, and it is
aligned as its offset is. -/
theorem regAddr_spec (r : Reg) {n : Nat} (hoff : r.off < 0x10000) (hn : n ≤ 4) :
    lies (regAddr r) n 0x0040000000 0x1000000 = true ∧
      (regAddr r - 0x0040000000) / 0x10000 = blkNum r.blk ∧ regAddr r % 0x10000 = r.off ∧
      regAddr r % 4 = r.off % 4 := by
  have hb := blkNum_lt r.blk
  refine ⟨?_, ?_, ?_, ?_⟩
  · unfold lies regAddr
    rw [Bool.and_eq_true, decide_eq_true_eq, decide_eq_true_eq]
    omega
  all_goals
    unfold regAddr
    omega

theorem placeOf_regAddr {r : Reg} (hoff : r.off < 0x10000) (hrow : (findRow r).isSome = true) :
    placeOf (regAddr r) = .reg r := by
  obtain ⟨hlies, hblk, hmod, -⟩ := regAddr_spec r hoff (Nat.le_refl 4)
  simp [placeOf, hlies, hblk, hmod, hrow]

/-- An access of a register block that is not an aligned one of 32 bits writes a BAD_ACCESS record, and a read returns 0
(R10). -/
theorem Device.misaligned_regAddr (d : Device) {r : Reg} {len : Nat} (hoff : r.off < 0x10000)
    (hbad : r.off % 4 ≠ 0 ∨ len ≠ 4) (wr : Bool) :
    d.misaligned (regAddr r) len wr =
      let e := d.slagB r.blk codeBadAccess noUnit (ctxAccess (regAddr r) len wr)
      if wr then e else { e with bus := 0 } := by
  obtain ⟨hlies, hblk, -, hmod⟩ := regAddr_spec r hoff (show 1 ≤ 4 by omega)
  have hneg : ¬ (regAddr r % 4 = 0 ∧ len = 4) := by omega
  simp [Device.misaligned, hneg, hlies, hblk]

/-! ## The warden's accesses as commands -/

section
variable {s : State} {r : Reg} {P : Device → Prop}

/-- A command that answers a next state with the waiting commands as they were completes with that state's device. -/
theorem Completes.of_exec {c : Instr} {d : Device} (h : exec c s = .next { s with dev := d }) (hP : P d) :
    Completes c s P :=
  ⟨_, h, rfl, hP⟩

theorem exec_registerWrite (s : State) (a set v : Nat) :
    exec (.registerWrite a set v) s = execRegisterWrite a set v s := rfl

theorem exec_misalignedAccess (s : State) (a len : Nat) (wr : Bool) :
    exec (.misalignedAccess a len wr) s = execMisalignedAccess a len wr s := rfl

theorem exec_rcRead (s : State) (a set : Nat) : exec (.rcRead a set) s = execRcRead a set s := rfl

theorem exec_lowWordRead (s : State) (a : Nat) : exec (.lowWordRead a) s = execLowWordRead a s := rfl

/-- A REGISTER_WRITE of a register that its block names is the write of that register. -/
theorem Completes.registerWrite {set v : Nat} (hoff : r.off < 0x10000) (hal : r.off % 4 = 0)
    (hrow : (findRow r).isSome = true) (hv : v < 2 ^ 32) (hP : P (s.dev.regWrite 0 r set v)) :
    Completes (.registerWrite (regAddr r) set v) s P := by
  obtain ⟨-, -, -, hmod⟩ := regAddr_spec r hoff (Nat.le_refl 4)
  refine Completes.of_exec ?_ hP
  rw [exec_registerWrite, execRegisterWrite, if_pos (hmod.trans hal), Device.busWrite, placeOf_regAddr hoff hrow,
    Nat.mod_eq_of_lt hv]

theorem Device.busRead_regAddr (d : Device) {set : Nat} (hoff : r.off < 0x10000) (hrow : (findRow r).isSome = true) :
    d.busRead (regAddr r) set = d.regRead 0 r set := by
  rw [Device.busRead, placeOf_regAddr hoff hrow]

/-- An RC_READ of a register that its block names puts what the register reads on the bus. -/
theorem Completes.rcRead {set : Nat} (hoff : r.off < 0x10000) (hal : r.off % 4 = 0)
    (hrow : (findRow r).isSome = true) (hP : P (Device.onBus (s.dev.regRead 0 r set))) :
    Completes (.rcRead (regAddr r) set) s P := by
  obtain ⟨-, -, -, hmod⟩ := regAddr_spec r hoff (Nat.le_refl 4)
  refine Completes.of_exec ?_ hP
  rw [exec_rcRead, execRcRead, if_pos (hmod.trans hal), Device.busRead_regAddr _ hoff hrow]

/-- A LOW_WORD_READ of a register that its block names puts what the register reads on the bus. -/
theorem Completes.lowWordRead (hoff : r.off < 0x10000) (hal : r.off % 4 = 0)
    (hrow : (findRow r).isSome = true) (hP : P (Device.onBus (s.dev.regRead 0 r 0))) :
    Completes (.lowWordRead (regAddr r)) s P := by
  obtain ⟨-, -, -, hmod⟩ := regAddr_spec r hoff (Nat.le_refl 4)
  refine Completes.of_exec ?_ hP
  rw [exec_lowWordRead, execLowWordRead, if_pos (hmod.trans hal), Device.busRead_regAddr _ hoff hrow]

/-- The three commands of the warden that name an address which is not aligned are misaligned accesses of 4 bytes. -/
theorem exec_of_not_aligned (s : State) {a : Nat} (h : a % 4 ≠ 0) (set v : Nat) :
    exec (.registerWrite a set v) s = .next { s with dev := s.dev.misaligned a 4 true } ∧
      exec (.rcRead a set) s = .next { s with dev := s.dev.misaligned a 4 false } ∧
      exec (.lowWordRead a) s = .next { s with dev := s.dev.misaligned a 4 false } := by
  rw [exec_registerWrite, exec_rcRead, exec_lowWordRead, execRegisterWrite, execRcRead, execLowWordRead,
    if_neg h, if_neg h, if_neg h]
  exact ⟨rfl, rfl, rfl⟩

end
end Sys2Proof.Machine
end

section
/-!
PROOFS. Accesses that are not aligned ones of 32 bits (R10).
-/
namespace Sys2Proof.Machine

/-- A read of a register that is neither RC nor part of a 64-bit pair is its view, and changes nothing. -/
theorem Device.regRead_plain (d : Device) (w : Nat) {r : Reg} (set : Nat) (hrc : isRc r = false) (hlow : isLow r = false)
    (hhigh : isHigh r = false) : d.regRead w r set = (d.view w r, d) := by
  simp [Device.regRead, hrc, hlow, hhigh]

/-- Settles O8: an address of a register block that is not aligned, or another length, leads to the BAD_ACCESS record
alone; an aligned access of 4 bytes reaches the register. -/
theorem misalignedAccessesHaveNoEffect : Obligations.MisalignedAccessesHaveNoEffect := by
  intro s b off hoff a e
  have hmis : ∀ {len : Nat}, (off % 4 ≠ 0 ∨ len ≠ 4) → s.dev.misaligned a len true = e len true ∧
      s.dev.misaligned a len false = { e len false with bus := 0 } := fun hbad =>
    ⟨s.dev.misaligned_regAddr (r := ⟨b, off⟩) hoff hbad true, s.dev.misaligned_regAddr (r := ⟨b, off⟩) hoff hbad false⟩
  refine ⟨fun len hbad => ?_, fun hal set v => ?_, fun hal row hrow => ?_⟩
  · obtain ⟨hwrite, hread⟩ := hmis hbad
    refine ⟨Completes.of_exec (exec_misalignedAccess ..) hwrite, Completes.of_exec (exec_misalignedAccess ..) hread,
      fun wr => ⟨Device.slag_newest .., Device.slag_mem .., Device.slag_que .., fun r hr => Device.slag_rd _ _ _ _ _ _ hr⟩⟩
  · obtain ⟨hwrite, hread⟩ := hmis (len := 4) (.inl hal)
    obtain ⟨-, -, -, hmod⟩ := regAddr_spec ⟨b, off⟩ hoff (Nat.le_refl 4)
    obtain ⟨xwrite, xrc, xlow⟩ := exec_of_not_aligned s (a := a) (fun h => hal (hmod.symm.trans h)) set v
    exact ⟨.of_exec xwrite hwrite, .of_exec xrc hread, .of_exec xlow hread⟩
  · have hsome : (findRow ⟨b, off⟩).isSome = true := Option.isSome_of_eq_some hrow
    refine ⟨fun hrc hlow hhigh => ?_, fun v hv => ?_⟩
    · refine Completes.rcRead (r := ⟨b, off⟩) hoff hal hsome ?_
      rw [Device.regRead_plain _ _ _ hrc hlow hhigh]
      rfl
    · exact Completes.registerWrite (r := ⟨b, off⟩) hoff hal hsome hv rfl

end Sys2Proof.Machine
end

section
/-!
PROOFS. What a plain write of a register does, field by field (R8, R9, R11).
-/
namespace Sys2Proof.Machine

/-! ## The write of one field -/

/-- What a field that held `old` holds after a write of the word `v`; `set` is what the hardware sets in that cycle. -/
def FieldRow.after (f : FieldRow) (locked : Bool) (set v old : Nat) : Nat :=
  let new := bitsOf v f.lo f.w
  match f.acc with
  | .rw => if f.allows new then new else old
  | .rwl => if locked then old else if f.allows new then new else old
  | .w1c => (List.range f.w).foldl
      (fun a i => a + b2n ((bitOf old i && !bitOf new i) || bitOf set (f.lo + i)) * 2 ^ i) 0
  | .w1s => old ||| new
  | .ro | .wo | .rc => old

/-- Whether a write of the word `v` gives a field that it may write a reserved encoding. -/
def FieldRow.refuses (f : FieldRow) (locked : Bool) (v : Nat) : Bool :=
  (f.acc = .rw || f.acc = .rwl && !locked) && !f.allows (bitsOf v f.lo f.w)

/-- The write of a field replaces its bits alone. -/
theorem FieldRow.write_eq (f : FieldRow) (locked : Bool) (set v : Nat) (x : Nat × Bool) :
    f.write locked set v x =
      (setBits x.1 f.lo f.w (f.after locked set v (bitsOf x.1 f.lo f.w)), x.2 || f.refuses locked v) := by
  obtain ⟨lo, w, acc, ok⟩ := f
  cases acc with
  | rw =>
    by_cases h : FieldRow.allows ⟨lo, w, .rw, ok⟩ (bitsOf v lo w) = true <;>
      simp [FieldRow.write, FieldRow.after, FieldRow.refuses, h]
  | rwl =>
    cases locked with
    | true => simp [FieldRow.write, FieldRow.after, FieldRow.refuses]
    | false =>
      by_cases h : FieldRow.allows ⟨lo, w, .rwl, ok⟩ (bitsOf v lo w) = true <;>
        simp [FieldRow.write, FieldRow.after, FieldRow.refuses, h]
  | w1c | w1s | ro | wo | rc => simp [FieldRow.write, FieldRow.after, FieldRow.refuses]

theorem FieldRow.after_lt (f : FieldRow) (locked : Bool) (set v : Nat) {old : Nat} (h : old < 2 ^ f.w) :
    f.after locked set v old < 2 ^ f.w := by
  have hnew := bitsOf_lt v f.lo f.w
  unfold FieldRow.after
  cases f.acc with
  | rw =>
    dsimp only
    split
    · exact hnew
    · exact h
  | rwl =>
    dsimp only
    split
    · exact h
    · split
      · exact hnew
      · exact h
  | w1c => exact (testBit_foldl_bits _ f.w).1
  | w1s => exact Nat.or_lt_two_pow h hnew
  | ro | wo | rc => exact h

/-! What a field holds after a write, by its access code (R11). -/

theorem FieldRow.after_of_writable {f : FieldRow} {locked : Bool} (h : f.acc = .rw ∨ f.acc = .rwl ∧ locked = false)
    (set v old : Nat) :
    f.after locked set v old = if f.allows (bitsOf v f.lo f.w) then bitsOf v f.lo f.w else old := by
  rcases h with h | ⟨h, rfl⟩ <;> simp [FieldRow.after, h]

theorem FieldRow.after_of_kept {f : FieldRow} {locked : Bool}
    (h : f.acc = .ro ∨ f.acc = .rc ∨ f.acc = .wo ∨ f.acc = .rwl ∧ locked = true) (set v old : Nat) :
    f.after locked set v old = old := by
  rcases h with h | h | h | ⟨h, rfl⟩ <;> simp [FieldRow.after, h]

theorem FieldRow.bitOf_after_of_w1c {f : FieldRow} (h : f.acc = .w1c) (locked : Bool) (set v old : Nat) {i : Nat}
    (hi : i < f.w) :
    bitOf (f.after locked set v old) i =
      ((bitOf old i && !bitOf (bitsOf v f.lo f.w) i) || bitOf set (f.lo + i)) := by
  rw [bitOf_eq_testBit, FieldRow.after, h]
  exact ((testBit_foldl_bits _ f.w).2 i).trans (by simp [hi])

theorem FieldRow.after_of_w1s {f : FieldRow} (h : f.acc = .w1s) (locked : Bool) (set v old : Nat) :
    f.after locked set v old = old ||| bitsOf v f.lo f.w := by
  simp only [FieldRow.after, h]

theorem FieldRow.refuses_of_writable {f : FieldRow} {locked : Bool} {v : Nat}
    (h : f.acc = .rw ∨ f.acc = .rwl ∧ locked = false) (hbad : f.allows (bitsOf v f.lo f.w) = false) :
    f.refuses locked v = true := by
  rcases h with h | ⟨h, rfl⟩ <;> simp [FieldRow.refuses, h, hbad]

/-! ## The write of all fields -/

/-- Two fields of a register share no bit. -/
def FieldRow.apart (f g : FieldRow) : Prop := f.lo + f.w ≤ g.lo ∨ g.lo + g.w ≤ f.lo

/-- Writing fields that are apart from `g` leaves `g`. -/
theorem foldl_write_apart (l : List FieldRow) (g : FieldRow) (locked : Bool) (set v : Nat) (x : Nat × Bool)
    (h : ∀ f ∈ l, f.apart g) :
    bitsOf (l.foldl (fun a f => f.write locked set v a) x).1 g.lo g.w = bitsOf x.1 g.lo g.w := by
  induction l generalizing x with
  | nil => rfl
  | cons f l ih =>
    rw [List.foldl_cons, ih _ fun k hk => h k (List.mem_cons_of_mem _ hk), FieldRow.write_eq]
    exact bitsOf_setBits_apart _ _ _ _ (h f (List.mem_cons_self ..))

/-- Writing fields that are apart from one another leaves each as its access code says. -/
theorem foldl_write_field (l : List FieldRow) (locked : Bool) (set v : Nat) (x : Nat × Bool)
    (hl : l.Pairwise FieldRow.apart) {f : FieldRow} (hf : f ∈ l) :
    bitsOf (l.foldl (fun a f => f.write locked set v a) x).1 f.lo f.w =
      f.after locked set v (bitsOf x.1 f.lo f.w) := by
  induction l generalizing x with
  | nil => cases hf
  | cons g l ih =>
    obtain ⟨hg, hl⟩ := List.pairwise_cons.mp hl
    rw [List.foldl_cons]
    rcases List.mem_cons.mp hf with rfl | hf
    · rw [foldl_write_apart l f locked set v _ fun k hk => (hg k hk).symm, FieldRow.write_eq, bitsOf_setBits_same]
      exact Nat.mod_eq_of_lt (f.after_lt _ _ _ (bitsOf_lt ..))
    · rw [ih _ hl hf, FieldRow.write_eq, bitsOf_setBits_apart _ _ _ _ (hg f hf)]

/-- A write finds a reserved encoding where one of the fields refuses it. -/
theorem foldl_write_refuses (l : List FieldRow) (locked : Bool) (set v : Nat) (x : Nat × Bool) :
    (l.foldl (fun a f => f.write locked set v a) x).2 = (x.2 || l.any fun f => f.refuses locked v) := by
  induction l generalizing x with
  | nil => simp
  | cons f l ih => rw [List.foldl_cons, ih, FieldRow.write_eq, List.any_cons, Bool.or_assoc]

/-! ## The register tables -/

/-- The fields of a row lie in 32 bits, apart from one another. -/
def RegRow.tidy (w : RegRow) : Prop := w.fields.Pairwise FieldRow.apart ∧ ∀ f ∈ w.fields, f.lo + f.w ≤ 32

theorem blkRows_tidy (b : Blk) : ∀ w ∈ blkRows b, w.tidy := by
  unfold RegRow.tidy FieldRow.apart
  cases b <;> decide

theorem findRow_tidy {r : Reg} {w : RegRow} (h : findRow r = some w) : w.tidy :=
  blkRows_tidy r.blk w (List.mem_of_find?_eq_some h)

/-! ## The write of a register -/

theorem Device.regWrite_plain (d : Device) {w : Nat} {r : Reg} {row : RegRow} (set : Nat) {v : Nat}
    (hrow : findRow r = some row) (hv : v < 2 ^ 32) (hspecial : d.special w r row v = none) :
    d.regWrite w r set v = d.plainWrite r row set v := by
  simp only [Device.regWrite, hrow, Nat.mod_eq_of_lt hv, hspecial, Option.getD_none]

/-- A record of a reserved encoding, or none, leaves the registers outside ERR, the queues and memory. -/
theorem Device.doIf_reservedEnc_frame (d : Device) (c : Bool) (r : Reg) (v : Nat) :
    let e := d.doIf c fun z => z.reservedEnc r v
    (∀ x : Reg, x.blk ≠ .err → e.rd x = d.rd x) ∧ e.que = d.que ∧ e.mem = d.mem := by
  cases c with
  | false => exact ⟨fun _ _ => rfl, rfl, rfl⟩
  | true => exact ⟨fun x hx => Device.slag_rd _ _ _ _ _ _ hx, Device.slag_que .., Device.slag_mem ..⟩

section
variable (d : Device) {r : Reg} (row : RegRow) (set : Nat) {v : Nat} (hcross : ∀ x, crossBad r x = [])
  (hrange : d.outOfRange r v = false)
include hcross hrange

/-- A plain write of a value that lies in its range and breaks no rule between fields. -/
theorem Device.plainWrite_eq : d.plainWrite r row set v =
    let x := row.fields.foldl (fun a f => f.write (d.locked r) set v a) (d.rdN r, false)
    (d.wrN r x.1).doIf x.2 fun e => e.reservedEnc r v := by
  simp [Device.plainWrite, hcross, hrange]

/-- A plain write changes the register it names, and beside it the slag log and the registers of ERR alone. -/
theorem Device.plainWrite_frame :
    (∀ x : Reg, x ≠ r → x.blk ≠ .err → (d.plainWrite r row set v).rd x = d.rd x) ∧
      (d.plainWrite r row set v).que = d.que ∧ (d.plainWrite r row set v).mem = d.mem := by
  rw [d.plainWrite_eq row set hcross hrange]
  obtain ⟨hrd, hque, hmem⟩ := Device.doIf_reservedEnc_frame _ _ _ _
  exact ⟨fun x hne hx => (hrd x hx).trans (d.rd_wrN_ne _ hne), hque, hmem⟩

/-- A plain write leaves each field as its access code says. -/
theorem Device.plainWrite_fld (hrow : row.tidy) (herr : r.blk ≠ .err) {f : FieldRow} (hf : f ∈ row.fields) :
    (d.plainWrite r row set v).fld r f.lo f.w = f.after (d.locked r) set v (d.fld r f.lo f.w) := by
  obtain ⟨hapart, hwide⟩ := hrow
  rw [d.plainWrite_eq row set hcross hrange]
  obtain ⟨hrd, -, -⟩ := Device.doIf_reservedEnc_frame _ _ _ _
  rw [Device.fld, Device.rdN, hrd r herr, ← Device.rdN, Device.rdN_wrN_same, bitsOf_mod_two_pow _ (hwide f hf)]
  exact foldl_write_field row.fields _ set v _ hapart hf

/-- A plain write that a field refuses leaves the RESERVED_ENC record (R9). -/
theorem Device.plainWrite_newest {f : FieldRow} (hf : f ∈ row.fields) (hbad : f.refuses (d.locked r) v = true) :
    Claims.NewestIs (d.plainWrite r row set v) (blkNum r.blk) codeReservedEnc noUnit := by
  have hany : (row.fields.any fun g => g.refuses (d.locked r) v) = true := List.any_eq_true.mpr ⟨f, hf, hbad⟩
  rw [d.plainWrite_eq row set hcross hrange]
  simp only [foldl_write_refuses, hany, Bool.or_true]
  exact Device.slag_newest ..

end

/-- Settles O9: a plain write is the fold of the writes of its fields, which the register tables keep apart. -/
theorem registerWritesFollowTheAccessCodes : Obligations.RegisterWritesFollowTheAccessCodes := by
  intro s r row set v hoff hal hrow hv hspecial hrange hcross herr
  refine Completes.registerWrite hoff hal (Option.isSome_of_eq_some hrow) hv ?_
  rw [s.dev.regWrite_plain set hrow hv hspecial]
  refine ⟨fun f hf => ?_, s.dev.plainWrite_frame row set hcross hrange⟩
  simp only [s.dev.plainWrite_fld row set hcross hrange (findRow_tidy hrow) herr hf]
  exact ⟨fun h => FieldRow.after_of_writable h .., fun h => FieldRow.after_of_kept h ..,
    fun h _ hi => FieldRow.bitOf_after_of_w1c h _ _ _ _ hi, fun h => FieldRow.after_of_w1s h ..,
    fun h hbad => s.dev.plainWrite_newest row set hcross hrange hf (FieldRow.refuses_of_writable h hbad)⟩

end Sys2Proof.Machine
end

section
/-!
PROOFS. RC registers and 64-bit pairs (R11, R12), and the device at reset.
-/
namespace Sys2Proof.Machine

/-! ## Reads -/

/-- A word that is read goes out on the bus whole. -/
theorem Device.onBus_bus (v : Word) (d : Device) : (Device.onBus (v.toNat, d)).bus = v := by
  simp [Device.onBus]

section
variable (d : Device) {r : Reg} (w set : Nat)

theorem Device.regRead_of_isRc (h : isRc r = true) : d.regRead 0 r set = (d.rdN r, d.wrN r set) := by
  simp [Device.regRead, Device.rcRead, h]

theorem Device.regRead_of_isLow (hlow : isLow r = true) (hrc : isRc r = false) :
    d.regRead w r set = d.lowRead w r := by
  simp [Device.regRead, hrc, hlow]

theorem Device.regRead_of_isHigh (hhigh : isHigh r = true) (hlow : isLow r = false) (hrc : isRc r = false) :
    d.regRead w r set = d.highRead w r := by
  simp [Device.regRead, hrc, hlow, hhigh]

theorem Device.highRead_of_latched {v : Word} (h : Tab.find d.hiLatch (readerKey w r) = some v) :
    d.highRead w r = (v.toNat, { d with hiLatch := Tab.del d.hiLatch (readerKey w r) }) := by
  simp [Device.highRead, h]

end

/-! ## Pairs -/

/-- The high word of the pair whose low word is `r`. -/
def Reg.high (r : Reg) : Reg := ⟨r.blk, r.off + 4⟩

theorem isHigh_high {r : Reg} (h : isLow r = true) : isHigh r.high = true := by
  simp [isHigh, Reg.high, h]

/-- A low word is 8-aligned, or 4 past an 8-aligned offset in the MAC blocks, so its high word lies in its block. -/
theorem high_off_lt {r : Reg} (h : isLow r = true) (hoff : r.off < 0x10000) : r.high.off < 0x10000 := by
  obtain ⟨b, o⟩ := r
  cases b <;> simp [isLow, Reg.high] at h hoff ⊢ <;> omega

/-- A write of either word of a GNS pair is a write of the pair (R12, R52). -/
theorem Device.regWrite_gns_pair (d : Device) (w : Nat) {r : Reg} (set : Nat) {v : Nat} (hblk : r.blk = .gns)
    (hrow : (findRow r).isSome = true) (hpair : isLow r = true ∨ isHigh r = true) (hv : v < 2 ^ 32) :
    d.regWrite w r set v = d.pairWrite w r v := by
  obtain ⟨row, hrow⟩ := Option.isSome_iff_exists.mp hrow
  have hcmd : r.off ≠ 0x38 := by
    obtain ⟨b, o⟩ := r
    obtain rfl : b = .gns := hblk
    rintro rfl
    simp [isHigh, isLow] at hpair
  rw [Device.regWrite, hrow, Nat.mod_eq_of_lt hv]
  simp [Device.special, hblk, hcmd, hpair]

theorem Device.pairWrite_of_isLow (d : Device) (w v : Nat) {r : Reg} (h : isLow r = true) :
    d.pairWrite w r v = { d with loHeld := Tab.put d.loHeld (readerKey w r) (BitVec.ofNat 32 v) } := by
  simp [Device.pairWrite, h]

/-- The write of a high word whose low word is held sets both words. -/
theorem Device.pairWrite_high (d : Device) (w : Nat) {v : Nat} {r : Reg} {lo : Word} (hlow : isLow r.high = false)
    (hheld : Tab.find d.loHeld (readerKey w r) = some lo) :
    d.pairWrite w r.high v =
      { (d.wrN r.high v).wr r lo with loHeld := Tab.del d.loHeld (readerKey w r) } := by
  simp [Device.pairWrite, hlow, show (⟨r.high.blk, r.high.off - 4⟩ : Reg) = r from rfl, hheld]

theorem isLow_high_of_gns {r : Reg} (hblk : r.blk = .gns) (h : isLow r = true) : isLow r.high = false := by
  obtain ⟨b, o⟩ := r
  obtain rfl : b = .gns := hblk
  simp only [isLow, Reg.high, Bool.or_eq_true, decide_eq_true_eq] at h ⊢
  rcases h with (rfl | rfl) | rfl <;> rfl

theorem Reg.high_ne (r : Reg) : r.high ≠ r := by
  intro h
  have := congrArg Reg.off h
  simp [Reg.high] at this

/-- Settles O10: an RC register reads its stored word and keeps what is set; the words of a pair pass through the latch of
the high word and the held low word. -/
theorem readingClearsAndPairsLatch : Obligations.ReadingClearsAndPairsLatch := by
  intro s r hoff hal hrow
  refine ⟨fun set hrc => ?_, fun hlow hrc hrowHigh => ?_⟩
  · refine Completes.rcRead hoff hal hrow ?_
    rw [s.dev.regRead_of_isRc set hrc]
    exact ⟨Device.onBus_bus _ _, s.dev.rdN_wrN_same r set, fun x hx => s.dev.rd_wrN_ne set hx⟩
  have hoffHigh : r.high.off < 0x10000 := high_off_lt hlow hoff
  have halHigh : r.high.off % 4 = 0 := by
    simp only [Reg.high]
    omega
  refine ⟨?_, fun v hlatch hlowHigh hrcHigh => ?_, fun hblk v hv => ⟨?_, fun lo hheld => ?_⟩⟩
  · refine Completes.lowWordRead hoff hal hrow ?_
    rw [s.dev.regRead_of_isLow 0 0 hlow hrc]
    exact ⟨rfl, Tab.find_put_self _ _ _, rfl⟩
  · refine Completes.rcRead (r := r.high) hoffHigh halHigh hrowHigh ?_
    rw [s.dev.regRead_of_isHigh 0 0 (isHigh_high hlow) hlowHigh hrcHigh, s.dev.highRead_of_latched (r := r.high) 0 hlatch]
    exact ⟨Device.onBus_bus _ _, rfl⟩
  · refine Completes.registerWrite hoff hal hrow hv ?_
    rw [s.dev.regWrite_gns_pair 0 0 hblk hrow (.inl hlow) hv, Device.pairWrite_of_isLow _ _ _ hlow]
    exact ⟨rfl, Tab.find_put_self _ _ _⟩
  · refine Completes.registerWrite (r := r.high) hoffHigh halHigh hrowHigh hv ?_
    rw [s.dev.regWrite_gns_pair 0 0 (r := r.high) hblk hrowHigh (.inr (isHigh_high hlow)) hv,
      s.dev.pairWrite_high 0 (isLow_high_of_gns hblk hlow) hheld]
    refine ⟨Device.rd_wr_same _ r lo, ?_⟩
    calc ((s.dev.wrN r.high v).wr r lo).rdN r.high
        = (s.dev.wrN r.high v).rdN r.high := congrArg BitVec.toNat (Device.rd_wr_ne _ lo r.high_ne)
      _ = v := by rw [Device.rdN_wrN_same, Nat.mod_eq_of_lt hv]

/-! ## Reset -/

/-- No block of the register file lists a register at reset. -/
theorem tabOf_reset (b : Blk) : tabOf RegFile.reset b = [] := by
  cases b <;> rfl

/-- Every register reads the reset value of its register table at reset. -/
theorem reset_rd (r : Reg) : State.reset.dev.rd r = regReset r := by
  rw [Device.rd, show State.reset.dev.regs = RegFile.reset from rfl, tabOf_reset]
  rfl

/-- Settles O5: at reset the queue of commands, memory and every table of the device list nothing, so each entry reads as
an unlisted one. -/
theorem resetMeetsTheInvariants : Obligations.ResetMeetsTheInvariants :=
  ⟨rfl, rfl, reset_mem_wf, rfl, reset_rd, fun _ => rfl, fun _ => rfl, fun _ => rfl, rfl, rfl⟩

end Sys2Proof.Machine
end

section
/-!
PROOFS. Fields and bits of a register after a write, and which registers the shared operations leave (R8, R326, R516).
-/
namespace Sys2Proof.Machine

/-! ## Fields of a register -/

theorem Device.fld_wfld_same (d : Device) (r : Reg) {lo w : Nat} (v : Nat) (h : lo + w ≤ 32) :
    (d.wfld r lo w v).fld r lo w = v % 2 ^ w := by
  rw [Device.fld, Device.wfld, Device.rdN_wrN_same, bitsOf_mod_two_pow _ h, bitsOf_setBits_same]

/-- Writing a field leaves the fields of its register that are apart from it. -/
theorem Device.fld_wfld_apart (d : Device) (r : Reg) {lo w lo' w' : Nat} (v : Nat) (h : lo' + w' ≤ 32)
    (hapart : lo + w ≤ lo' ∨ lo' + w' ≤ lo) : (d.wfld r lo w v).fld r lo' w' = d.fld r lo' w' := by
  rw [Device.fld, Device.wfld, Device.rdN_wrN_same, bitsOf_mod_two_pow _ h, bitsOf_setBits_apart _ _ _ _ hapart]
  rfl

theorem Device.bit_raise_same (d : Device) (r : Reg) {i : Nat} (h : i < 32) : (d.raise r i).bit r i = true := by
  rw [Device.bit, Device.raise, Device.wbit, Device.wfld, Device.rdN_wrN_same, bitOf_eq_testBit,
    Nat.testBit_mod_two_pow, testBit_setBits]
  simp [h, b2n]

theorem Device.bit_of_rd_eq {d e : Device} {r : Reg} (h : e.rd r = d.rd r) (i : Nat) : e.bit r i = d.bit r i := by
  simp only [Device.bit, Device.rdN, h]

theorem Device.fld_of_rd_eq {d e : Device} {r : Reg} (h : e.rd r = d.rd r) (lo w : Nat) :
    e.fld r lo w = d.fld r lo w := by
  simp only [Device.fld, Device.rdN, h]

/-! ## Registers that an operation leaves -/

theorem Device.rd_wfld_ne (d : Device) {r x : Reg} (lo w v : Nat) (h : x ≠ r) : (d.wfld r lo w v).rd x = d.rd x :=
  d.rd_wrN_ne _ h

theorem Device.rd_raiseIf_ne (d : Device) (c : Bool) {r x : Reg} (i : Nat) (h : x ≠ r) :
    (d.raiseIf c r i).rd x = d.rd x := by
  cases c with
  | false => rfl
  | true => exact d.rd_raise_ne i h

/-- Registers of different blocks differ. -/
theorem Reg.ne_of_blk {x r : Reg} (h : x.blk ≠ r.blk) : x ≠ r := ne_of_apply_ne Reg.blk h

@[simp] theorem Device.slag_gns (d : Device) (b c u o : Nat) (x : Bytes) : (d.slag b c u o x).gns = d.gns := by
  obtain ⟨r, l, h⟩ := d.slag_only b c u o x
  rw [h]

@[simp] theorem Device.hwPush_gns (d : Device) (n : Nat) (b : Bytes) : (d.hwPush n b).gns = d.gns := by
  obtain ⟨r, q, h⟩ := d.hwPush_only n b
  rw [h]

section
variable (d : Device) (n : Nat) {x : Reg} (hx : x.blk ≠ .que)
include hx

/-- Spare granules leave every register outside QUE. -/
theorem Device.respare_rd (k len : Nat) : (d.respare n k len).rd x = d.rd x := by
  have hstat : x ≠ QUE_INT_STAT := Reg.ne_of_blk hx
  have hspare : x ≠ QUE_SPARE := Reg.ne_of_blk hx
  unfold Device.respare
  dsimp only
  split
  · rfl
  · exact (Device.rd_raiseIf_ne _ _ _ hstat).trans (Device.rd_wfld_ne _ _ _ _ hspare)

/-- Packets that become visible leave every register outside QUE. -/
theorem Device.show_rd (ps : List Packet) : (d.show n ps).rd x = d.rd x := by
  have hstat : x ≠ QUE_INT_STAT := Reg.ne_of_blk hx
  have hlevel : x ≠ QUE_LVL_STAT (n / 32) := Reg.ne_of_blk hx
  unfold Device.show Device.levelEvent Device.doIf
  dsimp only
  split
  · exact (Device.rd_raise_ne _ _ hstat).trans (Device.rd_raise_ne _ _ hlevel)
  · rfl

/-- A hardware producer leaves every register outside QUE. -/
theorem Device.hwPush_rd (b : Bytes) : (d.hwPush n b).rd x = d.rd x := by
  have hstat : x ≠ QUE_INT_STAT := Reg.ne_of_blk hx
  unfold Device.hwPush
  dsimp only
  split
  · exact (Device.show_rd _ n hx _).trans (d.respare_rd n hx _ _)
  · exact Device.rd_raise_ne _ _ hstat

end
end Sys2Proof.Machine
end

section
/-!
PROOFS. The GNSS engine (R31 to R33, R45, R46): the channels that an epoch assigns and what GNS_STAT counts of them,
signals found, displaced ports, and the end of the spoof alarm.
-/
namespace Sys2Proof.Machine

/-! ## The channels and their count

Once an epoch has assigned its channels and written their count, each of its later steps leaves both. -/

/-- The assigned channels, and the channel count of GNS_STAT (R31, R52). -/
def Device.channels (d : Device) : List (Nat × Nat × Nat) × Nat := (d.gns.chans, d.fld GNS_STAT 5 11)

theorem Device.channels_eq_of {d e : Device} (hchans : e.gns.chans = d.gns.chans)
    (hstat : e.rd GNS_STAT = d.rd GNS_STAT) : e.channels = d.channels := by
  rw [Device.channels, Device.channels, hchans, Device.fld_of_rd_eq hstat]

theorem Device.wfld_channels (d : Device) (lo w v : Nat) (h : lo + w ≤ 5 ∨ 16 ≤ lo) :
    (d.wfld GNS_STAT lo w v).channels = d.channels := by
  rw [Device.channels, Device.fld_wfld_apart _ _ _ (by omega) (by omega)]
  rfl

/-- The count of the assigned channels goes to GNS_STAT whole. -/
theorem Device.countChannels_channels {d : Device} {trk : List Sig} (hchans : d.gns.chans = trk.map sigKey)
    (hlen : trk.length ≤ 1024) :
    (d.wfld GNS_STAT 5 11 trk.length).channels = (trk.map sigKey, trk.length) := by
  rw [Device.channels, Device.wfld_gns, hchans, Device.fld_wfld_same _ _ _ (by omega), Nat.mod_eq_of_lt (by omega)]

theorem Device.fix_channels (d : Device) (p : Option Ecef) :
    ({ d with gns := { d.gns with fix := p } } : Device).channels = d.channels := rfl

theorem Device.slagB_channels (d : Device) (code unit : Nat) (ctx : Bytes) :
    (d.slagB .gns code unit ctx).channels = d.channels :=
  Device.channels_eq_of (congrArg _ (d.slag_gns ..)) (d.slag_rd _ _ _ _ _ (by decide))

theorem Device.raise_gns_int_channels (d : Device) (i : Nat) : (d.raise GNS_INT_STAT i).channels = d.channels :=
  Device.channels_eq_of rfl (d.rd_raise_ne i (by decide))

theorem Device.refCheck_channels (d : Device) : d.refCheck.channels = d.channels := by
  unfold Device.refCheck
  split
  · dsimp only
    split
    · exact (Device.slagB_channels ..).trans (Device.raise_gns_int_channels ..)
    · rfl
  · rfl

theorem Device.keepBase_channels (d : Device) (o : EpochObs) (t : Nat) (vs : List (Sig × Bool × Bool)) :
    (d.keepBase o t vs).channels = d.channels := by
  unfold Device.keepBase
  split <;> rfl

theorem Device.epochPacket_channels (d : Device) (o : EpochObs) (t : Nat) (vs : List (Sig × Bool × Bool)) :
    (d.epochPacket o t vs).channels = d.channels := by
  unfold Device.epochPacket
  dsimp only
  split
  · exact (Device.keepBase_channels ..).trans
      (Device.channels_eq_of (congrArg _ (d.hwPush_gns ..)) (d.hwPush_rd 64 (by decide) _))
  · calc _ = ((d.dropPkt 64).count GNS_DROP_CNT).channels :=
          (Device.slagB_channels ..).trans (Device.raise_gns_int_channels ..)
      _ = d.channels := Device.channels_eq_of rfl (Device.rd_count_ne _ (by decide))

/-- The note of a good epoch changes the time block alone. -/
theorem Device.noteGood_only (d : Device) (n : Nat) : ∃ t, d.noteGood n = { d with tim := t } := by
  obtain ⟨t, ht⟩ : ∃ t, (if 4 ≤ n then ({ d with tim := { d.tim with lastGood := d.upNs } } : Device) else d) =
      { d with tim := t } := by
    split <;> exact ⟨_, rfl⟩
  simp only [Device.noteGood, ht]
  split
  · exact ⟨_, rfl⟩
  · split <;> exact ⟨_, rfl⟩

theorem Device.noteGood_channels (d : Device) (n : Nat) : (d.noteGood n).channels = d.channels := by
  obtain ⟨t, h⟩ := d.noteGood_only n
  rw [h]
  rfl

theorem Device.surveyCount_channels (d : Device) (hz good : Nat) (sigma : Nat × Nat) :
    (d.surveyCount hz good sigma).channels = d.channels := by
  unfold Device.surveyCount
  split
  · exact Device.channels_eq_of rfl (Device.rd_wrN_ne _ _ (by decide))
  · rfl

/-- The discipline of TB0 changes TIM_RESID, the time block and the drift record alone. -/
theorem Device.discipline_only (d : Device) (x : Int) (hz : Nat) :
    ∃ t a, d.discipline x hz = { d.wrN TIM_RESID (ofSigned 32 x) with tim := t, age := a } := by
  unfold Device.discipline
  dsimp only
  split
  · exact ⟨_, _, rfl⟩
  · split
    · exact ⟨_, _, rfl⟩
    · split <;> exact ⟨_, _, rfl⟩

theorem Device.discipline_channels (d : Device) (x : Int) (hz : Nat) : (d.discipline x hz).channels = d.channels := by
  obtain ⟨t, a, h⟩ := d.discipline_only x hz
  rw [h]
  exact Device.channels_eq_of rfl (d.rd_wrN_ne (x := GNS_STAT) _ (by decide))

/-! ## An epoch -/

theorem Device.assign_length_le (d : Device) (l : List Sig) : (d.assign l).length ≤ 1024 :=
  List.length_take_le _ _

theorem Device.spoofCount_chans (d : Device) (n : Nat) : (d.spoofCount n).gns.chans = d.gns.chans := by
  unfold Device.spoofCount
  dsimp only
  split
  · split
    · rfl
    · rw [Device.slagB, Device.slag_gns]
      rfl
  · split <;> rfl

/-- An epoch of a running engine assigns at most 1,024 signals their channels, and GNS_STAT counts them. -/
theorem Device.epoch_channels (d : Device) (o : EpochObs) (hon : d.gnsOn = true) :
    ∃ trk : List Sig, trk.length ≤ 1024 ∧ (d.epoch o).channels = (trk.map sigKey, trk.length) := by
  unfold Device.epoch
  rw [if_neg fun hoff => hoff hon]
  extract_lets hz per cur now at_ trk full ints vs spoofed mpRef newMp _ assigned spoofs disp sick good admitted tracked
    counted cfg _ fixed packet noted surveyed
  have hlen : trk.length ≤ 1024 := Device.assign_length_le ..
  have hchans : disp.gns.chans = trk.map sigKey :=
    calc disp.gns.chans
      _ = (assigned.raiseIf newMp GNS_INT_STAT 1).gns.chans := Device.spoofCount_chans ..
      _ = assigned.gns.chans := congrArg Gnss.chans (Device.raiseIf_gns ..)
  clear_value disp
  refine ⟨trk, hlen, ?_⟩
  have hsurveyed : surveyed.channels = (trk.map sigKey, trk.length) :=
    calc surveyed.channels
      _ = noted.channels := Device.surveyCount_channels ..
      _ = packet.channels := Device.noteGood_channels ..
      _ = fixed.refCheck.channels := Device.epochPacket_channels ..
      _ = fixed.channels := Device.refCheck_channels ..
      _ = cfg.channels := Device.fix_channels ..
      _ = counted.channels := Device.wfld_channels _ _ _ _ (by omega)
      _ = (disp.wfld GNS_STAT 5 11 trk.length).channels := Device.wfld_channels _ _ _ _ (by omega)
      _ = (trk.map sigKey, trk.length) := Device.countChannels_channels hchans hlen
  split
  · split
    · exact (Device.discipline_channels ..).trans hsurveyed
    · exact hsurveyed
  · exact hsurveyed

/-! ## The commands -/

theorem exec_measurementEpoch (o : EpochObs) (s : State) :
    exec (.measurementEpoch o) s = .next { s with dev := s.dev.epoch o } := rfl

theorem exec_signalAcquired (p code sat : Nat) (s : State) :
    exec (.signalAcquired p code sat) s = execSignalAcquired p code sat s := rfl

theorem exec_portDisplaced (p : Nat) (s : State) : exec (.portDisplaced p) s = execPortDisplaced p s := rfl

theorem exec_spoofAlarmClear (s : State) : exec .spoofAlarmClear s = execSpoofAlarmClear s := rfl

/-- Settles O37: an epoch assigns its channels, writes their count, and leaves both in all it does after; each of the
other commands meets its condition. -/
theorem gnssCommandsActOnTheEngine : Obligations.GnssCommandsActOnTheEngine := by
  intro s
  refine ⟨fun o hon => ?_, fun p code sat hon hnew => ?_, fun p hp hepochs hports hdisp => ?_, fun halarm hquiet => ?_⟩
  · obtain ⟨trk, hlen, hch⟩ := s.dev.epoch_channels o hon
    obtain ⟨hchans, hcount⟩ := Prod.mk.inj hch
    refine Completes.of_exec (exec_measurementEpoch o s) ?_
    rw [hchans, hcount, List.length_map]
    exact ⟨hlen, rfl⟩
  · refine Completes.of_exec ?_ rfl
    rw [exec_signalAcquired, execSignalAcquired, if_pos ⟨hon, by simp only [hnew]; decide⟩]
  · refine Completes.of_exec (d := s.dev.raise GNS_INT_STAT (2 + p)) ?_
      ⟨s.dev.bit_raise_same _ (by omega), rfl, rfl⟩
    rw [exec_portDisplaced, execPortDisplaced, if_pos ⟨hepochs, hports, hp, by simp only [hdisp]; decide⟩]
  · refine Completes.of_exec ?_ rfl
    rw [exec_spoofAlarmClear, execSpoofAlarmClear, if_pos ⟨halarm, hquiet⟩]

end Sys2Proof.Machine
end

section
/-!
PROOFS. The reference position and the survey (R48 to R51).
-/
namespace Sys2Proof.Machine

/-! ## The check against the fix (R49) -/

/-- The squared distance of two positions. -/
def Ecef.dist2 (f p : Ecef) : Nat :=
  ((f.x - p.x) * (f.x - p.x) + (f.y - p.y) * (f.y - p.y) + (f.z - p.z) * (f.z - p.z)).toNat

/-- The distance from the fix that a position may have. -/
def Device.refLimit (d : Device) : Nat := d.fld GNS_INT_CFG 16 7 * 10000

/-- The device with the check of its position done. -/
def Device.refChecked (d : Device) : Device := { d with gns := { d.gns with check := false } }

/-- The device with the check of its position done and the position refused. -/
def Device.refRejected (d : Device) : Device :=
  ({ d with gns := { d.gns with check := false, refState := 0 } } : Device).raise GNS_INT_STAT 7

section
variable {d : Device} {f : Ecef} (hcheck : d.gns.check = true) (hfix : d.gns.fix = some f)
include hcheck hfix

theorem Device.refCheck_eq : d.refCheck =
    if d.refLimit * d.refLimit < Ecef.dist2 f d.gns.pos then
      d.refRejected.slagB .gns 0x0103 noUnit (leBytes 4 (holdAt 0xFFFFFFFF (isqrt (Ecef.dist2 f d.gns.pos) / 10000)))
    else d.refChecked := by
  unfold Device.refCheck
  split
  · next g _ hg =>
    obtain rfl : f = g := Option.some.inj (hfix.symm.trans hg)
    rfl
  · next hno => exact absurd hfix (hno f hcheck)

theorem Device.refCheck_of_near (h : Ecef.dist2 f d.gns.pos ≤ d.refLimit * d.refLimit) :
    d.refCheck = d.refChecked := by
  rw [Device.refCheck_eq hcheck hfix, if_neg (Nat.not_lt.mpr h)]

/-- A position beyond the limit leaves STATE NONE, GNS_INT_STAT bit 7 and a fault record. -/
theorem Device.refCheck_of_far (h : d.refLimit * d.refLimit < Ecef.dist2 f d.gns.pos) :
    ∃ ctx, d.refCheck = d.refRejected.slagB .gns 0x0103 noUnit ctx := by
  rw [Device.refCheck_eq hcheck hfix, if_pos h]
  exact ⟨_, rfl⟩

end

/-! ## LOAD and the survey -/

theorem Device.surveyAbort_of_survey {d : Device} (h : d.gns.survey = true) : d.surveyAbort = d.surveyEnd 2 := if_pos h

/-- Whether a survey ran or not, after an abort none runs, and the registers and the active position are as they were. -/
theorem Device.surveyAbort_leaves (d : Device) :
    d.surveyAbort.gns.survey = false ∧ d.surveyAbort.regs = d.regs ∧ d.surveyAbort.gns.pos = d.gns.pos := by
  unfold Device.surveyAbort
  split
  · exact ⟨rfl, rfl, rfl⟩
  · next h => split <;> exact ⟨(Bool.not_eq_true _).mp h, rfl, rfl⟩

theorem Device.refWritten_of_regs_eq {d e : Device} (h : e.regs = d.regs) : e.refWritten = d.refWritten := by
  simp only [Device.refWritten, Device.rdN, Device.rd_of_regs_eq h]

/-- What a survey begins with (R50); that GNS_SURVEY_SIGMA then reads 0xFFFF_FFFF is a choice of the model. -/
theorem Device.surveyStart_of_idle {d : Device} (h : d.gns.survey = false) :
    d.surveyStart = ({ d with gns := { d.gns with
      survey := true, before := d.gns.refState, refState := 1, counted := 0, late := false } } : Device).wrN
        GNS_SURVEY_SIGMA 0xFFFFFFFF := by
  simp [Device.surveyStart, h]

theorem Device.loadTakes_of_none {d : Device} (h : d.gns.load = none) : d.loadTakes = d := by
  simp only [Device.loadTakes, h]

/-! ## The commands -/

theorem exec_load (s : State) : exec .load s = .next { s with dev := s.dev.refLoad } := rfl

theorem exec_refPositionCheck (s : State) : exec .refPositionCheck s = .next { s with dev := s.dev.refCheck } := rfl

theorem exec_surveyStart (s : State) : exec .surveyStart s = .next { s with dev := s.dev.surveyStart } := rfl

theorem exec_surveyAbort (s : State) : exec .surveyAbort s = .next { s with dev := s.dev.surveyAbort } := rfl

theorem exec_surveyCommit (x y z : Int) (s : State) :
    exec (.surveyCommit x y z) s = execSurveyCommit x y z s := rfl

/-- The device once the result of a survey has become the active position. -/
def Device.surveyCommitted (d : Device) (p : Ecef) : Device :=
  ({ d with gns := { d.gns with
      survey := false, last := 1, pos := p, refState := 2, stored := some (p, 2) } } : Device).raise GNS_INT_STAT 9

/-- A complete survey without a LOAD at its boundary makes its result the active position (R50). -/
theorem exec_surveyCommit_of_done {s : State} (x y z : Int) (hsurvey : s.dev.gns.survey = true)
    (hdone : s.dev.surveyDone = true) (hload : s.dev.gns.load = none) :
    exec (.surveyCommit x y z) s = .next { s with dev := s.dev.surveyCommitted ⟨x, y, z⟩ } := by
  rw [exec_surveyCommit, execSurveyCommit, if_pos ⟨hsurvey, hdone⟩, Device.loadTakes_of_none]
  · rfl
  · exact hload

/-- Settles O38: LOAD and SURVEY_ABORT through the abort of a survey, REF_POSITION_CHECK on either side of the limit,
SURVEY_START and SURVEY_COMMIT by the device they leave. -/
theorem referencePositionCommandsAct : Obligations.ReferencePositionCommandsAct := by
  intro s
  obtain ⟨hidle, hregs, hpos⟩ := s.dev.surveyAbort_leaves
  refine ⟨Completes.of_exec (exec_load s) ⟨?_, hidle, fun h => ?_, hpos⟩,
    fun f hcheck hfix => ⟨fun hnear => ?_, fun hfar => ?_⟩, fun h => ?_, fun h => ?_,
    fun x y z hsurvey hdone hload => ?_⟩
  · exact congrArg some (Device.refWritten_of_regs_eq hregs)
  · exact congrArg (·.gns.last) (Device.surveyAbort_of_survey h)
  · refine Completes.of_exec (exec_refPositionCheck s) ?_
    rw [Device.refCheck_of_near hcheck hfix hnear]
    exact ⟨rfl, rfl, rfl⟩
  · obtain ⟨ctx, he⟩ := Device.refCheck_of_far hcheck hfix hfar
    refine Completes.of_exec (exec_refPositionCheck s) ?_
    rw [he, Device.slagB, Device.slag_gns, Device.bit_of_rd_eq (Device.slag_rd _ _ _ _ _ _ (by decide))]
    exact ⟨rfl, rfl, Device.bit_raise_same _ _ (by omega)⟩
  · refine Completes.of_exec (exec_surveyStart s) ?_
    rw [Device.surveyStart_of_idle h]
    exact ⟨rfl, rfl, rfl, rfl, Device.rdN_wrN_same ..⟩
  · refine Completes.of_exec (exec_surveyAbort s) ?_
    rw [Device.surveyAbort_of_survey h]
    exact ⟨rfl, rfl, rfl, rfl⟩
  · refine Completes.of_exec (exec_surveyCommit_of_done x y z hsurvey hdone hload) ⟨rfl, rfl, rfl, rfl, ?_⟩
    exact Device.bit_raise_same _ _ (by omega)

end Sys2Proof.Machine
end

section
/-!
PROOFS. Correction output (R61, R62, R69, R70): the heat's set, radio fragments, broadcast keys and announcements.
-/
namespace Sys2Proof.Machine

/-! ## The use of a key, and datagrams -/

/-- A quarantine changes the registers, the slag log and the key slots alone. -/
theorem Device.quarantine_only (d : Device) (s : Nat) :
    ∃ r l k, d.quarantine s = { d with regs := r, log := l, keys := k } := by
  have key : ∀ (e : Device), (∃ k, e = { d with keys := k }) →
      ∃ r l k, (e.raise KEY_INT_STAT 1).lasting (some KEY_LASTING) (blkNum .key) 0x0101 s (keyCtx (d.slot s)) true =
        { d with regs := r, log := l, keys := k } := by
    rintro e ⟨k, rfl⟩
    obtain ⟨r, l, h⟩ := Device.lasting_only (({ d with keys := k } : Device).raise KEY_INT_STAT 1) (some KEY_LASTING)
      (blkNum .key) 0x0101 s (keyCtx (d.slot s)) true
    exact ⟨r, l, k, h⟩
  refine key _ ?_
  split <;> exact ⟨_, rfl⟩

/-- The use of a key changes the registers, the slag log and the key slots alone. -/
theorem Device.useKey_only (d : Device) (s attr tag : Nat) :
    ∃ r l k, (d.useKey s attr tag).2 = { d with regs := r, log := l, keys := k } := by
  unfold Device.useKey
  dsimp only
  split
  · exact ⟨_, _, _, rfl⟩
  split
  · exact ⟨_, _, _, rfl⟩
  split
  · exact ⟨_, _, _, rfl⟩
  split
  · obtain ⟨r, l, h⟩ := (d.raise KEY_INT_STAT 4).slag_only (blkNum .key) 0x0102 s 0 (keyCtx (d.slot s))
    exact ⟨r, l, _, h⟩
  split
  · exact ⟨_, _, _, rfl⟩
  split
  · obtain ⟨r, l, h⟩ := (d.raise KEY_INT_STAT 0).transient_only (some KEY_TRANSIENT) (blkNum .key) 0x0101 s
      (keyCtx (d.slot s)) false
    exact ⟨r, l, _, h⟩
  · exact d.quarantine_only s

theorem Device.useKey_cor {d e : Device} {s attr tag st : Nat} (h : d.useKey s attr tag = (st, e)) : e.cor = d.cor := by
  obtain ⟨r, l, k, he⟩ := d.useKey_only s attr tag
  rw [h] at he
  rw [show e = _ from he]

theorem Device.datagram_cor (d : Device) (c : Chan) (unit cls key : Nat) (enc : Bool) (src part sub : Nat)
    (body : Bytes) : (d.datagram c unit cls key enc src part sub body).cor = d.cor := by
  unfold Device.datagram Device.nextSeq
  dsimp only
  split
  · rfl
  · split
    · next h => split at h <;> cases h; rfl
    · next h => split at h <;> cases h; rfl

@[simp] theorem Device.multicast_cor (d : Device) (group : Nat) (body : Bytes) :
    (d.multicast group body).cor = d.cor := by
  unfold Device.multicast
  split
  · rfl
  · split
    · exact d.datagram_cor ..
    · rfl

/-- A datagram goes out where the link is up and the key's sequence is not used up (R368, R371). -/
theorem Device.datagram_out {d : Device} (hup : d.netUp = true) {key : Nat}
    (hseq : Tab.getD d.hst.seqs key 0 < 0xFFFFFFFF) (c : Chan) (unit cls : Nat) (enc : Bool) (src part sub : Nat)
    (body : Bytes) :
    (d.datagram c unit cls key enc src part sub body).out = d.out ++ [⟨c, unit, cls,
      fdpHeader cls enc body.length src (Tab.getD d.hst.seqs key 0 + 1) part sub ++ body⟩] := by
  simp only [Device.datagram, hup, not_true_eq_false, if_false, Device.nextSeq, if_neg (Nat.not_le.mpr hseq)]
  rfl

/-- A multicast datagram goes out through an open gate while its key is in effect (R374, R452). -/
theorem Device.multicast_out {d : Device} {s : Nat} (hslot : d.mcastSlot = some s) (hgate : d.gate = true)
    (hup : d.netUp = true) (hseq : Tab.getD d.hst.seqs s 0 < 0xFFFFFFFF) (group : Nat) (body : Bytes) :
    (d.multicast group body).out = d.out ++ [⟨.netMulticast, group, 3,
      fdpHeader 3 false body.length 0 (Tab.getD d.hst.seqs s 0 + 1) 0 0 ++ body⟩] := by
  simp only [Device.multicast, hslot, hgate, if_true]
  exact Device.datagram_out hup hseq ..

theorem fdpHeader_length (cls : Nat) (enc : Bool) (len src seq part sub : Nat) :
    (fdpHeader cls enc len src seq part sub).length = 16 := rfl

/-! ## Loops over the device -/

/-- What every round of a loop keeps, the loop keeps. -/
theorem foldl_keeps {α β : Type} (v : Device → β) (f : Device → α → Device) (hf : ∀ d a, v (f d a) = v d) (l : List α)
    (d : Device) : v (l.foldl f d) = v d := by
  induction l generalizing d with
  | nil => rfl
  | cons a l ih => exact (ih _).trans (hf d a)

/-- What stands in `out` stays there through a loop whose rounds take nothing out of it. -/
theorem Device.mem_out_forEach {α : Type} (f : α → Device → Device) {w : Wire}
    (hf : ∀ a d, w ∈ d.out → w ∈ (f a d).out) (l : List α) {d : Device} (hd : w ∈ d.out) : w ∈ (d.forEach l f).out := by
  induction l generalizing d with
  | nil => exact hd
  | cons a l ih => exact ih (hf a d hd)

/-! ## The heat's set -/

/-- The heat whose set was built last, and the correction profile in effect: what the parts of CORRECTION_SET keep. -/
def Device.corrBuilt (d : Device) : Option Nat × Option Bytes := (d.cor.built, d.cor.prof)

theorem Device.corrBuilt_of_cor {d e : Device} (h : e.cor = d.cor) : e.corrBuilt = d.corrBuilt := by
  rw [Device.corrBuilt, Device.corrBuilt, h]

/-- The count of R56 changes the correction block alone, and there neither the heat built nor the profile. -/
theorem Device.iodCount_only (d : Device) :
    ∃ x i a, d.iodCount = { d with cor := { d.cor with seen := x, iod := i, arpHeat := a } } := by
  unfold Device.iodCount
  dsimp only
  split
  · exact ⟨_, _, _, rfl⟩
  · split <;> exact ⟨_, _, _, rfl⟩

/-- An envelope draws its tag, and changes nothing else. -/
theorem Device.envelope_only (d : Device) (heat station ix : Nat) (last held : Bool) (body : Bytes) :
    ∃ v n, d.envelope heat station ix last held body = (v, { d with freeIx := n }) := by
  unfold Device.envelope
  cases d.tmp.cinder <;> exact ⟨_, _, rfl⟩

theorem Device.envelope_cor (d : Device) (heat station ix : Nat) (last held : Bool) (body : Bytes) :
    (d.envelope heat station ix last held body).2.cor = d.cor := by
  obtain ⟨v, n, h⟩ := d.envelope_only heat station ix last held body
  rw [h]

theorem Device.corrTagFail_corrBuilt (d : Device) (slot what : Nat) :
    (d.corrTagFail slot what).corrBuilt = d.corrBuilt := by
  obtain ⟨r, l, h⟩ := Device.slag_only
    ({ d with cor := { d.cor with tagFails := holdAt 0xFFFF (d.cor.tagFails + 1) } } : Device) blkStock 0x0102 slot 0
    (leBytes 1 what)
  rw [Device.corrTagFail, h]
  rfl

/-- The link set leaves the heat built and the profile. -/
theorem Device.linkSet_corrBuilt (d : Device) (b : Bytes) (held : Bool) (tag : Nat) :
    (d.linkSet b held tag).corrBuilt = d.corrBuilt := by
  unfold Device.linkSet
  extract_lets sel msmDue msgs
  split
  · rfl
  split
  next st e hkey =>
    have huse : e.corrBuilt = d.corrBuilt := Device.corrBuilt_of_cor (Device.useKey_cor hkey)
    split
    · exact (Device.corrTagFail_corrBuilt ..).trans huse
    · refine Eq.trans ?_ huse
      refine foldl_keeps Device.corrBuilt _ (fun x i => ?_) _ e
      dsimp only
      exact Device.corrBuilt_of_cor ((Device.multicast_cor ..).trans (Device.envelope_cor ..))

/-- The radio set leaves the heat built and the profile. -/
theorem Device.radioSet_corrBuilt (d : Device) (b : Bytes) (held : Bool) :
    (d.radioSet b held).corrBuilt = d.corrBuilt := by
  unfold Device.radioSet
  dsimp only
  split
  · rfl
  · split <;> rfl

/-- The first CORRECTION_SET of a heat of a running device with a profile builds the heat's set (R61). -/
theorem Device.correctionSet_corrBuilt {d : Device} {b : Bytes} (hprof : d.cor.prof = some b)
    (hrun : d.running = true) (hnew : d.cor.built ≠ some d.heatAbs) (tag : Nat) :
    (d.correctionSet tag).corrBuilt = (some d.heatAbs, some b) := by
  obtain ⟨x, i, a, hiod⟩ := d.iodCount_only
  simp only [Device.correctionSet, hprof, hrun, hnew, hiod, not_true_eq_false, false_or, if_false]
  rw [Device.radioSet_corrBuilt, Device.linkSet_corrBuilt]
  rfl

/-! ## Radio fragments -/

/-- A fragment that may begin, under a broadcast key that answers DONE, is the port's next one, in the heat of its start
(R62). -/
theorem Device.radioFragment_of_may {s d e : Device} {r : RadioSet} {p start air tag next h n : Nat} {clear : Bool}
    (hd : s.advanceTo start = d) (hradio : d.cor.radio = some r) (hport : Tab.find r.ports p = some (next, h, n))
    (hrun : d.running = true) (hmay : d.mayFragment r p start air clear = true) (hcinder : d.tmp.cinder = false)
    (hkeys : d.corrKeys = true) (hslot : (d.slot 11).st ≠ 0) (huse : d.useKey 11 0 tag = (stDone, e)) :
    ∃ (y : Device) (k : Nat), s.radioFragment p start air clear tag = { y with cor := { y.cor with
      radio := some { r with
        ports := Tab.put r.ports p (next + 1, start / 100000000, if h = start / 100000000 then n + 1 else 1) }
      radioSets := k } } := by
  have hentry : Tab.getD r.ports p (0, 0, 0) = (next, h, n) := by rw [Tab.getD, hport, Option.getD_some]
  -- Unfolded as a function: applied, the kernel would evaluate the time jump, whose numbers are too large for it.
  generalize hf : @Device.radioFragment = f
  delta Device.radioFragment at hf
  rw [← hf]
  simp -zeta only [hd]
  simp only [hradio, hrun, hmay, hcinder, hkeys, hslot, huse, hentry, not_true_eq_false,
    Bool.false_eq_true, not_false_eq_true, true_and, or_false, if_false, ne_eq]
  exact ⟨_, _, rfl⟩

/-! ## Broadcast keys -/

@[simp] theorem Device.slot_setSlot_same (d : Device) (s : Nat) (k : KeySlot) : (d.setSlot s k).slot s = k :=
  Tab.getD_put_self ..

theorem Device.slot_setSlot_ne (d : Device) {s t : Nat} (h : t ≠ s) (k : KeySlot) : (d.setSlot s k).slot t = d.slot t :=
  Tab.getD_put_ne _ h _ _

/-- Without a key that waits in slot 12, a running device with the correction keys generates one (R69). -/
theorem Device.keyGenerateNext_of_none {d : Device} {b : Bytes} (hprof : d.cor.prof = some b) (hrun : d.running = true)
    (hkeys : d.corrKeys = true) (hnone : d.cor.nextFirst = none) :
    let e := d.loadSlot 12 d.broadcastKey
    d.keyGenerateNext =
      { e with cor := { e.cor with nextFirst := some (rollHeat d.heatAbs (uAt b 16 1)) } } := by
  simp [Device.keyGenerateNext, hprof, hrun, hkeys, hnone]

/-- The key in slot 12 takes over at its first heat (R69). -/
theorem Device.keyRoll_of_due {d : Device} {h : Nat} (hnext : d.cor.nextFirst = some h) (hrun : d.running = true)
    (hdue : h ≤ d.heatAbs) (hslot : (d.slot 12).st ≠ 0) :
    let e := (d.setSlot 11 (d.slot 12)).setSlot 12 slotEmpty
    d.keyRoll = { e with cor := { e.cor with kid := e.cor.kid % 255 + 1, kFirst := h, nextFirst := none } } := by
  simp [Device.keyRoll, hnext, hrun, Nat.not_lt.mpr hdue, hslot]

/-! ## Key announcements -/

/-- An announcement begins with its type, draws its wrapped keys and its signature, and changes nothing else (R70). -/
theorem Device.announcement_only (d : Device) (station : Nat) :
    ∃ v n, d.announcement station = (v, { d with freeIx := n }) ∧ v.head? = some 0xC2 := by
  unfold Device.announcement
  dsimp only
  split <;> exact ⟨_, _, rfl, rfl⟩

/-- What stands in `out` stays there when a frame may go out on a port. -/
theorem Device.mem_out_radioSend_if {d : Device} {w : Wire} (hw : w ∈ d.out) (c : Bool) (p prio start air kind : Nat)
    (body : Bytes) : w ∈ (if c then d.radioSend p prio start air kind body else d).out := by
  cases c with
  | false => exact hw
  | true => exact List.mem_append_left _ hw

/-- KEY_ANNOUNCEMENT in its due heat sends, after what the use of the signing key leaves, a multicast datagram that begins
with the type of a key announcement (R70). -/
theorem Device.announce_out {d e : Device} {b : Bytes} {k air tag : Nat} (hprof : d.cor.prof = some b)
    (hsign : d.corrSlot 5 0 = some k) (hrun : d.running = true) (hdue : d.heatAbs % 300 = 8)
    (hbuilt : d.cor.built = some d.heatAbs) (hkeys : d.corrKeys = true) (hkid : d.cor.kid ≠ 0)
    (hslot : (d.slot 11).st ≠ 0) (huse : d.useKey k 0 tag = (stDone, e)) (hmcast : e.mcastSlot.isSome = true)
    (hgate : e.gate = true) (hup : e.netUp = true) (hseq : ∀ x, Tab.getD e.hst.seqs x 0 < 0xFFFFFFFF) :
    ∃ w ∈ (d.announce air tag).out, w.chan = .netMulticast ∧ w.unit = corrGroup ∧
      (w.data.drop 16).head? = some 0xC2 := by
  obtain ⟨m, hm⟩ := Option.isSome_iff_exists.mp hmcast
  obtain ⟨v, n, hann, hhead⟩ := e.announcement_only (uAt b 0 2)
  have hout := Device.multicast_out (d := { e with freeIx := n }) (s := m) hm hgate hup (hseq m) corrGroup v
  simp only [Device.announce, hprof, hsign, hrun, hdue, hbuilt, hkeys, hkid, hslot, huse, hann, not_true_eq_false,
    ne_eq, or_false, if_false]
  refine ⟨⟨.netMulticast, corrGroup, 3, fdpHeader 3 false v.length 0 (Tab.getD e.hst.seqs m 0 + 1) 0 0 ++ v⟩,
    Device.mem_out_forEach _ (fun p x hx => ?_) _ ?_, rfl, rfl, ?_⟩
  · exact Device.mem_out_radioSend_if hx ..
  · rw [hout]
    exact List.mem_append_right _ (List.mem_singleton_self _)
  · rw [List.drop_left' (fdpHeader_length ..), hhead]

/-! ## The commands -/

theorem exec_correctionSet (tag : Nat) (s : State) :
    exec (.correctionSet tag) s = .next { s with dev := s.dev.correctionSet tag } := rfl

theorem exec_radioFragment (p start air : Nat) (clear : Bool) (tag : Nat) (s : State) :
    exec (.radioFragment p start air clear tag) s =
      .next { s with dev := s.dev.radioFragment p start air clear tag } := rfl

theorem exec_broadcastKeyGenerate (s : State) :
    exec .broadcastKeyGenerate s = .next { s with dev := s.dev.keyGenerateNext } := rfl

theorem exec_broadcastKeyRoll (s : State) : exec .broadcastKeyRoll s = .next { s with dev := s.dev.keyRoll } := rfl

theorem exec_keyAnnouncement (air tag : Nat) (s : State) :
    exec (.keyAnnouncement air tag) s = .next { s with dev := s.dev.announce air tag } := rfl

/-- Settles O39: the set through what its parts keep of the heat built and the profile, the fragment through the port's
next entry, the keys through the device that each command leaves, the announcement through the datagram sent. -/
theorem correctionOutputActs : Obligations.CorrectionOutputActs := by
  intro s tag
  refine ⟨fun b hprof hrun hnew => ?_,
    fun r p start air clear next h n e hradio hport hrun hmay hcinder hkeys hslot huse => ?_,
    fun b hprof hrun hkeys hnone => ?_, fun h hnext hrun hdue hslot => ?_,
    fun b k air e hprof hsign hrun hdue hbuilt hkeys hkid hslot huse hmcast hgate hup hseq => ?_⟩
  · exact Completes.of_exec (exec_correctionSet tag s)
      (Prod.mk.inj (Device.correctionSet_corrBuilt hprof hrun hnew tag))
  · refine Completes.of_exec (exec_radioFragment ..) ?_
    obtain ⟨y, k, he⟩ := Device.radioFragment_of_may rfl hradio hport hrun hmay hcinder hkeys hslot huse
    rw [he]
    simp only [Option.bind_some, Tab.find_put_self, Option.map_some]
  · refine Completes.of_exec (exec_broadcastKeyGenerate s) ?_
    rw [Device.keyGenerateNext_of_none hprof hrun hkeys hnone]
    have hkey : (s.dev.setSlot 12 s.dev.broadcastKey).slot 12 = s.dev.broadcastKey := Device.slot_setSlot_same ..
    exact ⟨congrArg KeySlot.st hkey, congrArg KeySlot.alg hkey, congrArg KeySlot.attr hkey, rfl⟩
  · refine Completes.of_exec (exec_broadcastKeyRoll s) ?_
    rw [Device.keyRoll_of_due hnext hrun hdue hslot]
    refine ⟨?_, Device.slot_setSlot_same .., rfl, rfl, rfl⟩
    exact (Device.slot_setSlot_ne _ (by decide) _).trans (Device.slot_setSlot_same ..)
  · exact Completes.of_exec (exec_keyAnnouncement air tag s)
      (Device.announce_out hprof hsign hrun hdue hbuilt hkeys hkid hslot huse hmcast hgate hup hseq)

end Sys2Proof.Machine
end

section
/-!
PROOFS. The publication of a position report whose fix state is none (R92, R93).
-/
namespace Sys2Proof.Machine

/-- A position report of machine 1 in heat 0: fix state none, and 1 mm east. -/
def noFixReport : Bytes := [0x33, 0] ++ leBytes 2 1 ++ leBytes 4 0 ++ leBytes 4 1 ++ zeros 20

/-- The datagram that carries it, from node 5 at TB0 time 0. -/
def noFixPkt : MachPkt := ⟨5, 1, true, 0, noFixReport⟩

/-- A running device that admits machine 1, of positioning path 1, as node 5, with its DECRYPT key in slot 17; the data
link runs over NET0, and Q67 is enabled. -/
def reportingDevice : Device :=
  let e := (Device.reset.wrN NET_CTRL 3).setSlot 17 { slotEmpty with st := 1, attr := 1, alg := 1 }
  let e := (e.setFes 1 [(2, 2), (4, 5), (21, 1), (22, 16)]).setNds 5 [(4, 3), (20, 1)]
  let e := e.setQ 67 { queueOff with on := true, g := 16 }
  { e with
    tim := { e.tim with heats := true }
    keys := { e.keys with rootOk := true }
    hst := { e.hst with link := [(0, true)] } }

/-- The device once the report has arrived. -/
def reportedDevice : Device := reportingDevice.posReport false noFixPkt

/-- POSITION_REPORT accepts the report: it waits for the heat's publication (R373). -/
theorem reportedDevice_reports : reportedDevice.slv.reports = [(1, noFixReport)] := by
  decide +kernel

/-- Its publication leaves 0 as the machine's east position (R92), where the report carries 1 mm. -/
theorem reportedDevice_publish_east :
    reportedDevice.publish.fe 1 48 = 0 ∧ ofSigned 32 (sAt noFixReport 8 4) = 1 := by
  decide +kernel

theorem exec_positionsPublished (s : State) :
    exec .positionsPublished s = .next { s with dev := s.dev.publish } := rfl

/-- Refutes O55: its clause of POSITIONS_PUBLISHED gives a machine the position that its report carries whatever the
report's fix state, but a report of fix state none is published with position 0 (R92). -/
theorem not_solverAndCorrectionCommandsAct : ¬ Obligations.SolverAndCorrectionCommandsAct := by
  intro h
  obtain ⟨-, -, -, -, -, -, -, -, -, hpub, -⟩ := h ⟨[], reportedDevice⟩ Device.reset Device.reset
    ⟨0, false, true, false, 0, 0, []⟩ ⟨0, 0, 0, [], 0⟩ 1 noFixPkt ⟨[], 0, 0, false, [], [], false, [], [], [], []⟩
    noFixReport
  obtain ⟨t, hexec, -, -, -, -, -, hpos⟩ := hpub (by decide +kernel) (by decide +kernel) (by decide +kernel)
    (by decide +kernel)
  obtain ⟨heast, -, -⟩ := hpos (by rw [reportedDevice_reports]; rfl) (by rw [reportedDevice_reports]; rfl)
    (by decide +kernel)
  obtain ⟨hmodel, hreport⟩ := reportedDevice_publish_east
  rw [exec_positionsPublished] at hexec
  obtain rfl := Host.Outcome.next.inj hexec
  exact absurd (hmodel.symm.trans (heast.trans hreport)) (by decide)

end Sys2Proof.Machine
end

section
/-!
PROOFS. The operations of a context on the reservation store, the governor's inputs and the dispatcher (R278 to R280):
what an operation that acts at once does when it joins its bundle, and what each engine operation then answers.
-/
namespace Sys2Proof.Machine

/-! ## What the bundle of an anvil leaves -/

@[simp] theorem Device.gains_dsp (d : Device) (i : Iss) (l : List Pend) : (d.gains i l).dsp = d.dsp := rfl

theorem Device.gains_gwr (d : Device) (i : Iss) (l : List Pend) :
    ((d.gains i l).anv i.anvil).gwr = (d.anv i.anvil).gwr := by
  simp [Device.gains]

theorem Device.withBundle_gwr (d : Device) (i : Iss) (b : Bundle) :
    ((d.withBundle i b).anv i.anvil).gwr = (d.anv i.anvil).gwr := by
  simp [Device.withBundle]

/-! ## An operation that acts at once -/

/-- An operation that is legal, raises nothing, waits for nothing, and gives its bundle nothing beyond its destinations
before it acts. -/
structure Slot.ActsOnly (s : Slot) (dsts : List (Nat × Nat)) : Prop where
  ill : s.ill = false
  dsts : s.dsts = dsts
  exc : s.exc = none
  wait : s.wait = false
  new : s.new = []
  flags : s.flags = 0
  upd : s.upd = id

theorem Bundle.join_of_actsOnly {b : Bundle} {s : Slot} {dsts : List (Nat × Nat)} (slot : Nat)
    (hs : s.ActsOnly dsts) (hfresh : dsts.any b.dests.contains = false)
    (honce : dsts.eraseDups.length = dsts.length) (hwait : b.wait = false) :
    b.join slot s true false false = b.plus slot dsts [] 0 := by
  obtain ⟨hill, hdsts, hexc, hnone, hnew, hflags, hupd⟩ := hs
  simp [Bundle.join, Bundle.plus, hill, hdsts, hexc, hnone, hnew, hflags, hupd, hfresh, honce, hwait]

section
variable {d : Device} {i : Iss} {b : Bundle} {dsts : List (Nat × Nat)}

/-- A scalar operation that joins its bundle with its guard at 1 takes its slot and acts, and its bundle gains what the
action answers. -/
theorem Device.issueS_of_actsOnly {slot : Nat} {f : Anvil → RSet → Slot} (hj : d.joins i slot dsts b)
    (hon : d.guarded i) (honce : dsts.eraseDups.length = dsts.length)
    (hs : (f (d.anv i.anvil) (d.setOf i)).ActsOnly dsts) :
    let x := (f (d.anv i.anvil) (d.setOf i)).act (d.withBundle i (b.plus slot dsts [] 0))
    d.issueS i slot f = x.2.gains i x.1 := by
  have hhaz := fun s => d.joins_hazard i slot dsts b s hj
  have hclash := d.joins_clash i slot dsts b hj
  obtain ⟨hb, hexc, hwait, hrsv, -, -⟩ := hj
  have hjoin := Bundle.join_of_actsOnly slot hs hclash honce hwait
  have hfree : (b.plus slot dsts [] 0).exc = none ∧ (b.plus slot dsts [] 0).wait = false := ⟨hexc, hwait⟩
  unfold Device.guarded at hon
  simp only [Device.setOf] at hon hjoin hhaz ⊢
  simp [Device.issueS, Device.issue, hb, hon, hhaz, hrsv, hjoin, hfree, Device.withBundle, Device.gains]

end

/-! ## The operations of a context -/

section
variable {d : Device} {i : Iss} {b : Bundle} {dst a k : Nat}

/-- An RSV operation of a context with clean sources (R145, R278): a query or a hold in the fold joins those that wait
for its end; any other is served, and its answer is the result. -/
theorem Device.rsvOp_joins (fn : Nat) (hset : i.set ≠ 0) (hon : d.guarded i) (hj : d.joins i 3 [(0, dst)] b)
    (ha : ((d.setOf i).vr a).bad % 4 = 0) (hk : ((d.setOf i).xr k).bad = false) :
    let r := d.setOf i
    let e := d.withBundle i (b.plus 3 [(0, dst)] [] 0)
    let word := (r.vr a).v.toNat % 2 ^ 128
    d.rsvOp i fn dst a k =
      if d.folding ∧ fn < 2 then
        Device.gains { e with rsv := { e.rsv with
            waits := e.rsv.waits ++ [⟨i.anvil, i.set, dst, fn, word, r.xv k⟩] } } i
          [⟨0, dst, 0, 0, 0, none⟩]
      else (e.rsvServe fn word (r.xv k)).2.gains i
        [⟨0, dst, (e.rsvServe fn word (r.xv k)).1 % 2 ^ 64, 0, 0, some (d.anv i.anvil).now⟩] := by
  intro r e word
  have hfold : e.folding = d.folding := rfl
  rw [Device.rsvOp, Device.issueS_of_actsOnly hj hon rfl
    ⟨decide_eq_false hset, rfl, by simp [ha, hk], rfl, rfl, rfl, rfl⟩]
  dsimp only
  rw [hfold]
  split <;> rfl

/-- A TASK operation of a context with clean sources (R260, R280) acts at once while the bellows is enabled. -/
theorem Device.taskOp_joins {dsts : List (Nat × Nat)} (go : RSet → Device → List Pend × Device)
    (hset : i.set ≠ 0) (hon : d.guarded i) (hj : d.joins i 3 dsts b) (honce : dsts.eraseDups.length = dsts.length)
    (ha : ((d.setOf i).xr a).bad = false) (hk : ((d.setOf i).xr k).bad = false) (hdsp : d.dspOn = true) :
    let x := go (d.setOf i) (d.withBundle i (b.plus 3 dsts [] 0))
    d.taskOp i false dsts a k go = x.2.gains i x.1 :=
  Device.issueS_of_actsOnly hj hon honce
    ⟨by simp [hset], rfl, by simp [ha, hk], by simp [hdsp], rfl, rfl, rfl⟩

theorem exec_gwr (i : Iss) (src a imm : Nat) (s : State) : exec (.gwr i src a imm) s = execGwr i src a imm s := rfl

/-- A GWR with clean sources and a value that fits, into a buffer with room (R279). -/
theorem exec_gwr_joins {s : State} {imm : Nat} (hon : s.dev.guarded i) (hj : s.dev.joins i 3 [] b)
    (hd : ((s.dev.setOf i).xr dst).bad = false) (ha : ((s.dev.setOf i).xr a).bad = false) (himm : imm < 7)
    (hmach : (s.dev.setOf i).xv a < 4096) (hval : (s.dev.setOf i).xv dst < 2 ^ (gwrField imm).2)
    (hroom : (s.dev.anv i.anvil).gwr.length < 4) :
    let e := s.dev.withBundle i (b.plus 3 [] [] 0)
    exec (.gwr i dst a imm) s = .next { s with dev := Device.gains (e.setAnv i.anvil { e.anv i.anvil with
      gwr := (e.anv i.anvil).gwr ++ [⟨(s.dev.setOf i).xv a, imm, (s.dev.setOf i).xv dst⟩] }) i [] } := by
  intro e
  rw [exec_gwr, execGwr, Device.issueS_of_actsOnly hj hon rfl
    ⟨rfl, rfl, by simp [hd, ha, himm, hmach, hval], by simp [hroom], rfl, rfl, rfl⟩]

end

/-! ## Tasks that end -/

@[simp] theorem Device.memPut_dsp (d : Device) (a : Nat) (v : Bytes) : (d.memPut a v).dsp = d.dsp := by
  unfold Device.memPut
  dsimp only
  repeat' split
  all_goals rfl

@[simp] theorem Device.memWrite_dsp (d : Device) (a : Nat) (v : Bytes) (bad : Bool) :
    (d.memWrite a v bad).dsp = d.dsp := by
  have hrun : ∀ (e : Device) (lo : Nat) (w : Bytes), (if w = [] then e else e.memPut lo w).dsp = e.dsp := by
    intro e lo w
    split
    · rfl
    · exact Device.memPut_dsp ..
  exact foldl_keeps Device.dsp _ (fun e k => hrun e _ _) _ d

@[simp] theorem Device.descLink_dsp (d : Device) (n : Nat) : (d.descLink n).2.dsp = d.dsp := by
  unfold Device.descLink
  split <;> rfl

theorem Device.setDesc_dsp (d : Device) (n : Nat) {x : Desc} (h : x.st ≠ 0) :
    (d.setDesc n x).dsp = { d.dsp with desc := Tab.put d.dsp.desc n x } := by
  simp [Device.setDesc, h]

@[simp] theorem Device.settleQ_dsp (d : Device) (n : Nat) : (d.settleQ n).dsp = d.dsp := by
  unfold Device.settleQ
  dsimp only
  split <;> rfl

@[simp] theorem Device.dropOwned_dsp (d : Device) (w : Nat) : (d.dropOwned w).dsp = d.dsp := by
  have hround : ∀ (e : Device) (n : Nat) (q : Queue) (p : Prop) [Decidable p],
      (if p then e else (e.setQ n q).settleQ n).dsp = e.dsp := by
    intro e n q p _
    split
    · rfl
    · rw [Device.settleQ_dsp, Device.setQ_dsp]
  exact foldl_keeps Device.dsp _ (fun e n => hround e n _ _) _ d

theorem Device.loadAdd_recs (d : Device) (a c : Nat) : (d.loadAdd a c).dsp.recs = d.dsp.recs := by
  unfold Device.loadAdd
  dsimp only
  split <;> rfl

theorem Device.releaseCtx_recs (d : Device) (a set : Nat) : (d.releaseCtx a set).dsp.recs = d.dsp.recs := by
  simp [Device.releaseCtx, Device.loadAdd_recs]

theorem Device.bpTest_dsp (d : Device) : d.bpTest.dsp = d.dsp := by
  unfold Device.bpTest
  dsimp only
  split
  · rfl
  · split <;> rfl

/-- A task that ends holds its status and result, and its record waits behind the others (R340). -/
theorem Device.endTask_ended (d : Device) (n status result : Nat) :
    ((d.endTask n status result).desc n).ended = some (status, result) ∧
      (d.endTask n status result).dsp.recs = d.dsp.recs ++ [n] := by
  unfold Device.endTask
  dsimp only
  split
  · split <;> simp [Device.desc, Device.setDesc_dsp, Device.releaseCtx_recs]
  · simp [Device.desc, Device.setDesc_dsp]

/-! ## The commands -/

section
variable {s : State} {i : Iss} {b : Bundle} {d a k : Nat}

theorem exec_rsv {fn : Nat} {op : Instr}
    (h : (fn, op) ∈ [(0, Instr.rsvQuery i d a k), (1, .rsvHold i d a k), (2, .rsvCommit i d a k),
      (3, .rsvAbandon i d a k)]) :
    exec op s = .next { s with dev := s.dev.rsvOp i fn d a k } := by
  simp only [List.mem_cons, Prod.mk.injEq, List.not_mem_nil, or_false] at h
  rcases h with ⟨rfl, rfl⟩ | ⟨rfl, rfl⟩ | ⟨rfl, rfl⟩ | ⟨rfl, rfl⟩ <;> rfl

theorem exec_anvilTaskPost (i : Iss) (d a k : Nat) (s : State) :
    exec (.anvilTaskPost i d a k) s = execAnvilTaskPost i d a k s := rfl

theorem exec_anvilTaskCancel (i : Iss) (d a k : Nat) (s : State) :
    exec (.anvilTaskCancel i d a k) s = execAnvilTaskCancel i d a k s := rfl

theorem exec_taskEnd (i : Iss) (d a k : Nat) (s : State) : exec (.taskEnd i d a k) s = execTaskEnd i d a k s := rfl

/-- A query or a hold in the fold completes and waits for the end of the fold (R145). -/
theorem Completes.rsv_folding {fn : Nat} {op : Instr} (hop : exec op s = .next { s with dev := s.dev.rsvOp i fn d a k })
    (hfn : fn < 2) (hset : i.set ≠ 0) (hon : s.dev.guarded i) (hj : s.dev.joins i 3 [(0, d)] b)
    (ha : ((s.dev.setOf i).vr a).bad % 4 = 0) (hk : ((s.dev.setOf i).xr k).bad = false) (hfold : s.dev.folding = true) :
    Completes op s fun t => t.rsv.waits = s.dev.rsv.waits ++
      [⟨i.anvil, i.set, d, fn, ((s.dev.setOf i).vr a).v.toNat % 2 ^ 128, (s.dev.setOf i).xv k⟩] := by
  refine Completes.of_exec hop ?_
  rw [Device.rsvOp_joins fn hset hon hj ha hk, if_pos ⟨hfold, hfn⟩]
  rfl

/-- TASK END of a running task that is not cancelled ends it DONE with the low word of x[A], and its context gains no
result (R280, R340). -/
theorem exec_taskEnd_joins {n : Nat} (hset : i.set ≠ 0) (hon : s.dev.guarded i) (hj : s.dev.joins i 3 [] b)
    (ha : ((s.dev.setOf i).xr a).bad = false) (hdsp : s.dev.dspOn = true) (htask : (s.dev.setOf i).task = some n)
    (hlive : bitOf (s.dev.desc n).flags 2 = false) :
    let e := s.dev.withBundle i (b.plus 3 [] [] 0)
    exec (.taskEnd i 0 a 0) s = .next { s with dev :=
      (e.endTask n stDone ((s.dev.setOf i).xv a % 2 ^ 32)).bpTest.gains i [] } := by
  have hdesc : (s.dev.withBundle i (b.plus 3 [] [] 0)).desc n = s.dev.desc n := rfl
  have hfields : (decide ((0 : Nat) ≠ 0) || decide ((0 : Nat) ≠ 0)) = false := rfl
  rw [exec_taskEnd, execTaskEnd, hfields, Device.taskOp_joins _ hset hon hj rfl ha rfl hdsp]
  simp only [htask, hdesc, hlive, Bool.false_eq_true, if_false]

end

/-- Settles O26: each operation joins its bundle as one that acts at once, and what it does then is its engine's own
operation on the device with that bundle. -/
theorem engineOperationsOfContextsComplete : Obligations.EngineOperationsOfContextsComplete := by
  intro s i b d a k hset hon r e word
  refine ⟨fun hj ha hk => ⟨fun fn op hop hout => ?_, ?_, ?_⟩, ?_, ?_, ?_, ?_⟩
  · have hserved : ¬ (s.dev.folding = true ∧ fn < 2) := by
      rintro ⟨hfold, hfn⟩
      rcases hout with hout | hout
      · exact Bool.noConfusion (hfold.symm.trans hout)
      · omega
    rw [exec_rsv hop, Device.rsvOp_joins fn hset hon hj ha hk, if_neg hserved]
  · exact Completes.rsv_folding rfl (by decide) hset hon hj ha hk
  · exact Completes.rsv_folding rfl (by decide) hset hon hj ha hk
  · intro imm hj hd ha himm hmach hval hroom
    refine Completes.of_exec (exec_gwr_joins hon hj hd ha himm hmach hval hroom) ⟨?_, rfl, rfl, rfl⟩
    rw [Device.gains_gwr, Device.anv_setAnv, Device.withBundle_gwr]
  · intro n f hj ha hk hdsp hpost
    rw [exec_anvilTaskPost, execAnvilTaskPost, Device.taskOp_joins _ hset hon hj rfl ha hk hdsp]
    have hdone : stDone + n * 256 = n * 256 := Nat.zero_add _
    simp only [e, r] at hpost
    simp only [hpost, if_true, hdone]
    rfl
  · intro st f hj ha hk hdsp hcancel
    rw [exec_anvilTaskCancel, execAnvilTaskCancel, Device.taskOp_joins _ hset hon hj rfl ha hk hdsp]
    simp only [e, r] at hcancel
    simp only [hcancel]
    rfl
  · intro n hj ha hdsp htask hlive
    refine Completes.of_exec (exec_taskEnd_joins hset hon hj ha hdsp htask hlive) ?_
    simp only [Device.desc, Device.gains_dsp, Device.bpTest_dsp]
    exact Device.endTask_ended _ n stDone _

end Sys2Proof.Machine
end

section
/-!
PROOFS. The fields of a machine's fleet-table entry after a write (R104, R186).
-/
namespace Sys2Proof

theorem Tab.mem_of_find {α : Type} {t : Tab α} {i : Nat} {v : α} (h : Tab.find t i = some v) : (i, v) ∈ t := by
  induction t with
  | nil => simp at h
  | cons x t ih =>
    obtain ⟨k, w⟩ := x
    by_cases hk : i = k
    · simp only [Tab.find, hk, if_true, Option.some.injEq] at h
      simp [hk, h]
    · simp only [Tab.find, hk, if_false] at h
      exact List.mem_cons_of_mem _ (ih h)

end Sys2Proof

namespace Sys2Proof.Machine

theorem recGet_recSet (r : Tab Nat) (o v i : Nat) : recGet (recSet r o v) i = if i = o then v else recGet r i := by
  unfold recGet recSet Tab.getD
  rw [Tab.find_put]
  split <;> rfl

/-- A field that a list of writes does not name stays. -/
theorem recGet_recSets_of_not_mem (l : List (Nat × Nat)) (r : Tab Nat) {i : Nat} (h : i ∉ l.map (·.1)) :
    recGet (recSets r l) i = recGet r i := by
  induction l generalizing r with
  | nil => rfl
  | cons x l ih =>
    simp only [List.map_cons, List.mem_cons, not_or] at h
    obtain ⟨hx, hl⟩ := h
    exact (ih (recSet r x.1 x.2) hl).trans (by rw [recGet_recSet, if_neg hx])

/-- A field reads as the last write to it left it. -/
theorem recGet_recSets_append (l k : List (Nat × Nat)) (r : Tab Nat) (i v : Nat) (h : i ∉ k.map (·.1)) :
    recGet (recSets r (l ++ (i, v) :: k)) i = v := by
  have hsplit : recSets r (l ++ (i, v) :: k) = recSets (recSet (recSets r l) i v) k := by
    simp [recSets, List.foldl_append]
  rw [hsplit, recGet_recSets_of_not_mem k _ h, recGet_recSet, if_pos rfl]

@[simp] theorem Device.entry_setEntry_same (d : Device) (m : Nat) (r : Tab Nat) : (d.setEntry m r).entry m = r := by
  simp [Device.entry, Device.setEntry]

theorem Device.entry_setEntry_ne (d : Device) {m n : Nat} (h : n ≠ m) (r : Tab Nat) :
    (d.setEntry m r).entry n = d.entry n := by
  simp [Device.entry, Device.setEntry, Tab.getD_put_ne _ h]

theorem Device.fe_setFes (d : Device) (m : Nat) (l : List (Nat × Nat)) (i : Nat) :
    (d.setFes m l).fe m i = recGet (recSets (d.entry m) l) i := by
  rw [Device.fe, Device.setFes, Device.entry_setEntry_same]

theorem Device.entry_of_tab_eq {d e : Device} (h : e.flt.tab = d.flt.tab) (m : Nat) : e.entry m = d.entry m := by
  simp only [Device.entry, h]

end Sys2Proof.Machine
end

section
/-!
PROOFS. A region change (R180, R186): the region that becomes current stays in byte 99 beside the cleared count.
-/
namespace Sys2Proof.Machine

/-- Clipping integrators leaves the fleet table. -/
theorem Device.clipInteg_flt (d : Device) (m : Nat) : (d.clipInteg m).2.flt = d.flt := by
  unfold Device.clipInteg
  dsimp only
  split <;> rfl

/-- A region that becomes current leaves byte 99 with its own number in bits 3 to 0 (R186). -/
theorem Device.regionCheck_pending {d : Device} {m : Nat} (hgov : d.governed m = true)
    (hcount : bitsOf (d.fe m 99) 4 2 = 3) : (d.regionCheck m).2.fe m 99 = d.fe m 99 % 16 := by
  rw [Device.regionCheck, if_pos ⟨hgov, hcount⟩, Device.fe,
    Device.entry_of_tab_eq (congrArg Fleet.tab (Device.clipInteg_flt _ m))]
  exact (Device.fe_setFes d m _ 99).trans (recGet_recSets_append [_] [] _ 99 _ (by simp))

/-- A device with machine 1 ACTIVE, whose candidate region 1 has been pending for three samples. -/
def pendingDevice : Device := Device.reset.setFes 1 [(2, 2), (99, 0x31)]

theorem exec_regionChange (m : Nat) (s : State) :
    exec (.regionChange m) s = .next { s with dev := (s.dev.regionCheck m).2 } := rfl

/-- Refutes O53: its clause of REGION_CHANGE says that byte 99 is left 0, but the candidate region stays in bits 3 to 0
of the byte, and R180 clears only the count above it: candidate 1 leaves byte 99 at 1. -/
theorem not_governorCommandsAct : ¬ Obligations.GovernorCommandsAct := by
  intro h
  obtain ⟨-, hmachine, -⟩ := h ⟨[], pendingDevice⟩ Device.reset Device.reset ⟨0, false, true, false, 0, 0, []⟩
    ⟨0, 0, 0, [], 0⟩ 1
  have hgov : pendingDevice.governed 1 = true := by decide
  have hcount : bitsOf (pendingDevice.fe 1 99) 4 2 = 3 := by decide
  obtain ⟨-, -, -, hregion, -⟩ := hmachine hgov
  obtain ⟨t, hexec, -, -, hzero, -⟩ := hregion hcount
  rw [exec_regionChange] at hexec
  obtain rfl := Host.Outcome.next.inj hexec
  exact absurd ((Device.regionCheck_pending hgov hcount).symm.trans hzero) (by decide)

end Sys2Proof.Machine
end

section
/-!
PROOFS. What the operations of a governor sample leave of the fleet table and of the stop sequencer (R168, R193, R211,
R458).
-/
namespace Sys2Proof.Machine

/-! ## Datagrams -/

/-- A datagram changes the registers, the host state and what was sent alone. -/
theorem Device.datagram_only (d : Device) (c : Chan) (unit cls key : Nat) (enc : Bool) (src part sub : Nat)
    (body : Bytes) :
    ∃ r h o, d.datagram c unit cls key enc src part sub body = { d with regs := r, hst := h, out := o } := by
  unfold Device.datagram Device.nextSeq
  dsimp only
  split
  · exact ⟨_, _, _, rfl⟩
  · split
    · next h => split at h <;> cases h; exact ⟨_, _, _, rfl⟩
    · next h => split at h <;> cases h; exact ⟨_, _, _, rfl⟩

theorem Device.multicast_flt (d : Device) (g : Nat) (body : Bytes) : (d.multicast g body).flt = d.flt := by
  unfold Device.multicast
  split
  · rfl
  · split
    · obtain ⟨r, h, o, he⟩ := d.datagram_only .netMulticast g 3 _ false 0 0 0 body
      rw [he]
    · rfl

theorem Device.toPeer_flt (d : Device) (kind : Nat) (body : Bytes) : (d.toPeer kind body).flt = d.flt := by
  unfold Device.toPeer Device.nextSeq
  dsimp only
  split
  · rfl
  · split
    · next h => split at h <;> cases h; rfl
    · next h => split at h <;> cases h; rfl

theorem Device.forEach_keeps {α β : Type} (v : Device → β) (f : α → Device → Device) (hf : ∀ a e, v (f a e) = v e)
    (l : List α) (d : Device) : v (d.forEach l f) = v d :=
  foldl_keeps v _ (fun e a => hf a e) l d

theorem Device.groupFrames_flt (d : Device) (k ns g : Nat) (ms : List Nat) : (d.groupFrames k ns g ms).flt = d.flt :=
  Device.forEach_keeps Device.flt _ (fun _ e => e.multicast_flt _ _) _ d

theorem Device.allowanceFrames_flt (d : Device) (k ns : Nat) (ms : List Nat) :
    (d.allowanceFrames k ns ms).flt = d.flt :=
  Device.forEach_keeps Device.flt _ (fun _ e => e.groupFrames_flt _ _ _ _) _ d

theorem Device.mirrorSend_flt (d : Device) (k : Nat) (skip : List Nat) : (d.mirrorSend k skip).flt = d.flt := by
  unfold Device.mirrorSend
  split
  · rfl
  · dsimp only
    exact Device.forEach_keeps Device.flt _ (fun _ e => e.toPeer_flt _ _) _ d

/-! ## Stop causes and the stop list -/

theorem Device.slag_flt (d : Device) (b c u o : Nat) (x : Bytes) : (d.slag b c u o x).flt = d.flt := by
  obtain ⟨r, l, h⟩ := d.slag_only b c u o x
  rw [h]

theorem Device.slag_stp (d : Device) (b c u o : Nat) (x : Bytes) : (d.slag b c u o x).stp = d.stp := by
  obtain ⟨r, l, h⟩ := d.slag_only b c u o x
  rw [h]

theorem Device.setPin_flt (d : Device) (p v : Nat) : (d.setPin p v).flt = d.flt := by
  unfold Device.setPin
  split <;> rfl

theorem Device.setPin_stp (d : Device) (p v : Nat) : (d.setPin p v).stp = d.stp := by
  unfold Device.setPin
  split <;> rfl

theorem Device.beginStopping_flt (d : Device) : d.beginStopping.flt = d.flt := by
  simp only [Device.beginStopping, Device.setPin_flt, Device.raiseIf_flt]

/-- STOPPING begins with the latch as it is (R195). -/
theorem Device.beginStopping_latch (d : Device) : d.beginStopping.stp.latch = d.stp.latch := by
  simp only [Device.beginStopping, Device.setPin_stp, Device.raiseIf_stp]

theorem Device.latchCause_flt (d : Device) (c : Nat) : (d.latchCause c).flt = d.flt := by
  unfold Device.latchCause
  dsimp only
  split
  · rw [Device.raiseIf_flt, Device.beginStopping_flt]
    split <;> split <;> rfl
  · split <;> split <;> rfl

/-- The latch gains the cause (R195). -/
theorem Device.latchCause_latch (d : Device) (c : Nat) : (d.latchCause c).stp.latch = setBits d.stp.latch c 1 1 := by
  unfold Device.latchCause
  dsimp only
  split
  · rw [Device.raiseIf_stp, Device.beginStopping_latch]
    split <;> split <;> rfl
  · split <;> split <;> rfl

/-- A latched cause is a fleet stop (R195). -/
theorem Device.stopState_latchCause (d : Device) (c : Nat) : stopState (d.latchCause c).stp = true := by
  have hbit : (d.latchCause c).stp.latch.testBit c = true := by simp [Device.latchCause_latch, testBit_setBits]
  have hne : (d.latchCause c).stp.latch ≠ 0 := fun hzero => by simp [hzero] at hbit
  simp only [stopState, hne, ne_eq, not_false_eq_true, decide_true, Bool.true_or]

/-- What PERMIT reads of the stop sequencer (R173): the latch, the phase and the stop list. -/
def Stop.view (s : Stop) : Nat × Nat × List StopEntry := (s.latch, s.phase, s.list)

theorem Device.permitZero_of_view_eq {d e : Device} (h : e.stp.view = d.stp.view) (m : Nat) :
    e.permitZero m = d.permitZero m := by
  obtain ⟨hlatch, hphase, hlist⟩ : e.stp.latch = d.stp.latch ∧ e.stp.phase = d.stp.phase ∧ e.stp.list = d.stp.list := by
    simpa only [Stop.view, Prod.mk.injEq] using h
  simp only [Device.permitZero, stopState, hlatch, hphase, hlist]

theorem Device.permitZero_iff (d : Device) (m : Nat) :
    d.permitZero m = true ↔ stopState d.stp = true ∨ m ∈ stopMachines d.stp.list := by
  simp only [Device.permitZero, Bool.or_eq_true, List.contains_eq_mem, decide_eq_true_eq]

theorem Device.abortAir_only (d : Device) (p lo : Nat) : ∃ a, d.abortAir p lo = { d with mac := a } := by
  unfold Device.abortAir
  dsimp only
  split
  · split <;> exact ⟨_, rfl⟩
  · exact ⟨_, rfl⟩

theorem Device.sendLive_flt (d : Device) (p : Nat) (body : Bytes) : (d.sendLive p body).flt = d.flt := rfl

theorem Device.sendLive_view (d : Device) (p : Nat) (body : Bytes) : (d.sendLive p body).stp.view = d.stp.view := rfl

theorem Device.listUpdate_flt (d : Device) : d.listUpdate.flt = d.flt := by
  refine Device.forEach_keeps Device.flt _ (fun p e => ?_) _ d
  split
  · obtain ⟨a, h⟩ := e.abortAir_only p (if d.stp.phase = 1 then 2 else 3)
    simp only [h, Device.sendLive_flt]
  · rfl

theorem Device.listUpdate_view (d : Device) : d.listUpdate.stp.view = d.stp.view := by
  refine Device.forEach_keeps (fun e => e.stp.view) _ (fun p e => ?_) _ d
  split
  · obtain ⟨a, h⟩ := e.abortAir_only p (if d.stp.phase = 1 then 2 else 3)
    simp only [h, Device.sendLive_view]
  · rfl

/-- An entry that joins the stop list leaves the fleet table (R211). -/
theorem Device.listAdd_flt (d : Device) (m cause : Nat) : (d.listAdd m cause).flt = d.flt := by
  unfold Device.listAdd
  split
  · rfl
  · split
    · rfl
    · exact d.latchCause_flt 9

/-- An entry that joins the stop list, or the OVERFLOW in its place, leaves a machine that PERMIT holds at 0 held
(R173, R211). -/
theorem Device.permitZero_listAdd {d : Device} {n : Nat} (h : d.permitZero n = true) (m cause : Nat) :
    (d.listAdd m cause).permitZero n = true := by
  rw [Device.permitZero_iff] at h ⊢
  unfold Device.listAdd
  split
  · refine h.imp_right fun hn => ?_
    have hsame : ∀ l : List StopEntry, stopMachines (l.map fun e => if e.mach = m then
        { e with causes := setBits e.causes cause 1 1 } else e) = stopMachines l := by
      intro l
      rw [stopMachines, stopMachines, List.map_map]
      exact List.map_congr_left fun e _ => by dsimp only [Function.comp]; split <;> rfl
    simpa only [hsame] using hn
  · split
    · exact h.imp_right fun hn => by simpa [stopMachines] using Or.inl hn
    · exact .inl (d.stopState_latchCause 9)

/-- Machines that join the stop list leave the fleet table (R211). -/
theorem Device.listAdds_flt (d : Device) (ms : List Nat) (cause : Nat) : (d.listAdds ms cause).flt = d.flt := by
  have hadd := Device.forEach_keeps Device.flt _ (fun m (e : Device) => e.listAdd_flt m cause) ms d
  unfold Device.listAdds
  dsimp only
  split
  · exact (Device.listUpdate_flt _).trans hadd
  · exact hadd

/-- What every round of a loop hands on, the loop hands on. -/
theorem Device.forEach_invariant {α : Type} (P : Device → Prop) (f : α → Device → Device) {l : List α}
    (hf : ∀ a ∈ l, ∀ e, P e → P (f a e)) {d : Device} (hd : P d) : P (d.forEach l f) := by
  induction l generalizing d with
  | nil => exact hd
  | cons a l ih => exact ih (fun x hx => hf x (List.mem_cons_of_mem a hx)) (hf a List.mem_cons_self d hd)

/-- Machines that join the stop list leave a machine that PERMIT holds at 0 held (R173, R211). -/
theorem Device.permitZero_listAdds {d : Device} {n : Nat} (h : d.permitZero n = true) (ms : List Nat) (cause : Nat) :
    (d.listAdds ms cause).permitZero n = true := by
  have hadd := Device.forEach_invariant (fun e => e.permitZero n = true) _
    (fun m _ e he => Device.permitZero_listAdd he m cause) (l := ms) h
  unfold Device.listAdds
  dsimp only
  split
  · exact (Device.permitZero_of_view_eq (Device.listUpdate_view _) n).trans hadd
  · exact hadd

end Sys2Proof.Machine
end

section
/-!
PROOFS. The raw allowance of eight proposals (R174).
-/
namespace Sys2Proof.Machine

/-- The loops up to code `n` give the lowest proposal, and the highest code that proposes it. -/
theorem govern_upTo (prop : List Nat) (n : Nat) :
    let a := (List.range (n + 1)).foldl (fun (a : Nat × Nat) i => if prop.getD i 0 ≤ a.1 then (prop.getD i 0, i) else a)
      (prop.getD 0 0, 0)
    a.2 < n + 1 ∧ prop.getD a.2 0 = a.1 ∧
      ∀ i, i < n + 1 → a.1 ≤ prop.getD i 0 ∧ (prop.getD i 0 = a.1 → i ≤ a.2) := by
  induction n with
  | zero => simp
  | succ n ih =>
    rw [List.range_succ, List.foldl_append, List.foldl_cons, List.foldl_nil]
    generalize (List.range (n + 1)).foldl _ _ = a at ih ⊢
    obtain ⟨hcode, hval, hleast⟩ := ih
    dsimp only
    split
    · next hle =>
      refine ⟨Nat.lt_succ_self _, rfl, fun i hi => ⟨?_, fun _ => Nat.le_of_lt_succ hi⟩⟩
      rcases Nat.lt_succ_iff_lt_or_eq.mp hi with hlt | rfl
      · exact Nat.le_trans hle (hleast i hlt).1
      · exact Nat.le_refl _
    · next hgt =>
      refine ⟨Nat.lt_succ_of_lt hcode, hval, fun i hi => ?_⟩
      rcases Nat.lt_succ_iff_lt_or_eq.mp hi with hlt | rfl
      · exact hleast i hlt
      · exact ⟨by omega, fun h => by omega⟩

/-- The raw allowance is the lowest of the eight proposals, and the highest code that proposes it governs (R174). -/
theorem govern_spec (prop : List Nat) :
    (govern prop).2 < 8 ∧ prop.getD (govern prop).2 0 = (govern prop).1 ∧
      ∀ i, i < 8 → (govern prop).1 ≤ prop.getD i 0 ∧ (prop.getD i 0 = (govern prop).1 → i ≤ (govern prop).2) :=
  govern_upTo prop 7

/-- Where the loop of the highest code proposes 0, it governs, and the raw allowance is 0 (R174). -/
theorem govern_of_permit_zero {prop : List Nat} (h : prop.getD 7 0 = 0) : govern prop = (0, 7) := by
  obtain ⟨hcode, -, hleast⟩ := govern_spec prop
  obtain ⟨hlow, htie⟩ := hleast 7 (by omega)
  have hraw : (govern prop).1 = 0 := by omega
  exact Prod.ext hraw (by have := htie (h.trans hraw.symm); dsimp only; omega)

/-- A raw allowance of 0 that PERMIT governs is sent as it is (R175). -/
theorem rateLimit_zero (prev acc dec : Nat) : rateLimit 0 prev acc dec true = 0 := by
  simp [rateLimit]

/-- PERMIT proposes 0 where it holds the machine (R173). -/
theorem Device.loops_permit {d : Device} {m : Nat} (h : d.permitZero m = true) (k : Nat) :
    (d.loops m k).prop.getD 7 0 = 0 := by
  simp only [Device.loops, List.map_map]
  rw [List.getD_eq_getElem?_getD, List.getElem?_map]
  simp [h]

end Sys2Proof.Machine
end

section
/-!
PROOFS. What the computation of one machine changes (R168, R170 to R185, R190, R191).
-/
namespace Sys2Proof.Machine

/-- `e` differs from `d` in machine `m` at most, as far as the fleet table goes, and the stop sequencer is the same. -/
structure Device.Confined (m : Nat) (d e : Device) : Prop where
  /-- The other entries stay. -/
  entry : ∀ n, n ≠ m → e.entry n = d.entry n
  /-- The stop sequencer stays. -/
  stp : e.stp = d.stp

/-- `e` keeps the entry that `d` has of machine `n`, and a PERMIT that holds it at 0. -/
structure Device.Keeps (n : Nat) (d e : Device) : Prop where
  /-- The entry stays. -/
  entry : e.entry n = d.entry n
  /-- A PERMIT of 0 stays 0. -/
  permit : d.permitZero n = true → e.permitZero n = true

section
variable {d e f : Device} {m n : Nat}

theorem Device.Confined.refl : Device.Confined m d d := ⟨fun _ _ => rfl, rfl⟩

theorem Device.Confined.trans (h : Device.Confined m d e) (h' : Device.Confined m e f) : Device.Confined m d f :=
  ⟨fun n hn => (h'.entry n hn).trans (h.entry n hn), h'.stp.trans h.stp⟩

/-- What leaves the fleet table and the stop sequencer is confined to any machine. -/
theorem Device.Confined.of_eq (htab : e.flt.tab = d.flt.tab) (hstp : e.stp = d.stp) : Device.Confined m d e :=
  ⟨fun n _ => by simp only [Device.entry, htab], hstp⟩

theorem Device.Confined.setEntry (r : Tab Nat) : Device.Confined m d (d.setEntry m r) :=
  ⟨fun _ hn => d.entry_setEntry_ne hn r, rfl⟩

theorem Device.Confined.setFes (l : List (Nat × Nat)) : Device.Confined m d (d.setFes m l) := .setEntry _

theorem Device.Confined.setFe (o v : Nat) : Device.Confined m d (d.setFe m o v) := .setEntry _

theorem Device.Confined.setGovFlag (i : Nat) (v : Bool) : Device.Confined m d (d.setGovFlag m i v) := .setEntry _

theorem Device.Confined.permitZero (h : Device.Confined m d e) (n : Nat) : e.permitZero n = d.permitZero n := by
  simp only [Device.permitZero, h.stp]

theorem Device.Confined.keeps (h : Device.Confined m d e) (hn : n ≠ m) : Device.Keeps n d e :=
  ⟨h.entry n hn, fun hp => (h.permitZero n).trans hp⟩

theorem Device.Keeps.trans (h : Device.Keeps n d e) (h' : Device.Keeps n e f) : Device.Keeps n d f :=
  ⟨h'.entry.trans h.entry, fun hp => h'.permit (h.permit hp)⟩

end

section
variable (d : Device) (m : Nat)

theorem Device.clipInteg_confined : Device.Confined m d (d.clipInteg m).2 := by
  refine .of_eq (congrArg Fleet.tab (d.clipInteg_flt m)) ?_
  unfold Device.clipInteg
  dsimp only
  split <;> rfl

theorem Device.toRegion_confined (r : Nat) : Device.Confined m d (d.toRegion m r) := .setFes _

theorem Device.regionCheck_confined : Device.Confined m d (d.regionCheck m).2 := by
  unfold Device.regionCheck
  split
  · exact .trans (d.toRegion_confined m _) (Device.clipInteg_confined _ m)
  · exact .refl

theorem Device.regionStep_confined : Device.Confined m d (d.regionStep m).2 := by
  unfold Device.regionStep
  dsimp only
  split
  · exact .trans (e := d.setGm m _) (.of_eq rfl rfl) (Device.toRegion_confined _ m _)
  · split
    · exact .setFe _ _
    · exact .trans (.setFe _ _) (Device.regionCheck_confined _ m)

theorem Device.staleCheck_confined : Device.Confined m d (d.staleCheck m) := by
  unfold Device.staleCheck
  dsimp only
  generalize (if d.fe m 174 < 4096 ∧ d.governed (d.fe m 174) = true then _ else _) = missed
  split
  · exact .refl
  · split
    · exact .trans (.setGovFlag _ _) (.of_eq rfl rfl)
    · split
      · exact .setGovFlag _ _
      · exact .refl

/-- The computation of a machine in a sample: it readies the device `e` that the loops find (R178, R180, R185), sends
the raw allowance of their proposals within the rate limit, and names the governing loop (R174, R175, R186). -/
theorem Device.governOne_sends (k : Nat) (swapped : Bool) :
    ∃ e, Device.Confined m d e ∧ Device.Confined m e (d.governOne k swapped m) ∧
      let g := govern (e.loops m k).prop
      let lim := e.coef e.bankOn (e.fe m 80 % 16) (e.region m) 8
      (d.governOne k swapped m).fe m 92 =
        rateLimit g.1 (e.fe m 92) (recGet lim 2) (recGet lim 4) (g.2 = 7 || (g.2 ≤ 1 && e.govFlag m 2)) ∧
      (d.governOne k swapped m).fe m 94 = 16 * e.region m + g.2 := by
  unfold Device.governOne
  have hregion := d.regionStep_confined m
  generalize d.regionStep m = c at hregion ⊢
  obtain ⟨c1, d1⟩ := c
  dsimp only at hregion ⊢
  have hclip : Device.Confined m d1 (if swapped then d1.clipInteg m else (false, d1)).2 := by
    split
    · exact d1.clipInteg_confined m
    · exact .refl
  generalize (if swapped then d1.clipInteg m else (false, d1)) = c at hclip ⊢
  obtain ⟨c2, d2⟩ := c
  dsimp only at hclip ⊢
  refine ⟨d2.staleCheck m, hregion.trans (hclip.trans (d2.staleCheck_confined m)), ?_⟩
  generalize d2.staleCheck m = e
  generalize hx : Device.setFes _ m _ = x
  have hconf : Device.Confined m e x := by
    rw [← hx]
    exact .trans (e := e.setGm m _) (.of_eq rfl rfl) (.setFes _)
  have hallow := congrArg (fun y => Device.fe y m 92) hx
  have hcode := congrArg (fun y => Device.fe y m 94) hx
  rw [Device.fe_setFes] at hallow hcode
  have hallow := hallow.symm.trans (recGet_recSets_append [] _ _ 92 _ (by simp))
  have hcode := hcode.symm.trans (recGet_recSets_append [_] _ _ 94 _ (by simp))
  split
  · exact ⟨hconf.trans (.of_eq rfl rfl), hallow, hcode⟩
  · exact ⟨hconf, hallow, hcode⟩

theorem Device.governOne_confined (k : Nat) (swapped : Bool) : Device.Confined m d (d.governOne k swapped m) := by
  obtain ⟨e, hready, hsent, -⟩ := d.governOne_sends m k swapped
  exact hready.trans hsent

end

/-- A machine's entry says that it was sent allowance 0 and that PERMIT governs (R186). -/
def Device.Halted (d : Device) (m : Nat) : Prop := d.fe m 92 = 0 ∧ d.fe m 94 % 8 = 7

theorem Device.Halted.of_entry_eq {d e : Device} {m : Nat} (h : d.Halted m) (he : e.entry m = d.entry m) :
    e.Halted m := by
  simpa only [Device.Halted, Device.fe, he] using h

/-- The computation of a machine that PERMIT holds at 0 sends it allowance 0 (R173 to R175). -/
theorem Device.governOne_halts {d : Device} {m : Nat} (h : d.permitZero m = true) (k : Nat) (swapped : Bool) :
    (d.governOne k swapped m).Halted m := by
  obtain ⟨e, hready, -, hallow, hcode⟩ := d.governOne_sends m k swapped
  have hgov := govern_of_permit_zero (Device.loops_permit ((hready.permitZero m).trans h) k)
  simp only [hgov] at hallow hcode
  exact ⟨hallow.trans (rateLimit_zero _ _ _), by omega⟩

/-! ## A machine whose computation is late -/

/-- A third miss touches the machine's own entry and the stop list (R191). -/
theorem Device.machFaultCheck_keeps (d : Device) {m n : Nat} (hn : n ≠ m) : Device.Keeps n d (d.machFaultCheck m) := by
  unfold Device.machFaultCheck
  split
  · dsimp only
    generalize hx : Device.slagB _ .gov 0x0101 m _ = x
    have hconf : Device.Confined m d x := by
      rw [← hx]
      refine .trans (e := d.setGovFlag m 6 true) (.setGovFlag _ _) (.of_eq ?_ (Device.slag_stp _ _ _ _ _ _))
      exact congrArg Fleet.tab (Device.slag_flt _ _ _ _ _ _)
    exact (hconf.keeps hn).trans
      ⟨Device.entry_of_tab_eq (congrArg Fleet.tab (x.listAdds_flt [m] 4)) n,
        fun hp => Device.permitZero_listAdds hp [m] 4⟩
  · exact ⟨rfl, id⟩

/-- A miss touches the machine's own entry and the stop list (R190, R191). -/
theorem Device.missOne_keeps (d : Device) {m n : Nat} (hn : n ≠ m) : Device.Keeps n d (d.missOne m) := by
  have hconf : Device.Confined m d ((d.setFes m [(94, setBits (d.fe m 94) 3 1 1), (95, setBits (d.fe m 95) 5 1 1),
      (98, Nat.min 3 (d.fe m 98 + 1))]).count GOV_MISS_CNT) := .trans (.setFes _) (.of_eq rfl rfl)
  exact (hconf.keeps hn).trans (Device.machFaultCheck_keeps _ hn)

/-! ## The machines of a sample -/

/-- A sample's computation of machines, where some are late or have bad state words (R168, R190). -/
def Device.governAll (d : Device) (k : Nat) (swapped : Bool) (miss ms : List Nat) : Device :=
  d.forEach ms fun m e => if miss.contains m then e.missOne m else e.governOne k swapped m

/-- A sample halts every machine that PERMIT holds at 0 and whose computation is on time, whatever becomes of the other
machines before and after it (R173). -/
theorem Device.governAll_halts {miss : List Nat} {m : Nat} (hmiss : m ∉ miss) (k : Nat) (swapped : Bool)
    (ms : List Nat) {d : Device} (hpermit : d.permitZero m = true) (hin : m ∈ ms ∨ d.Halted m) :
    (d.governAll k swapped miss ms).Halted m := by
  induction ms generalizing d with
  | nil => exact hin.resolve_left List.not_mem_nil
  | cons a ms ih =>
    by_cases ha : m = a
    · subst ha
      have hone : (if miss.contains m then d.missOne m else d.governOne k swapped m) = d.governOne k swapped m :=
        if_neg (by simpa using hmiss)
      refine ih (d := if miss.contains m then d.missOne m else d.governOne k swapped m) ?_ (.inr ?_)
      · rw [hone, (d.governOne_confined m k swapped).permitZero m, hpermit]
      · rw [hone]
        exact Device.governOne_halts hpermit k swapped
    · have hkeeps : Device.Keeps m d (if miss.contains a then d.missOne a else d.governOne k swapped a) := by
        split
        · exact d.missOne_keeps ha
        · exact (d.governOne_confined a k swapped).keeps ha
      refine ih (hkeeps.permit hpermit) ?_
      rcases hin with hin | hin
      · exact .inl ((List.mem_cons.mp hin).resolve_left ha)
      · exact .inr (hin.of_entry_eq hkeeps.entry)

end Sys2Proof.Machine
end

section
/-!
PROOFS. A governor sample halts the machines that PERMIT holds at 0 (R168, R173 to R175).
-/
namespace Sys2Proof.Machine

/-! ## Before the machines -/

/-- What the parts of a sample ahead of the machines leave: the fleet table, the stop sequencer and the machines with
bad state words. -/
def Device.books (d : Device) : Fleet × Stop × List Nat := (d.flt, d.stp, d.gov.bad)

theorem Device.books_eq {d e : Device} (h : e.books = d.books) :
    e.flt = d.flt ∧ e.stp = d.stp ∧ e.gov.bad = d.gov.bad := by
  simpa only [Device.books, Prod.mk.injEq] using h

theorem Device.standbySample_books (d : Device) : d.standbySample.books = d.books := by
  unfold Device.standbySample
  dsimp only
  split
  · rfl
  · split <;> rfl

theorem Device.bankSwap_books (d : Device) : d.bankSwap.books = d.books := by
  unfold Device.bankSwap
  split
  · simp only [Device.books, Device.raise_flt, Device.raise_stp, Device.raise_gov, Device.wbit_flt, Device.wbit_stp,
      Device.wbit_gov]
  · rfl

theorem Device.zoneCheck_books (d : Device) (z : Nat) : (d.zoneCheck z).books = d.books := by
  unfold Device.zoneCheck
  split <;> rfl

theorem Device.zonesTake_books (d : Device) (t : Nat) : (d.zonesTake t).books = d.books := by
  unfold Device.zonesTake
  dsimp only
  refine (Device.forEach_keeps Device.books _ (fun z e => e.zoneCheck_books z) _ _).trans
    (Device.forEach_keeps Device.books _ (fun _ _ => ?_) _ _)
  rfl

/-- What ECC finds leaves the fleet table and the stop sequencer, and names machines of lasting errors alone (R190). -/
theorem Device.govEcc_books {l : List (Nat × Nat × Bool)} {m : Nat} (hl : ∀ x ∈ l, x.1 = m → x.2.2 = false)
    {d : Device} (hbad : m ∉ d.gov.bad) :
    (d.govEcc l).flt = d.flt ∧ (d.govEcc l).stp = d.stp ∧ m ∉ (d.govEcc l).gov.bad := by
  refine Device.forEach_invariant (fun e => e.flt = d.flt ∧ e.stp = d.stp ∧ m ∉ e.gov.bad) _ ?_ ⟨rfl, rfl, hbad⟩
  rintro ⟨n, ctx, lasts⟩ hx e ⟨hflt, hstp, hbad⟩
  cases lasts with
  | false =>
    obtain ⟨r, g, he⟩ := e.transient_only none (blkNum .gov) 0x0103 n (leBytes 4 ctx) false
    simp only [Bool.false_eq_true, if_false, he]
    exact ⟨hflt, hstp, hbad⟩
  | true =>
    have hne : m ≠ n := fun h => Bool.noConfusion (hl _ hx h.symm)
    simp only [if_true]
    generalize hf : ({ e with gov := _ } : Device) = f
    have hbad' : m ∉ f.gov.bad := by
      rw [← hf]
      dsimp only
      split
      · exact hbad
      · simp [hbad, hne]
    obtain ⟨r, g, he⟩ := f.lasting_only none (blkNum .gov) 0x0103 n (leBytes 4 ctx) false
    rw [he]
    exact ⟨(congrArg Device.flt hf).symm.trans hflt, (congrArg Device.stp hf).symm.trans hstp, hbad'⟩

/-- A machine whose entry is not FREE is listed among the admitted ones. -/
theorem Device.mem_machines {d : Device} {m : Nat} (h : d.mstate m ≠ 0) : m ∈ d.machines := by
  unfold Device.mstate Device.fe Device.entry Tab.getD at h
  cases hfind : Tab.find d.flt.tab m with
  | none =>
    rw [hfind] at h
    exact absurd rfl h
  | some r =>
    rw [hfind] at h
    exact List.mem_map.mpr ⟨(m, r), List.mem_filter.mpr ⟨Tab.mem_of_find hfind, decide_eq_true h⟩, rfl⟩

theorem Device.mstate_ne_zero_of_governed {d : Device} {m : Nat} (h : d.governed m = true) : d.mstate m ≠ 0 := by
  simp only [Device.governed, Bool.or_eq_true, decide_eq_true_eq] at h
  omega

theorem Device.governed_of_tab_eq {d e : Device} (h : e.flt.tab = d.flt.tab) (m : Nat) :
    e.governed m = d.governed m := by
  have hstate : e.mstate m = d.mstate m := by rw [Device.mstate, Device.fe, Device.entry_of_tab_eq h]; rfl
  rw [Device.governed, hstate]
  rfl

/-! ## Freshness -/

section
variable (d : Device) (m k : Nat)

theorem Device.frozenCheck_confined : Device.Confined m d (d.frozenCheck m) := by
  unfold Device.frozenCheck
  split
  · exact .trans (.setGovFlag 3 true) (.of_eq rfl rfl)
  · exact .refl

theorem Device.takeRecord_confined : Device.Confined m d (d.takeRecord m k) := by
  unfold Device.takeRecord
  dsimp only
  split
  · exact .refl
  · refine .trans ?_ (Device.frozenCheck_confined _ m)
    split
    · exact .trans (e := d.setGm m _) (.of_eq rfl rfl) (.setFes _)
    · exact .trans (e := d.setGm m _) (.of_eq rfl rfl) (.trans (.setFes _) (.setGovFlag 3 false))

theorem Device.freshStep_confined : Device.Confined m d (d.freshStep k m) :=
  .trans (d.takeRecord_confined m k) (.setFe _ _)

end

/-! ## The sample -/

/-- The device of a sample once the bank swap, the zones and ECC are taken, and the governor notes the sample and the
machines that it computes (R184, R189, R190). -/
def Device.sampleBegun (d : Device) (k : Nat) (ecc : List (Nat × Nat × Bool)) : Device :=
  let e := (d.bankSwap.zonesTake (d.heatAbs * 100000000 + k * 20000000)).govEcc ecc
  { e with gov := { e.gov with last := some (e.heatAbs, k), mach := e.gov.mach.filter fun x => e.governed x.1 } }

/-- The machines that a sample computes. -/
def Device.computed (d : Device) : List Nat := d.machines.filter d.governed

/-- The device once the machines new to the governor have their state (R187). -/
def Device.sampleJoined (d : Device) : Device :=
  d.forEach (d.computed.filter fun m => (Tab.find d.gov.mach m).isNone) fun m e =>
    (e.setGm m (e.gm m)).setFes m [(92, 0), (96, 0), (97, 0), (98, 0), (99, 0)]

/-- The machines whose computation a sample misses (R190). -/
def Device.missed (d : Device) (late ms : List Nat) : List Nat :=
  ms.filter fun m => late.contains m || d.gov.bad.contains m

/-- The end of a sample: the frames, and the registers of the sample (R168, R192, R193). -/
def Device.sampleEnded (d : Device) (k : Nat) (miss ms : List Nat) (sent : Bool) (lat ns : Nat) : Device :=
  let d := if sent then d.allowanceFrames k ns ms else d
  let d := (d.wrN GOV_LAST_HEAT d.heat).wfld GOV_STAT 2 3 k
  let d := (d.wrN GOV_LAT (holdAt 0xFFFF lat)).peak GOV_LAT_MAX (holdAt 0xFFFF lat)
  let d := d.wrN GOV_STALE_NOW (ms.filter fun m => d.govFlag m 2).length
  let d := d.wfld GOV_STAT 6 2 (if sent then 0 else Nat.min 3 (d.fld GOV_STAT 6 2 + 1))
  let d := if sent ∧ miss = [] then { d with stp := { d.stp with govOk := true } } else d
  d.engineFaultCheck

/-- A governor sample is its parts in turn (R168). -/
theorem Device.govSample_eq (d : Device) (k : Nat) (late : List Nat) (ecc : List (Nat × Nat × Bool)) (sent : Bool)
    (lat : Nat) :
    d.govSample k late ecc sent lat =
      let b := d.sampleBegun k ecc
      let j := b.sampleJoined
      let miss := j.missed late b.computed
      let f := j.forEach b.computed fun m e => e.freshStep k m
      let g := f.governAll k (d.bit GOV_STAT 1) miss b.computed
      g.sampleEnded k miss b.computed sent lat ((g.heatAbs * 100000000 + k * 20000000) % 2 ^ 32) := rfl

/-- What a sample begins with leaves the fleet table and the stop sequencer, and names machines of lasting errors
alone. -/
theorem Device.sampleBegun_books {d : Device} {ecc : List (Nat × Nat × Bool)} {m : Nat}
    (hecc : ∀ x ∈ ecc, x.1 = m → x.2.2 = false) (hbad : m ∉ d.gov.bad) (k : Nat) :
    (d.sampleBegun k ecc).flt = d.flt ∧ (d.sampleBegun k ecc).stp = d.stp ∧ m ∉ (d.sampleBegun k ecc).gov.bad := by
  obtain ⟨hflt, hstp, hbad'⟩ := Device.books_eq ((Device.zonesTake_books d.bankSwap
    (d.heatAbs * 100000000 + k * 20000000)).trans d.bankSwap_books)
  obtain ⟨hflt', hstp', hnot⟩ := Device.govEcc_books hecc (hbad'.symm ▸ hbad)
  exact ⟨hflt'.trans hflt, hstp'.trans hstp, hnot⟩

/-- Machines new to the governor leave the stop sequencer and the machines with bad state words. -/
theorem Device.sampleJoined_keeps (d : Device) :
    d.sampleJoined.stp = d.stp ∧ d.sampleJoined.gov.bad = d.gov.bad := by
  refine ⟨Device.forEach_keeps Device.stp _ (fun _ _ => ?_) _ d,
    Device.forEach_keeps (fun e => e.gov.bad) _ (fun _ _ => ?_) _ d⟩
  · rfl
  · rfl

theorem Device.engineFaultCheck_flt (d : Device) : d.engineFaultCheck.flt = d.flt := by
  unfold Device.engineFaultCheck
  split
  · exact (Device.slag_flt _ _ _ _ _ _).trans (Device.latchCause_flt _ 5)
  · rfl

theorem Device.peak_flt (d : Device) (r : Reg) (v : Nat) : (d.peak r v).flt = d.flt := by
  unfold Device.peak
  refine (Device.forEach_keeps Device.flt _ (fun w e => ?_) _ _).trans ?_
  · dsimp only
    split <;> rfl
  · split <;> rfl

/-- The end of a sample leaves the fleet table. -/
theorem Device.sampleEnded_flt (d : Device) (k : Nat) (miss ms : List Nat) (sent : Bool) (lat ns : Nat) :
    (d.sampleEnded k miss ms sent lat ns).flt = d.flt := by
  unfold Device.sampleEnded
  dsimp only
  refine (Device.engineFaultCheck_flt _).trans ?_
  split
  · next h => simp only [h.1, if_true, Device.wfld_flt, Device.wrN_flt, Device.peak_flt, Device.allowanceFrames_flt]
  · split <;> simp only [Device.wfld_flt, Device.wrN_flt, Device.peak_flt, Device.allowanceFrames_flt]

/-- A sample halts a machine that PERMIT holds at 0, whose computation is on time and whose state words are good (R173
to R175). -/
theorem Device.govSample_halts {d : Device} {m : Nat} {late : List Nat} {ecc : List (Nat × Nat × Bool)}
    (hgov : d.governed m = true) (hpermit : d.permitZero m = true) (hlate : m ∉ late) (hbad : m ∉ d.gov.bad)
    (hecc : ∀ x ∈ ecc, x.1 = m → x.2.2 = false) (k : Nat) (sent : Bool) (lat : Nat) :
    (d.govSample k late ecc sent lat).Halted m := by
  rw [Device.govSample_eq]
  dsimp only
  obtain ⟨hflt, hstp, hnot⟩ := Device.sampleBegun_books hecc hbad k
  generalize d.sampleBegun k ecc = b at hflt hstp hnot ⊢
  obtain ⟨hjoined, hjbad⟩ := b.sampleJoined_keeps
  have hgov' : b.governed m = true := (Device.governed_of_tab_eq (congrArg Fleet.tab hflt) m).trans hgov
  have hin : m ∈ b.computed :=
    List.mem_filter.mpr ⟨Device.mem_machines (Device.mstate_ne_zero_of_governed hgov'), hgov'⟩
  have hmiss : m ∉ b.sampleJoined.missed late b.computed := by
    simp only [Device.missed, hjbad, List.mem_filter, Bool.or_eq_true, List.contains_eq_mem, decide_eq_true_eq]
    exact fun h => h.2.elim hlate hnot
  have hfresh := Device.forEach_keeps Device.stp _ (fun n (e : Device) => (e.freshStep_confined n k).stp) b.computed
    b.sampleJoined
  refine Device.Halted.of_entry_eq ?_ (Device.entry_of_tab_eq (congrArg Fleet.tab (Device.sampleEnded_flt ..)) m)
  refine Device.governAll_halts hmiss k _ _ ?_ (.inl hin)
  simpa only [Device.permitZero, hfresh, hjoined, hstp] using hpermit

theorem exec_governorSample (k : Nat) (late : List Nat) (ecc : List (Nat × Nat × Bool)) (sent : Bool) (lat : Nat)
    (s : State) :
    exec (.governorSample k late ecc sent lat) s = .next { s with dev := s.dev.sample k late ecc sent lat } := rfl

/-- A sample that is due is the standby's books, the sample proper and the holder's mirror (R168, R458, R459). -/
theorem Device.sample_of_due {d : Device} {k : Nat}
    (hdue : (d.advanceTo (d.heatAbs * 100000000 + k * 20000000)).sampleDue k = true) (late : List Nat)
    (ecc : List (Nat × Nat × Bool)) (sent : Bool) (lat : Nat) :
    d.sample k late ecc sent lat =
      (((d.advanceTo (d.heatAbs * 100000000 + k * 20000000)).standbySample).govSample k late ecc sent lat).mirrorSend
        k late :=
  if_neg (not_not_intro hdue)

/-- Time, and the standby's books, leave the fleet table, the stop sequencer and the machines with bad state words. -/
theorem Device.advanceTo_standbySample_books (d : Device) (t : Nat) :
    (d.advanceTo t).standbySample.books = d.books := by
  obtain ⟨x, h⟩ := d.advanceTo_only t
  rw [Device.standbySample_books, h]
  rfl

/-- Settles O54: PERMIT proposes 0 and has the highest code, so it governs at 0; and what a sample does before, between
and after the computations of its machines leaves a PERMIT of 0 and the entry that it gave. -/
theorem stoppedMachinesGetAllowanceZero : Obligations.StoppedMachinesGetAllowanceZero := by
  refine ⟨fun s m k late ecc sent lat hdue hgov hpermit hlate hbad hecc => ?_, fun prop _ => govern_spec prop⟩
  refine Completes.of_exec (exec_governorSample k late ecc sent lat s) ?_
  rw [Device.sample_of_due hdue]
  obtain ⟨hflt, hstp, hbad'⟩ := Device.books_eq
    (s.dev.advanceTo_standbySample_books (s.dev.heatAbs * 100000000 + k * 20000000))
  generalize (s.dev.advanceTo _).standbySample = d at hflt hstp hbad' ⊢
  have hhalts : (d.govSample k late ecc sent lat).Halted m := by
    refine Device.govSample_halts ?_ ?_ hlate (hbad'.symm ▸ hbad) hecc k sent lat
    · exact (Device.governed_of_tab_eq (congrArg Fleet.tab hflt) m).trans hgov
    · simpa only [Device.permitZero, hstp] using hpermit
  exact hhalts.of_entry_eq (Device.entry_of_tab_eq (congrArg Fleet.tab (Device.mirrorSend_flt _ k late)) m)

end Sys2Proof.Machine
end

section
/-!
PROOFS. The parts of the stop sequencer's commands: time, output pins, causes that latch or clear, and what they leave
(R195, R197, R211).
-/
namespace Sys2Proof.Machine

theorem mem_setBitsOf {n x i : Nat} : i ∈ setBitsOf n x ↔ i < n ∧ bitOf x i = true := by
  simp [setBitsOf]

theorem bitOf_setBits_one (x i : Nat) : bitOf (setBits x i 1 1) i = true := by
  simp [bitOf_eq_testBit, testBit_setBits]

/-! ## Always-on time -/

/-- The always-on time gains in every cycle of CD1 (R387). -/
theorem Device.gain_up_pos (d : Device) : 0 < gain d.refHz 0 1 := by
  unfold gain Device.refHz
  split
  · decide
  · split <;> decide

theorem le_ceilDiv_mul (a : Nat) {b : Nat} (hb : 0 < b) : a ≤ ceilDiv a b * b := by
  have hmod := Nat.div_add_mod (a + b - 1) b
  have hlt := Nat.mod_lt (a + b - 1) hb
  rw [ceilDiv, Nat.mul_comm]
  omega

/-- Lets time pass until the always-on time is at least `t` units of 2^-32 ns: `Device.advanceUp` with its time as one
number, which keeps the kernel from counting up to 2^32. -/
def Device.upTo (d : Device) (t : Nat) : Device :=
  let per := gain d.refHz 0 1
  if t ≤ d.tim.up ∨ per = 0 then d else d.cycles (ceilDiv (t - d.tim.up) per)

theorem Device.advanceUp_eq_upTo (d : Device) (t : Nat) : d.advanceUp t = d.upTo (t * 2 ^ 32) := rfl

theorem Device.le_up_upTo (d : Device) (t : Nat) : t ≤ (d.upTo t).tim.up := by
  have hpos := d.gain_up_pos
  unfold Device.upTo
  dsimp only
  split
  · next h => exact h.resolve_right (Nat.ne_of_gt hpos)
  · have hgain : ∀ n, gain d.refHz 0 n = n * gain d.refHz 0 1 := fun n => by simp only [gain, Nat.one_mul]
    have hreach := le_ceilDiv_mul (t - d.tim.up) hpos
    have hup : ∀ n, (d.cycles n).tim.up = d.tim.up + gain d.refHz 0 n := fun n => rfl
    rw [hup, hgain]
    omega

/-- Time passes until the always-on time is the one asked for. -/
theorem Device.le_upNs_advanceUp (d : Device) (t : Nat) : t ≤ (d.advanceUp t).upNs := by
  rw [Device.upNs, Nat.le_div_iff_mul_le (Nat.two_pow_pos 32), Device.advanceUp_eq_upTo]
  exact d.le_up_upTo _

/-! ## Output pins -/

/-- Driving a pin changes the pins and what was sent alone, and takes nothing out of what was sent. -/
theorem Device.setPin_only (d : Device) (p v : Nat) :
    ∃ q l, d.setPin p v = { d with pins := q, out := d.out ++ l } := by
  unfold Device.setPin
  split
  · exact ⟨_, [], by rw [List.append_nil]⟩
  · exact ⟨_, _, rfl⟩

@[simp] theorem Device.pin_setPin_same (d : Device) (p v : Nat) : (d.setPin p v).pin p = v := by
  unfold Device.setPin
  split
  · assumption
  · simp only [Device.pin, Device.send_pins, Tab.getD_put_self]

theorem Device.pin_setPin_ne (d : Device) {p q : Nat} (h : q ≠ p) (v : Nat) : (d.setPin p v).pin q = d.pin q := by
  unfold Device.setPin
  split
  · rfl
  · simp only [Device.pin, Device.send_pins, Tab.getD_put_ne _ h]

/-! ## Moves of the fleet state -/

/-- What a move of the fleet state leaves: the registers outside STP, the pair, and of the stop sequencer the filtered
readings, the stop list and the count of misses. -/
structure Device.FleetMove (d e : Device) : Prop where
  rd : ∀ x : Reg, x.blk ≠ .stp → e.rd x = d.rd x
  pair : e.pair = d.pair
  ch : e.stp.ch = d.stp.ch
  list : e.stp.list = d.stp.list
  misses : e.stp.misses = d.stp.misses

section
variable {d e f : Device}

theorem Device.FleetMove.refl : Device.FleetMove d d := ⟨fun _ _ => rfl, rfl, rfl, rfl, rfl⟩

theorem Device.FleetMove.trans (h : Device.FleetMove d e) (h' : Device.FleetMove e f) : Device.FleetMove d f :=
  ⟨fun x hx => (h'.rd x hx).trans (h.rd x hx), h'.pair.trans h.pair, h'.ch.trans h.ch, h'.list.trans h.list,
    h'.misses.trans h.misses⟩

theorem Device.FleetMove.wrN {r : Reg} (hr : r.blk = .stp) (v : Nat) : Device.FleetMove d (d.wrN r v) :=
  ⟨fun _ hx => d.rd_wrN_ne v (Reg.ne_of_blk fun h => hx (h.trans hr)), rfl, rfl, rfl, rfl⟩

theorem Device.FleetMove.raiseIf (c : Bool) (i : Nat) : Device.FleetMove d (d.raiseIf c STP_INT_STAT i) := by
  cases c with
  | false => exact .refl
  | true => exact .wrN (r := STP_INT_STAT) rfl _

theorem Device.FleetMove.setPin (p v : Nat) : Device.FleetMove d (d.setPin p v) := by
  obtain ⟨q, l, h⟩ := d.setPin_only p v
  rw [h]
  exact ⟨fun _ _ => rfl, rfl, rfl, rfl, rfl⟩

/-- A unit is standby by PAIR_CTRL and its claim, which no move of the fleet state touches (R460). -/
theorem Device.FleetMove.standby (h : Device.FleetMove d e) : e.standby = d.standby := by
  rw [Device.standby, Device.standby, h.pair, Device.bit_of_rd_eq (h.rd PAIR_CTRL (by decide))]

end

theorem Device.beginStopping_move (d : Device) : Device.FleetMove d d.beginStopping :=
  .trans (e := { d with stp := { d.stp with
      phase := 1, phaseTb := d.tb0, phaseUp := d.upNs, first := [], firstUp := none, grid := [], byStopTest := true } })
    ⟨fun _ _ => rfl, rfl, rfl, rfl, rfl⟩
    (.trans (.raiseIf _ 0) (.trans (.setPin pinPermitOut 0) (.setPin pinStopOut 0)))

theorem Device.latchCause_move (d : Device) (c : Nat) : Device.FleetMove d (d.latchCause c) := by
  have harise : ∀ e : Device,
      Device.FleetMove e ((e.wrN STP_ARISE_HEAT e.heat).wrN STP_ARISE_NS (e.baseNs 0)) := fun e =>
    .trans (.wrN (r := STP_ARISE_HEAT) rfl _) (.wrN (r := STP_ARISE_NS) rfl _)
  unfold Device.latchCause
  extract_lets new _ latched _ source arisen was stopping
  have hsource : Device.FleetMove d source := by
    unfold source
    split <;> exact ⟨fun _ _ => rfl, rfl, rfl, rfl, rfl⟩
  have harisen : Device.FleetMove d arisen := by
    unfold arisen
    split
    · exact hsource.trans (harise source)
    · exact hsource
  split
  · exact (harisen.trans arisen.beginStopping_move).trans (.raiseIf _ 0)
  · exact harisen

theorem Device.bitOf_latch_latchCause (d : Device) (c : Nat) : bitOf (d.latchCause c).stp.latch c = true := by
  rw [Device.latchCause_latch, bitOf_setBits_one]

/-- Clearing causes moves the fleet state alone. -/
theorem Device.clearCauses_move (d : Device) (mask : Nat) : Device.FleetMove d (d.clearCauses mask) := by
  unfold Device.clearCauses
  extract_lets keep _ e
  have hquiet : Device.FleetMove d e.beginQuiet := ⟨fun _ _ => rfl, rfl, rfl, rfl, rfl⟩
  split
  · exact ⟨fun _ _ => rfl, rfl, rfl, rfl, rfl⟩
  · split
    · exact hquiet
    · split
      · exact hquiet
      · exact ⟨fun _ _ => rfl, rfl, rfl, rfl, rfl⟩

/-- The causes that a clear keeps: those latched that its mask does not name (R195). -/
def keptCauses (latch mask : Nat) : Nat :=
  (List.range 12).foldl (fun a i => if bitOf latch i ∧ ¬ bitOf mask i then a + 2 ^ i else a) 0

theorem bitOf_keptCauses (latch mask : Nat) {i : Nat} (hi : i < 12) :
    bitOf (keptCauses latch mask) i = (bitOf latch i && !bitOf mask i) := by
  have hsum : keptCauses latch mask =
      (List.range 12).foldl (fun a i => a + b2n (bitOf latch i && !bitOf mask i) * 2 ^ i) 0 := by
    unfold keptCauses
    congr 1
    funext a i
    cases bitOf latch i <;> cases bitOf mask i <;> simp [b2n]
  rw [hsum, bitOf_eq_testBit, (testBit_foldl_bits _ 12).2]
  simp only [hi, decide_true, Bool.true_and]

theorem Device.clearCauses_latch (d : Device) (mask : Nat) :
    (d.clearCauses mask).stp.latch = keptCauses d.stp.latch mask := by
  unfold Device.clearCauses
  extract_lets keep _ e
  split
  · rfl
  · split
    · rfl
    · split <;> rfl

/-! ## The stop list -/

theorem Device.sendLive_standby (d : Device) (p : Nat) (body : Bytes) : (d.sendLive p body).standby = d.standby := rfl

theorem Device.listUpdate_standby (d : Device) : d.listUpdate.standby = d.standby := by
  refine Device.forEach_keeps Device.standby _ (fun p e => ?_) _ d
  split
  · obtain ⟨a, h⟩ := e.abortAir_only p (if d.stp.phase = 1 then 2 else 3)
    rw [h, Device.sendLive_standby]
    rfl
  · rfl

/-- A machine that a list with room does not hold joins it behind the others, under its cause (R211). -/
theorem Device.listAdds_of_new {d : Device} {m : Nat} (cause : Nat) (hroom : d.stp.list.length < 16)
    (hnew : stopEntry d.stp.list m = none) :
    (d.listAdds [m] cause).stp.list = d.stp.list ++ [⟨m, 2 ^ cause⟩] ∧
      (d.listAdds [m] cause).standby = d.standby := by
  have hadd : d.listAdd m cause = { d with stp := { d.stp with list := d.stp.list ++ [⟨m, 2 ^ cause⟩] } } := by
    simp only [Device.listAdd, hnew, hroom, if_true]
  have hadds : d.listAdds [m] cause =
      ({ d with stp := { d.stp with list := d.stp.list ++ [⟨m, 2 ^ cause⟩] } } : Device).listUpdate := by
    have hone : (d.forEach [m] fun n x => x.listAdd n cause) = d.listAdd m cause := rfl
    simp only [Device.listAdds, hone, hadd, List.length_append, List.length_singleton, Nat.lt_add_one, if_true]
  rw [hadds]
  exact ⟨congrArg (fun v : Nat × Nat × List StopEntry => v.2.2) (Device.listUpdate_view _), Device.listUpdate_standby _⟩

end Sys2Proof.Machine
end

section
/-!
PROOFS. The stop inputs, the stops and resumes of hosts, the naming of a permit key, and the end of STOPPING (R198,
R199, R202, R208, R211, R213, R380).
-/
namespace Sys2Proof.Machine

/-! ## Stop inputs -/

/-- A reading that changes is stored, and latches PIN where it is asserted (R198). -/
theorem Device.reading_eq (d : Device) (ch : Nat) (v : Bool) :
    ∃ t, let e : Device := { d with stp := { d.stp with ch := Tab.put d.stp.ch ch v, diffAt := t } }
      d.reading ch v = if v then e.latchCause 0 else e := by
  unfold Device.reading
  extract_lets _ a b e a' b' _ f
  obtain ⟨t, ht⟩ : ∃ t, f = { d with stp := { d.stp with ch := Tab.put d.stp.ch ch v, diffAt := t } } := by
    unfold f
    split <;> exact ⟨_, rfl⟩
  exact ⟨t, by rw [ht]⟩

theorem Device.reading_ch (d : Device) (ch : Nat) (v : Bool) : Tab.getD (d.reading ch v).stp.ch ch false = v := by
  obtain ⟨t, h⟩ := d.reading_eq ch v
  rw [h]
  cases v with
  | false => exact Tab.getD_put_self ..
  | true => simp only [if_true, (Device.latchCause_move _ 0).ch, Tab.getD_put_self]

theorem Device.reading_asserted (d : Device) (ch : Nat) :
    bitOf (d.reading ch true).stp.latch 0 = true ∧ stopState (d.reading ch true).stp = true := by
  obtain ⟨t, h⟩ := d.reading_eq ch true
  rw [h]
  exact ⟨Device.bitOf_latch_latchCause _ 0, Device.stopState_latchCause _ 0⟩

theorem Device.reading_released (d : Device) (ch : Nat) : (d.reading ch false).stp.latch = d.stp.latch := by
  obtain ⟨t, h⟩ := d.reading_eq ch false
  rw [h]
  rfl

theorem Device.advanceUp_stp (d : Device) (t : Nat) : (d.advanceUp t).stp = d.stp := by
  obtain ⟨x, h⟩ := d.advanceUp_only t
  rw [h]

theorem exec_stopInputChange (ch lv : Bool) (s : State) :
    exec (.stopInputChange ch lv) s = .next { s with dev := { s.dev with stp := { s.dev.stp with
      raw := Tab.put s.dev.stp.raw (b2n ch) lv
      rawAt := if Tab.getD s.dev.stp.raw (b2n ch) false = lv then s.dev.stp.rawAt
        else Tab.put s.dev.stp.rawAt (b2n ch) s.dev.upNs } } } := rfl

theorem exec_channelReadingChange (ch : Bool) (s : State) :
    exec (.channelReadingChange ch) s = execChannelReadingChange ch s := rfl

theorem exec_discrepancy (s : State) : exec .discrepancy s = execDiscrepancy s := rfl

theorem exec_discClear (s : State) : exec .discClear s = execDiscClear s := rfl

/-- The reading of a channel that does not follow its pin does so once the pin has held its level (R198). -/
theorem exec_channelReadingChange_of_ne {ch : Bool} {s : State}
    (hne : Tab.getD s.dev.stp.ch (b2n ch) false ≠ Tab.getD s.dev.stp.raw (b2n ch) false) :
    exec (.channelReadingChange ch) s = .next { s with
      dev := (s.dev.advanceUp (Tab.getD s.dev.stp.rawAt (b2n ch) 0 + s.dev.fld STP_CFG 0 10 * 1000)).reading (b2n ch)
        (Tab.getD s.dev.stp.raw (b2n ch) false) } := by
  simp only [exec_channelReadingChange, execChannelReadingChange, hne, if_false]

/-- The device once DISC is set and its event raised, before the fault record (R199). -/
def Device.discSet (d : Device) : Device :=
  let e := d.raise STP_INT_STAT 2
  { e with stp := { e.stp with disc := true } }

theorem Device.discSet_stp (d : Device) : d.discSet.stp = { d.stp with disc := true } := rfl

theorem Device.discSet_bit (d : Device) : d.discSet.bit STP_INT_STAT 2 = true :=
  d.bit_raise_same STP_INT_STAT (by decide)

theorem exec_discrepancy_of_ne {s : State} (hne : Tab.getD s.dev.stp.ch 0 false ≠ Tab.getD s.dev.stp.ch 1 false)
    (hdisc : s.dev.stp.disc = false) :
    exec .discrepancy s = .next { s with
      dev := (s.dev.advanceUp (s.dev.stp.diffAt + 50000001)).discSet.slag (blkNum .stp) 0x0101 noUnit 0
        (leBytes 1 (b2n (Tab.getD s.dev.stp.ch 0 false)) ++ leBytes 1 (b2n (Tab.getD s.dev.stp.ch 1 false))) } := by
  simp only [exec_discrepancy, execDiscrepancy, hne, hdisc, Bool.false_eq_true, or_self, if_false]
  rfl

theorem exec_discClear_of_eq {s : State} (heq : Tab.getD s.dev.stp.ch 0 false = Tab.getD s.dev.stp.ch 1 false)
    (hdisc : s.dev.stp.disc = true) :
    exec .discClear s = .next { s with dev :=
      let e := s.dev.advanceUp (s.dev.stp.diffAt + 50000000)
      { e with stp := { e.stp with disc := false } } } := by
  simp only [exec_discClear, execDiscClear, heq, hdisc, ne_eq, not_true_eq_false, or_self, if_false]

/-! ## Stops and resumes of hosts -/

section
variable {d : Device} {src : Nat} {right : Bool} {b : Bytes}

theorem Device.applyStop_of_bad (h : stopBodyOk b false = false) : d.applyStop src right b = (stRejected, d) := by
  simp [Device.applyStop, h]

theorem Device.applyStop_of_no_right (h : stopBodyOk b false = true) : d.applyStop src false b = (stDenied, d) := by
  simp [Device.applyStop, h]

/-- A fleet stop of a partition latches the partition's cause (R195, R213). -/
theorem Device.applyStop_fleet (h : stopBodyOk b false = true) (hsrc : src ≠ 5) (hscope : uAt b 0 1 = 0) :
    d.applyStop src true b = (stDone, d.latchCause (1 + src)) := by
  simp [Device.applyStop, h, stopFields, hscope, hsrc]

/-- A stop of one machine lists it (R211, R213). -/
theorem Device.applyStop_machine (h : stopBodyOk b false = true) (hscope : uAt b 0 1 = 1) (hone : uAt b 1 1 = 1) :
    d.applyStop src true b = (stDone, d.listAdds [uAt b 4 2] src) := by
  simp [Device.applyStop, h, stopFields, hscope, hone]

/-- A fleet resume whose causes its sender may clear, are latched and no longer hold clears them (R195, R213). -/
theorem Device.applyResume_fleet (h : stopBodyOk b true = true) (hscope : uAt b 0 1 = 0)
    (hmay : ∀ i ∈ setBitsOf 12 (uAt b 2 2),
      d.mayClear src i = true ∧ bitOf d.stp.latch i = true ∧ d.causeHolds i = false) :
    d.applyResume src true b = (stDone, d.clearCauses (uAt b 2 2)) := by
  have hdenied : ((setBitsOf 12 (uAt b 2 2)).any fun i => !d.mayClear src i) = false :=
    List.any_eq_false.mpr fun i hi => by obtain ⟨hclear, -, -⟩ := hmay i hi; simp [hclear]
  have hmissing : ((setBitsOf 12 (uAt b 2 2)).any fun i => !bitOf d.stp.latch i) = false :=
    List.any_eq_false.mpr fun i hi => by obtain ⟨-, hlatched, -⟩ := hmay i hi; simp [hlatched]
  have hholds : ((setBitsOf 12 (uAt b 2 2)).any fun i => d.causeHolds i) = false :=
    List.any_eq_false.mpr fun i hi => by obtain ⟨-, -, hover⟩ := hmay i hi; simp [hover]
  simp only [Device.applyResume, h, stopFields, hscope, hdenied, hmissing, hholds, not_true_eq_false,
    Bool.false_eq_true, if_true, if_false]

/-- A fleet resume that names a cause its sender may not clear is denied, whatever else it names (R213). -/
theorem Device.applyResume_denied (h : stopBodyOk b true = true) (hscope : uAt b 0 1 = 0)
    (hnot : ∃ i ∈ setBitsOf 12 (uAt b 2 2), d.mayClear src i = false) :
    d.applyResume src true b = (stDenied, d) := by
  have hdenied : ((setBitsOf 12 (uAt b 2 2)).any fun i => !d.mayClear src i) = true := by simpa using hnot
  simp only [Device.applyResume, h, stopFields, hscope, hdenied, not_true_eq_false, if_true, if_false]

end

theorem exec_stopCmd (h : HostPkt) (s : State) :
    exec (.stopCmd h) s = .next { s with dev := s.dev.stopHost false h } := rfl

theorem exec_resumeCmd (h : HostPkt) (s : State) :
    exec (.resumeCmd h) s = .next { s with dev := s.dev.stopHost true h } := rfl

section
variable {s : State} {h : HostPkt} {e x : Device} {st : Nat} (hacc : s.dev.accept h = (true, e))
include hacc

/-- A stop that the holder accepts is answered on queue 1 with what its application gives (R380). -/
theorem exec_stopCmd_of_accept (happ : e.applyStop h.part (e.right h.part rStop) h.body = (st, x))
    (hholder : x.standby = false) :
    exec (.stopCmd h) s = .next { s with dev := x.post h.part 0x0100 h.req st [] } := by
  simp [exec_stopCmd, Device.stopHost, hacc, happ, hholder]

/-- A resume that the holder accepts is answered on queue 1 with what its application gives (R380). -/
theorem exec_resumeCmd_of_accept (happ : e.applyResume h.part (e.right h.part rStop) h.body = (st, x))
    (hholder : x.standby = false) :
    exec (.resumeCmd h) s = .next { s with dev := x.post h.part 0x0101 h.req st [] } := by
  simp [exec_resumeCmd, Device.stopHost, hacc, happ, hholder]

end

/-! ## The permit key -/

section
variable {c : Cmd} {e : Device} (hrsv : uAt c.body 2 2 = 0) (hindex : uAt c.body 1 1 ≠ 0) (hslot : uAt c.body 0 1 < 128)
  (hright : e.right c.part rStop = true)
include hrsv hindex hslot hright

/-- PERMIT_KEY names an AES-128 ENCRYPT key that its sender has loaded (R202). -/
theorem Device.permitKeyCmd_of_loaded (hst : (e.slot (uAt c.body 0 1)).st = 1)
    (howner : (e.slot (uAt c.body 0 1)).owner = c.part) (hattr : (e.slot (uAt c.body 0 1)).attr = 0)
    (halg : (e.slot (uAt c.body 0 1)).alg = 1) :
    Device.permitKeyCmd c e = ({ e with stp := { e.stp with
      keyNext := some ⟨c.part, uAt c.body 0 1, uAt c.body 1 1⟩ } } : Device).answer c stDone [] := by
  simp [Device.permitKeyCmd, hrsv, hindex, Nat.not_le.mpr hslot, hright, hst, howner, hattr, halg]

theorem Device.permitKeyCmd_of_empty (hst : (e.slot (uAt c.body 0 1)).st = 0) :
    Device.permitKeyCmd c e = e.answer c stNotFound [] := by
  simp [Device.permitKeyCmd, hrsv, hindex, Nat.not_le.mpr hslot, hright, hst]

end

theorem atBoundary_permitKey : atBoundary 0x0102 = Device.permitKeyCmd := rfl

/-! ## The end of STOPPING -/

theorem exec_minRepetitionEnd (s : State) : exec .minRepetitionEnd s = execMinRepetitionEnd s := rfl

theorem Device.beginQuiet_upNs (d : Device) : d.beginQuiet.upNs = d.upNs := rfl

/-- STOPPING without a latched cause turns into QUIET once its minimum repetition is over (R208). -/
theorem exec_minRepetitionEnd_of_first {s : State} {t : Nat} (hphase : s.dev.stp.phase = 1)
    (hlatch : s.dev.stp.latch = 0) (hholder : s.dev.standby = false) (hfirst : s.dev.stp.firstUp = some t) :
    exec .minRepetitionEnd s = .next { s with dev := (s.dev.advanceUp (t + s.dev.minRep)).beginQuiet } := by
  simp [exec_minRepetitionEnd, execMinRepetitionEnd, hphase, hlatch, hholder, hfirst]

/-! ## The commands -/

/-- Settles O45: each command is its operation on the device, and the operations are taken apart above: a reading that
changes, the causes that a stop latches and a resume clears, the list, the key and the minimum repetition. -/
theorem stopsLatchAndResumesClear : Obligations.StopsLatchAndResumesClear := by
  intro s h c e
  refine ⟨fun ch lv => ?_, fun ch hne => ?_, fun hne hdisc => ?_, fun heq hdisc => ?_,
    fun hacc hpart hholder => ⟨fun hbody => ⟨fun hright => ?_, fun hright hscope => ?_,
      fun hright hscope hone hroom hnew => ?_⟩, fun hbad => ?_,
      fun hbody hright hscope => ⟨fun hmay => ?_, fun hnot => ?_⟩⟩,
    fun hrsv hindex hslot hright => ⟨fun hst howner hattr halg => ?_, fun hst => ?_⟩,
    fun t hphase hlatch hholder hfirst => ?_⟩
  · exact Completes.of_exec (exec_stopInputChange ch lv s) ⟨Tab.getD_put_self .., rfl, rfl⟩
  · refine Completes.of_exec (exec_channelReadingChange_of_ne hne) ⟨Device.reading_ch .., fun hon => ?_, fun hoff => ?_⟩
    · rw [hon]
      exact Device.reading_asserted ..
    · rw [hoff, Device.reading_released, Device.advanceUp_stp]
  · refine Completes.of_exec (exec_discrepancy_of_ne hne hdisc) ⟨?_, ?_, Device.slag_newest .., ?_⟩
    · rw [Device.slag_stp, Device.discSet_stp]
    · rw [Device.bit_of_rd_eq (Device.slag_rd _ _ _ _ _ _ (by decide)), Device.discSet_bit]
    · rw [Device.slag_stp, Device.discSet_stp, Device.advanceUp_stp]
  · obtain ⟨x, hx⟩ := s.dev.advanceUp_only (s.dev.stp.diffAt + 50000000)
    refine Completes.of_exec (exec_discClear_of_eq heq hdisc) ?_
    rw [hx]
    exact ⟨rfl, rfl, rfl⟩
  · exact Completes.of_exec
      (exec_stopCmd_of_accept hacc (by rw [hright, Device.applyStop_of_no_right hbody]) hholder) rfl
  · have happ := Device.applyStop_fleet (d := e) hbody (show h.part ≠ 5 by omega) hscope
    exact Completes.of_exec
      (exec_stopCmd_of_accept hacc (by rw [hright, happ]) ((e.latchCause_move _).standby.trans hholder))
      ⟨_, rfl, e.bitOf_latch_latchCause _, e.stopState_latchCause _⟩
  · have happ := Device.applyStop_machine (d := e) (src := h.part) hbody hscope hone
    obtain ⟨hlist, hsame⟩ := Device.listAdds_of_new h.part hroom hnew
    exact Completes.of_exec (exec_stopCmd_of_accept hacc (by rw [hright, happ]) (hsame.trans hholder)) ⟨_, rfl, hlist⟩
  · exact Completes.of_exec (exec_stopCmd_of_accept hacc (Device.applyStop_of_bad hbad) hholder) rfl
  · have happ := Device.applyResume_fleet hbody hscope hmay
    refine Completes.of_exec
      (exec_resumeCmd_of_accept hacc (by rw [hright, happ]) ((e.clearCauses_move _).standby.trans hholder))
      ⟨_, rfl, fun i hi => ?_⟩
    have hnamed : (setBitsOf 12 (uAt h.body 2 2)).contains i = bitOf (uAt h.body 2 2) i := by
      rw [Bool.eq_iff_iff, List.contains_iff_mem, mem_setBitsOf]
      exact and_iff_right hi
    rw [Device.clearCauses_latch, bitOf_keptCauses _ _ hi, hnamed]
  · exact Completes.of_exec
      (exec_resumeCmd_of_accept hacc (by rw [hright, Device.applyResume_denied hbody hscope hnot]) hholder) rfl
  · rw [atBoundary_permitKey]
    exact ⟨_, Device.permitKeyCmd_of_loaded hrsv hindex hslot hright hst howner hattr halg, rfl, rfl⟩
  · rw [atBoundary_permitKey]
    exact Device.permitKeyCmd_of_empty hrsv hindex hslot hright hst
  · exact Completes.of_exec (exec_minRepetitionEnd_of_first hphase hlatch hholder hfirst)
      ⟨rfl, Nat.le_trans (s.dev.le_upNs_advanceUp _) (Nat.le_of_eq (Device.beginQuiet_upNs _).symm)⟩

end Sys2Proof.Machine
end

section
/-!
PROOFS. The permit of a heat: the payload that is latched, the beacon that carries it, and the monitor's verdict (R200,
R201, R205, R209, R216).
-/
namespace Sys2Proof.Machine

/-! ## The payload of a heat -/

/-- The device once QUIET has ended in RUN, where it may (R209). -/
def Device.quietEnds (d : Device) : Device :=
  if !d.standby && d.stp.phase = 2 && d.stp.latch = 0 && d.since d.stp.phaseUp 1000000000 then
    ({ d with stp := { d.stp with phase := 0 } }).raise STP_INT_STAT 1
  else d

/-- The payload that a device latches (R200): its heat, its fleet state, its causes and its stop list. -/
def Device.heatPayload (d : Device) : Beacon :=
  ⟨d.heat, stopState d.stp, d.stp.phase = 2, d.stp.latch, stopMachines d.stp.list⟩

/-- The device with its payload latched, before the pins follow (R200). -/
def Device.payloadLatched (d : Device) : Device :=
  { d with stp := { d.stp with payload := some d.heatPayload, sent := false, byStopTest := d.stp.phase = 1,
                               ran := d.stp.ran || !stopState d.stp } }

/-- STOP_OUT follows the fleet state, and PERMIT_OUT falls with it (R197). -/
def Device.pinsFollow (d : Device) : Device :=
  if stopState d.stp then (d.setPin pinStopOut 0).setPin pinPermitOut 0 else d.setPin pinStopOut 1

theorem Device.permitLatch_of_running {s d : Device}
    (hd : s.advanceTo (s.tb0 / 100000000 * 100000000 + 1800000) = d) (hrun : d.running = true) :
    s.permitLatch = d.quietEnds.foldBegin.payloadLatched.pinsFollow := by
  -- Unfolded as a function: applied, the kernel would evaluate the time jump, whose numbers are too large for it.
  generalize hf : @Device.permitLatch = f
  delta Device.permitLatch at hf
  rw [← hf]
  simp -zeta only [hd]
  simp only [hrun, not_true_eq_false, if_false]
  rfl

/-- The end of QUIET changes the registers and the phase alone; it comes when a holder without a latched cause has been
in QUIET for 1 s (R209). -/
theorem Device.quietEnds_only (d : Device) :
    ∃ r n, d.quietEnds = { d with regs := r, stp := { d.stp with phase := n } } ∧
      (d.standby = false → d.stp.phase = 2 → d.stp.latch = 0 → d.since d.stp.phaseUp 1000000000 = true → n = 0) := by
  unfold Device.quietEnds
  split
  · exact ⟨_, 0, rfl, fun _ _ _ _ => rfl⟩
  · next h => exact ⟨_, _, rfl, fun hholder hphase hlatch hsince => absurd (by simp [*]) h⟩

/-- The fold that may begin then changes the registers alone (R145). -/
theorem Device.quietEnds_foldBegin_only (d : Device) :
    ∃ r n, d.quietEnds.foldBegin = { d with regs := r, stp := { d.stp with phase := n } } ∧
      (d.standby = false → d.stp.phase = 2 → d.stp.latch = 0 → d.since d.stp.phaseUp 1000000000 = true → n = 0) := by
  obtain ⟨r, n, hquiet, hturn⟩ := d.quietEnds_only
  rw [hquiet]
  unfold Device.foldBegin
  split <;> exact ⟨_, n, rfl, hturn⟩

theorem Device.pinsFollow_stp (d : Device) : d.pinsFollow.stp = d.stp := by
  unfold Device.pinsFollow
  split <;> simp only [Device.setPin_stp]

theorem Device.pinsFollow_pins (d : Device) :
    d.pinsFollow.pin pinStopOut = b2n (!stopState d.stp) ∧
      (stopState d.stp = true → d.pinsFollow.pin pinPermitOut = 0) := by
  unfold Device.pinsFollow
  cases stopState d.stp with
  | false => exact ⟨Device.pin_setPin_same .., fun h => Bool.noConfusion h⟩
  | true =>
    refine ⟨?_, fun _ => Device.pin_setPin_same ..⟩
    exact (Device.pin_setPin_ne _ (by decide) 0).trans (Device.pin_setPin_same ..)

/-! ## The permit beacon -/

/-- A beacon that a port may send goes out live-sealed behind what was sent before, and takes the port's next counter
(R200, R203). -/
theorem Device.beaconOn_of_may {d : Device} {b : Beacon} {clear p : Nat} (air : Nat) (hup : d.portUp p = true)
    (hlbt : d.lbt p = true → bitOf clear p = true) (hlive : d.canLive p = true) :
    ∃ a, d.beaconOn b clear air p = { d with
      mac := a, stp := { d.stp with fc := Tab.put d.stp.fc p (d.liveCtr p + 1) },
      out := d.out ++ [⟨.radio, p, 0x71, sealedFrame d.keyIndex (d.liveCtr p)
        (beaconBytes b.list b.stop false b.quiet b.causes b.heat)⟩] } := by
  have hclear : ¬ d.lbt p = true ∨ bitOf clear p = true := by
    by_cases h : d.lbt p = true
    · exact .inr (hlbt h)
    · exact .inl h
  obtain ⟨a, ha⟩ := d.abortAir_only p 3
  simp only [Device.beaconOn, hup, hclear, hlive, and_self, if_true, ha]
  exact ⟨_, rfl⟩

/-- A missing key's event and the end of a switch-over gap leave the gate, the stop sequencer and what was sent (R205,
R462). -/
theorem Device.raiseIf_gapEnds_keeps (d : Device) (c : Bool) (q : Reg) (i : Nat) :
    (d.raiseIf c q i).gapEnds.gate = d.gate ∧ (d.raiseIf c q i).gapEnds.stp = d.stp ∧
      (d.raiseIf c q i).gapEnds.out = d.out := by
  unfold Device.gapEnds Device.raiseIf
  split <;> split <;> exact ⟨rfl, rfl, rfl⟩

/-- While the gate is open, the end of a RUN permit raises PERMIT_OUT, keeps the stop sequencer and takes nothing out of
what was sent (R197). -/
theorem Device.permit_shown {d : Device} (hgate : d.gate = true) (c : Bool) (q : Reg) (i : Nat) :
    let e := (d.raiseIf c q i).gapEnds
    let f := e.setPin pinPermitOut (b2n e.gate)
    f.pin pinPermitOut = 1 ∧ f.stp = d.stp ∧ ∃ l, f.out = d.out ++ l := by
  intro e f
  obtain ⟨hopen, hstp, hout⟩ := d.raiseIf_gapEnds_keeps c q i
  obtain ⟨pins, l, hpin⟩ := e.setPin_only pinPermitOut (b2n e.gate)
  refine ⟨?_, (Device.setPin_stp ..).trans hstp, l, ?_⟩
  · exact (Device.pin_setPin_same ..).trans (congrArg b2n (hopen.trans hgate))
  · exact (congrArg Device.out hpin).trans (congrArg (· ++ l) hout)

/-- The beacon of a RUN payload whose heat it still is goes out on every enabled port, and PERMIT_OUT shows the permit
while the gate is open (R200, R205). -/
theorem Device.permitBeacon_of_run {s d : Device} {b : Beacon}
    (hd : s.advanceTo (s.tb0 / 100000000 * 100000000 + 2000000) = d) (hpayload : d.stp.payload = some b)
    (hsent : d.stp.sent = false) (hphase : d.stp.phase ≠ 1) (hrun : d.running = true) (hheat : b.heat = d.heat)
    (hlate : d.openedLate = false) (hstop : b.stop = false) (hmay : d.mayRun = true) (clear air : Nat) :
    s.permitBeacon clear air =
      let e := d.forEach d.permitPorts fun p x => x.beaconOn b clear air p
      let f : Device := { e with stp := { e.stp with sent := true } }
      let g := (f.raiseIf d.stp.key.isNone STP_INT_STAT 6).gapEnds
      g.setPin pinPermitOut (b2n g.gate) := by
  -- Unfolded as a function: applied, the kernel would evaluate the time jump, whose numbers are too large for it.
  generalize hf : @Device.permitBeacon = f
  delta Device.permitBeacon at hf
  rw [← hf]
  simp -zeta only [hd]
  simp only [hpayload, hsent, hphase, hrun, hheat, hlate, hstop, hmay, Bool.false_eq_true, not_true_eq_false, ne_eq,
    not_false_eq_true, and_false, or_self, if_false, Bool.not_false, Bool.true_and]

/-! ## The own-permit monitor -/

/-- The ports whose permit the monitor misses: all of them where none was sent and the heat is not judged as a stop,
else those without a good frame (R216). -/
def Device.missedPorts (d : Device) (good : Nat) : List Nat :=
  d.permitPorts.filter fun p => (!d.stp.sent && !d.stp.byStopTest) || !bitOf good p

/-- A heat without a miss ends the row of misses (R216). -/
theorem Device.monitor_of_no_miss {d : Device} {good : Nat} (hgate : d.gate = true)
    (hpayload : d.stp.payload.isSome = true) (hmiss : d.missedPorts good = []) :
    d.monitor good = { d with stp := { d.stp with misses := 0 } } := by
  have hsome : d.stp.payload ≠ none := Option.isSome_iff_ne_none.mp hpayload
  rw [Device.missedPorts] at hmiss
  simp only [Device.monitor, hgate, hsome, hmiss, not_true_eq_false, or_self, if_false, if_true]

/-- The third heat in a row with a miss latches MON, with its event and its fault record (R216). -/
theorem Device.monitor_of_third_miss {d : Device} {good : Nat} (hgate : d.gate = true)
    (hpayload : d.stp.payload.isSome = true) (hmiss : d.missedPorts good ≠ []) (htwo : d.stp.misses = 2)
    (hlatch : bitOf d.stp.latch 11 = false) :
    d.monitor good =
      let e := ({ d with stp := { d.stp with misses := 3 } } : Device).latchCause 11
      let ports := (d.missedPorts good).foldl (fun a p => a + 2 ^ p) 0
      (e.raise STP_INT_STAT 3).slag (blkNum .stp) 0x0102 ports 8 [] := by
  have hsome : d.stp.payload ≠ none := Option.isSome_iff_ne_none.mp hpayload
  have hthree : Nat.min 3 (2 + 1) = 3 := rfl
  rw [Device.missedPorts] at hmiss ⊢
  simp only [Device.monitor, hgate, hsome, hmiss, htwo, hlatch, hthree, not_true_eq_false, or_self, if_false,
    Bool.false_eq_true, not_false_eq_true, and_self, if_true]

end Sys2Proof.Machine
end

section
/-!
PROOFS. Stop frames and the frames sealed in advance; the statement about permits and stop frames (R200 to R208, R216).
-/
namespace Sys2Proof.Machine

/-! ## Stop frames -/

/-- A frame of the stop kind went out on a port behind what was sent before: besides that, only the port's live counters
and its sealed frames changed. -/
def Device.SendsStop (p : Nat) (d e : Device) : Prop :=
  ∃ f a data, e = { d with stp := { d.stp with fc := f, ahead := a }, out := d.out ++ [⟨.radio, p, 0x71, data⟩] }

/-- The live-sealed frame of STOPPING on a port, where one can be sealed (R208). -/
def Device.liveStop (d : Device) (p : Nat) : Option Device :=
  if d.canLive p then
    some (d.sendLive p (beaconBytes (stopMachines d.stp.list) true false false d.stp.latch d.heat))
  else none

/-- The frame that STOPPING sends on a port: the first of a stop sealed in advance where one is held, the others live
where they can be sealed (R206, R208). -/
def Device.stopSends (d : Device) (p : Nat) : Option Device :=
  if (Tab.find d.stp.first p).isNone then (d.sendSealed p).orElse fun _ => d.liveStop p
  else (d.liveStop p).orElse fun _ => d.sendSealed p

section
variable {d e : Device} {p : Nat}

theorem Device.sendsStop_of_liveStop (h : d.liveStop p = some e) : Device.SendsStop p d e := by
  rw [Device.liveStop] at h
  split at h
  · exact ⟨_, _, _, (Option.some.inj h).symm⟩
  · exact absurd h (by simp)

theorem Device.sendsStop_of_sendSealed (h : d.sendSealed p = some e) : Device.SendsStop p d e := by
  rw [Device.sendSealed] at h
  split at h
  · exact absurd h (by simp)
  · exact ⟨_, _, _, (Option.some.inj h).symm⟩

theorem Device.isSome_sendSealed (h : Tab.getD d.stp.ahead p [] ≠ []) : (d.sendSealed p).isSome = true := by
  rw [Device.sendSealed]
  split
  · next hnil => exact absurd hnil h
  · rfl

/-- A port that can seal a live frame or holds a sealed one sends a frame (R206, R208). -/
theorem Device.stopSends_of_may (h : d.canLive p = true ∨ Tab.getD d.stp.ahead p [] ≠ []) :
    ∃ e, d.stopSends p = some e ∧ Device.SendsStop p d e := by
  have hsome : (d.liveStop p).isSome = true ∨ (d.sendSealed p).isSome = true :=
    h.imp (fun hlive => by simp only [Device.liveStop, hlive, if_true, Option.isSome_some]) Device.isSome_sendSealed
  unfold Device.stopSends
  cases hlive : d.liveStop p with
  | none =>
    obtain ⟨e, he⟩ := Option.isSome_iff_exists.mp (hsome.resolve_left (by simp [hlive]))
    exact ⟨e, by simp [he], Device.sendsStop_of_sendSealed he⟩
  | some x =>
    cases hseal : d.sendSealed p with
    | none => exact ⟨x, by simp, Device.sendsStop_of_liveStop hlive⟩
    | some y =>
      split
      · exact ⟨y, by simp, Device.sendsStop_of_sendSealed hseal⟩
      · exact ⟨x, by simp, Device.sendsStop_of_liveStop hlive⟩

end

/-- A stop frame that is due goes out, and is booked (R206, R208). -/
theorem Device.stopFrame_of_due {s d : Device} {p start : Nat} (hd : s.advanceTo start = d) (hphase : d.stp.phase = 1)
    (hport : d.permitPorts.contains p = true) (hup : d.portUp p = true) (hdue : d.stopDue p ≤ start)
    (hmay : d.canLive p = true ∨ Tab.getD d.stp.ahead p [] ≠ []) (air : Nat) :
    ∃ (e : Device) (c : Bool), Device.SendsStop p (d.abortAir p 2) e ∧
      s.stopFrame p start air = (e.raiseIf c STP_INT_STAT 5).stopSent p start air := by
  obtain ⟨a, ha⟩ := d.abortAir_only p 2
  obtain ⟨e, he, hsends⟩ := Device.stopSends_of_may (d := d.abortAir p 2) (p := p) (by rw [ha]; exact hmay)
  refine ⟨e, (d.abortAir p 2).canSeal && !(d.abortAir p 2).canLive p, hsends, ?_⟩
  have hfirst : (d.abortAir p 2).stp.first = d.stp.first := by rw [ha]
  rw [Device.stopSends, hfirst] at he
  simp only [Device.liveStop] at he
  -- Unfolded as a function: applied, the kernel would evaluate the time jump, whose numbers are too large for it.
  generalize hf : @Device.stopFrame = f
  delta Device.stopFrame at hf
  rw [← hf]
  simp -zeta only [hd]
  simp only [hphase, hport, hup, Nat.not_lt.mpr hdue, not_true_eq_false, or_self, if_false, ne_eq, he,
    Option.getD_some, Option.isSome_some, if_true]

/-- The first frame of a port books its instant, and the stop's latency where it is the stop's first; another one books
a step of the port's grid (R206, R208). -/
def Device.stopBooked (d : Device) (p start : Nat) : Device :=
  let lat := (start - d.stp.phaseTb) / 1000
  if (Tab.find d.stp.first p).isNone then
    let e := { d with stp := { d.stp with first := Tab.put d.stp.first p start } }
    if d.stp.firstUp = none then
      let e := { e with stp := { e.stp with firstUp := some d.upNs } }
      let e := e.wrN STP_LAT (holdAt 0xFFFF lat)
      e.wrN STP_LAT_MAX (Nat.max (e.rdN STP_LAT_MAX) (holdAt 0xFFFF lat))
    else e
  else { d with stp := { d.stp with grid := Tab.put d.stp.grid p (Tab.getD d.stp.grid p 0 + 1) } }

/-- Booking a frame changes registers and the books of the stop alone, and the port then has its first frame. -/
theorem Device.stopBooked_only (d : Device) (p start : Nat) :
    ∃ r f u g, d.stopBooked p start =
        { d with regs := r, stp := { d.stp with first := f, firstUp := u, grid := g } } ∧
      (Tab.find f p).isSome = true := by
  unfold Device.stopBooked
  extract_lets lat _ e _ first latency
  split
  · have hput : (Tab.find (Tab.put d.stp.first p start) p).isSome = true := by simp
    split <;> exact ⟨_, _, _, _, rfl, hput⟩
  · next h => exact ⟨_, d.stp.first, _, _, rfl, Option.isSome_iff_ne_none.mpr (by simpa using h)⟩

/-- A booked frame is on air until its end, at the priority of stop frames (R208, R351). -/
theorem Device.stopSent_eq (d : Device) (p start air : Nat) :
    ∃ c, let e := d.stopBooked p start
      d.stopSent p start air =
        (({ e with stp := { e.stp with airUntil := Tab.put e.stp.airUntil p (start + air) } } : Device).raiseIf c
          STP_INT_STAT 7).putAir p 1 (start + air) :=
  ⟨_, rfl⟩

theorem Device.port_setPort_same (d : Device) (p : Nat) (m : Mac) : (d.setPort p m).port p = m := Tab.getD_put_self ..

theorem Device.air_putAir (d : Device) (p prio fin : Nat) : ((d.putAir p prio fin).port p).air = some ⟨prio, fin⟩ := by
  rw [Device.putAir, Device.port_setPort_same]

theorem Device.stopSent_leaves (d : Device) (p start air : Nat) :
    Tab.getD (d.stopSent p start air).stp.airUntil p 0 = start + air ∧
      ((d.stopSent p start air).port p).air.map (·.prio) = some 1 ∧
      (Tab.find (d.stopSent p start air).stp.first p).isSome = true ∧ (d.stopSent p start air).out = d.out := by
  obtain ⟨c, hsent⟩ := d.stopSent_eq p start air
  obtain ⟨r, f, u, g, hbooked, hfirst⟩ := d.stopBooked_only p start
  rw [hsent, Device.air_putAir]
  simp only [Device.putAir, Device.setPort_stp, Device.setPort_out, Device.raiseIf_stp, Device.raiseIf_out, hbooked,
    Tab.getD_put_self, hfirst, Option.map_some, and_self]

/-! ## Frames sealed in advance -/

/-- A port short of fresh sealed frames, with counters left in the reserved range, seals one more under the next of them
(R203, R204). -/
theorem Device.sealAhead_of_short {d : Device} {p : Nat} (hseal : d.canSeal = true)
    (hport : d.permitPorts.contains p = true)
    (hshort : ((Tab.getD d.stp.ahead p []).filter fun f => f.fresh d.keyIndex).length < 32)
    (hleft : Tab.getD d.stp.used p 0 < d.resvRange.2) :
    ∃ new old : List SealedFrame, d.sealAhead p = { d with stp := { d.stp with
      ahead := Tab.put d.stp.ahead p
        (new ++ [⟨d.resvRange.1 + Tab.getD d.stp.used p 0, d.heat, d.keyIndex, false⟩] ++ old),
      used := Tab.put d.stp.used p (Tab.getD d.stp.used p 0 + 1) } } := by
  simp only [Device.sealAhead, hseal, hport, Nat.not_le.mpr hshort, Nat.not_le.mpr hleft, not_true_eq_false, or_self,
    if_false]
  exact ⟨_, _, rfl⟩

/-! ## The commands -/

theorem exec_permitLatch (s : State) : exec .permitLatch s = .next { s with dev := s.dev.permitLatch } := rfl

theorem exec_permitBeacon (clear air : Nat) (s : State) :
    exec (.permitBeacon clear air) s = .next { s with dev := s.dev.permitBeacon clear air } := rfl

theorem exec_stopFrame (p start air : Nat) (s : State) :
    exec (.stopFrame p start air) s = .next { s with dev := s.dev.stopFrame p start air } := rfl

/-- A running device latches the payload of its heat, and its pins follow (R197, R200, R209). -/
theorem Completes.permitLatch {s : State} {d : Device}
    (hd : s.dev.advanceTo (s.dev.tb0 / 100000000 * 100000000 + 1800000) = d) (hrun : d.running = true) :
    Completes .permitLatch s fun e => ∃ b, e.stp.payload = some b ∧ b.heat = d.heat ∧
      b.stop = stopState e.stp ∧ b.causes = d.stp.latch ∧ b.list = d.stp.list.map (·.mach) ∧
      e.stp.latch = d.stp.latch ∧ e.pin pinStopOut = b2n (!b.stop) ∧ (b.stop = true → e.pin pinPermitOut = 0) ∧
      (d.standby = false → d.stp.phase = 2 → d.stp.latch = 0 → d.since d.stp.phaseUp 1000000000 = true →
        e.stp.phase = 0 ∧ b.stop = false) := by
  refine Completes.of_exec (exec_permitLatch s) ?_
  obtain ⟨r, n, hquiet, hturn⟩ := d.quietEnds_foldBegin_only
  obtain ⟨hstop, hpermit⟩ := d.quietEnds.foldBegin.payloadLatched.pinsFollow_pins
  rw [Device.permitLatch_of_running hd hrun, Device.pinsFollow_stp]
  generalize d.quietEnds.foldBegin = q at hquiet hstop hpermit ⊢
  subst hquiet
  refine ⟨_, rfl, rfl, rfl, rfl, rfl, rfl, hstop, hpermit, fun hholder hphase hlatch hsince => ?_⟩
  obtain rfl := hturn hholder hphase hlatch hsince
  exact ⟨rfl, by simp [Device.heatPayload, stopState, hlatch]⟩

/-- The beacon of a RUN payload goes out on the one port enabled for permits, and PERMIT_OUT rises (R200, R201, R203,
R205). -/
theorem Completes.permitBeacon {s : State} {d : Device} {b : Beacon} {clear p : Nat}
    (hd : s.dev.advanceTo (s.dev.tb0 / 100000000 * 100000000 + 2000000) = d) (hpayload : d.stp.payload = some b)
    (hsent : d.stp.sent = false) (hphase : d.stp.phase ≠ 1) (hrun : d.running = true) (hheat : b.heat = d.heat)
    (hlate : d.openedLate = false) (hstop : b.stop = false) (hmay : d.mayRun = true) (hports : d.permitPorts = [p])
    (hup : d.portUp p = true) (hlbt : d.lbt p = true → bitOf clear p = true) (hlive : d.canLive p = true) (air : Nat) :
    Completes (.permitBeacon clear air) s fun e => e.stp.sent = true ∧ e.pin pinPermitOut = 1 ∧
      e.liveCtr p = d.liveCtr p + 1 ∧
      ∃ w ∈ e.out, w.chan = .radio ∧ w.unit = p ∧ w.kind = 0x71 ∧
        w.data = leBytes 1 d.keyIndex ++ leBytes 4 (d.liveCtr p) ++
          beaconBytes b.list false false b.quiet b.causes b.heat := by
  refine Completes.of_exec (exec_permitBeacon clear air s) ?_
  obtain ⟨a, hbeacon⟩ := Device.beaconOn_of_may (b := b) air hup hlbt hlive
  have hgate : d.gate = true := by
    simp only [Device.portUp, Bool.and_eq_true] at hup
    exact hup.2
  have hone : (d.forEach d.permitPorts fun p x => x.beaconOn b clear air p) = d.beaconOn b clear air p := by
    rw [hports]
    rfl
  rw [Device.permitBeacon_of_run hd hpayload hsent hphase hrun hheat hlate hstop hmay, hone, hbeacon, hstop]
  dsimp only
  generalize hx : ({ d with mac := a, stp := _, out := _ } : Device) = x
  have hopen : x.gate = true := by
    rw [← hx]
    exact hgate
  obtain ⟨hpin, hstp, l, hout⟩ := Device.permit_shown hopen d.stp.key.isNone STP_INT_STAT 6
  refine ⟨?_, hpin, ?_, ⟨.radio, p, 0x71, _⟩, ?_, rfl, rfl, rfl, rfl⟩
  · rw [hstp, ← hx]
  · rw [Device.liveCtr, hstp, ← hx]
    exact Tab.getD_put_self ..
  · rw [hout, ← hx]
    exact List.mem_append_left _ (List.mem_append_right _ (List.mem_singleton_self _))

/-- A stop frame that is due is on air at the priority of stop frames, and opens the port's grid (R206, R208). -/
theorem Completes.stopFrame {s : State} {d : Device} {p start : Nat} (hd : s.dev.advanceTo start = d)
    (hphase : d.stp.phase = 1) (hport : d.permitPorts.contains p = true) (hup : d.portUp p = true)
    (hdue : d.stopDue p ≤ start) (hmay : d.canLive p = true ∨ Tab.getD d.stp.ahead p [] ≠ []) (air : Nat) :
    Completes (.stopFrame p start air) s fun e => Tab.getD e.stp.airUntil p 0 = start + air ∧
      ((e.port p).air.map (·.prio)) = some 1 ∧ (Tab.find e.stp.first p).isSome = true ∧
      ∃ w, (∃ l, e.out = d.out ++ w :: l) ∧ w.chan = .radio ∧ w.unit = p ∧ w.kind = 0x71 := by
  obtain ⟨e, c, ⟨f, a, data, hsends⟩, he⟩ := Device.stopFrame_of_due hd hphase hport hup hdue hmay air
  obtain ⟨x, hx⟩ := d.abortAir_only p 2
  obtain ⟨hair, hprio, hfirst, hout⟩ := (e.raiseIf c STP_INT_STAT 5).stopSent_leaves p start air
  refine Completes.of_exec (exec_stopFrame p start air s) ?_
  rw [he]
  refine ⟨hair, hprio, hfirst, ⟨.radio, p, 0x71, data⟩, ⟨[], ?_⟩, rfl, rfl, rfl⟩
  rw [hout, Device.raiseIf_out, hsends, hx]

theorem exec_sealAhead (p : Nat) (s : State) :
    exec (.sealAhead p) s = .next { s with dev := s.dev.sealAhead p } := rfl

theorem exec_monitorCheck (good : Nat) (s : State) :
    exec (.monitorCheck good) s = .next { s with dev := s.dev.monitor good } := rfl

/-- Settles O46: the payload through what the end of QUIET and of a pause leave, the beacon through the frame of its
port, stop frames through the frame that goes out and its booking, the monitor through the ports that it misses. -/
theorem permitsAndStopFramesAreSent : Obligations.PermitsAndStopFramesAreSent := by
  intro s
  refine ⟨?_, fun clear air b p => ?_, fun p start air => ?_, fun p hseal hport hshort hleft => ?_,
    fun good hgate hpayload => ⟨fun hports hsent htest htwo hlatch => ?_, fun hsent hgood => ?_⟩⟩
  · intro d hrun
    exact Completes.permitLatch (d := d) rfl hrun
  · intro d hpayload hsent hphase hrun hheat hlate hstop hmay hports hup hlbt hlive
    exact Completes.permitBeacon (d := d) rfl hpayload hsent hphase hrun hheat hlate hstop hmay hports hup hlbt hlive
      air
  · intro d hphase hport hup hdue hmay
    exact Completes.stopFrame (d := d) rfl hphase hport hup hdue hmay air
  · obtain ⟨new, old, he⟩ := Device.sealAhead_of_short hseal hport hshort hleft
    refine Completes.of_exec (exec_sealAhead p s) ?_
    rw [he]
    exact ⟨by simp, Tab.getD_put_self .., rfl⟩
  · obtain ⟨p, hp⟩ := List.exists_mem_of_ne_nil _ hports
    have hmiss : s.dev.missedPorts good ≠ [] :=
      List.ne_nil_of_mem (List.mem_filter.mpr ⟨hp, by simp [hsent, htest]⟩)
    refine Completes.of_exec (exec_monitorCheck good s) ?_
    rw [Device.monitor_of_third_miss hgate hpayload hmiss htwo hlatch]
    dsimp only
    rw [Device.slag_stp, Device.raise_stp]
    refine ⟨Device.bitOf_latch_latchCause _ 11, ?_, (Device.latchCause_move _ 11).misses⟩
    rw [Device.bit_of_rd_eq (Device.slag_rd _ _ _ _ _ _ (by decide))]
    exact Device.bit_raise_same _ STP_INT_STAT (by decide)
  · have hmiss : s.dev.missedPorts good = [] :=
      List.filter_eq_nil_iff.mpr fun p hp => by simp [hsent, hgood p hp]
    exact Completes.of_exec (exec_monitorCheck good s) (Device.monitor_of_no_miss hgate hpayload hmiss)

end Sys2Proof.Machine
end

section
/-!
PROOFS. The bellows (R328 to R342): what a change of a descriptor and a placement leave, and the commands that wake,
place, trigger and free tasks.
-/
namespace Sys2Proof.Machine

/-! ## Memory, and what a descriptor's copy in it leaves of the anvils -/

/-- A write of bytes keeps what each run of bytes and each mark keeps. -/
theorem Device.memWrite_keeps {β : Type} (v : Device → β) (hput : ∀ d a w, v (Device.memPut d a w) = v d)
    (hmark : ∀ d a n bad, v (Device.memMark d a n bad) = v d) (d : Device) (a : Nat) (w : Bytes) (bad : Bool) :
    v (d.memWrite a w bad) = v d := by
  have hrun : ∀ (e : Device) (lo : Nat) (w : Bytes), v (if w = [] then e else e.memPut lo w) = v e := by
    intro e lo w
    split
    · rfl
    · exact hput ..
  exact (hmark ..).trans (foldl_keeps v _ (fun e k => hrun e _ _) _ d)

@[simp] theorem Device.memPut_fab (d : Device) (a : Nat) (w : Bytes) : (d.memPut a w).fab = d.fab := by
  unfold Device.memPut
  dsimp only
  repeat' split
  all_goals rfl

@[simp] theorem Device.memWrite_fab (d : Device) (a : Nat) (w : Bytes) (bad : Bool) :
    (d.memWrite a w bad).fab = d.fab :=
  Device.memWrite_keeps Device.fab Device.memPut_fab (fun _ _ _ _ => rfl) d a w bad

@[simp] theorem Device.descLink_fab (d : Device) (n : Nat) : (d.descLink n).2.fab = d.fab := by
  unfold Device.descLink
  split <;> rfl

/-! ## Descriptors -/

section
variable (d : Device) (n : Nat)

@[simp] theorem Device.setDesc_fab (x : Desc) : (d.setDesc n x).fab = d.fab := by
  simp [Device.setDesc]

theorem Device.setDesc_dsp_of_free {x : Desc} (h : x.st = 0) :
    (d.setDesc n x).dsp = { d.dsp with desc := Tab.del d.dsp.desc n } := by
  simp [Device.setDesc, h]

theorem Device.desc_setDesc_same {x : Desc} (h : x.st ≠ 0) : (d.setDesc n x).desc n = x := by
  simp [Device.desc, Device.setDesc_dsp d n h]

theorem Device.desc_setDesc_of_free {x : Desc} (h : x.st = 0) : (d.setDesc n x).desc n = descFree := by
  simp [Device.desc, Device.setDesc_dsp_of_free d n h, Tab.getD, Tab.find_del]

@[simp] theorem Device.anv_setDesc (x : Desc) (a : Nat) : (d.setDesc n x).anv a = d.anv a := by
  simp [Device.anv]

@[simp] theorem Device.ready_setDesc (x : Desc) (l : Nat) : (d.setDesc n x).ready l = d.ready l := by
  by_cases h : x.st = 0
  · simp [Device.ready, Device.setDesc_dsp_of_free d n h]
  · simp [Device.ready, Device.setDesc_dsp d n h]

/-! ## The back-pressure test -/

@[simp] theorem Device.desc_bpTest : d.bpTest.desc n = d.desc n := by
  rw [Device.desc, Device.bpTest_dsp, Device.desc]

@[simp] theorem Device.ready_bpTest (l : Nat) : d.bpTest.ready l = d.ready l := by
  rw [Device.ready, Device.bpTest_dsp, Device.ready]

@[simp] theorem Device.anv_bpTest (a : Nat) : d.bpTest.anv a = d.anv a := by
  unfold Device.bpTest
  dsimp only
  split
  · rfl
  · split <;> rfl

/-! ## Tasks that become READY -/

theorem Device.ready_setReady_same (l : Nat) (x : List Nat) : (d.setReady l x).ready l = x :=
  Tab.getD_put_self ..

theorem Device.ready_toList_same (l : Nat) : (d.toList n l).ready l = d.ready l ++ [n] :=
  d.ready_setReady_same l _

/-- A task that becomes READY stands so in its descriptor, at the tail of the list that R333 gives it. -/
theorem Device.becomeReady_waits (x : Desc) :
    ((d.becomeReady n x).desc n).st = 1 ∧ (d.becomeReady n x).ready (d.listFor x) = d.ready (d.listFor x) ++ [n] := by
  unfold Device.becomeReady
  dsimp only
  rw [Device.ready_setDesc, Device.ready_toList_same, Device.desc_setDesc_same _ n Nat.one_ne_zero]
  exact ⟨rfl, rfl⟩

end

theorem not_mem_filter_ne (n : Nat) (l : List Nat) : n ∉ l.filter (· ≠ n) := by
  simp

/-! ## Placement -/

@[simp] theorem RSet.wx_pc (r : RSet) (k v : Nat) (bad : Bool) : (r.wx k v bad).pc = r.pc := by
  unfold RSet.wx
  split <;> rfl

@[simp] theorem RSet.wx_task (r : RSet) (k v : Nat) (bad : Bool) : (r.wx k v bad).task = r.task := by
  unfold RSet.wx
  split <;> rfl

theorem placedSet_pc (a n : Nat) (x : Desc) (now : Nat) : (placedSet a n x now).pc = x.entry := by
  simp [placedSet]

theorem placedSet_task (a n : Nat) (x : Desc) (now : Nat) : (placedSet a n x now).task = some n := by
  simp [placedSet]

theorem Anvil.rset_setR_same (v : Anvil) (k : Nat) (r : RSet) : (v.setR k r).rset k = r :=
  Tab.getD_put_self ..

section
variable (d : Device) (a c l n : Nat)

theorem Device.desc_place : (d.place a c l n).desc n = { d.desc n with st := 2, at_ := some (a, c) } :=
  Device.desc_setDesc_same _ n (x := { d.desc n with st := 2, at_ := some (a, c) }) (Nat.succ_ne_zero 1)

theorem Device.ready_place : (d.place a c l n).ready l = (d.ready l).filter (· ≠ n) :=
  (Device.ready_setDesc ..).trans (d.ready_setReady_same l _)

theorem Device.rset_place :
    ((d.place a c l n).anv a).rset (c + 1) = placedSet a n (d.desc n) (d.anv a).now := by
  unfold Device.place
  dsimp only
  rw [Device.anv_setDesc, Device.anv_setAnv, Anvil.rset_setR_same]
  rfl

end

theorem Device.dispatch_of_head {d : Device} {h a c l n : Nat} {rest : List Nat} (hplace : d.placeAt h = some a)
    (hctx : d.freeCtx a = some c) (hlist : d.takesFrom a = some l) (hhead : d.ready l = n :: rest) :
    d.dispatch h = (d.place a c l n).bpTest := by
  simp [Device.dispatch, hplace, hctx, hlist, hhead]

/-! ## Triggers -/

/-- Enabling a trigger on a queue that it may bind sets its ENABLE and takes the queue's packets from now on (R337). -/
theorem Device.trigWrite_enables {d : Device} (k : Nat) {value : Nat} (hon : bitOf value 14 = true)
    (hwas : d.bit (DSP_TRIG_Q k) 14 = false) (hcons : d.fld (QUE_CFG (bitsOf value 0 8)) 16 8 = 0x40)
    (hbp : d.bit (QUE_CFG (bitsOf value 0 8)) 24 = true) :
    let e := (d.wrN (DSP_TRIG_Q k) (bitsOf value 0 14)).raise (DSP_TRIG_Q k) 14
    d.trigWrite k value =
      { e with dsp := { e.dsp with made := Tab.put e.dsp.made k (d.q (bitsOf value 0 8)).vis } } := by
  simp only [Device.trigWrite, hon, hwas, hcons, hbp, not_true_eq_false, Bool.false_eq_true, false_and, and_self,
    if_true, if_false]
  rfl

/-- A packet of an enabled trigger whose post is taken counts as made (R337). -/
theorem Device.trigTask_posts {d e : Device} {k n : Nat} (hon : d.bit (DSP_TRIG_Q k) 14 = true)
    (hseen : Tab.getD d.dsp.made k 0 < (d.q (d.fld (DSP_TRIG_Q k) 0 8)).vis)
    (hpost : d.postTask (d.rdN (DSP_TRIG_ADDR k)) (Tab.getD d.dsp.lastOf k (d.fld (DSP_TRIG_Q k) 8 6))
      (Tab.getD d.dsp.lastOf k (d.fld (DSP_TRIG_Q k) 8 6) / 8) (0x80 + k) = (stDone, n, e)) :
    d.trigTask k = { e with dsp := { e.dsp with made := Tab.put e.dsp.made k (Tab.getD d.dsp.made k 0 + 1) } } := by
  have hroom : stDone ≠ stNoCapacity := by decide
  simp [Device.trigTask, hon, hseen, hpost, hroom]

/-! ## Completion records -/

/-- A task whose record is written has a FREE descriptor, and no record of it waits (R340). -/
theorem Device.writeRecord_frees (d : Device) (n : Nat) :
    (d.writeRecord n).desc n = descFree ∧ n ∉ (d.writeRecord n).dsp.recs :=
  ⟨Device.desc_setDesc_of_free _ n rfl, not_mem_filter_ne n _⟩

/-! ## The commands -/

theorem exec_triggerEnable (k value : Nat) (s : State) :
    exec (.triggerEnable k value) s = .next { s with dev := s.dev.trigWrite k value } := rfl

theorem exec_triggerTask {s : State} (hdsp : s.dev.dspOn = true) (k : Nat) :
    exec (.triggerTask k) s = .next { s with dev := s.dev.trigTask k } := by
  have hexec : exec (.triggerTask k) s = execTriggerTask k s := rfl
  rw [hexec, execTriggerTask, if_pos hdsp]

theorem exec_notBeforeWake {s : State} {n : Nat} (hdsp : s.dev.dspOn = true) (hst : (s.dev.desc n).st = 3)
    (hdue : s.dev.later (s.dev.desc n).nbHeat (s.dev.desc n).nbStroke = false) :
    exec (.notBeforeWake n) s = .next { s with dev := (s.dev.becomeReady n (s.dev.desc n)).bpTest } := by
  have hexec : exec (.notBeforeWake n) s = execNotBeforeWake n s := rfl
  rw [hexec, execNotBeforeWake, if_pos ⟨hdsp, hst, by simp [hdue]⟩]

theorem exec_taskDispatch {s : State} (hdsp : s.dev.dspOn = true) (h : Nat) :
    exec (.taskDispatch h) s = .next { s with dev := s.dev.dispatch h } := by
  have hexec : exec (.taskDispatch h) s = execTaskDispatch h s := rfl
  rw [hexec, execTaskDispatch, if_pos hdsp]

theorem exec_completionRecord {s : State} {n : Nat} (hdue : s.dev.recordDue = some n) :
    exec .completionRecord s = .next { s with dev := s.dev.writeRecord n } := by
  have hexec : exec .completionRecord s = execCompletionRecord s := rfl
  rw [hexec, execCompletionRecord, hdue]

/-- Settles O33, command by command: what each does to the registers, lists and descriptors is said by the lemma of the
bellows' own operation. -/
theorem bellowsCommandsMoveTasks : Obligations.BellowsCommandsMoveTasks := by
  intro s n k
  refine ⟨fun value _ hon hwas hcons hbp => ?_, fun d e hdsp hon hseen hpost => ?_, fun hdsp hst hdue => ?_,
    fun h a c l rest hdsp hplace hctx hlist hhead => ?_, fun hdue => ?_⟩
  · refine Completes.of_exec (exec_triggerEnable k value s) ?_
    rw [Device.trigWrite_enables k hon hwas hcons hbp]
    exact ⟨Device.bit_raise_same _ (DSP_TRIG_Q k) (by decide), Tab.find_put_self ..⟩
  · refine Completes.of_exec (exec_triggerTask hdsp k) ?_
    rw [Device.trigTask_posts hon hseen hpost]
    exact ⟨rfl, rfl⟩
  · obtain ⟨hready, hlist⟩ := s.dev.becomeReady_waits n (s.dev.desc n)
    refine Completes.of_exec (exec_notBeforeWake hdsp hst hdue) ?_
    rw [Device.desc_bpTest, Device.ready_bpTest, hlist]
    exact ⟨hready, List.mem_append_right _ (List.mem_singleton_self n)⟩
  · refine Completes.of_exec (exec_taskDispatch hdsp h) ?_
    rw [Device.dispatch_of_head hplace hctx hlist hhead, Device.desc_bpTest, Device.anv_bpTest, Device.ready_bpTest,
      Device.desc_place, Device.rset_place, Device.ready_place]
    exact ⟨rfl, rfl, placedSet_task .., placedSet_pc .., not_mem_filter_ne n _⟩
  · obtain ⟨hfree, hrecs⟩ := s.dev.writeRecord_frees n
    refine Completes.of_exec (exec_completionRecord hdue) ⟨?_, hrecs⟩
    rw [hfree]
    rfl

end Sys2Proof.Machine
end

section
/-!
PROOFS. Radio ports and node records: what an update of a port or of a record leaves elsewhere, what the report that
ends a frame leaves, and what a frame that goes on air does (R108, R349, R351, R358, R359).
-/
namespace Sys2Proof.Machine

/-! ## Holding counters -/

theorem holdAt_eq_min (top x : Nat) : holdAt top x = Nat.min top x := by
  change (if top < x then top else x) = min top x
  split <;> omega

theorem Device.rdN_of_rd_eq {d e : Device} {r : Reg} (h : e.rd r = d.rd r) : e.rdN r = d.rdN r :=
  congrArg BitVec.toNat h

theorem Device.rdN_count_same (d : Device) (r : Reg) : (d.count r).rdN r = Nat.min 0xFFFFFFFF (d.rdN r + 1) := by
  have hle : Nat.min 0xFFFFFFFF (d.rdN r + 1) ≤ 0xFFFFFFFF := Nat.min_le_left ..
  rw [Device.count, Device.addHold, Device.rdN_wrN_same, holdAt_eq_min, Nat.mod_eq_of_lt (by omega)]

/-! ## Ports -/

theorem Device.port_of_mac_eq {d e : Device} (h : e.mac = d.mac) (p : Nat) : e.port p = d.port p := by
  simp only [Device.port, h]

/-- The registers of a port lie in one of the four MAC blocks. -/
theorem macBlk_mem (p : Nat) : macBlk p ∈ [Blk.mac0, .mac1, .mac2, .mac3] := by
  unfold macBlk
  repeat' split
  all_goals decide

theorem macBlk_ne_que (p : Nat) : macBlk p ≠ .que := ne_of_mem_of_not_mem (macBlk_mem p) (by decide)

theorem macBlk_ne_err (p : Nat) : macBlk p ≠ .err := ne_of_mem_of_not_mem (macBlk_mem p) (by decide)

/-- The parts of a port that say when it may begin a frame (R345, R351, R352). -/
def Mac.onAir (m : Mac) : Bool × Bool × Option Air × Nat := (m.locked, m.fault, m.air, m.resvEnd)

theorem Device.reservation_of_resvEnd_eq {d e : Device} {p : Nat} (h : (e.port p).resvEnd = (d.port p).resvEnd)
    (t : Nat) : e.reservation p t = d.reservation p t := by
  simp only [Device.reservation, h]

section
variable {d e : Device} {p : Nat} (hregs : e.regs = d.regs) (hpair : e.pair = d.pair)
  (hair : (e.port p).onAir = (d.port p).onAir)
include hregs hpair hair

theorem Device.portUp_of_onAir_eq : e.portUp p = d.portUp p := by
  simp only [Mac.onAir, Prod.mk.injEq] at hair
  obtain ⟨hlocked, hfault, -, -⟩ := hair
  simp only [Device.portUp, Device.bit, Device.rdN, Device.rd, Device.gate, hregs, hpair, hlocked, hfault]

theorem Device.mayAir_of_onAir_eq (start air : Nat) : e.mayAir p start air = d.mayAir p start air := by
  have hup := Device.portUp_of_onAir_eq hregs hpair hair
  simp only [Mac.onAir, Prod.mk.injEq] at hair
  obtain ⟨-, -, hair, hend⟩ := hair
  have hresv := Device.reservation_of_resvEnd_eq hend start
  simp only [Device.mayAir, hup, hresv, hair]

end

/-! ## Node records -/

theorem Device.nd_of_flt_eq {d e : Device} (h : e.flt = d.flt) (n i : Nat) : e.nd n i = d.nd n i := by
  simp only [Device.nd, Device.node, h]

theorem Device.nkind_of_flt_eq {d e : Device} (h : e.flt = d.flt) (n : Nat) : e.nkind n = d.nkind n := by
  simp only [Device.nkind, Device.nd_of_flt_eq h]

theorem Device.nd_setNds (d : Device) (n : Nat) (l : List (Nat × Nat)) (i : Nat) :
    (d.setNds n l).nd n i = recGet (recSets (d.node n) l) i := by
  simp only [Device.nd, Device.node, Device.setNds, Device.setNode, Tab.getD_put_self]

theorem Device.nd_setNds_of_not_mem (d : Device) (n : Nat) (l : List (Nat × Nat)) {i : Nat} (h : i ∉ l.map (·.1)) :
    (d.setNds n l).nd n i = d.nd n i := by
  rw [Device.nd_setNds, recGet_recSets_of_not_mem _ _ h, Device.nd]

/-- A field of a record reads as the last write to it left it. -/
theorem Device.nd_setNds_of_split (d : Device) (n : Nat) {l : List (Nat × Nat)} (a b : List (Nat × Nat)) {i v : Nat}
    (hl : l = a ++ (i, v) :: b) (h : i ∉ b.map (·.1)) : (d.setNds n l).nd n i = v := by
  rw [Device.nd_setNds, hl, recGet_recSets_append _ _ _ _ _ h]

/-! ## Reports of the end of a frame -/

/-- A record on queue 1 leaves every register outside QUE. -/
theorem Device.record_rd (d : Device) (p ty : Nat) (b : Bytes) {x : Reg} (hx : x.blk ≠ .que) :
    (d.record p ty b).rd x = d.rd x := by
  unfold Device.record
  dsimp only
  split
  · exact Device.hwPush_rd _ _ hx _
  · exact Device.rd_raise_ne _ _ (Reg.ne_of_blk hx)

section
variable (d : Device) (part n tag status : Nat)

theorem Device.nodeTxEvent_only : ∃ r q, d.nodeTxEvent part n tag status = { d with regs := r, que := q } :=
  d.record_only ..

@[simp] theorem Device.nodeTxEvent_mac : (d.nodeTxEvent part n tag status).mac = d.mac := by
  obtain ⟨r, q, h⟩ := d.nodeTxEvent_only part n tag status
  rw [h]

@[simp] theorem Device.nodeTxEvent_port (p : Nat) : (d.nodeTxEvent part n tag status).port p = d.port p :=
  Device.port_of_mac_eq (d.nodeTxEvent_mac ..) p

@[simp] theorem Device.nodeTxEvent_flt : (d.nodeTxEvent part n tag status).flt = d.flt := by
  obtain ⟨r, q, h⟩ := d.nodeTxEvent_only part n tag status
  rw [h]

@[simp] theorem Device.nodeTxEvent_pins : (d.nodeTxEvent part n tag status).pins = d.pins := by
  obtain ⟨r, q, h⟩ := d.nodeTxEvent_only part n tag status
  rw [h]

theorem Device.nodeTxEvent_rd {x : Reg} (hx : x.blk ≠ .que) : (d.nodeTxEvent part n tag status).rd x = d.rd x :=
  d.record_rd _ _ _ hx

end

/-! ## Held frames that are flushed -/

section
variable (d : Device) (p : Nat) (which : Held → Bool)

/-- Flushing leaves the held frames that it does not name. -/
theorem Device.flushHeld_mac : (d.flushHeld p which).mac =
    (d.setPort p { d.port p with store := (d.port p).store.filter fun h => !which h }).mac :=
  Device.forEach_keeps Device.mac _ (fun _ e => e.nodeTxEvent_mac ..) _ _

theorem Device.flushHeld_store :
    ((d.flushHeld p which).port p).store = (d.port p).store.filter fun h => !which h := by
  rw [Device.port_of_mac_eq (d.flushHeld_mac p which), Device.port_setPort_same]

theorem Device.flushHeld_flt : (d.flushHeld p which).flt = d.flt :=
  Device.forEach_keeps Device.flt _ (fun _ e => e.nodeTxEvent_flt ..) _ _

theorem Device.flushHeld_pins : (d.flushHeld p which).pins = d.pins :=
  Device.forEach_keeps Device.pins _ (fun _ e => e.nodeTxEvent_pins ..) _ _

theorem Device.flushHeld_rd {x : Reg} (hx : x.blk ≠ .que) : (d.flushHeld p which).rd x = d.rd x :=
  Device.forEach_keeps (fun e => e.rd x) _ (fun _ e => e.nodeTxEvent_rd _ _ _ _ hx) _ _

end

/-! ## Frames on air -/

section
variable (d : Device) (p prio start air kind : Nat) (body : Bytes)

theorem Device.radioSend_port :
    (d.radioSend p prio start air kind body).port p = { d.port p with air := some ⟨prio, start + air⟩ } :=
  Device.port_setPort_same ..

theorem Device.radioSend_out : (d.radioSend p prio start air kind body).out = d.out ++ [⟨.radio, p, kind, body⟩] :=
  rfl

end

/-- The frame counter that rises before a secured frame changes the node records alone (R349). -/
theorem Device.secureOut_only (d : Device) (n : Nat) :
    ∃ x, d.secureOut n = { d with flt := { d.flt with nodes := x } } := by
  unfold Device.secureOut
  split <;> exact ⟨_, rfl⟩

@[simp] theorem Device.secureOut_mac (d : Device) (n : Nat) : (d.secureOut n).mac = d.mac := by
  obtain ⟨x, h⟩ := d.secureOut_only n
  rw [h]

@[simp] theorem Device.secureOut_port (d : Device) (n p : Nat) : (d.secureOut n).port p = d.port p :=
  Device.port_of_mac_eq (d.secureOut_mac n) p

@[simp] theorem Device.secureOut_out (d : Device) (n : Nat) : (d.secureOut n).out = d.out := by
  obtain ⟨x, h⟩ := d.secureOut_only n
  rw [h]

@[simp] theorem Device.secureOut_tim (d : Device) (n : Nat) : (d.secureOut n).tim = d.tim := by
  obtain ⟨x, h⟩ := d.secureOut_only n
  rw [h]

/-- The payload of a frame to a node lies behind its short address, its frame-pending bit and its frame counter. -/
theorem Device.drop_frameOut (d : Device) (n : Nat) (pending : Bool) (body : Bytes) :
    (d.frameOut n pending body).drop 7 = body := rfl

end Sys2Proof.Machine
end

section
/-!
PROOFS. Frames that a port receives: acceptance, acknowledgements owed, data frames, polls, relay reports, delivery, and
nodes that fall silent or leave (R345 to R350, R357 to R364).
-/
namespace Sys2Proof.Machine

/-! ## Acceptance -/

section
variable {d e : Device} {f : RxFrame}

/-- An accepted frame passed its security and its addressing, and its sender was heard (R108, R348, R349). -/
theorem Device.rx_took {assoc : Bool} (h : d.rx f assoc = (true, e)) :
    ∃ y, (d.advanceTo f.fin).mpduTake f.port f.mpdu assoc = (true, y) ∧
      e = if f.mpdu.src < 0xFFFE then y.nodeHeard (nodeNum f.port f.mpdu.src) f.rssi f.lqi else y := by
  unfold Device.rx at h
  generalize d.advanceTo f.fin = a at h ⊢
  dsimp only at h
  split at h
  · simp at h
  split at h
  · simp at h
  split at h
  · next y hy =>
    simp only [Prod.mk.injEq, true_and] at h
    exact ⟨y, hy, h.symm⟩
  · simp at h

/-- A secured frame is taken under a counter above its node's, which it then becomes (R349). -/
theorem Device.mpduTake_secured {p : Nat} {m : Mpdu} {assoc : Bool} (h : d.mpduTake p m assoc = (true, e))
    (hsec : m.secured = true) :
    m.src < 0xFFFE ∧ d.secOk (nodeNum p m.src) m = true ∧
      e = (d.setNds (nodeNum p m.src) [(32, m.ctr)]).count (MAC_RX_OK p) := by
  unfold Device.mpduTake at h
  dsimp only at h
  rw [hsec] at h
  split at h
  · simp at h
  simp only [if_true] at h
  split at h
  · next hok =>
    obtain ⟨hshort, hsecure⟩ := hok
    simp only [Prod.mk.injEq, true_and] at h
    exact ⟨hshort, hsecure, h.symm⟩
  · simp at h

theorem Device.heat_of_tim_eq {d e : Device} (h : e.tim = d.tim) : e.heat = d.heat := by
  simp only [Device.heat, Device.tb0, Device.base, h]

/-- Hearing a node writes its heat, and leaves its frame counter (R108). -/
theorem Device.nodeHeard_fields (d : Device) (n rssi lqi : Nat) :
    (d.nodeHeard n rssi lqi).nd n 24 = d.heat ∧ (d.nodeHeard n rssi lqi).nd n 32 = d.nd n 32 :=
  ⟨Device.nd_setNds_of_split _ _ [] _ rfl (by simp), Device.nd_setNds_of_not_mem _ _ _ (by simp)⟩

/-- A secured frame that is accepted moves its node's counter and last contact (R108, R349). -/
theorem Device.rx_counter {a : Device} {assoc : Bool} (ha : d.advanceTo f.fin = a) (h : d.rx f assoc = (true, e))
    (hsec : f.mpdu.secured = true) :
    let w := nodeNum f.port f.mpdu.src
    a.nd w 32 < f.mpdu.ctr ∧ e.nd w 32 = f.mpdu.ctr ∧ e.nd w 24 = a.heat := by
  obtain ⟨y, htake, he⟩ := Device.rx_took h
  rw [ha] at htake
  obtain ⟨hsrc, hok, hy⟩ := Device.mpduTake_secured htake hsec
  rw [if_pos hsrc] at he
  obtain ⟨hheat, hctr⟩ := y.nodeHeard_fields (nodeNum f.port f.mpdu.src) f.rssi f.lqi
  rw [← he] at hheat hctr
  have hcount : y.nd (nodeNum f.port f.mpdu.src) 32 = f.mpdu.ctr := by
    rw [hy]
    exact a.nd_setNds_of_split _ [] [] rfl (by simp)
  have htim : y.tim = a.tim := by rw [hy, Device.count_tim, Device.setNds_tim]
  simp only [Device.secOk, Bool.and_eq_true, decide_eq_true_eq] at hok
  obtain ⟨⟨-, habove⟩, -⟩ := hok
  exact ⟨habove, hctr.trans hcount, hheat.trans (Device.heat_of_tim_eq htim)⟩

section
variable (hhears : (d.advanceTo f.fin).hears f.port f.sfd = true)
include hhears

theorem Device.rx_of_bad_fcs (hfcs : f.fcs = false) (assoc : Bool) :
    d.rx f assoc = (false, (d.advanceTo f.fin).count (MAC_RX_DROP f.port)) := by
  unfold Device.rx
  generalize d.advanceTo f.fin = a at hhears ⊢
  simp [hhears, hfcs, Device.macDrop]

theorem Device.rx_of_insecure (hfcs : f.fcs = true) (hfeature : f.mpdu.feature = true) {assoc : Bool}
    (haddr : (d.advanceTo f.fin).addrOk f.port f.mpdu assoc = true) (hsec : f.mpdu.secured = true)
    (hbad : (d.advanceTo f.fin).secOk (nodeNum f.port f.mpdu.src) f.mpdu = false) :
    d.rx f assoc =
      (false, ((d.advanceTo f.fin).count (MAC_RX_DROP f.port)).raise (MAC_INT_STAT f.port) 0) := by
  unfold Device.rx
  generalize d.advanceTo f.fin = a at hhears haddr hbad ⊢
  simp [hhears, hfcs, Device.mpduTake, hfeature, haddr, hsec, hbad, Device.macDrop]

end

/-! ## Acknowledgements owed -/

section
variable (d f) (poll pending : Bool)

@[simp] theorem Device.oweAck_flt : (d.oweAck f poll pending).flt = d.flt := by
  unfold Device.oweAck
  split <;> rfl

@[simp] theorem Device.oweAck_regs : (d.oweAck f poll pending).regs = d.regs := by
  unfold Device.oweAck
  split <;> rfl

@[simp] theorem Device.oweAck_out : (d.oweAck f poll pending).out = d.out := by
  unfold Device.oweAck
  split <;> rfl

/-- An acknowledgement that is owed changes nothing else of its port. -/
theorem Device.oweAck_port :
    ∃ l, (d.oweAck f poll pending).port f.port = { d.port f.port with acks := l } := by
  unfold Device.oweAck
  split
  · exact ⟨_, Device.port_setPort_same ..⟩
  · exact ⟨_, rfl⟩

theorem Device.oweAck_acks (hack : f.mpdu.ackReq = true) :
    ((d.oweAck f poll pending).port f.port).acks = (d.port f.port).acks ++
      [⟨f.mpdu.src, f.mpdu.eui, f.fin, poll, pending, false, f.mpdu.secured && f.mpdu.v2⟩] := by
  simp only [Device.oweAck, hack, if_true, Device.port_setPort_same]

end

/-- The instant before which a frame that begins at `t` must end: the next beacon reservation (R352). -/
def Device.nextResv (d : Device) (p t : Nat) : Nat :=
  if t < (d.reservation p t).1 then (d.reservation p t).1 else (d.reservation p t).1 + 100000000

/-- The frame-pending bit of a poll's acknowledgement: a frame is held, and it fits before the next reservation (R350,
R357). -/
def Device.pollPending (d : Device) (f : RxFrame) (ackAir heldAir : Nat) : Bool :=
  d.heldFor f.port f.mpdu.src ≠ [] && decide (f.fin + 1000000 + ackAir + heldAir ≤ d.nextResv f.port f.fin)

theorem Device.pollPending_iff (d : Device) (f : RxFrame) (ackAir heldAir : Nat) :
    d.pollPending f ackAir heldAir = true ↔
      d.heldFor f.port f.mpdu.src ≠ [] ∧ f.fin + 1000000 + ackAir + heldAir ≤ d.nextResv f.port f.fin := by
  simp only [Device.pollPending, Bool.and_eq_true, decide_eq_true_eq]

/-! ## Data frames -/

theorem ofSigned_lt (w : Nat) (i : Int) : ofSigned w i < 2 ^ w := by
  have hpos : (0 : Int) < ((2 ^ w : Nat) : Int) := Int.natCast_pos.mpr (Nat.two_pow_pos w)
  have hlt := Int.emod_lt_of_pos i hpos
  have hnonneg := Int.emod_nonneg i (Int.ne_of_gt hpos)
  unfold ofSigned
  omega

/-- The data frame of a sensor or a relay is one packet on its owner's node queue (R360). -/
theorem Device.nodeFrame_of_data {n : Nat} (hkind : d.nkind n ≠ 3) (p : Nat) (f : RxFrame) (body : Bytes)
    (rssi lqi seq : Nat) (ok : Bool) :
    ∃ ns, ns < 2 ^ 32 ∧ d.nodeFrame p n f body rssi lqi seq ok = d.nodeData n ns rssi lqi body :=
  ⟨_, ofSigned_lt 32 _, if_neg hkind⟩

theorem Device.nodeFrame_of_machine {n : Nat} (hkind : d.nkind n = 3) (p : Nat) (f : RxFrame) (body : Bytes)
    (rssi lqi seq : Nat) (ok : Bool) :
    d.nodeFrame p n f body rssi lqi seq ok = d.machIngress true ⟨n, seq, ok, f.sfd, body⟩ := if_pos hkind

theorem Device.relayUp_of_none (hchild : f.child = none) (seq : Nat) (ok : Bool) :
    d.relayUp f seq ok = d.count (MAC_RX_DROP f.port) := by
  simp only [Device.relayUp, hchild, Device.macDrop]

theorem Device.relayUp_of_took {m : Mpdu} (hchild : f.child = some m)
    (htake : d.mpduTake f.port m false = (true, e)) (seq : Nat) (ok : Bool) :
    d.relayUp f seq ok =
      (e.nodeHeard (nodeNum f.port m.src) (uAt f.mpdu.body 6 1) (uAt f.mpdu.body 7 1)).nodeFrame f.port
        (nodeNum f.port m.src) f m.body (uAt f.mpdu.body 6 1) (uAt f.mpdu.body 7 1) seq ok := by
  simp only [Device.relayUp, hchild, htake]

section
variable (htook : d.rx f false = (true, e))
include htook

/-- A frame that is no relay's report and no relay's envelope is its node's own (R360). -/
theorem Device.dataFrame_of_own
    (hown : e.nkind (nodeNum f.port f.mpdu.src) = 2 → uAt f.mpdu.body 0 1 ≠ 0xA5 ∧ uAt f.mpdu.body 0 1 ≠ 0xA6)
    (seq : Nat) (ok : Bool) :
    d.dataFrame f seq ok = (e.oweAck f false false).nodeFrame f.port (nodeNum f.port f.mpdu.src) f f.mpdu.body f.rssi
      f.lqi seq ok := by
  have hkind := Device.nkind_of_flt_eq (e.oweAck_flt f false false) (nodeNum f.port f.mpdu.src)
  simp only [Device.dataFrame, htook, hkind]
  rw [if_neg fun ⟨hrelay, hty⟩ => (hown hrelay).1 hty, if_neg fun ⟨hrelay, hty⟩ => (hown hrelay).2 hty]

/-- A relay's envelope 0xA6 carries its child's frame (R362). -/
theorem Device.dataFrame_of_envelope (hrelay : e.nkind (nodeNum f.port f.mpdu.src) = 2)
    (hty : uAt f.mpdu.body 0 1 = 0xA6) (seq : Nat) (ok : Bool) :
    d.dataFrame f seq ok = (e.oweAck f false false).relayUp f seq ok := by
  have hkind := Device.nkind_of_flt_eq (e.oweAck_flt f false false) (nodeNum f.port f.mpdu.src)
  simp [Device.dataFrame, htook, hkind, hrelay, hty]

/-! ## Polls -/

/-- An accepted poll owes its acknowledgement, with the frame-pending bit (R350, R357). -/
theorem Device.poll_of_took (ackAir heldAir : Nat) :
    ∃ m : Mac, m.acks = (e.port f.port).acks ∧ d.poll f ackAir heldAir =
      (e.setPort f.port m).oweAck f true (e.pollPending f ackAir heldAir) := by
  refine ⟨{ e.port f.port with store := (e.port f.port).store.map fun h =>
    if h.short = f.mpdu.src then { h with onAir := false } else h }, rfl, ?_⟩
  simp only [Device.poll, htook]
  rfl

/-! ## Nodes that leave -/

theorem Device.disassociate_of_node
    (hkind : e.nkind (nodeNum f.port f.mpdu.src) = 1 ∨ e.nkind (nodeNum f.port f.mpdu.src) = 2) :
    d.disassociate f = (e.oweAck f false false).nodeLeaves (nodeNum f.port f.mpdu.src) := by
  have hsame := Device.nkind_of_flt_eq (e.oweAck_flt f false false) (nodeNum f.port f.mpdu.src)
  simp only [Device.disassociate, htook, hsame]
  exact if_pos (by omega)

theorem Device.disassociate_of_machine (hkind : e.nkind (nodeNum f.port f.mpdu.src) = 3) :
    d.disassociate f = e.oweAck f false false := by
  have hsame := Device.nkind_of_flt_eq (e.oweAck_flt f false false) (nodeNum f.port f.mpdu.src)
  simp only [Device.disassociate, htook, hsame]
  exact if_neg (by omega)

end

theorem Device.flushNode_flt (d : Device) (n : Nat) : (d.flushNode n).flt = d.flt := by
  unfold Device.flushNode
  dsimp only
  split
  · exact d.flushHeld_flt ..
  · rfl

/-- A node that leaves has state leaving, waits for the heat boundary that frees it, and leaves the machines' entries
(R116). -/
theorem Device.nodeLeaves_fields (d : Device) (n : Nat) :
    (d.nodeLeaves n).nd n 5 = 3 ∧ n ∈ (d.nodeLeaves n).flt.goners ∧ (d.nodeLeaves n).flt.tab = d.flt.tab := by
  have hflt := (d.setNds n [(5, 3)]).flushNode_flt n
  unfold Device.nodeLeaves
  refine ⟨?_, ?_, ?_⟩
  · simp only [Device.nd, Device.node, hflt]
    exact d.nd_setNds_of_split n [] [] rfl (by simp)
  · dsimp only
    split
    · next h => exact List.contains_iff_mem.mp h
    · exact List.mem_append_right _ (List.mem_singleton_self n)
  · simp only [hflt]
    rfl

/-! ## Relay reports -/

/-- The held frame that a relay's report names (R362). -/
def reportNames (b : Bytes) (h : Held) : Bool := h.short = uAt b 2 2 && h.relay = some (uAt b 4 2)

section
variable {p : Nat} {b : Bytes} (hlen : b.length = 8) (hst : uAt b 1 1 ≤ 2)
include hlen hst

theorem Device.relayReport_of_none (hfind : (d.port p).store.find? (reportNames b) = none) :
    d.relayReport p b = d := by
  unfold Device.relayReport
  dsimp only
  unfold reportNames at hfind
  rw [if_neg (by omega), hfind]

/-- A relay's report ends the held frame that it names, and counts it where it expired (R358, R362). -/
theorem Device.relayReport_of_some {h : Held} (hfind : (d.port p).store.find? (reportNames b) = some h) :
    ((d.relayReport p b).port p).store = dropFirst (d.port p).store (reportNames b) ∧
      (uAt b 1 1 = 1 →
        (d.relayReport p b).rdN (MAC_EXPIRED p) = Nat.min 0xFFFFFFFF (d.rdN (MAC_EXPIRED p) + 1)) := by
  unfold Device.relayReport
  dsimp only
  unfold reportNames at hfind
  rw [if_neg (by omega), hfind]
  refine ⟨?_, fun hone => ?_⟩
  · rw [Device.nodeTxEvent_port]
    split <;> exact congrArg Mac.store (Device.port_setPort_same ..)
  · rw [if_pos hone, Device.rdN_of_rd_eq (Device.nodeTxEvent_rd _ _ _ _ _ (macBlk_ne_que p)),
      Device.rdN_of_rd_eq (Device.rd_raise_ne _ _ (by simp [MAC_EXPIRED, MAC_INT_STAT])), Device.rdN_count_same]
    rfl

end

/-! ## Frames that are delivered -/

section
variable {p short fin : Nat} (hd : d.advanceTo fin = e) (hon : e.bit (MAC_CTRL p) 0 = true)
  (hlocked : (e.port p).locked = true) (hfault : (e.port p).fault = false)
include hd hon hlocked hfault

/-- The frame of a node that an acknowledgement finds on air. -/
def Held.flies (short : Nat) (h : Held) : Bool := h.short = short && h.onAir

/-- An acknowledgement ends the held frame on air that it answers (R357, R359). -/
theorem Device.acked_of_held {h : Held} (hfind : (e.port p).store.find? (Held.flies short) = some h) :
    d.acked p short fin =
      (e.setPort p { e.port p with store := dropFirst (e.port p).store (Held.flies short) }).nodeTxEvent h.part
        (nodeNum p short) h.tag 0 := by
  unfold Held.flies at hfind
  unfold Device.acked
  rw [hd]
  dsimp only
  rw [if_neg (by simp [hon, hlocked, hfault]), hfind]
  rfl

/-- Where no held frame waits for it, an acknowledgement ends the direct frame that was sent (R353, R359). -/
theorem Device.acked_of_direct {r : Direct} {l : List Direct}
    (hfind : (e.port p).store.find? (Held.flies short) = none) (hhead : (e.port p).direct = r :: l)
    (hshort : r.short = short) (hsent : r.sent.isSome = true) : ((d.acked p short fin).port p).direct = l := by
  unfold Held.flies at hfind
  unfold Device.acked
  rw [hd]
  dsimp only
  rw [if_neg (by simp [hon, hlocked, hfault]), hfind, hhead]
  dsimp only
  rw [if_pos ⟨hshort, hsent⟩]
  split
  · rw [Device.nodeTxEvent_port, Device.port_setPort_same]
  · rw [Device.port_setPort_same]

end

/-! ## Nodes that fall silent -/

section
variable {n : Nat} (hkind : d.nkind n ≠ 0) (hfree : nodeReserved n = false) (hclaim : d.pair.claim = true)
  (hper : ((d.nd n 22 * 10 : Nat) : Int) ≠ 0)
include hkind hfree hclaim hper

/-- A node that was active and is not heard for two wake periods resyncs (R364). -/
theorem Device.resync_of_active (hst : d.nd n 5 = 1)
    (hgap : 2 * ((d.nd n 22 * 10 : Nat) : Int) ≤ diff32 d.heat (d.nd n 24)) :
    d.resync n = d.setNds n [(5, 2)] := by
  unfold Device.resync
  dsimp only
  rw [if_neg (by simpa [hkind, hfree, hclaim] using hper), if_pos ⟨hst, hgap⟩]

/-- Each further wake period without a frame counts one failure of a node that resyncs (R364). -/
theorem Device.resync_of_resyncing (hst : d.nd n 5 = 2)
    (hgap : (3 + ((d.nd n 42 : Nat) : Int)) * ((d.nd n 22 * 10 : Nat) : Int) ≤ diff32 d.heat (d.nd n 24)) :
    d.resync n = d.setNds n [(42, holdAt 255 (d.nd n 42 + 1))] := by
  unfold Device.resync
  dsimp only
  rw [if_neg (by simpa [hkind, hfree, hclaim] using hper), if_neg (by omega), if_pos ⟨hst, hgap⟩]

end

/-! ## The transceiver -/

@[simp] theorem Device.slag_mac (d : Device) (b c u o : Nat) (x : Bytes) : (d.slag b c u o x).mac = d.mac := by
  obtain ⟨r, l, h⟩ := d.slag_only b c u o x
  rw [h]

@[simp] theorem Device.trxFault_mac (d : Device) (p kind : Nat) : (d.trxFault p kind).mac = d.mac :=
  Device.slag_mac ..

/-- A fault of the transceiver's interface sets its status bit and is the newest fault record (R345, R346). -/
theorem Device.trxFault_shows (d : Device) (p kind : Nat) :
    (d.trxFault p kind).bit (MAC_INT_STAT p) 5 = true ∧ Claims.NewestIs (d.trxFault p kind) (0x10 + p) 0x0101 p :=
  ⟨(Device.bit_of_rd_eq (Device.slag_rd _ _ _ _ _ _ (macBlk_ne_err p)) 5).trans
    (Device.bit_raise_same _ _ (by decide)), Device.slag_newest ..⟩

end
end Sys2Proof.Machine
end

section
/-!
PROOFS. Association (R113, R115, R116, R361, R364): the record that a node joins with, the response, and which request
is answered how.
-/
namespace Sys2Proof.Machine

/-! ## Records of nodes that join -/

/-- What a move of held frames within a port's store leaves: the fleet and the port's direct frames. -/
def Device.fleetAndDirect (d : Device) (p : Nat) : Fleet × List Direct := (d.flt, (d.port p).direct)

@[simp] theorem Device.fleetAndDirect_setPort (d : Device) (p : Nat) (m : Mac) :
    (d.setPort p m).fleetAndDirect p = (d.flt, m.direct) := by
  rw [Device.fleetAndDirect, Device.port_setPort_same, Device.setPort_flt]

theorem Device.reparent_fleetAndDirect (d : Device) (p short : Nat) :
    (d.reparent p short none).fleetAndDirect p = d.fleetAndDirect p := by
  unfold Device.reparent
  dsimp only
  refine (Device.forEach_keeps (fun e => e.fleetAndDirect p) _ (fun h e => ?_) _ _).trans
    (d.fleetAndDirect_setPort p _)
  exact e.fleetAndDirect_setPort p _

section
variable (d : Device) (p n kind eui : Nat) (sleepy : Bool) (slot : Option Nat) (own mach : Nat) (b : Bytes)

/-- The fields with which a node joins under the device itself (R108, R361). -/
def Device.joinFields : List (Nat × Nat) :=
  [(0, n), (4, kind), (5, 0), (6, b2n sleepy + 2 * b2n (bitOf (d.nd n 6) 1) + 4 * b2n slot.isSome), (7, own), (8, eui),
    (16, p * 65536), (20, mach), (22, uAt b 2 2), (24, d.heat), (28, d.heat), (40, uAt b 4 2), (42, 0),
    (45, slot.getD 0)]

/-- A node that joins under the device gets its record, and the port's direct frames stay. -/
theorem Device.joinRecord_fleetAndDirect :
    (d.joinRecord p n kind eui none sleepy slot own mach b).fleetAndDirect p =
      ((d.setNds n (d.joinFields p n kind eui sleepy slot own mach b)).flt, (d.port p).direct) := by
  have hkind : ∀ (e : Device) (r : Tab (Nat × Nat × Nat)),
      (if kind = 2 then e.setPort p { e.port p with relays := r } else e).fleetAndDirect p = e.fleetAndDirect p := by
    intro e r
    split
    · exact e.fleetAndDirect_setPort p _
    · rfl
  unfold Device.joinRecord
  dsimp only
  split
  · exact (Device.reparent_fleetAndDirect ..).trans (hkind _ _)
  · exact hkind _ _

theorem Device.joinRecord_direct :
    ((d.joinRecord p n kind eui none sleepy slot own mach b).port p).direct = (d.port p).direct :=
  congrArg Prod.snd (d.joinRecord_fleetAndDirect ..)

theorem Device.joinRecord_joins :
    (d.joinRecord p n kind eui none sleepy slot own mach b).flt.joins = d.flt.joins :=
  congrArg (fun x => x.1.joins) (d.joinRecord_fleetAndDirect ..)

/-- The fields of a record that joins. -/
theorem Device.joinRecord_fields :
    let e := d.joinRecord p n kind eui none sleepy slot own mach b
    e.nd n 4 = kind ∧ e.nd n 5 = 0 ∧ e.nd n 8 = eui ∧ e.nd n 16 = p * 65536 ∧ e.nd n 20 = mach := by
  have hnd := Device.nd_of_flt_eq
    (congrArg Prod.fst (d.joinRecord_fleetAndDirect p n kind eui sleepy slot own mach b)) n
  refine ⟨?_, ?_, ?_, ?_, ?_⟩ <;> rw [hnd]
  · exact d.nd_setNds_of_split n [_] _ rfl (by simp)
  · exact d.nd_setNds_of_split n [_, _] _ rfl (by simp)
  · exact d.nd_setNds_of_split n [_, _, _, _, _] _ rfl (by simp)
  · exact d.nd_setNds_of_split n [_, _, _, _, _, _] _ rfl (by simp)
  · exact d.nd_setNds_of_split n [_, _, _, _, _, _, _] _ rfl (by simp)

end

/-! ## Responses -/

/-- A direct frame is an association response of a short address and a status (R361). -/
def Direct.answersAssociation (r : Direct) (eui short status : Nat) : Prop :=
  r.eui = eui ∧ r.cmd = true ∧ r.data.take 4 = leBytes 1 2 ++ leBytes 2 short ++ leBytes 1 status

/-- A request within the device's own reach is answered by one direct frame (R116, R361). -/
theorem Device.assocAnswer_direct (d : Device) (p eui short status : Nat) :
    ∃ r, r.answersAssociation eui short status ∧ d.assocAnswer p eui short status none = d.addDirect p r :=
  ⟨_, ⟨rfl, rfl, rfl⟩, rfl⟩

theorem Device.addDirect_port (d : Device) (p : Nat) (x : Direct) :
    (d.addDirect p x).port p = { d.port p with direct := (d.port p).direct ++ [x] } :=
  Device.port_setPort_same ..

/-- A response is one more direct frame of its port, and nothing else of the fleet and the port's direct frames. -/
theorem Device.assocAnswer_leaves (d : Device) (p eui short status : Nat) :
    (d.assocAnswer p eui short status none).flt = d.flt ∧
      ∃ r, ((d.assocAnswer p eui short status none).port p).direct = (d.port p).direct ++ [r] ∧
        r.answersAssociation eui short status := by
  obtain ⟨r, hr, heq⟩ := d.assocAnswer_direct p eui short status
  rw [heq, Device.addDirect_port]
  exact ⟨rfl, r, rfl, hr⟩

/-! ## Requests -/

section
variable {d : Device} {p eui n m : Nat} {b : Bytes} (sleepy : Bool) (slot : Option Nat)

/-- A sensor that the PAN's policy lets join and that has room gets its record (R116, R361). -/
theorem Device.associate_of_sensor (hmach : d.machOf eui = none) (hkind : uAt b 1 1 = 1)
    (hlets : d.policyLets p eui = true) (hroom : d.children p < 8192) (hnode : d.assocNode p eui = some n) :
    d.associate p eui none sleepy slot b =
      (d.joinRecord p n 1 eui none sleepy slot (d.sensorOwner p) 0xFFFF b).assocAnswer p eui (n % 65536) 0 none := by
  simp [Device.associate, hmach, hkind, hlets, hnode, Nat.not_le.mpr hroom]

/-- A node without a record that the PAN's policy does not let join is denied (R116). -/
theorem Device.associate_of_denied (hmach : d.machOf eui = none) (hnew : d.nodeOfEui p eui = none)
    (hlets : d.policyLets p eui = false) :
    d.associate p eui none sleepy slot b = d.assocAnswer p eui 0xFFFF 2 none := by
  simp [Device.associate, hmach, hnew, hlets]

/-- The device with a join of a machine that waits for its binding (R113). -/
def Device.withJoin (d : Device) (j : Join) : Device :=
  { d with flt := { d.flt with joins := d.flt.joins ++ [j] } }

/-- An admitted machine gets its record, and its join is noted (R113, R361). -/
theorem Device.associate_of_machine (hmach : d.machOf eui = some m) (hkind : uAt b 1 1 = 3) (hstate : d.mstate m ≠ 4)
    (hnode : d.assocNode p eui = some n) :
    d.associate p eui none sleepy slot b =
      ((d.joinRecord p n 3 eui none sleepy (some (d.fe m 22)) (d.fe m 3) m b).withJoin ⟨m, p, false⟩).assocAnswer p eui
        (n % 65536) 0 none := by
  simp [Device.associate, hmach, hkind, hstate, hnode, Device.withJoin]

end

/-! ## Frames that carry a request -/

section
variable {d e x : Device} {f : RxFrame} (sleepy : Bool) (slot : Option Nat)

theorem Device.assocRequest_of_took (hchild : f.child = none) (htook : d.rx f true = (true, e))
    (hrec : rec72Ok f.mpdu.body = true) :
    d.assocRequest f sleepy slot =
      (e.oweAck f false false).associate f.port f.mpdu.eui none sleepy slot f.mpdu.body := by
  simp [Device.assocRequest, hchild, htook, hrec]

/-- A request out of a relay's envelope has that relay as its parent (R361, R362). -/
theorem Device.assocRequest_of_envelope {c : Mpdu} (hchild : f.child = some c) (htook : d.rx f false = (true, e))
    (hrelay : e.nkind (nodeNum f.port f.mpdu.src) = 2) (hty : uAt f.mpdu.body 0 1 = 0xA6)
    (htake : (e.oweAck f false false).mpduTake f.port c true = (true, x)) (hrec : rec72Ok c.body = true) :
    d.assocRequest f sleepy slot =
      x.associate f.port c.eui (some (nodeNum f.port f.mpdu.src)) sleepy slot c.body := by
  have hsame := Device.nkind_of_flt_eq (e.oweAck_flt f false false) (nodeNum f.port f.mpdu.src)
  simp [Device.assocRequest, hchild, htook, hsame, hrelay, hty, htake, hrec]

end

/-! ## What a request leaves -/

theorem Device.nodeTaken_of_flt_eq {d e : Device} (h : e.flt = d.flt) (n : Nat) : e.nodeTaken n = d.nodeTaken n := by
  rw [Device.nodeTaken, h, Device.nodeTaken]

theorem Device.allocGo_of_flt_eq {d e : Device} (h : e.flt = d.flt) (k n : Nat) : e.allocGo k n = d.allocGo k n := by
  induction k generalizing n with
  | zero => rfl
  | succ k ih => rw [Device.allocGo, Device.allocGo, Device.nodeTaken_of_flt_eq h, ih]

/-- What decides an association is the state of the fleet alone. -/
theorem Device.association_of_flt_eq {d e : Device} (h : e.flt = d.flt) (p eui : Nat) :
    e.machOf eui = d.machOf eui ∧ e.nodeOfEui p eui = d.nodeOfEui p eui ∧ e.policyLets p eui = d.policyLets p eui ∧
      e.children p = d.children p ∧ e.assocNode p eui = d.assocNode p eui := by
  have hknown : e.nodeOfEui p eui = d.nodeOfEui p eui := by rw [Device.nodeOfEui, h, Device.nodeOfEui]
  have halloc : e.allocNode p = d.allocNode p := by
    rw [Device.allocNode, Device.allocGo_of_flt_eq h, Device.allocNode]
  have hpolicy : e.policy p = d.policy p := by rw [Device.policy, h, Device.policy]
  refine ⟨?_, hknown, ?_, ?_, ?_⟩
  · rw [Device.machOf, h, Device.machOf]
  · rw [Device.policyLets, hpolicy, h, Device.policyLets]
  · rw [Device.children, h, Device.children]
  · rw [Device.assocNode, hknown, halloc, Device.assocNode]

theorem Device.oweAck_direct (d : Device) (f : RxFrame) (poll pending : Bool) :
    ((d.oweAck f poll pending).port f.port).direct = (d.port f.port).direct := by
  obtain ⟨l, h⟩ := d.oweAck_port f poll pending
  rw [h]

section
variable {d e : Device} {f : RxFrame} {n m : Nat} (hchild : f.child = none) (htook : d.rx f true = (true, e))
  (hrec : rec72Ok f.mpdu.body = true)
include hchild htook hrec

/-- A sensor's request that is granted makes its record and is answered with success (R116, R361). -/
theorem Device.assocRequest_sensor (hmach : e.machOf f.mpdu.eui = none) (hkind : uAt f.mpdu.body 1 1 = 1)
    (hlets : e.policyLets f.port f.mpdu.eui = true) (hroom : e.children f.port < 8192)
    (hnode : e.assocNode f.port f.mpdu.eui = some n) (sleepy : Bool) (slot : Option Nat) :
    let t := d.assocRequest f sleepy slot
    t.nd n 4 = 1 ∧ t.nd n 5 = 0 ∧ t.nd n 8 = f.mpdu.eui ∧ t.nd n 16 = f.port * 65536 ∧
      ∃ r, (t.port f.port).direct = (e.port f.port).direct ++ [r] ∧ r.answersAssociation f.mpdu.eui (n % 65536) 0 := by
  obtain ⟨hmach', -, hlets', hroom', hnode'⟩ :=
    Device.association_of_flt_eq (e.oweAck_flt f false false) f.port f.mpdu.eui
  rw [Device.assocRequest_of_took sleepy slot hchild htook hrec, Device.associate_of_sensor sleepy slot
    (hmach'.trans hmach) hkind (hlets'.trans hlets) (hroom'.symm ▸ hroom) (hnode'.trans hnode)]
  dsimp only
  rw [← e.oweAck_direct f false false]
  generalize e.oweAck f false false = o
  obtain ⟨hkind, hstate, heui, hparent, -⟩ :=
    o.joinRecord_fields f.port n 1 f.mpdu.eui sleepy slot (o.sensorOwner f.port) 0xFFFF f.mpdu.body
  have hdirect := o.joinRecord_direct f.port n 1 f.mpdu.eui sleepy slot (o.sensorOwner f.port) 0xFFFF f.mpdu.body
  generalize o.joinRecord _ _ _ _ _ _ _ _ _ _ = j at hkind hstate heui hparent hdirect ⊢
  obtain ⟨hflt, hanswer⟩ := j.assocAnswer_leaves f.port f.mpdu.eui (n % 65536) 0
  have hnd := Device.nd_of_flt_eq hflt n
  rw [hdirect] at hanswer
  exact ⟨(hnd 4).trans hkind, (hnd 5).trans hstate, (hnd 8).trans heui, (hnd 16).trans hparent, hanswer⟩

/-- A request that the policy refuses is answered with access denied, and the fleet stays (R116). -/
theorem Device.assocRequest_denied (hmach : e.machOf f.mpdu.eui = none) (hnew : e.nodeOfEui f.port f.mpdu.eui = none)
    (hlets : e.policyLets f.port f.mpdu.eui = false) (sleepy : Bool) (slot : Option Nat) :
    let t := d.assocRequest f sleepy slot
    t.flt = e.flt ∧
      ∃ r, (t.port f.port).direct = (e.port f.port).direct ++ [r] ∧ r.answersAssociation f.mpdu.eui 0xFFFF 2 := by
  obtain ⟨hmach', hnew', hlets', -, -⟩ :=
    Device.association_of_flt_eq (e.oweAck_flt f false false) f.port f.mpdu.eui
  rw [Device.assocRequest_of_took sleepy slot hchild htook hrec, Device.associate_of_denied sleepy slot
    (hmach'.trans hmach) (hnew'.trans hnew) (hlets'.trans hlets)]
  obtain ⟨hflt, hanswer⟩ := (e.oweAck f false false).assocAnswer_leaves f.port f.mpdu.eui 0xFFFF 2
  rw [e.oweAck_direct f false false] at hanswer
  exact ⟨hflt.trans (e.oweAck_flt f false false), hanswer⟩

/-- A machine's request that is granted notes its join and makes its record (R113, R361). -/
theorem Device.assocRequest_machine (hmach : e.machOf f.mpdu.eui = some m) (hkind : uAt f.mpdu.body 1 1 = 3)
    (hstate : e.mstate m ≠ 4) (hnode : e.assocNode f.port f.mpdu.eui = some n) (sleepy : Bool) (slot : Option Nat) :
    let t := d.assocRequest f sleepy slot
    t.flt.joins = e.flt.joins ++ [⟨m, f.port, false⟩] ∧ t.nd n 4 = 3 ∧ t.nd n 20 = m := by
  have hflt := e.oweAck_flt f false false
  obtain ⟨hmach', -, -, -, hnode'⟩ := Device.association_of_flt_eq hflt f.port f.mpdu.eui
  have hstate' : (e.oweAck f false false).mstate m = e.mstate m := by
    rw [Device.mstate, Device.fe, Device.entry_of_tab_eq (congrArg Fleet.tab hflt)]
    rfl
  rw [Device.assocRequest_of_took sleepy slot hchild htook hrec, Device.associate_of_machine sleepy slot
    (hmach'.trans hmach) hkind (hstate'.symm ▸ hstate) (hnode'.trans hnode)]
  dsimp only
  rw [← hflt]
  generalize e.oweAck f false false = o
  obtain ⟨hkind, -, -, -, hmachine⟩ :=
    o.joinRecord_fields f.port n 3 f.mpdu.eui sleepy (some (o.fe m 22)) (o.fe m 3) m f.mpdu.body
  have hjoins := o.joinRecord_joins f.port n 3 f.mpdu.eui sleepy (some (o.fe m 22)) (o.fe m 3) m f.mpdu.body
  generalize o.joinRecord _ _ _ _ _ _ _ _ _ _ = j at hkind hmachine hjoins ⊢
  obtain ⟨hanswer, -⟩ := (j.withJoin ⟨m, f.port, false⟩).assocAnswer_leaves f.port f.mpdu.eui (n % 65536) 0
  have hnd := Device.nd_of_flt_eq hanswer n
  refine ⟨?_, (hnd 4).trans hkind, (hnd 20).trans hmachine⟩
  rw [hanswer, ← hjoins]
  rfl

end
end Sys2Proof.Machine
end

section
/-!
PROOFS. The statement about the frames that a radio port receives (R345 to R350, R357 to R364).
-/
namespace Sys2Proof.Machine

section
variable {s : State} {e : Device} {f : RxFrame}

theorem exec_dataFrame (f : RxFrame) (seq : Nat) (ok : Bool) (s : State) :
    exec (.dataFrame f seq ok) s = .next { s with dev := s.dev.dataFrame f seq ok } := rfl

theorem exec_dataRequest (f : RxFrame) (ackAir heldAir : Nat) (s : State) :
    exec (.dataRequest f ackAir heldAir) s = .next { s with dev := s.dev.poll f ackAir heldAir } := rfl

theorem exec_associationRequest (f : RxFrame) (sleepy : Bool) (slot : Option Nat) (s : State) :
    exec (.associationRequest f sleepy slot) s = .next { s with dev := s.dev.assocRequest f sleepy slot } := rfl

theorem exec_disassociation (f : RxFrame) (s : State) :
    exec (.disassociation f) s = .next { s with dev := s.dev.disassociate f } := rfl

theorem exec_relayReport (f : RxFrame) (s : State) : exec (.relayReport f) s = execRelayReport f s := rfl

theorem exec_acknowledgementReceived (p short fin : Nat) (s : State) :
    exec (.acknowledgementReceived p short fin) s = .next { s with dev := s.dev.acked p short fin } := rfl

theorem exec_nodeResync (n : Nat) (s : State) : exec (.nodeResync n) s = .next { s with dev := s.dev.resync n } := rfl

theorem exec_markerError (p : Nat) (s : State) : exec (.markerError p) s = execMarkerError p s := rfl

theorem exec_markerLock (p : Nat) (s : State) : exec (.markerLock p) s =
    .next { s with dev := s.dev.setPort p { s.dev.port p with locked := true, fault := false } } := rfl

theorem exec_transceiverPllUnlock (p : Nat) (s : State) :
    exec (.transceiverPllUnlock p) s = .next { s with dev := s.dev.trxFault p 1 } := rfl

/-- A data frame that is discarded leaves what its acceptance leaves. -/
theorem Completes.dataFrame_discarded {x : Device} (h : s.dev.rx f false = (false, x)) (seq : Nat) (ok : Bool) :
    Completes (.dataFrame f seq ok) s (· = x) := by
  refine Completes.of_exec (exec_dataFrame f seq ok s) ?_
  simp only [Device.dataFrame, h]

/-- The frame of a relay that carries a report (R362). -/
theorem exec_relayReport_of_took (htook : s.dev.rx f false = (true, e))
    (hrelay : e.nkind (nodeNum f.port f.mpdu.src) = 2) (hty : uAt f.mpdu.body 0 1 = 0xA5) :
    exec (.relayReport f) s =
      .next { s with dev := (e.oweAck f false false).relayReport f.port f.mpdu.body } := by
  have hsame := Device.nkind_of_flt_eq (e.oweAck_flt f false false) (nodeNum f.port f.mpdu.src)
  simp [exec_relayReport, execRelayReport, htook, hsame, hrelay, hty]

/-- The port of a marker error in lock, until the markers match again (R345). -/
def Mac.unlocked (m : Mac) : Mac := { m with locked := false, fault := true, air := none }

theorem exec_markerError_of_locked {p : Nat} (h : (s.dev.port p).locked = true) :
    exec (.markerError p) s =
      .next { s with dev := (s.dev.setPort p (s.dev.port p).unlocked).trxFault p 0 } := by
  simp [exec_markerError, execMarkerError, h, Mac.unlocked]

end

/-- Settles O56: a frame passes its acceptance test, or is counted; an accepted one leaves what the operation of its
kind leaves under the acknowledgement owed. -/
theorem radioFramesAreTakenOrDropped : Obligations.RadioFramesAreTakenOrDropped := by
  intro s e x f n m p
  refine ⟨fun htook hsec => Device.rx_counter rfl htook hsec, fun seq ok hhears => ⟨fun hfcs => ?_,
      fun hfcs hfeature haddr hsec hbad => ?_⟩,
    fun htook seq ok => ⟨fun hkind => ?_, fun hkind => ?_,
      fun hkind hty => ⟨fun hchild => ?_, fun c hchild htake => ?_⟩⟩,
    fun ackAir heldAir htook hack => ?_,
    fun sleepy slot hchild htook hrec => ⟨fun hmach hkind hlets hroom hnode => ?_, fun hmach hnew hlets => ?_,
      fun hmach hkind hstate hnode => ?_⟩,
    fun sleepy slot c htook hchild hkind hty htake hrec => ?_, fun htook => ⟨fun hkind => ?_, fun hkind => ?_⟩,
    fun htook hkind hty hlen hst => ⟨fun hfind => ?_, fun h hfind => ?_⟩,
    fun short fin hon hlocked hfault => ⟨fun h hfind => ?_, fun r l hfind hhead hshort hsent => ?_⟩,
    fun hkind hfree hper hclaim => ⟨fun hst hgap => ?_, fun hst hgap => ?_⟩,
    fun hp => ⟨fun hlocked => ?_, ?_, ?_⟩⟩
  · exact Completes.dataFrame_discarded (Device.rx_of_bad_fcs hhears hfcs false) seq ok
  · exact Completes.dataFrame_discarded (Device.rx_of_insecure hhears hfcs hfeature haddr hsec hbad) seq ok
  · have hflt := e.oweAck_flt f false false
    have howner := Device.nd_of_flt_eq hflt (nodeNum f.port f.mpdu.src) 7
    obtain ⟨ns, hns, hdata⟩ := Device.nodeFrame_of_data (d := e.oweAck f false false)
      (n := nodeNum f.port f.mpdu.src) (by rw [Device.nkind_of_flt_eq hflt]; omega) f.port f f.mpdu.body f.rssi f.lqi
      seq ok
    refine Completes.of_exec (exec_dataFrame f seq ok s) ⟨ns, hns, ?_⟩
    rw [Device.dataFrame_of_own htook (by omega), hdata, Device.nodeData, howner]
  · refine Completes.of_exec (exec_dataFrame f seq ok s) ?_
    rw [Device.dataFrame_of_own htook (by omega)]
    exact Device.nodeFrame_of_machine ((Device.nkind_of_flt_eq (e.oweAck_flt ..) _).trans hkind) ..
  · refine Completes.of_exec (exec_dataFrame f seq ok s) ?_
    rw [Device.dataFrame_of_envelope htook hkind hty, Device.relayUp_of_none hchild]
  · refine Completes.of_exec (exec_dataFrame f seq ok s) ?_
    rw [Device.dataFrame_of_envelope htook hkind hty, Device.relayUp_of_took hchild htake]
  · obtain ⟨q, hacks, hpoll⟩ := Device.poll_of_took htook ackAir heldAir
    refine Completes.of_exec (exec_dataRequest f ackAir heldAir s)
      ⟨e.pollPending f ackAir heldAir, ?_, ?_, e.pollPending_iff f ackAir heldAir⟩
    · rw [hpoll, Device.oweAck_acks _ _ _ _ hack, Device.port_setPort_same, hacks]
    · rw [hpoll, Device.oweAck_out, Device.setPort_out]
  · obtain ⟨hkind', hstate, heui, hparent, r, hdirect, hreui, hcmd, hdata⟩ :=
      Device.assocRequest_sensor hchild htook hrec hmach hkind hlets hroom hnode sleepy slot
    exact Completes.of_exec (exec_associationRequest f sleepy slot s)
      ⟨hkind', hstate, heui, hparent, r, hdirect, hreui, hcmd, hdata⟩
  · obtain ⟨hflt, r, hdirect, hreui, -, hdata⟩ :=
      Device.assocRequest_denied hchild htook hrec hmach hnew hlets sleepy slot
    exact Completes.of_exec (exec_associationRequest f sleepy slot s) ⟨hflt, r, hdirect, hreui, hdata⟩
  · exact Completes.of_exec (exec_associationRequest f sleepy slot s)
      (Device.assocRequest_machine hchild htook hrec hmach hkind hstate hnode sleepy slot)
  · exact Completes.of_exec (exec_associationRequest f sleepy slot s)
      (Device.assocRequest_of_envelope sleepy slot hchild htook hkind hty htake hrec)
  · refine Completes.of_exec (exec_disassociation f s) ?_
    obtain ⟨hstate, hgoes, htab⟩ := (e.oweAck f false false).nodeLeaves_fields (nodeNum f.port f.mpdu.src)
    rw [Device.disassociate_of_node htook hkind]
    exact ⟨hstate, hgoes, htab.trans (congrArg Fleet.tab (e.oweAck_flt ..))⟩
  · exact Completes.of_exec (exec_disassociation f s) (Device.disassociate_of_machine htook hkind)
  · obtain ⟨l, hport⟩ := e.oweAck_port f false false
    refine Completes.of_exec (exec_relayReport_of_took htook hkind hty) (Device.relayReport_of_none hlen hst ?_)
    rw [hport]
    exact hfind
  · obtain ⟨l, hport⟩ := e.oweAck_port f false false
    have hfind' : ((e.oweAck f false false).port f.port).store.find? (reportNames f.mpdu.body) = some h := by
      rw [hport]
      exact hfind
    obtain ⟨hstore, hcount⟩ := Device.relayReport_of_some hlen hst hfind'
    rw [hport] at hstore
    have hexpired := Device.rdN_of_rd_eq (Device.rd_of_regs_eq (e.oweAck_regs f false false) (MAC_EXPIRED f.port))
    rw [hexpired] at hcount
    exact Completes.of_exec (exec_relayReport_of_took htook hkind hty) ⟨hstore, hcount⟩
  · exact Completes.of_exec (exec_acknowledgementReceived p short fin s)
      (Device.acked_of_held rfl hon hlocked hfault hfind)
  · exact Completes.of_exec (exec_acknowledgementReceived p short fin s)
      (Device.acked_of_direct rfl hon hlocked hfault hfind hhead hshort hsent)
  · refine Completes.of_exec (exec_nodeResync n s) ?_
    rw [Device.resync_of_active hkind hfree hclaim hper hst hgap]
    exact ⟨s.dev.nd_setNds_of_split n [] [] rfl (by simp), s.dev.nd_setNds_of_not_mem n _ (by simp)⟩
  · refine Completes.of_exec (exec_nodeResync n s) ?_
    rw [Device.resync_of_resyncing hkind hfree hclaim hper hst hgap, holdAt_eq_min]
    exact ⟨s.dev.nd_setNds_of_split n [] [] rfl (by simp), (s.dev.nd_setNds_of_not_mem n _ (by simp)).trans hst⟩
  · obtain ⟨hbit, hnewest⟩ := (s.dev.setPort p (s.dev.port p).unlocked).trxFault_shows p 0
    refine Completes.of_exec (exec_markerError_of_locked hlocked) ⟨?_, ?_, hbit, hnewest⟩ <;>
      rw [Device.port_of_mac_eq (Device.trxFault_mac ..), Device.port_setPort_same] <;> rfl
  · exact Completes.of_exec (exec_markerLock p s) rfl
  · obtain ⟨hbit, hnewest⟩ := s.dev.trxFault_shows p 1
    exact Completes.of_exec (exec_transceiverPllUnlock p s) ⟨hbit, s.dev.trxFault_mac p 1, hnewest⟩

end Sys2Proof.Machine
end

section
/-!
PROOFS. Frames that a port holds and sends: the port's control, NODE_SEND, acknowledgements, indirect data, expiry and
channel access (R346, R349 to R359).
-/
namespace Sys2Proof.Machine

/-! ## The control register of a port -/

/-- A replaced bit of a register holds the new value; every other bit stays. -/
theorem Device.bit_wbit (d : Device) (r : Reg) (j : Nat) (b : Bool) {i : Nat} (hi : i < 32) :
    (d.wbit r j b).bit r i = if i = j then b else d.bit r i := by
  rw [Device.bit, Device.wbit, Device.wfld, Device.rdN_wrN_same, bitOf_eq_testBit, Nat.testBit_mod_two_pow,
    testBit_setBits]
  by_cases h : i = j
  · cases b <;> simp [h, h ▸ hi, b2n]
  · rw [if_neg h, if_neg (by omega), Device.bit, bitOf_eq_testBit, decide_eq_true hi, Bool.true_and]

theorem Device.bit_raiseIf_apart (d : Device) (c : Bool) (r : Reg) {i j : Nat} (hi : i < 32) (hne : i ≠ j) :
    (d.raiseIf c r j).bit r i = d.bit r i := by
  cases c with
  | false => rfl
  | true => exact (d.bit_wbit r j true hi).trans (if_neg hne)

section
variable (d : Device) (p value : Nat)

/-- The region of a port lets it run (R346). -/
def Device.regionLets : Bool := d.fld (MAC_REGION p) 0 4 = 1 || d.fld (MAC_REGION p) 0 4 = 2

/-- The device with ENABLE, LOCK and what ENABLE does written, before a flush (R346, R366). -/
def Device.macSet : Device :=
  let e := (d.wbit (MAC_CTRL p) 0 (bitOf value 0 && d.regionLets p)).raiseIf (bitOf value 1) (MAC_CTRL p) 1
  if bitOf value 0 && d.regionLets p then e.setPin pinRfRst 1
  else e.setPort p { e.port p with air := none, acks := [], polled := none }

theorem Device.macCtrl_eq : d.macCtrl p value =
    if bitOf value 2 then (d.macSet p value).flushHeld p fun _ => true else d.macSet p value := rfl

theorem Device.macSet_enable :
    (d.macSet p value).bit (MAC_CTRL p) 0 = (bitOf value 0 && d.regionLets p) := by
  have hbit := ((d.wbit (MAC_CTRL p) 0 (bitOf value 0 && d.regionLets p)).bit_raiseIf_apart (bitOf value 1)
    (MAC_CTRL p) (i := 0) (j := 1) (by decide) (by decide)).trans (d.bit_wbit (MAC_CTRL p) 0 _ (by decide))
  rw [if_pos rfl] at hbit
  refine Eq.trans (Device.bit_of_rd_eq (Device.rd_of_regs_eq ?_ _) 0) hbit
  unfold Device.macSet
  dsimp only
  split
  · obtain ⟨q, l, h⟩ := Device.setPin_only
      ((d.wbit (MAC_CTRL p) 0 (bitOf value 0 && d.regionLets p)).raiseIf (bitOf value 1) (MAC_CTRL p) 1) pinRfRst 1
    rw [h]
  · rfl

/-- A write of MAC_CTRL sets ENABLE where the region lets the port run (R346). -/
theorem Device.macCtrl_enable :
    (d.macCtrl p value).bit (MAC_CTRL p) 0 = (bitOf value 0 && d.regionLets p) := by
  rw [Device.macCtrl_eq, ← Device.macSet_enable]
  split
  · exact Device.bit_of_rd_eq (Device.flushHeld_rd _ _ _ (macBlk_ne_que p)) 0
  · rfl

/-- A port that is enabled releases the transceivers' reset (R346). -/
theorem Device.macCtrl_reset (hon : (bitOf value 0 && d.regionLets p) = true) :
    (d.macCtrl p value).pin pinRfRst = 1 := by
  have hset : (d.macSet p value).pin pinRfRst = 1 := by
    unfold Device.macSet
    dsimp only
    rw [if_pos hon, Device.pin_setPin_same]
  rw [Device.macCtrl_eq]
  split
  · rw [Device.pin, Device.flushHeld_pins]
    exact hset
  · exact hset

/-- IND_FLUSH empties the indirect store (R358). -/
theorem Device.macCtrl_flush (h : bitOf value 2 = true) : ((d.macCtrl p value).port p).store = [] := by
  rw [Device.macCtrl_eq, if_pos h, Device.flushHeld_store]
  simp

end

/-! ## NODE_SEND -/

theorem Device.upNs_of_tim_eq {d e : Device} (h : e.tim = d.tim) : e.upNs = d.upNs := by
  rw [Device.upNs, h, Device.upNs]

/-- A frame forwarded to a relay is one more direct frame, to the relay, that ends no NODE_SEND (R362). -/
theorem Device.forward_leaves (d : Device) (p relay short left : Nat) (body : Bytes) :
    ∃ (q : Nat) (b : Bytes) (e : Device), d.forward p relay short left body = (q, e) ∧ e.tim = d.tim ∧
      (e.port p).store = (d.port p).store ∧
      (e.port p).direct = (d.port p).direct ++ [directData (relay % 65536) 0 none b] := by
  refine ⟨_, ?data, _, rfl, d.secureOut_tim _, ?store, ?direct⟩
  case store => rw [Device.addDirect_port, Device.port_setPort_same, Device.secureOut_port]
  case direct => rw [Device.addDirect_port, Device.port_setPort_same, Device.secureOut_port]

theorem Device.hold_port (d : Device) (p : Nat) (h : Held) :
    ((d.hold p h).port p).store = (d.port p).store ++ [h] ∧ ((d.hold p h).port p).direct = (d.port p).direct := by
  rw [Device.hold, Device.port_setPort_same]
  exact ⟨rfl, rfl⟩

/-- A NODE_SEND to a sleepy node: its frame is held to its expiry, and forwarded where a relay is its parent (R355,
R356, R362). -/
def Device.sendHeld (c : Cmd) (d : Device) : Device :=
  let b := c.body
  let n := uAt b 0 4
  let p := panOf n
  if uAt b 4 2 = 0 ∨ 3600 < uAt b 4 2 then d.answer c stRejected []
  else if 16384 ≤ (d.port p).store.length then (d.raise (MAC_INT_STAT p) 1).answer c stNoCapacity []
  else if 16 ≤ ((d.port p).store.filter fun h => h.short = n % 65536).length then d.answer c stNoCapacity []
  else
    let (seq, e) := match d.relayOf n with
      | some r =>
        let (q, e) := d.forward p r (n % 65536) (uAt b 4 2) (sliceB b 12 (uAt b 6 2))
        (some q, e)
      | none => (none, d)
    (e.hold p ⟨n % 65536, e.upNs + uAt b 4 2 * 1000000000, uAt b 8 4, c.part, sliceB b 12 (uAt b 6 2), seq,
      false⟩).answer c stDone []

/-- A NODE_SEND to a node that listens: its frame is a direct frame, in an envelope where a relay is its parent (R355,
R362). -/
def Device.sendDirect (c : Cmd) (d : Device) : Device :=
  let b := c.body
  let n := uAt b 0 4
  let data := sliceB b 12 (uAt b 6 2)
  match d.relayOf n with
  | some r =>
    let e := d.secureOut n
    (e.addDirect (panOf n) (directData (r % 65536) (uAt b 8 4) (some c.part)
      (relayEnvelope 0xA4 0 (n % 65536) 0 0 (e.frameOut n false data)))).answer c stDone []
  | none => (d.addDirect (panOf n) (directData (n % 65536) (uAt b 8 4) (some c.part) data)).answer c stDone []

section
variable {d : Device} {c : Cmd}

section
variable (hlen : c.body.length = 12 + uAt c.body 6 2) (hone : 1 ≤ uAt c.body 6 2) (hmax : uAt c.body 6 2 ≤ 200)
  (hright : d.right c.part rPlan = true) (hnode : uAt c.body 0 4 < 0x40000)
  (hfree : nodeReserved (uAt c.body 0 4) = false)
include hlen hone hmax hright hnode hfree

/-- A NODE_SEND of a valid body, from a partition with the right, is decided by the node's record (R355). -/
theorem Device.nodeSend_of_valid : Device.nodeSend c d =
    if d.nkind (uAt c.body 0 4) = 0 ∨ d.nd (uAt c.body 0 4) 5 ≠ 1 then d.answer c stNotFound []
    else if bitsOf (d.nd (uAt c.body 0 4) 7) 0 2 ≠ c.part then d.answer c stDenied []
    else if d.sleepy (uAt c.body 0 4) ∧ d.nkind (uAt c.body 0 4) ≠ 2 then d.sendHeld c
    else d.sendDirect c := by
  unfold Device.nodeSend
  dsimp only
  rw [if_neg (by omega), if_neg (not_not_intro hright), if_neg (by simp [hfree, hnode])]
  rfl

theorem Device.nodeSend_of_free (hkind : d.nkind (uAt c.body 0 4) = 0) :
    Device.nodeSend c d = d.answer c stNotFound [] := by
  rw [Device.nodeSend_of_valid hlen hone hmax hright hnode hfree, if_pos (.inl hkind)]

section
variable (hkind : d.nkind (uAt c.body 0 4) ≠ 0) (hactive : d.nd (uAt c.body 0 4) 5 = 1)
include hkind hactive

theorem Device.nodeSend_of_other (hother : bitsOf (d.nd (uAt c.body 0 4) 7) 0 2 ≠ c.part) :
    Device.nodeSend c d = d.answer c stDenied [] := by
  rw [Device.nodeSend_of_valid hlen hone hmax hright hnode hfree, if_neg (by simp [hkind, hactive]), if_pos hother]

variable (howner : bitsOf (d.nd (uAt c.body 0 4) 7) 0 2 = c.part)
include howner

theorem Device.nodeSend_of_sleepy (hsleepy : d.sleepy (uAt c.body 0 4) = true) (hrelay : d.nkind (uAt c.body 0 4) ≠ 2) :
    Device.nodeSend c d = d.sendHeld c := by
  rw [Device.nodeSend_of_valid hlen hone hmax hright hnode hfree, if_neg (by simp [hkind, hactive]),
    if_neg (not_not_intro howner), if_pos ⟨hsleepy, hrelay⟩]

theorem Device.nodeSend_of_awake (h : d.sleepy (uAt c.body 0 4) = false ∨ d.nkind (uAt c.body 0 4) = 2) :
    Device.nodeSend c d = d.sendDirect c := by
  have hawake : ¬ (d.sleepy (uAt c.body 0 4) = true ∧ d.nkind (uAt c.body 0 4) ≠ 2) := by
    rintro ⟨hsleepy, hrelay⟩
    exact h.elim (fun h => by simp [h] at hsleepy) hrelay
  rw [Device.nodeSend_of_valid hlen hone hmax hright hnode hfree, if_neg (by simp [hkind, hactive]),
    if_neg (not_not_intro howner), if_neg hawake]

end
end

/-- The frame that a NODE_SEND holds, under the sequence of its relay envelope (R356). -/
def Device.heldOf (d : Device) (c : Cmd) (relay : Option Nat) : Held :=
  ⟨uAt c.body 0 4 % 65536, d.upNs + uAt c.body 4 2 * 1000000000, uAt c.body 8 4, c.part,
    sliceB c.body 12 (uAt c.body 6 2), relay, false⟩

section
variable (hone : 1 ≤ uAt c.body 4 2) (hmax : uAt c.body 4 2 ≤ 3600)
include hone hmax

theorem Device.sendHeld_of_full (hfull : 16384 ≤ (d.port (panOf (uAt c.body 0 4))).store.length) :
    d.sendHeld c = (d.raise (MAC_INT_STAT (panOf (uAt c.body 0 4))) 1).answer c stNoCapacity [] := by
  unfold Device.sendHeld
  dsimp only
  rw [if_neg (by omega), if_pos hfull]

variable (hroom : (d.port (panOf (uAt c.body 0 4))).store.length < 16384)
  (hfew : ((d.port (panOf (uAt c.body 0 4))).store.filter fun x => x.short = uAt c.body 0 4 % 65536).length < 16)
include hroom hfew

/-- The frame to a sleepy child of the device is held (R356). -/
theorem Device.sendHeld_of_child (hchild : d.relayOf (uAt c.body 0 4) = none) :
    d.sendHeld c = (d.hold (panOf (uAt c.body 0 4)) (d.heldOf c none)).answer c stDone [] := by
  unfold Device.sendHeld
  dsimp only
  rw [if_neg (by omega), if_neg (by omega), if_neg (by omega), hchild]
  rfl

/-- The frame to a sleepy child of a relay is held, and forwarded to the relay (R356, R362). -/
theorem Device.sendHeld_of_relay {r : Nat} (hrelay : d.relayOf (uAt c.body 0 4) = some r) :
    ∃ (x : Device) (q : Nat) (b : Bytes), d.sendHeld c = x.answer c stDone [] ∧
      (x.port (panOf (uAt c.body 0 4))).store =
        (d.port (panOf (uAt c.body 0 4))).store ++ [d.heldOf c (some q)] ∧
      (x.port (panOf (uAt c.body 0 4))).direct =
        (d.port (panOf (uAt c.body 0 4))).direct ++ [directData (r % 65536) 0 none b] := by
  obtain ⟨q, b, e, hforward, htim, hstore, hdirect⟩ :=
    d.forward_leaves (panOf (uAt c.body 0 4)) r (uAt c.body 0 4 % 65536) (uAt c.body 4 2)
      (sliceB c.body 12 (uAt c.body 6 2))
  obtain ⟨hheld, hsame⟩ := e.hold_port (panOf (uAt c.body 0 4)) (d.heldOf c (some q))
  refine ⟨_, q, b, ?_, hheld.trans (by rw [hstore]), hsame.trans hdirect⟩
  unfold Device.sendHeld
  dsimp only
  rw [if_neg (by omega), if_neg (by omega), if_neg (by omega), hrelay]
  dsimp only
  rw [hforward]
  dsimp only
  rw [Device.upNs_of_tim_eq htim]
  rfl

end

/-- A frame to a node that listens is one more direct frame, to the node or to the relay above it (R355, R362). -/
theorem Device.sendDirect_leaves (d : Device) (c : Cmd) :
    ∃ (x : Device) (b : Bytes), d.sendDirect c = x.answer c stDone [] ∧
      (x.port (panOf (uAt c.body 0 4))).direct = (d.port (panOf (uAt c.body 0 4))).direct ++
        [directData ((d.relayOf (uAt c.body 0 4)).getD (uAt c.body 0 4) % 65536) (uAt c.body 8 4) (some c.part) b] ∧
      (d.relayOf (uAt c.body 0 4) = none → b = sliceB c.body 12 (uAt c.body 6 2)) := by
  unfold Device.sendDirect
  dsimp only
  cases d.relayOf (uAt c.body 0 4) with
  | some r =>
    refine ⟨_, ?data, rfl, ?direct, fun h => nomatch h⟩
    case direct => rw [Device.addDirect_port, Device.secureOut_port, Option.getD_some]
  | none =>
    refine ⟨_, _, rfl, ?_, fun _ => rfl⟩
    rw [Device.addDirect_port, Option.getD_none]

end

/-! ## Acknowledgements -/

/-- The device with the oldest acknowledgement owed taken, to be sent or skipped. -/
def Device.withAcks (d : Device) (p : Nat) (l : List AckDue) : Device := d.setPort p { d.port p with acks := l }

theorem Device.withAcks_port (d : Device) (p : Nat) (l : List AckDue) :
    (d.withAcks p l).port p = { d.port p with acks := l } := Device.port_setPort_same ..

@[simp] theorem Device.withAcks_out (d : Device) (p : Nat) (l : List AckDue) : (d.withAcks p l).out = d.out := rfl

@[simp] theorem Device.withAcks_regs (d : Device) (p : Nat) (l : List AckDue) : (d.withAcks p l).regs = d.regs := rfl

theorem Device.withAcks_onAir (d : Device) (p : Nat) (l : List AckDue) :
    ((d.withAcks p l).port p).onAir = (d.port p).onAir := by
  rw [Device.withAcks_port]
  rfl

theorem Device.withAcks_portUp (d : Device) (p : Nat) (l : List AckDue) :
    (d.withAcks p l).portUp p = d.portUp p :=
  Device.portUp_of_onAir_eq rfl rfl (d.withAcks_onAir p l)

theorem Device.withAcks_reservation (d : Device) (p : Nat) (l : List AckDue) (t : Nat) :
    (d.withAcks p l).reservation p t = d.reservation p t :=
  Device.reservation_of_resvEnd_eq (by rw [Device.withAcks_port]) t

theorem Device.withAcks_mayAir (d : Device) (p : Nat) (l : List AckDue) (start air : Nat) :
    (d.withAcks p l).mayAir p start air = d.mayAir p start air :=
  Device.mayAir_of_onAir_eq (d := d) (e := d.withAcks p l) rfl rfl (d.withAcks_onAir p l) start air

/-- What a poll whose acknowledgement carried the frame-pending bit leaves in its port (R357). -/
def Device.notePoll (d : Device) (p : Nat) (a : AckDue) (ended : Nat) : Device :=
  if a.poll ∧ a.pending then d.setPort p { d.port p with polled := some ⟨a.short, ended, a.gone⟩ } else d

/-- Noting a poll changes nothing of its port but the poll. -/
theorem Device.notePoll_leaves (d : Device) (p : Nat) (a : AckDue) (ended : Nat) :
    ((d.notePoll p a ended).port p).acks = (d.port p).acks ∧ ((d.notePoll p a ended).port p).air = (d.port p).air ∧
      (d.notePoll p a ended).out = d.out ∧
      (a.poll = true → a.pending = true →
        ((d.notePoll p a ended).port p).polled = some ⟨a.short, ended, a.gone⟩) := by
  unfold Device.notePoll
  split
  · rw [Device.port_setPort_same]
    exact ⟨rfl, rfl, rfl, fun _ _ => rfl⟩
  · next h => exact ⟨rfl, rfl, rfl, fun hpoll hpending => absurd ⟨hpoll, hpending⟩ h⟩

section
variable {d y : Device} {p : Nat} {a : AckDue} {l : List AckDue} {air : Nat} (hacks : (d.port p).acks = a :: l)
  (hy : d.advanceTo (a.fin + 1000000) = y) (hup : y.portUp p = true)
include hacks hy hup

/-- An acknowledgement in the way of the reservation is skipped and counted (R352). -/
theorem Device.ackSend_of_clash
    (hclash : (y.reservation p (a.fin + 1000000)).1 ≤ a.fin + 1000000 ∧
        a.fin + 1000000 < (y.reservation p (a.fin + 1000000)).2 ∨
      y.nextResv p (a.fin + 1000000) < a.fin + 1000000 + air) :
    d.ackSend p air = ((y.withAcks p l).count (MAC_ACK_SKIP p)).raise (MAC_INT_STAT p) 3 := by
  unfold Device.nextResv at hclash
  unfold Device.ackSend
  rw [hacks]
  dsimp only
  rw [hy, ← Device.withAcks, Device.withAcks_reservation, Device.withAcks_portUp]
  rw [if_neg (not_not_intro hup), if_pos ?_]
  simp only [Bool.not_eq_true', Bool.and_eq_false_iff, Bool.or_eq_false_iff, decide_eq_false_iff_not]
  omega

/-- What an acknowledgement that is skipped leaves (R352). -/
theorem Device.ackSend_skips
    (hclash : (y.reservation p (a.fin + 1000000)).1 ≤ a.fin + 1000000 ∧
        a.fin + 1000000 < (y.reservation p (a.fin + 1000000)).2 ∨
      y.nextResv p (a.fin + 1000000) < a.fin + 1000000 + air) :
    let t := d.ackSend p air
    (t.port p).acks = l ∧ t.out = d.out ∧ t.bit (MAC_INT_STAT p) 3 = true ∧
      t.rdN (MAC_ACK_SKIP p) = Nat.min 0xFFFFFFFF (d.rdN (MAC_ACK_SKIP p) + 1) := by
  obtain ⟨x, hx⟩ := d.advanceTo_only (a.fin + 1000000)
  have hout : y.out = d.out := by rw [← hy, hx]
  have hregs : y.regs = d.regs := by rw [← hy, hx]
  have hcounted : (y.withAcks p l).rdN (MAC_ACK_SKIP p) = d.rdN (MAC_ACK_SKIP p) :=
    Device.rdN_of_rd_eq (Device.rd_of_regs_eq ((y.withAcks_regs p l).trans hregs) _)
  rw [Device.ackSend_of_clash hacks hy hup hclash]
  dsimp only
  refine ⟨?_, ?_, Device.bit_raise_same _ _ (by decide), ?_⟩
  · rw [Device.port_of_mac_eq ((Device.raise_mac ..).trans (Device.count_mac ..)), Device.withAcks_port]
  · rw [Device.raise_out, Device.count_out, Device.withAcks_out, hout]
  · rw [Device.rdN_of_rd_eq (Device.rd_raise_ne _ _ (by simp [MAC_ACK_SKIP, MAC_INT_STAT])), Device.rdN_count_same,
      hcounted]

/-- An acknowledgement that may go out is on air 1 ms after its frame, with its address and its frame-pending bit (R350,
R352). -/
theorem Device.ackSend_of_may
    (hclear : a.fin + 1000000 < (y.reservation p (a.fin + 1000000)).1 ∨
      (y.reservation p (a.fin + 1000000)).2 ≤ a.fin + 1000000)
    (hnext : a.fin + 1000000 + air ≤ y.nextResv p (a.fin + 1000000))
    (hmay : y.mayAir p (a.fin + 1000000) air = true) :
    ∃ (x : Device) (b : Bytes), x.mac = (y.withAcks p l).mac ∧ x.out = y.out ∧
      b.take 3 = leBytes 2 a.short ++ leBytes 1 (b2n a.pending) ∧
      d.ackSend p air =
        (x.radioSend p 3 (a.fin + 1000000) air 2 b).notePoll p a (a.fin + 1000000 + air) := by
  unfold Device.nextResv at hnext
  unfold Device.ackSend
  rw [hacks]
  dsimp only
  rw [hy, ← Device.withAcks, Device.withAcks_reservation, Device.withAcks_portUp]
  rw [if_neg (not_not_intro hup), if_neg ?_, if_neg (by rw [Device.withAcks_mayAir]; exact not_not_intro hmay)]
  · refine ⟨_, _, ?mac, ?out, ?take, rfl⟩
    case mac =>
      split
      · exact Device.secureOut_mac ..
      · rfl
    case out =>
      split
      · exact Device.secureOut_out ..
      · rfl
    case take => rfl
  · simp only [Bool.not_eq_true', Bool.and_eq_false_iff, Bool.or_eq_false_iff, decide_eq_false_iff_not]
    omega

/-- What an acknowledgement that goes out leaves: its port on air, and the poll that it answers (R350, R352, R357). -/
theorem Device.ackSend_sends
    (hclear : a.fin + 1000000 < (y.reservation p (a.fin + 1000000)).1 ∨
      (y.reservation p (a.fin + 1000000)).2 ≤ a.fin + 1000000)
    (hnext : a.fin + 1000000 + air ≤ y.nextResv p (a.fin + 1000000))
    (hmay : y.mayAir p (a.fin + 1000000) air = true) :
    let t := d.ackSend p air
    (t.port p).acks = l ∧ (t.port p).air = some ⟨3, a.fin + 1000000 + air⟩ ∧
      (∃ b, t.out = d.out ++ [⟨.radio, p, 2, b⟩] ∧ b.take 3 = leBytes 2 a.short ++ leBytes 1 (b2n a.pending)) ∧
      (a.poll = true → a.pending = true →
        (t.port p).polled = some ⟨a.short, a.fin + 1000000 + air, a.gone⟩) := by
  obtain ⟨z, hz⟩ := d.advanceTo_only (a.fin + 1000000)
  have hout : y.out = d.out := by rw [← hy, hz]
  obtain ⟨x, b, hmac, hsame, htake, hsend⟩ := Device.ackSend_of_may hacks hy hup hclear hnext hmay
  obtain ⟨hl, hair, hkept, hpoll⟩ := (x.radioSend p 3 (a.fin + 1000000) air 2 b).notePoll_leaves p a
    (a.fin + 1000000 + air)
  rw [Device.radioSend_port] at hl hair
  rw [hsend]
  refine ⟨hl.trans ?_, hair, ⟨b, ?_, htake⟩, hpoll⟩
  · rw [Device.port_of_mac_eq hmac, Device.withAcks_port]
  · rw [hkept, Device.radioSend_out, hsame, hout]

end

/-! ## Indirect data -/

/-- The held frame that a poll is answered with: none where the first one expired since, or nothing is held (R357,
R358). -/
def Device.firstHeld (d : Device) (p : Nat) (q : Poll) : Option Held :=
  if q.gone then none else (d.heldFor p q.short).head?

theorem Device.firstHeld_of_none {d : Device} {p : Nat} {q : Poll} (h : q.gone = true ∨ d.heldFor p q.short = []) :
    d.firstHeld p q = none := by
  unfold Device.firstHeld
  split
  · rfl
  · next hgone => rw [h.resolve_left hgone, List.head?_nil]

theorem Device.firstHeld_of_cons {d : Device} {p : Nat} {q : Poll} {h : Held} {l : List Held} (hgone : q.gone = false)
    (hheld : d.heldFor p q.short = h :: l) : d.firstHeld p q = some h := by
  rw [Device.firstHeld, hgone, hheld]
  rfl

/-- A poll within 5 ms of its acknowledgement is answered with the first held frame, or with an empty frame (R357,
R358). -/
theorem Device.indirect_of_may {d z : Device} {p start air : Nat} {q : Poll} (hz : d.advanceTo start = z)
    (hpolled : (z.port p).polled = some q) (hafter : q.ended ≤ start) (hbefore : start ≤ q.ended + 5000000)
    (hmay : z.mayAir p start air = true) (hsecure : z.canSecure (nodeNum p q.short) = true) :
    ∃ (x : Device) (b : Bytes), d.indirect p start air = x.radioSend p 4 start air 1 b ∧
      (x.port p).polled = none ∧ x.out = z.out ∧ b.drop 7 = ((z.firstHeld p q).map Held.data).getD [] := by
  -- Unfolded as a function: applied, the kernel would evaluate the time jump, whose numbers are too large for it.
  generalize hf : @Device.indirect = f
  delta Device.indirect at hf
  rw [← hf]
  simp -zeta only [hz]
  dsimp only
  rw [hpolled]
  dsimp only
  rw [if_neg (by omega), if_neg (by simp [hmay, hsecure])]
  generalize he : (z.secureOut (nodeNum p q.short)).setPort p _ = e
  have hport : e.port p = { z.port p with polled := none } := by
    rw [← he, Device.port_setPort_same, Device.secureOut_port]
  have hout : e.out = z.out := by rw [← he, Device.setPort_out, Device.secureOut_out]
  have hheld : e.heldFor p q.short = z.heldFor p q.short := by rw [Device.heldFor, hport, Device.heldFor]
  rw [hheld, ← Device.firstHeld]
  cases z.firstHeld p q with
  | none => exact ⟨e, _, rfl, by rw [hport], hout, Device.drop_frameOut ..⟩
  | some h => exact ⟨_, _, rfl, by rw [Device.port_setPort_same, hport], hout, Device.drop_frameOut ..⟩

/-! ## Expiry -/

/-- A held frame that is not on air leaves the store when it expires, and is counted (R358). -/
theorem Device.expire_of_idle {d : Device} {p k : Nat} {h : Held} (hget : (d.port p).store[k]? = some h)
    (hidle : h.onAir = false) :
    let t := d.expire p k
    (t.port p).store = (d.port p).store.take k ++ (d.port p).store.drop (k + 1) ∧ t.bit (MAC_INT_STAT p) 2 = true ∧
      t.rdN (MAC_EXPIRED p) = Nat.min 0xFFFFFFFF (d.rdN (MAC_EXPIRED p) + 1) := by
  obtain ⟨x, hy⟩ := d.advanceUp_only h.expiry
  generalize hw : ({ d with tim := x } : Device) = y at hy
  have hport : y.port p = d.port p := by rw [← hw]; rfl
  have hrd : y.rd (MAC_EXPIRED p) = d.rd (MAC_EXPIRED p) := by rw [← hw]; rfl
  have hque := (macBlk_ne_que p)
  unfold Device.expire
  rw [hget]
  dsimp only
  rw [hy, hidle, Bool.false_and, if_neg Bool.false_ne_true]
  refine ⟨?_, ?_, ?_⟩
  · rw [Device.nodeTxEvent_port, hport]
    exact congrArg Mac.store (Device.port_setPort_same ..)
  · rw [Device.bit_of_rd_eq (Device.nodeTxEvent_rd _ _ _ _ _ hque), Device.bit_raise_same _ _ (by decide)]
  · rw [Device.rdN_of_rd_eq (Device.nodeTxEvent_rd _ _ _ _ _ hque),
      Device.rdN_of_rd_eq (Device.rd_raise_ne _ _ (by simp [MAC_EXPIRED, MAC_INT_STAT])), Device.rdN_count_same,
      ← Device.rdN_of_rd_eq hrd]
    rfl

/-! ## Channel access -/

theorem Device.directFails_direct (d : Device) (p : Nat) (x : Direct) :
    ((d.directFails p x).port p).direct = (d.port p).direct.drop 1 := by
  unfold Device.directFails
  dsimp only
  split
  · rw [Device.nodeTxEvent_port, Device.port_setPort_same]
  · rw [Device.port_setPort_same]

/-- The device with the direct frames of a port replaced. -/
def Device.withDirect (d : Device) (p : Nat) (l : List Direct) : Device := d.setPort p { d.port p with direct := l }

theorem Device.withDirect_port (d : Device) (p : Nat) (l : List Direct) :
    (d.withDirect p l).port p = { d.port p with direct := l } := Device.port_setPort_same ..

@[simp] theorem Device.withDirect_out (d : Device) (p : Nat) (l : List Direct) : (d.withDirect p l).out = d.out := rfl

theorem Device.withDirect_mayAir (d : Device) (p : Nat) (l : List Direct) (start air : Nat) :
    (d.withDirect p l).mayAir p start air = d.mayAir p start air :=
  Device.mayAir_of_onAir_eq (d := d) (e := d.withDirect p l) rfl rfl (by rw [Device.withDirect_port]; rfl) start air

section
variable {d z : Device} {p start : Nat} {x : Direct} {l : List Direct} (hz : d.advanceTo start = z)
  (hhead : (z.port p).direct = x :: l) (hsent : x.sent = none) (hretries : x.retries ≤ z.fld (MAC_CSMA p) 11 3)
include hz hhead hsent hretries

/-- A direct frame that has not been sent and has retries left attempts channel access (R353). -/
theorem Device.csma_of_ready (air : Nat) (clear : Bool) :
    d.csma p start air clear =
      let w := z.withDirect p (x :: l)
      if ¬ clear then
        if w.fld (MAC_CSMA p) 8 3 < x.backoffs + 1 then w.directFails p x
        else w.withDirect p ({ x with backoffs := x.backoffs + 1 } :: l)
      else if ¬ w.mayAir p start air ∨ (x.short < 0xFFFE ∧ ¬ w.canSecure (nodeNum p x.short)) then w
      else
        let v := if x.short < 0xFFFE then w.secureOut (nodeNum p x.short) else w
        (v.withDirect p ({ x with sent := some (start + air) } :: l)).radioSend p 6 start air
          (if x.cmd then 3 else 1)
          (if x.short < 0xFFFE then v.frameOut (nodeNum p x.short) false x.data
            else leBytes 2 0xFFFF ++ leBytes 1 0 ++ leBytes 4 0 ++ leBytes 8 x.eui ++ x.data) := by
  -- Unfolded as a function: applied, the kernel would evaluate the time jump, whose numbers are too large for it.
  generalize hf : @Device.csma = f
  delta Device.csma at hf
  rw [← hf]
  simp -zeta only [hz]
  dsimp only
  rw [hhead]
  dsimp only
  simp only [hsent, Bool.false_eq_true, if_false, Option.isSome_none, Nat.not_lt.mpr hretries]
  rfl

/-- On a busy channel a direct frame with backoffs left backs off (R353). -/
theorem Device.csma_of_busy (hless : x.backoffs + 1 ≤ z.fld (MAC_CSMA p) 8 3) (air : Nat) :
    d.csma p start air false =
      (z.withDirect p (x :: l)).withDirect p ({ x with backoffs := x.backoffs + 1 } :: l) := by
  rw [Device.csma_of_ready hz hhead hsent hretries]
  dsimp only
  rw [if_pos Bool.false_ne_true]
  exact if_neg (Nat.not_lt.mpr hless)

/-- A direct frame without backoffs left is dropped on a busy channel (R353). -/
theorem Device.csma_of_spent (hspent : z.fld (MAC_CSMA p) 8 3 < x.backoffs + 1) (air : Nat) :
    ((d.csma p start air false).port p).direct = l := by
  have hfails : d.csma p start air false = (z.withDirect p (x :: l)).directFails p x := by
    rw [Device.csma_of_ready hz hhead hsent hretries]
    dsimp only
    rw [if_pos Bool.false_ne_true]
    exact if_pos hspent
  rw [hfails, Device.directFails_direct, Device.withDirect_port]
  rfl

/-- On a clear channel a direct frame goes on air, and waits for its acknowledgement (R353, R354). -/
theorem Device.csma_of_clear {air : Nat} (hmay : z.mayAir p start air = true)
    (hsecure : 0xFFFE ≤ x.short ∨ z.canSecure (nodeNum p x.short) = true) :
    ∃ (v : Device) (b : Bytes), v.out = z.out ∧ d.csma p start air true =
      (v.withDirect p ({ x with sent := some (start + air) } :: l)).radioSend p 6 start air (if x.cmd then 3 else 1)
        b := by
  have hmay' : (z.withDirect p (x :: l)).mayAir p start air = true := (Device.withDirect_mayAir ..).trans hmay
  have hblocked : ¬ (¬ (z.withDirect p (x :: l)).mayAir p start air = true ∨
      x.short < 0xFFFE ∧ ¬ (z.withDirect p (x :: l)).canSecure (nodeNum p x.short) = true) := by
    rintro (hnot | ⟨hshort, hnot⟩)
    · exact hnot hmay'
    · exact hsecure.elim (Nat.not_le.mpr hshort) hnot
  rw [Device.csma_of_ready hz hhead hsent hretries]
  dsimp only
  rw [if_neg (not_not_intro rfl), if_neg hblocked]
  refine ⟨_, _, ?_, rfl⟩
  split
  · exact Device.secureOut_out ..
  · rfl

end

end Sys2Proof.Machine
end

section
/-!
PROOFS. The statement about the frames that a radio port holds and sends (R346, R349 to R358, R366).
-/
namespace Sys2Proof.Machine

theorem exec_macEnable {p : Nat} (hp : p < 4) (value : Nat) (s : State) :
    exec (.macEnable p value) s = .next { s with dev := s.dev.macCtrl p (setBits value 0 1 1) } := by
  have hexec : exec (.macEnable p value) s = execMacEnable p value s := rfl
  rw [hexec, execMacEnable, if_pos hp]

theorem exec_indFlush {p : Nat} (hp : p < 4) (value : Nat) (s : State) :
    exec (.indFlush p value) s = .next { s with dev := s.dev.macCtrl p (setBits value 2 1 1) } := by
  have hexec : exec (.indFlush p value) s = execIndFlush p value s := rfl
  rw [hexec, execIndFlush, if_pos hp]

theorem exec_acknowledgement (p air : Nat) (s : State) :
    exec (.acknowledgement p air) s = .next { s with dev := s.dev.ackSend p air } := rfl

theorem exec_indirectData (p start air : Nat) (s : State) :
    exec (.indirectData p start air) s = .next { s with dev := s.dev.indirect p start air } := rfl

theorem exec_frameExpiry (p k : Nat) (s : State) :
    exec (.frameExpiry p k) s = .next { s with dev := s.dev.expire p k } := rfl

theorem exec_csmaCa (p start air : Nat) (clear : Bool) (s : State) :
    exec (.csmaCa p start air clear) s = .next { s with dev := s.dev.csma p start air clear } := rfl

/-- A NODE_SEND that the holder takes is done by what `nodeSend` says of it (R355). -/
theorem exec_nodeSend_of_takes {s : State} {h : HostPkt} {c : Cmd} {e : Device}
    (htakes : s.dev.takes 0x040A h = some (c, e)) (hholder : e.standby = false) :
    exec (.nodeSend h) s = .next { s with dev := Device.nodeSend c e } := by
  have hexec : exec (.nodeSend h) s =
      .next { s with dev := s.dev.hostCmd 0x040A h (ifHolder Device.nodeSend) } := rfl
  rw [hexec, Device.hostCmd_takes _ _ _ _ _ _ htakes, ifHolder, hholder]
  rfl

theorem Device.regionLets_iff (d : Device) (p : Nat) :
    d.regionLets p = true ↔ d.fld (MAC_REGION p) 0 4 = 1 ∨ d.fld (MAC_REGION p) 0 4 = 2 := by
  simp only [Device.regionLets, Bool.or_eq_true, decide_eq_true_eq]

/-- Settles O57: each command is its operation on the port, and the operations are taken apart above: the control
register, the ways of a NODE_SEND, an acknowledgement that goes out or is skipped, and the frames after it. -/
theorem radioFramesAreHeldAndSent : Obligations.RadioFramesAreHeldAndSent := by
  intro s e h c p start air hp
  refine ⟨fun value => ⟨fun hlets => ?_, fun hone htwo => ?_, ?_⟩,
    fun htakes hholder hlen hsome hmax hright hnode hfree => ⟨fun hkind => ?_, fun hkind hactive => ⟨fun hother => ?_,
      fun howner hchild => ⟨fun hsleepy hrelay hper hlong => ⟨fun hroom hfew => ?_, fun hfull => ?_⟩, fun hawake => ?_⟩,
      fun r howner hrelayed => ⟨fun hsleepy hrelay hper hlong hroom hfew => ?_, fun hawake => ?_⟩⟩⟩,
    fun d l hacks hup => ⟨fun hclear hnext hmay => ?_, fun hclash => ?_⟩,
    fun q hpolled hafter hbefore hmay hsecure => ?_, fun k x hget hidle => ?_,
    fun x l hhead hsent hretries => ⟨fun hless => ?_, fun hspent => ?_, fun hmay hsecure => ?_⟩⟩
  · have hon : (bitOf (setBits value 0 1 1) 0 && s.dev.regionLets p) = true := by
      rw [bitOf_setBits_one, (s.dev.regionLets_iff p).mpr hlets, Bool.and_self]
    exact Completes.of_exec (exec_macEnable hp value s)
      ⟨(s.dev.macCtrl_enable p _).trans hon, s.dev.macCtrl_reset p _ hon⟩
  · have hoff : s.dev.regionLets p = false :=
      Bool.eq_false_iff.mpr fun hlets => ((s.dev.regionLets_iff p).mp hlets).elim hone htwo
    refine Completes.of_exec (exec_macEnable hp value s) ?_
    rw [Device.macCtrl_enable, hoff, Bool.and_false]
  · exact Completes.of_exec (exec_indFlush hp value s) (s.dev.macCtrl_flush p _ (bitOf_setBits_one value 2))
  · exact Completes.of_exec (exec_nodeSend_of_takes htakes hholder)
      (Device.nodeSend_of_free hlen hsome hmax hright hnode hfree hkind)
  · exact Completes.of_exec (exec_nodeSend_of_takes htakes hholder)
      (Device.nodeSend_of_other hlen hsome hmax hright hnode hfree hkind hactive hother)
  · obtain ⟨hstore, -⟩ := e.hold_port (panOf (uAt c.body 0 4)) (e.heldOf c none)
    refine Completes.of_exec (exec_nodeSend_of_takes htakes hholder) ⟨_, ?_, hstore⟩
    rw [Device.nodeSend_of_sleepy hlen hsome hmax hright hnode hfree hkind hactive howner hsleepy hrelay,
      Device.sendHeld_of_child hper hlong hroom hfew hchild]
  · refine Completes.of_exec (exec_nodeSend_of_takes htakes hholder) ⟨_, ?_, rfl⟩
    rw [Device.nodeSend_of_sleepy hlen hsome hmax hright hnode hfree hkind hactive howner hsleepy hrelay,
      Device.sendHeld_of_full hper hlong hfull]
  · obtain ⟨x, b, hsend, hdirect, hdata⟩ := e.sendDirect_leaves c
    rw [hchild] at hdirect
    refine Completes.of_exec (exec_nodeSend_of_takes htakes hholder) ⟨x, ?_, _, hdirect, rfl, hdata hchild, rfl, rfl⟩
    rw [Device.nodeSend_of_awake hlen hsome hmax hright hnode hfree hkind hactive howner hawake, hsend]
  · obtain ⟨x, q, b, hsend, hstore, hdirect⟩ := Device.sendHeld_of_relay hper hlong hroom hfew hrelayed
    refine Completes.of_exec (exec_nodeSend_of_takes htakes hholder) ⟨x, ?_, q, _, hstore, hdirect, rfl, rfl⟩
    rw [Device.nodeSend_of_sleepy hlen hsome hmax hright hnode hfree hkind hactive howner hsleepy hrelay, hsend]
  · obtain ⟨x, b, hsend, hdirect, -⟩ := e.sendDirect_leaves c
    rw [hrelayed] at hdirect
    refine Completes.of_exec (exec_nodeSend_of_takes htakes hholder) ⟨x, ?_, _, hdirect, rfl, rfl, rfl⟩
    rw [Device.nodeSend_of_awake hlen hsome hmax hright hnode hfree hkind hactive howner hawake, hsend]
  · exact Completes.of_exec (exec_acknowledgement p air s) (Device.ackSend_sends hacks rfl hup hclear hnext hmay)
  · exact Completes.of_exec (exec_acknowledgement p air s) (Device.ackSend_skips hacks rfl hup hclash)
  · obtain ⟨x, b, hsend, hnone, hout, hdata⟩ := Device.indirect_of_may rfl hpolled hafter hbefore hmay hsecure
    refine Completes.of_exec (exec_indirectData p start air s) ?_
    rw [hsend, Device.radioSend_port]
    refine ⟨hnone, rfl, b, by rw [Device.radioSend_out, hout], fun hempty => ?_, fun y l hgone hheld => ?_⟩
    · rw [hdata, Device.firstHeld_of_none hempty]
      rfl
    · rw [hdata, Device.firstHeld_of_cons hgone hheld]
      rfl
  · exact Completes.of_exec (exec_frameExpiry p k s) (Device.expire_of_idle hget hidle)
  · refine Completes.of_exec (exec_csmaCa p start air false s) ?_
    rw [Device.csma_of_busy rfl hhead hsent hretries hless, Device.withDirect_port, Device.withDirect_out,
      Device.withDirect_out]
    exact ⟨rfl, rfl⟩
  · exact Completes.of_exec (exec_csmaCa p start air false s)
      (Device.csma_of_spent rfl hhead hsent hretries hspent air)
  · obtain ⟨v, b, hout, hsend⟩ := Device.csma_of_clear rfl hhead hsent hretries hmay hsecure
    refine Completes.of_exec (exec_csmaCa p start air true s) ?_
    rw [hsend, Device.radioSend_port, Device.withDirect_port]
    exact ⟨rfl, rfl, b, by rw [Device.radioSend_out, Device.withDirect_out, hout]⟩

end Sys2Proof.Machine
end

section
/-!
PROOFS. A step and its command: every command but JTAG_INSTRUCTION answers a next state with the device changed alone, so
no step puts a command into the queue (R485, spec/opcode_table.json).
-/
namespace Sys2Proof.Machine

/-- Next states of one state are equal where their devices are. -/
theorem next_of_dev_eq {s : State} {d e : Device} (h : d = e) :
    (.next { s with dev := d } : Host.Outcome State Fault Refusal) = .next { s with dev := e } :=
  h ▸ rfl

/-- Settles O1: both equations are the two cases of `step`. -/
theorem stepRunsTheCommandAtTheFront : Obligations.StepRunsTheCommandAtTheFront := by
  unfold Obligations.StepRunsTheCommandAtTheFront
  refine ⟨fun s c rest => rfl, fun s hempty => ?_⟩
  simp only [step, hempty]

theorem exec_jtagInstruction (i : Nat) (s : State) : exec (.jtagInstruction i) s = execJtagInstruction i s := rfl

/-- Every arm but that of JTAG_INSTRUCTION is a next state whose device alone is new. -/
theorem exec_changes_dev (c : Instr) (hc : ∀ i, c ≠ .jtagInstruction i) (s : State) :
    ∃ d, exec c s = .next { s with dev := d } := by
  cases c
  case jtagInstruction i => exact absurd rfl (hc i)
  all_goals exact ⟨_, rfl⟩

section
variable {i : Nat} {s : State}

theorem exec_jtag_idcode :
    exec (.jtagInstruction 1) s = .next { s with dev := s.dev.send .jtag 0 1 (leBytes 4 (s.dev.rdN DBG_IDCODE)) } := rfl

/-- The debug unit and the scan cells are out of reach of an instruction where it is BYPASS or SAMPLE/PRELOAD, or where
debug is not open or barred (R485). -/
theorem exec_jtag_barred (hone : i ≠ 1) (h : i ≤ 2 ∨ s.dev.boot.dbgOpen = false ∨ s.dev.boot.policy 0 = true) :
    exec (.jtagInstruction i) s = .next s := by
  have hbar : i ≤ 2 ∨ ¬ s.dev.boot.dbgOpen = true ∨ s.dev.boot.policy 0 = true := by
    rwa [Bool.not_eq_true]
  rw [exec_jtagInstruction, execJtagInstruction, if_neg hone, if_pos hbar]

theorem exec_jtag_open (hi : 3 ≤ i) (hopen : s.dev.boot.dbgOpen = true) (hlet : s.dev.boot.policy 0 = false) :
    exec (.jtagInstruction i) s = .fault .debugAccess := by
  have hreach : ¬ (i ≤ 2 ∨ ¬ s.dev.boot.dbgOpen = true ∨ s.dev.boot.policy 0 = true) := by
    simp [hopen, hlet]
    omega
  rw [exec_jtagInstruction, execJtagInstruction, if_neg (by omega), if_neg hreach]

end

/-- Settles O2: the arms all answer, and the JTAG instructions fall into those barred from the debug unit and the rest. -/
theorem everyCommandCompletesButOneDebugAccess : Obligations.EveryCommandCompletesButOneDebugAccess := by
  unfold Obligations.EveryCommandCompletesButOneDebugAccess
  refine ⟨fun s c hc => ?_, fun s i => ⟨?_, ?_, ?_, exec_jtag_open⟩⟩
  · obtain ⟨d, h⟩ := exec_changes_dev c hc s
    exact ⟨_, h, rfl, trivial⟩
  · rintro (rfl | rfl) <;> exact exec_jtag_barred (by decide) (.inl (by decide))
  · rintro rfl
    exact ⟨_, exec_jtag_idcode, rfl, rfl⟩
  · exact fun hi h => exec_jtag_barred (by omega) (.inr h)

/-- A command that answers a next state leaves the waiting commands. -/
theorem exec_pending {c : Instr} {s t : State} (h : exec c s = .next t) : t.pending = s.pending := by
  by_cases hc : ∀ i, c ≠ .jtagInstruction i
  · obtain ⟨d, hd⟩ := exec_changes_dev c hc s
    cases hd.symm.trans h
    rfl
  · obtain ⟨i, rfl⟩ : ∃ i, c = .jtagInstruction i := by simpa using hc
    rw [exec_jtagInstruction, execJtagInstruction] at h
    split at h
    · cases h
      rfl
    · split at h <;> cases h
      rfl

/-- Settles O3: a step leaves the queue's rest waiting, or the empty queue. -/
theorem waitingCommandsStayCommandsOfTheDevice : Obligations.WaitingCommandsStayCommandsOfTheDevice := by
  unfold Obligations.WaitingCommandsStayCommandsOfTheDevice
  intro s t hwf h
  cases hp : s.pending with
  | nil =>
    simp only [step, hp] at h
    cases h
    rfl
  | cons c rest =>
    simp only [step, hp] at h
    simp only [State.pendingWf, hp, List.all_cons, Bool.and_eq_true] at hwf
    rw [State.pendingWf, exec_pending h]
    exact hwf.2

end Sys2Proof.Machine
end

section
/-!
PROOFS. The time bases: what a write of one base, holdover, slewing and lock leave of them (R396, R397, R400).
-/
namespace Sys2Proof.Machine

/-! ## One base -/

section
variable (d : Device) {b c : Nat} (v : Base)

@[simp] theorem Device.base_setBase_same : (d.setBase b v).base b = v := by
  simp [Device.base, Device.setBase]

theorem Device.base_setBase_ne (h : c ≠ b) : (d.setBase b v).base c = d.base c := by
  simp [Device.base, Device.setBase, Tab.getD_put_ne _ h]

end

theorem Device.base_of_bases_eq {d e : Device} (h : e.tim.bases = d.tim.bases) (b : Nat) : e.base b = d.base b := by
  rw [Device.base, h, Device.base]

/-- A base in holdover keeps its counter, rate, master and new master (R388, R396). -/
theorem Device.base_holdBase_same (d : Device) (b : Nat) :
    ∃ at_ e0 w, (d.holdBase b).base b = { d.base b with
      hold := true, slewing := false, holdAt := at_, e0 := e0, varF := w, limited := false } :=
  ⟨_, _, _, d.base_setBase_same _⟩

theorem Device.base_holdBase_ne (d : Device) {b c : Nat} (h : c ≠ b) : (d.holdBase b).base c = d.base c :=
  d.base_setBase_ne _ h

/-! ## TB0 and TB1 in holdover -/

/-- TIME_STATE and a bit of TIM_INT_STAT are written one after the other, and leave the bases. -/
theorem Device.timeState_raise (d : Device) (v : Nat) {i : Nat} (hi : i < 32) :
    let e := (d.wfld GNS_STAT 0 2 v).raise TIM_INT_STAT i
    e.fld GNS_STAT 0 2 = v % 2 ^ 2 ∧ e.bit TIM_INT_STAT i = true ∧ e.tim = d.tim :=
  ⟨(Device.fld_of_rd_eq (Device.rd_raise_ne _ _ (Reg.ne_of_blk (by decide))) 0 2).trans
    (d.fld_wfld_same GNS_STAT v (by decide)), Device.bit_raise_same _ _ hi, rfl⟩

/-- TB0 in holdover runs at the rate that it holds; the other bases stay (R396). -/
theorem Device.holdoverIn_bases (d : Device) :
    let e := d.holdoverIn
    (e.base 0).hold = true ∧ (e.base 0).slewing = false ∧ (e.base 0).rate = e.tim.holdRate ∧
      ∀ b, b ≠ 0 → e.base b = d.base b := by
  extract_lets e
  obtain ⟨at_, e0, w, hbase⟩ := d.base_holdBase_same 0
  have hzero : e.base 0 = { (d.holdBase 0).base 0 with rate := e.tim.holdRate } := Device.base_setBase_same _ _
  rw [hzero, hbase]
  refine ⟨rfl, rfl, rfl, fun b hb => ?_⟩
  exact (Device.base_setBase_ne _ _ hb).trans (d.base_holdBase_ne hb)

theorem Device.holdoverIn_shows (d : Device) :
    d.holdoverIn.fld GNS_STAT 0 2 = 2 ∧ d.holdoverIn.bit TIM_INT_STAT 1 = true := by
  unfold Device.holdoverIn
  extract_lets _ _ _ _ _ e
  obtain ⟨hstate, hbit, -⟩ := e.timeState_raise 2 (i := 1) (by decide)
  exact ⟨hstate, hbit⟩

/-- TB0 slews towards the reference, with its count of epochs in lock at 0 (R397). -/
def Device.slewFrom (d : Device) : Device :=
  let e := d.setBase 0 { d.base 0 with slewing := true }
  { e with tim := { e.tim with inLock := 0 } }

/-- TB0 in lock: neither slew nor holdover, and f at the hold rate (R397). -/
def Device.lockBase (d : Device) : Device :=
  let e := d.setBase 0 { d.base 0 with slewing := false, hold := false, est := 0 }
  { e with tim := { e.tim with f := ofRate d.tim.holdRate, inLock := 0 } }

/-! ## The commands -/

section
variable {s : State}

theorem exec_holdoverEntry (s : State) : exec .holdoverEntry s = execHoldoverEntry s := rfl

theorem exec_holdoverEntry_of_cond (hvalid : s.dev.tim.valid = true) (hcond : s.dev.holdCond = true)
    (hhold : (s.dev.base 0).hold = false) :
    exec .holdoverEntry s = .next { s with dev := s.dev.holdoverIn } := by
  simp [exec_holdoverEntry, execHoldoverEntry, hvalid, hcond, hhold]

theorem exec_rejoin (s : State) : exec .rejoin s = execRejoin s := rfl

theorem exec_rejoin_of_clear {t : Nat} (hhold : (s.dev.base 0).hold = true) (hslew : (s.dev.base 0).slewing = false)
    (hclear : s.dev.tim.clearAt = some t) (hsince : s.dev.since t 10000000000 = true)
    (hcond : s.dev.holdCond = false) : exec .rejoin s = .next { s with dev := s.dev.slewFrom } := by
  simp [exec_rejoin, execRejoin, hhold, hslew, hclear, hsince, hcond, Device.slewFrom]

theorem exec_tb0Locked (s : State) : exec .tb0Locked s = execTb0Locked s := rfl

theorem exec_tb0Locked_of_near (hslew : (s.dev.base 0).slewing = true) (hnear : 10 ≤ s.dev.tim.inLock) :
    exec .tb0Locked s =
      .next { s with dev := (s.dev.lockBase.wfld GNS_STAT 0 2 1).raise TIM_INT_STAT 2 } := by
  simp [exec_tb0Locked, execTb0Locked, hslew, hnear, Device.lockBase]

theorem exec_ptpAnnounceTimeout (s : State) : exec .ptpAnnounceTimeout s = execPtpAnnounceTimeout s := rfl

theorem exec_ptpAnnounceTimeout_of_slave (hrole : s.dev.fld TIM_PTP_CFG 0 2 = 2) (hmaster : (s.dev.base 1).master = 2)
    (hhold : (s.dev.base 1).hold = false) :
    exec .ptpAnnounceTimeout s = .next { s with dev := (s.dev.holdBase 1).raise TIM_INT_STAT 4 } := by
  simp [exec_ptpAnnounceTimeout, execPtpAnnounceTimeout, Device.ptpHold, hrole, hmaster, hhold]

end

/-- Settles O35: each command through what it leaves of its base; every other base is apart from it. -/
theorem tb0HoldoverFollowsItsRules : Obligations.Tb0HoldoverFollowsItsRules := by
  unfold Obligations.Tb0HoldoverFollowsItsRules
  refine fun s => ⟨?entry, ?rejoin, ?locked, ?timeout⟩
  case entry =>
    intro hvalid hcond hhold
    obtain ⟨hold, hslew, hrate, hrest⟩ := s.dev.holdoverIn_bases
    obtain ⟨hstate, hbit⟩ := s.dev.holdoverIn_shows
    exact ⟨_, exec_holdoverEntry_of_cond hvalid hcond hhold, rfl, hold, hslew, hrate, hstate, hbit, hrest⟩
  case rejoin =>
    intro t hhold hslew hclear hsince hcond
    have hzero : s.dev.slewFrom.base 0 = { s.dev.base 0 with slewing := true } := Device.base_setBase_same _ _
    refine ⟨_, exec_rejoin_of_clear hhold hslew hclear hsince hcond, rfl, ?_, ?_, rfl, ?_⟩
    · exact congrArg Base.slewing hzero
    · exact (congrArg Base.hold hzero).trans hhold
    · exact fun b hb => Device.base_setBase_ne _ _ hb
  case locked =>
    intro hslew hnear
    obtain ⟨hstate, hbit, htim⟩ := s.dev.lockBase.timeState_raise 1 (i := 2) (by decide)
    have hbase := Device.base_of_bases_eq (congrArg Time.bases htim)
    have hzero : s.dev.lockBase.base 0 = { s.dev.base 0 with slewing := false, hold := false, est := 0 } :=
      Device.base_setBase_same _ _
    refine ⟨_, exec_tb0Locked_of_near hslew hnear, rfl, ?_, ?_, rfl, hstate, hbit, ?_⟩
    · exact congrArg Base.slewing ((hbase 0).trans hzero)
    · exact congrArg Base.hold ((hbase 0).trans hzero)
    · exact fun b hb => (hbase b).trans (Device.base_setBase_ne _ _ hb)
  case timeout =>
    intro hrole hmaster hhold
    obtain ⟨at_, e0, w, hone⟩ := s.dev.base_holdBase_same 1
    refine ⟨_, exec_ptpAnnounceTimeout_of_slave hrole hmaster hhold, rfl, ?_, Device.bit_raise_same _ _ (by decide), ?_⟩
    · exact congrArg Base.hold hone
    · exact fun b hb => s.dev.base_holdBase_ne hb

end Sys2Proof.Machine
end

section
/-!
PROOFS. Snapshots, adjustments, masters, PTP, and the compare and capture units (R386 to R391, R399, R401, R403).
-/
namespace Sys2Proof.Machine

/-! ## The counter of a base -/

theorem Device.baseNs_of_tim_eq {d e : Device} (h : e.tim = d.tim) (b : Nat) : e.baseNs b = d.baseNs b := by
  rw [Device.baseNs, Device.tb0, Device.base, Device.base, h]
  rfl

theorem Device.baseNs_of_counting {d : Device} {b : Nat} (h : (d.base b).master ≠ 3 ∨ (d.base b).joining ≠ none) :
    d.baseNs b = (d.base b).acc / 2 ^ 32 % 2 ^ 32 := by
  rw [Device.baseNs]
  exact if_neg fun hf => h.elim (· hf.1) (· hf.2)

theorem Device.baseNs_lt (d : Device) (b : Nat) : d.baseNs b < 2 ^ 32 := by
  rw [Device.baseNs]
  split
  · exact ofSigned_lt 32 _
  · exact Nat.mod_lt _ (Nat.two_pow_pos 32)

theorem Device.heat_lt (d : Device) : d.heat < 2 ^ 32 := by
  rw [Device.heat]
  split
  · exact Nat.mod_lt _ (Nat.two_pow_pos 32)
  · exact Nat.two_pow_pos 32

/-- An offset to a counter acts modulo 2^32 (R389, R399). -/
theorem ofSigned_mod_add (n : Nat) (x : Int) :
    ofSigned 32 (((n % 2 ^ 32 : Nat) : Int) + x) = ofSigned 32 ((n : Int) + x) := by
  simp only [ofSigned, Int.natCast_mod, Int.emod_add_emod]

/-- The whole nanoseconds of a counter that a number of nanoseconds and a fraction make. -/
theorem acc_ns (n : Nat) {f : Nat} (hf : f < 2 ^ 32) : (n * 2 ^ 32 + f) / 2 ^ 32 = n := by
  rw [Nat.mul_comm, Nat.mul_add_div (Nat.two_pow_pos 32), Nat.div_eq_of_lt hf, Nat.add_zero]

/-! ## Adjustments and masters -/

section
variable {d : Device} {b : Nat}

/-- A base after an adjustment that fires no unit: a FOLLOW base shifts its offset, another steps its counter (R389). -/
def Device.adjusted (d : Device) (b : Nat) (x : Int) : Device :=
  let v := d.base b
  d.setBase b (if v.master = 3 then { v with ofs := toSigned 32 (ofSigned 32 (v.ofs + x)) }
    else { v with acc := ofSigned 32 ((v.acc / 2 ^ 32 : Nat) + x) * 2 ^ 32 + v.acc % 2 ^ 32 })

/-- An adjustment fires no unit where none counts on its base (R389, R401). -/
theorem Device.adjust_of_apart (x : Int) (hjoin : (d.base b).joining = none)
    (hmaster : (d.base b).master = 0 ∨ (d.base b).master = 3)
    (hapart : ∀ j, 16 ≤ j → j < 32 → d.cmpBase j ≠ b) : d.adjust b x = d.adjusted b x := by
  have hnone : ((List.range 32).filter fun k =>
      16 ≤ k && d.cmpBase k = b && d.cmpArmed k && !d.cmpPassed k) = [] := by
    rw [List.filter_eq_nil_iff]
    intro k hk hcond
    simp only [Bool.and_eq_true, decide_eq_true_eq] at hcond
    obtain ⟨⟨⟨hlo, hon⟩, -⟩, -⟩ := hcond
    exact hapart k hlo (List.mem_range.mp hk) hon
  have hruns : ¬ ((d.base b).joining ≠ none ∨ (d.base b).master = 1 ∨ (d.base b).master = 2) := by
    rintro (h | h | h)
    · exact h hjoin
    all_goals omega
  unfold Device.adjust Device.adjusted
  simp only [hnone, if_neg hruns]
  split <;> rfl

/-- A base takes a new master at the next heat boundary, and runs on from its counter in holdover (R388). -/
theorem Device.setMaster_of_allowed {m : Nat} (hb : b ≠ 0) (hm : masterOk b m = true) :
    let e := d.setMaster b m
    (e.base b).joining = some m ∧ (e.base b).hold = true ∧ e.baseNs b = d.baseNs b ∧
      ∀ c, c ≠ b → e.base c = d.base c := by
  extract_lets e
  obtain ⟨f, he, hjoin, hhold, hacc, hrest⟩ : ∃ f : Device, e = f ∧ (f.base b).joining = some m ∧
      (f.base b).hold = true ∧ (f.base b).acc = d.baseNs b * 2 ^ 32 ∧ ∀ c, c ≠ b → f.base c = d.base c := by
    refine ⟨_, (if_neg hb).trans (if_neg (not_not_intro hm)), ?_, ?_, ?_, fun c hc => ?_⟩
    · rw [Device.base_setBase_same]
    · rw [Device.base_setBase_same]
      exact congrArg Base.hold (Device.base_setBase_same _ _)
    · rw [Device.base_setBase_same]
      refine (congrArg Base.acc (Device.base_setBase_same _ _)).trans ?_
      exact congrArg Base.acc (Device.base_setBase_same _ _)
    · rw [Device.base_setBase_ne _ _ hc, Device.base_holdBase_ne _ hc, Device.base_setBase_ne _ _ hc]
  rw [he]
  refine ⟨hjoin, hhold, ?_, hrest⟩
  rw [Device.baseNs_of_counting (.inr (by simp [hjoin])), hacc, Nat.mul_div_cancel _ (Nat.two_pow_pos 32),
    Nat.mod_eq_of_lt (d.baseNs_lt b)]

end

/-! ## Compare units -/

section
variable (d : Device) (k : Nat)

theorem timIntStat_ne_cmpCfg : TIM_CMP_CFG k ≠ TIM_INT_STAT := by simp [TIM_CMP_CFG, TIM_INT_STAT]; omega

theorem timIntStat_ne_cmpTgt : TIM_CMP_TGT k ≠ TIM_INT_STAT := by simp [TIM_CMP_TGT, TIM_INT_STAT]; omega

theorem cmpCfg_ne_cmpTgt : TIM_CMP_CFG k ≠ TIM_CMP_TGT k := by simp [TIM_CMP_CFG, TIM_CMP_TGT]

/-- The device as a compare unit has shown that it fires, before it takes its period (R401). -/
def Device.fired (late : Bool) : Device :=
  let e := (d.wbit (TIM_CMP_CFG k) 17 true).raiseIf late (TIM_CMP_CFG k) 16
  let e := e.raiseIf (e.bit (TIM_CMP_CFG k) 4) TIM_INT_STAT 5
  let e := if e.bit (TIM_CMP_CFG k) 5 then
      e.send .pin (pinEvt + e.fld (TIM_CMP_CFG k) 6 2) 1 (leBytes 1 (e.fld (TIM_CMP_CFG k) 8 8)) else e
  if k = 5 then e.send .pin pinPps 1 (leBytes 4 1000000) else e

theorem Device.fire_eq (late : Bool) : d.fire k late =
    if d.rdN (TIM_CMP_PER k) = 0 then (d.fired k late).wbit (TIM_CMP_CFG k) 3 false
    else (d.fired k late).wrN (TIM_CMP_TGT k) (((d.fired k late).rdN (TIM_CMP_TGT k) + d.rdN (TIM_CMP_PER k)) % 2 ^ 32) :=
  rfl

theorem Device.fired_rd (late : Bool) {x : Reg} (hx : x ≠ TIM_INT_STAT) :
    (d.fired k late).rd x = ((d.wbit (TIM_CMP_CFG k) 17 true).raiseIf late (TIM_CMP_CFG k) 16).rd x := by
  unfold Device.fired
  extract_lets e f g
  have hf : f.rd x = e.rd x := Device.rd_raiseIf_ne _ _ _ hx
  have hg : g.rd x = f.rd x := by
    unfold g
    split <;> rfl
  rw [← hf, ← hg]
  split <;> rfl

theorem Device.fired_cfg (late : Bool) :
    (d.fired k late).bit (TIM_CMP_CFG k) 17 = true ∧ (late = true → (d.fired k late).bit (TIM_CMP_CFG k) 16 = true) := by
  rw [Device.bit_of_rd_eq (d.fired_rd k late (timIntStat_ne_cmpCfg k)),
    Device.bit_of_rd_eq (d.fired_rd k late (timIntStat_ne_cmpCfg k))]
  refine ⟨?_, ?_⟩
  · rw [Device.bit_raiseIf_apart _ _ _ (by decide) (by decide), Device.bit_wbit _ _ _ _ (by decide), if_pos rfl]
  · rintro rfl
    exact Device.bit_raise_same _ _ (by decide)

theorem Device.fired_tgt (late : Bool) : (d.fired k late).rdN (TIM_CMP_TGT k) = d.rdN (TIM_CMP_TGT k) := by
  have hcfg := (cmpCfg_ne_cmpTgt k).symm
  exact Device.rdN_of_rd_eq ((d.fired_rd k late (timIntStat_ne_cmpTgt k)).trans
    ((Device.rd_raiseIf_ne _ _ _ hcfg).trans (Device.rd_wfld_ne _ _ _ _ hcfg)))

/-- What a unit that fires shows: FIRED, LATE where it is, and either no longer armed or at its next target (R401). -/
theorem Device.fire_leaves (late : Bool) :
    let e := d.fire k late
    e.bit (TIM_CMP_CFG k) 17 = true ∧ (late = true → e.bit (TIM_CMP_CFG k) 16 = true) ∧
      (d.rdN (TIM_CMP_PER k) = 0 → e.bit (TIM_CMP_CFG k) 3 = false) ∧
      (d.rdN (TIM_CMP_PER k) ≠ 0 →
        e.rdN (TIM_CMP_TGT k) = (d.rdN (TIM_CMP_TGT k) + d.rdN (TIM_CMP_PER k)) % 2 ^ 32) := by
  extract_lets e
  obtain ⟨hfired, hlate⟩ := d.fired_cfg k late
  by_cases hper : d.rdN (TIM_CMP_PER k) = 0
  · have he : e = (d.fired k late).wbit (TIM_CMP_CFG k) 3 false := (d.fire_eq k late).trans (if_pos hper)
    rw [he]
    simp only [Device.bit_wbit _ _ _ _ (by decide : 17 < 32), Device.bit_wbit _ _ _ _ (by decide : 16 < 32),
      Device.bit_wbit _ _ _ _ (by decide : 3 < 32)]
    exact ⟨hfired, hlate, fun _ => rfl, fun h => absurd hper h⟩
  · have he : e = (d.fired k late).wrN (TIM_CMP_TGT k)
        ((d.rdN (TIM_CMP_TGT k) + d.rdN (TIM_CMP_PER k)) % 2 ^ 32) := by
      rw [← d.fired_tgt k late]
      exact (d.fire_eq k late).trans (if_neg hper)
    have hcfg := Device.bit_of_rd_eq ((d.fired k late).rd_wrN_ne
      ((d.rdN (TIM_CMP_TGT k) + d.rdN (TIM_CMP_PER k)) % 2 ^ 32) (cmpCfg_ne_cmpTgt k))
    rw [he, hcfg, hcfg, Device.rdN_wrN_same, Nat.mod_mod]
    exact ⟨hfired, hlate, fun h => absurd h hper, fun _ => rfl⟩

theorem Device.waitTarget_only : ∃ t, d.waitTarget k = { d with tim := t } := by
  unfold Device.waitTarget
  extract_lets b gap v per
  split
  · exact ⟨_, rfl⟩
  · split <;> exact ⟨_, rfl⟩

/-- The device with a unit's target written and the unit armed (R401). -/
def Device.targeted (t : Nat) : Device := (d.wrN (TIM_CMP_TGT k) (t % 2 ^ 32)).wbit (TIM_CMP_CFG k) 3 true

theorem Device.writeTarget_eq (t : Nat) : d.writeTarget k t =
    if (d.targeted k t).cmpArmed k ∧ (d.targeted k t).cmpPassed k then (d.targeted k t).fire k true
    else d.targeted k t := rfl

theorem Device.targeted_leaves (t : Nat) :
    let e := d.targeted k t
    e.rdN (TIM_CMP_TGT k) = t % 2 ^ 32 ∧ e.bit (TIM_CMP_CFG k) 3 = true ∧ e.cmpBase k = d.cmpBase k ∧ e.tim = d.tim := by
  refine ⟨?_, ?_, ?_, rfl⟩
  · rw [Device.targeted, Device.wbit, Device.rdN_of_rd_eq (Device.rd_wfld_ne _ _ _ _ (cmpCfg_ne_cmpTgt k).symm),
      Device.rdN_wrN_same, Nat.mod_mod]
  · rw [Device.targeted, Device.bit_wbit _ _ _ _ (by decide), if_pos rfl]
  · rw [Device.cmpBase, Device.targeted, Device.wbit, Device.fld_wfld_apart _ _ _ (by decide) (by decide)]
    exact Device.fld_of_rd_eq (d.rd_wrN_ne _ (cmpCfg_ne_cmpTgt k)) 0 3

theorem Device.targeted_passed (t : Nat) :
    (d.targeted k t).cmpPassed k = decide (0 ≤ diff32 (d.baseNs (d.cmpBase k)) (t % 2 ^ 32)) := by
  obtain ⟨htgt, -, hbase, htim⟩ := d.targeted_leaves k t
  rw [Device.cmpPassed, htgt, hbase, Device.baseNs_of_tim_eq htim]

end

/-! ## Captures -/

/-- A capture unit latches its base and the heat, and shows a capture before that was not read (R403). -/
theorem Device.capture_of_enabled {d : Device} {k : Nat} (hon : d.bit (TIM_CAP_CFG k) 7 = true) :
    let e := d.capture k
    e.rdN (TIM_CAP_VAL k) = d.baseNs (d.fld (TIM_CAP_CFG k) 0 3) ∧ e.rdN (TIM_CAP_HEAT k) = d.heat ∧
      e.bit (TIM_CAP_STAT k) 0 = true ∧ (d.bit (TIM_CAP_STAT k) 0 = true → e.bit (TIM_CAP_STAT k) 1 = true) := by
  have hval : TIM_CAP_VAL k ≠ TIM_INT_STAT ∧ TIM_CAP_VAL k ≠ TIM_CAP_STAT k ∧ TIM_CAP_VAL k ≠ TIM_CAP_HEAT k := by
    simp [TIM_CAP_VAL, TIM_INT_STAT, TIM_CAP_STAT, TIM_CAP_HEAT]; omega
  have hheat : TIM_CAP_HEAT k ≠ TIM_INT_STAT ∧ TIM_CAP_HEAT k ≠ TIM_CAP_STAT k := by
    simp [TIM_INT_STAT, TIM_CAP_STAT, TIM_CAP_HEAT]; omega
  have hstat : TIM_CAP_STAT k ≠ TIM_INT_STAT := by simp [TIM_INT_STAT, TIM_CAP_STAT]; omega
  obtain ⟨hval1, hval2, hval3⟩ := hval
  obtain ⟨hheat1, hheat2⟩ := hheat
  unfold Device.capture
  rw [if_neg (not_not_intro hon)]
  extract_lets new e f g
  have hg : ∀ x, x ≠ TIM_INT_STAT → (g.raiseIf (g.bit (TIM_CAP_CFG k) 8) TIM_INT_STAT 6).rd x = g.rd x :=
    fun x hx => Device.rd_raiseIf_ne _ _ _ hx
  have hf : ∀ x, x ≠ TIM_CAP_STAT k → g.rd x = f.rd x :=
    fun x hx => (Device.rd_raiseIf_ne _ _ _ hx).trans (Device.rd_raise_ne _ _ hx)
  refine ⟨?_, ?_, ?_, fun hnew => ?_⟩
  · rw [Device.rdN_of_rd_eq (hg _ hval1), Device.rdN_of_rd_eq (hf _ hval2),
      Device.rdN_of_rd_eq (Device.rd_wrN_ne _ _ hval3), Device.rdN_wrN_same, Nat.mod_eq_of_lt (d.baseNs_lt _)]
  · rw [Device.rdN_of_rd_eq (hg _ hheat1), Device.rdN_of_rd_eq (hf _ hheat2), Device.rdN_wrN_same,
      Nat.mod_eq_of_lt (Device.heat_lt _)]
    rfl
  · rw [Device.bit_of_rd_eq (hg _ hstat), Device.bit_raiseIf_apart _ _ _ (by decide) (by decide),
      Device.bit_raise_same _ _ (by decide)]
  · rw [Device.bit_of_rd_eq (hg _ hstat)]
    have hraise : g = (f.raise (TIM_CAP_STAT k) 0).raise (TIM_CAP_STAT k) 1 := if_pos hnew
    rw [hraise, Device.bit_raise_same _ _ (by decide)]

/-! ## The commands -/

section
variable {s : State} {b k : Nat}

theorem exec_timSnap (win : Nat) (s : State) : exec (.timSnap win) s = .next { s with dev := s.dev.snap win } := rfl

theorem exec_timAdj (b : Nat) (x : Int) (s : State) :
    exec (.timAdj b x) s = .next { s with dev := s.dev.adjust b x } := rfl

theorem exec_masterChange (b m : Nat) (s : State) :
    exec (.masterChange b m) s = .next { s with dev := s.dev.setMaster b m } := rfl

theorem exec_capture (k : Nat) (s : State) : exec (.capture k) s = .next { s with dev := s.dev.capture k } := rfl

theorem exec_compareFire (k : Nat) (s : State) : exec (.compareFire k) s = execCompareFire k s := rfl

theorem exec_compareFire_of_armed (h : s.dev.cmpArmed k = true) :
    exec (.compareFire k) s = .next { s with dev := (s.dev.waitTarget k).fire k false } := by
  simp only [exec_compareFire, execCompareFire, if_pos h]

theorem exec_compareTargetWrite (k target : Nat) (s : State) :
    exec (.compareTargetWrite k target) s = execCompareTargetWrite k target s := rfl

theorem exec_compareTargetWrite_of_soft (target : Nat) (hlo : 16 ≤ k) (hhi : k < 32) :
    exec (.compareTargetWrite k target) s = .next { s with dev := s.dev.writeTarget k target } := by
  simp only [exec_compareTargetWrite, execCompareTargetWrite, if_pos (And.intro hlo hhi)]

theorem exec_ptpMessage (rx : Bool) (gm port : Nat) (offset : Int) (event : Bool) (s : State) :
    exec (.ptpMessage rx gm port offset event) s = execPtpMessage rx gm port offset event s := rfl

theorem exec_ptpMessage_of_master {gm port : Nat} {offset : Int} {event : Bool} (hrole : s.dev.fld TIM_PTP_CFG 0 2 = 1)
    (hvalid : s.dev.tim.valid = true) : exec (.ptpMessage false gm port offset event) s =
      .next { s with dev := s.dev.send .netPtp s.dev.ptpPortNow (b2n event) [] } := by
  simp [exec_ptpMessage, execPtpMessage, hrole, hvalid]

/-- TB1 after an offset beyond STEP_US, with `n` intervals within LOCK_NS (R399). -/
def Device.ptpStepped (d : Device) (offset : Int) (n : Nat) : Device :=
  let e : Device := { d with tim := { d.tim with ptpLock := n } }
  e.setBase 1 { d.base 1 with
    acc := ofSigned 32 (((d.base 1).acc / 2 ^ 32 : Nat) - offset) * 2 ^ 32, hold := (d.base 1).hold && n < 10 }

theorem exec_ptpMessage_of_step {offset : Int} (hrole : s.dev.fld TIM_PTP_CFG 0 2 = 2)
    (hmaster : (s.dev.base 1).master = 2) (hjoin : (s.dev.base 1).joining = none)
    (hfar : s.dev.fld TIM_PTP_CFG 11 10 * 1000 < offset.natAbs) :
    ∃ n, exec (.ptpMessage true s.dev.tim.gm s.dev.tim.ptpPort offset true) s =
      .next { s with dev := s.dev.ptpStepped offset n } := by
  have hsame : ¬ ((decide (s.dev.tim.gm ≠ s.dev.tim.gm) || decide (s.dev.tim.ptpPort ≠ s.dev.tim.ptpPort)) = true ∧
      s.dev.tim.gm ≠ 0) := by simp
  have hevent : ¬ (¬ True ∨ (s.dev.base 1).master ≠ 2 ∨ (s.dev.base 1).joining ≠ none) := by
    simp [hmaster, hjoin]
  have hsends : ¬ (s.dev.fld TIM_PTP_CFG 0 2 = 1 ∧ ¬ true = true) := by simp
  have htakes : s.dev.fld TIM_PTP_CFG 0 2 = 2 ∧ true = true := ⟨hrole, rfl⟩
  refine ⟨if offset.natAbs ≤ s.dev.fld TIM_HOLD_CFG 0 8 then s.dev.tim.ptpLock + 1 else 0,
    next_of_dev_eq
      ((if_neg hsends).trans ((if_pos htakes).trans ?_))⟩
  simp only [if_neg hsame]
  refine (if_neg hevent).trans (congrArg (Device.setBase _ 1) ?_)
  exact congrArg (fun v : Base => { v with hold := v.hold && decide ((if offset.natAbs ≤ s.dev.fld TIM_HOLD_CFG 0 8 then
    s.dev.tim.ptpLock + 1 else 0) < 10) }) (if_pos hfar)

end

/-- Settles O36: each command is its operation on the time block; the counter of a base is read through its master, and
a compare unit through what `fire` and a written target leave of its registers. -/
theorem basesAndSnapshotsFollowTheirCommands : Obligations.BasesAndSnapshotsFollowTheirCommands := by
  unfold Obligations.BasesAndSnapshotsFollowTheirCommands
  refine fun s k b => ⟨?snap, ?adjust, ?master, ?slave, ?sends, ?fire, ?target, ?capture⟩
  case snap => exact fun win => ⟨_, exec_timSnap win s, rfl, Tab.find_put_self .., rfl⟩
  case adjust =>
    refine fun x hjoin hapart => ⟨fun hmaster => ?_, fun hmaster => ?_⟩
    · refine ⟨_, exec_timAdj b x s, rfl, ?_⟩
      rw [Device.adjust_of_apart x hjoin (.inl hmaster) hapart, Device.adjusted, if_neg (by omega)]
      refine ⟨?_, rfl⟩
      rw [Device.baseNs_of_counting (.inl (by simp [hmaster])), Device.base_setBase_same,
        Device.baseNs_of_counting (.inl (by omega)), ofSigned_mod_add]
      dsimp only
      rw [acc_ns _ (Nat.mod_lt _ (Nat.two_pow_pos 32)), Nat.mod_eq_of_lt (ofSigned_lt 32 _)]
    · refine ⟨_, exec_timAdj b x s, rfl, ?_⟩
      rw [Device.adjust_of_apart x hjoin (.inr hmaster) hapart, Device.adjusted, if_pos hmaster]
      exact ⟨congrArg Base.ofs (Device.base_setBase_same _ _), rfl⟩
  case master => exact fun m hb hm => ⟨_, exec_masterChange b m s, rfl, Device.setMaster_of_allowed hb hm⟩
  case slave =>
    intro offset hrole hmaster hjoin hfar
    obtain ⟨n, he⟩ := exec_ptpMessage_of_step hrole hmaster hjoin hfar
    refine ⟨_, he, rfl, ?_, fun c hc => Device.base_setBase_ne _ _ hc⟩
    rw [Device.ptpStepped, Device.baseNs_of_counting (.inl (by simp [hmaster])), Device.base_setBase_same,
      Device.baseNs_of_counting (.inl (by omega))]
    simp only [sub_eq_add_neg, ofSigned_mod_add]
    rw [Nat.mul_div_cancel _ (Nat.two_pow_pos 32), Nat.mod_eq_of_lt (ofSigned_lt 32 _)]
  case sends => exact fun gm port offset event hrole hvalid => ⟨_, exec_ptpMessage_of_master hrole hvalid, rfl, rfl⟩
  case fire =>
    intro harmed
    obtain ⟨t, ht⟩ := s.dev.waitTarget_only k
    have hleaves := (s.dev.waitTarget k).fire_leaves k false
    rw [ht] at hleaves
    obtain ⟨hfired, -, hdisarms, hnext⟩ := hleaves
    have he := exec_compareFire_of_armed harmed
    rw [ht] at he
    exact ⟨_, he, rfl, hfired, hdisarms, hnext⟩
  case target =>
    intro target hlo hhi
    obtain ⟨htgt, harms, hbase, htim⟩ := s.dev.targeted_leaves k target
    have hpassed := s.dev.targeted_passed k target
    refine ⟨fun hahead => ?_, fun hbehind hvalid => ?_⟩
    · refine ⟨_, exec_compareTargetWrite_of_soft target hlo hhi, rfl, ?_⟩
      rw [Device.writeTarget_eq, if_neg (fun h => (Int.not_le.mpr hahead) (of_decide_eq_true (hpassed.symm.trans h.2)))]
      exact ⟨htgt, harms⟩
    · have harmed : (s.dev.targeted k target).cmpArmed k = true := by
        rw [Device.cmpArmed, harms, Bool.true_and, Device.baseValid, htim, hvalid]
      obtain ⟨hfired, hlate, -⟩ := (s.dev.targeted k target).fire_leaves k true
      refine ⟨_, exec_compareTargetWrite_of_soft target hlo hhi, rfl, ?_⟩
      rw [Device.writeTarget_eq, if_pos ⟨harmed, hpassed.trans (decide_eq_true hbehind)⟩]
      exact ⟨hfired, hlate rfl⟩
  case capture => exact fun hon => ⟨_, exec_capture k s, rfl, Device.capture_of_enabled hon⟩

end Sys2Proof.Machine
end

section
/-!
PROOFS. Two statements that the model does not meet: the egress of a solution packet (R93) and the third silent stroke of
a peer (R457).
-/
namespace Sys2Proof.Machine

theorem exec_hostEgress (p n : Nat) (s : State) :
    exec (.hostEgress p n) s = .next { s with dev := if p < 4 ∧ n < 16 then s.dev.egress p n else s.dev } := rfl

theorem exec_hbLost (s : State) : exec .hbLost s = .next { s with dev := s.dev.hbLost } := rfl

/-! ## A solution packet's length -/

/-- A solution packet of one 40-byte entry, the count of which stands in its bytes 2 and 3 (R93). -/
def solutionPacket : Packet := ⟨0, zeros 2 ++ leBytes 2 1 ++ zeros 44, []⟩

/-- A keyed device with NET0 up, an open session of partition 0 and a solution packet in Q3. -/
def solutionWaits : Device :=
  let d := Device.reset.wrN NET_CTRL 3
  let d := d.setSess 0 { sessNone with open_ := true }
  let d := d.setSlot 0 { slotEmpty with st := 1 }
  { d with
    keys := { d.keys with rootOk := true }
    hst := { d.hst with link := [(0, true)] }
    que := [(3, { queueOff with on := true, pkts := [solutionPacket] })] }

/-- Refutes O58: Q3 carries a solution packet with its header's length, 8 + 40 bytes for one entry (R93), where the
statement reads its length as that of a result packet, 8 bytes. -/
theorem not_sessionsAndDatagramsFollowTheirCommands : ¬ Obligations.SessionsAndDatagramsFollowTheirCommands := by
  unfold Obligations.SessionsAndDatagramsFollowTheirCommands
  intro h
  obtain ⟨-, -, -, -, -, -, -, -, -, -, hegress, -⟩ :=
    h ⟨[], solutionWaits⟩ solutionWaits ⟨0, false, false, false, 0, 0, []⟩ ⟨0, 0, 0, [], 0⟩ 3 0 (by decide)
  obtain ⟨-, hopen⟩ := hegress solutionPacket (by decide) (by decide) rfl rfl (by decide) (by decide)
  obtain ⟨-, hsends⟩ := hopen (by decide) (by decide) (by decide)
  obtain ⟨t, ht, -, -, b, hout, hbody⟩ := hsends rfl (by decide)
  rw [exec_hostEgress] at ht
  cases ht
  have hlong : ((solutionWaits.egress 0 3).out.map fun o => o.data.length) = [64] := by decide
  have hb : b.length = 64 := by
    rw [show (solutionWaits.egress 0 3).out = _ from hout] at hlong
    simpa [show solutionWaits.out = [] from rfl] using hlong
  have hdrop := congrArg List.length hbody
  rw [List.length_drop, hb] at hdrop
  exact absurd hdrop (by decide)

/-! ## The third silent stroke -/

/-- A unit that sees its peer, three strokes after its last heartbeat. -/
def thirdSilentStroke : Device :=
  { Device.reset with pair := { Device.reset.pair with seen := true, quiet := 3 } }

/-- Refutes O47: at a third silent stroke the peer is still seen; the fourth stroke start since its heartbeat loses it
(R457). -/
theorem not_pairCommandsMoveTheClaim : ¬ Obligations.PairCommandsMoveTheClaim := by
  unfold Obligations.PairCommandsMoveTheClaim
  intro h
  obtain ⟨-, -, -, -, -, -, -, hlost, -⟩ := h ⟨[], thirdSilentStroke⟩ ⟨false, 0, 0, []⟩ thirdSilentStroke
  obtain ⟨t, ht, -, hseen, -⟩ := hlost rfl (by decide)
  rw [exec_hbLost] at ht
  cases ht
  have hstill : thirdSilentStroke.hbLost = thirdSilentStroke := if_pos (.inr (by decide))
  rw [hstill] at hseen
  cases hseen

end Sys2Proof.Machine
end

section
/-!
PROOFS. Ageing: readings of the margin monitors, predictions and the trim of the running rung (R499 to R503).
-/
namespace Sys2Proof.Machine

/-! ## Steps of a loop that write one register each -/

/-- A register that the step of one listed element writes, and that no other step writes, holds that element's value. -/
theorem Device.forEach_rd_of_mem {α : Type} [DecidableEq α] (f : α → Device → Device) {a : α} {x : Reg} {v : Word}
    {l : List α} (ha : a ∈ l) (hset : ∀ e, (f a e).rd x = v)
    (hkeep : ∀ b ∈ l, b ≠ a → ∀ e, (f b e).rd x = e.rd x) (d : Device) :
    (d.forEach l f).rd x = v := by
  induction l generalizing d with
  | nil => cases ha
  | cons b l ih =>
    have hrest : ∀ c ∈ l, c ≠ a → ∀ e, (f c e).rd x = e.rd x := fun c hc => hkeep c (List.mem_cons_of_mem b hc)
    by_cases hmem : a ∈ l
    · exact ih hmem hrest (f b d)
    · have hb : b = a := ((List.mem_cons.mp ha).resolve_right hmem).symm
      subst hb
      refine Device.forEach_invariant (fun e => e.rd x = v) f (l := l) (fun c hc e he => ?_) (hset d)
      rw [hrest c hc (fun h => hmem (h ▸ hc)), he]

/-! ## Signed fields -/

theorem toSigned_ofSigned_satSigned (i : Int) : toSigned 16 (ofSigned 16 (satSigned 16 i)) = satSigned 16 i := by
  have hrange : -32768 ≤ satSigned 16 i ∧ satSigned 16 i < 32768 := by
    unfold satSigned
    dsimp only
    split
    · omega
    · split <;> omega
  generalize satSigned 16 i = j at hrange
  unfold toSigned ofSigned
  dsimp only
  split <;> omega

theorem satSigned_le (i : Int) : satSigned 16 i ≤ max i (-32768) := by
  unfold satSigned
  dsimp only
  split
  · omega
  · split <;> omega

theorem foldl_min_le {h b : Int} {t : List Int} (hb : b ∈ h :: t) : t.foldl min h ≤ b :=
  (List.min?_eq_some_iff.mp (List.min?_cons' (x := h) (xs := t))).2 b hb

/-! ## Predictions -/

section
variable (d : Device) {r : Nat}

theorem agePred_ne {k : Nat} (h : k ≠ r) : AGE_PRED r ≠ AGE_PRED k := by simp [AGE_PRED]; omega

/-- The predictions at a rung of the monitors that take readings and have a minimum (R501). -/
def Device.preds (r : Nat) : List Int :=
  (d.age.mons.filter fun e => d.monitorOn e.1 && !e.2.hours.isEmpty).map fun x => d.predAt x.1 x.2.pred r

/-- The write of AGE_PRED of one rung (R501). -/
def Device.setPred (r : Nat) (e : Device) : Device :=
  match d.preds r with
  | [] => e
  | h :: t => e.wrN (AGE_PRED r) (ofSigned 16 (satSigned 16 (t.foldl min h)))

theorem Device.setPreds_eq : d.setPreds = d.forEach [0, 1, 2, 3] d.setPred := rfl

theorem Device.setPred_rd_ne {x : Reg} (hx : x ≠ AGE_PRED r) (e : Device) : (d.setPred r e).rd x = e.rd x := by
  unfold Device.setPred
  split
  · rfl
  · exact e.rd_wrN_ne _ hx

theorem Device.setPred_rd_same {h : Int} {t : List Int} (hp : d.preds r = h :: t) (e : Device) :
    (d.setPred r e).rd (AGE_PRED r) = BitVec.ofNat 32 (ofSigned 16 (satSigned 16 (t.foldl min h))) := by
  simp only [Device.setPred, hp]
  exact e.rd_wr_same _ _

/-- The lowest prediction of the monitors that take readings, held in 16 bits, is the rung's (R501). -/
theorem Device.setPreds_fld (hr : r < 4) {x : Nat × Monitor} (hx : x ∈ d.age.mons) (hon : d.monitorOn x.1 = true)
    (hours : x.2.hours ≠ []) :
    toSigned 16 (d.setPreds.fld (AGE_PRED r) 0 16) ≤ max (d.predAt x.1 x.2.pred r) (-32768) := by
  have hmem : d.predAt x.1 x.2.pred r ∈ d.preds r :=
    List.mem_map_of_mem (f := fun x : Nat × Monitor => d.predAt x.1 x.2.pred r)
      (List.mem_filter.mpr ⟨hx, by simp [hon, hours]⟩)
  obtain ⟨h, t, hp⟩ := List.exists_cons_of_ne_nil (List.ne_nil_of_mem hmem)
  have hrd := Device.forEach_rd_of_mem d.setPred (a := r) (l := [0, 1, 2, 3]) (by simp; omega) (d.setPred_rd_same hp)
    (fun k _ hk => d.setPred_rd_ne (agePred_ne hk)) d
  have hlt := ofSigned_lt 16 (satSigned 16 (t.foldl min h))
  have hfld : d.setPreds.fld (AGE_PRED r) 0 16 = ofSigned 16 (satSigned 16 (t.foldl min h)) := by
    rw [Device.setPreds_eq, Device.fld, Device.rdN, hrd, BitVec.toNat_ofNat, bitsOf]
    omega
  rw [hfld, toSigned_ofSigned_satSigned]
  exact (satSigned_le _).trans (max_le_max_right _ (foldl_min_le (hp ▸ hmem)))

theorem Device.setPreds_age : d.setPreds.age = d.age :=
  Device.forEach_keeps Device.age d.setPred (fun r e => by
    unfold Device.setPred
    split <;> rfl) _ _

end

/-! ## What a prediction leads to -/

section
variable (d : Device)

/-- The predictions and TREND stand, and of the ageing block the trim step alone was decided. -/
def Device.DecidesTrim (d e : Device) : Prop :=
  (∀ r, r < 4 → e.rd (AGE_PRED r) = d.rd (AGE_PRED r)) ∧ e.bit AGE_INT_STAT 0 = d.bit AGE_INT_STAT 0 ∧
    ∃ due, e.age = { d.age with trimDue := due }

theorem agePred_ne_stat (r : Nat) : AGE_PRED r ≠ AGE_STAT := by simp [AGE_PRED, AGE_STAT]; omega

theorem agePred_ne_intStat {r : Nat} (hr : r < 4) : AGE_PRED r ≠ AGE_INT_STAT := by
  simp [AGE_PRED, AGE_INT_STAT]; omega

theorem Device.wbit_decidesTrim (b : Bool) : d.DecidesTrim (d.wbit AGE_STAT 1 b) :=
  ⟨fun r _ => d.rd_wfld_ne _ _ _ (agePred_ne_stat r), Device.bit_of_rd_eq (d.rd_wfld_ne _ _ _ (by decide)) 0, _, rfl⟩

theorem Device.noMargin_decidesTrim : d.DecidesTrim d.noMargin := by
  unfold Device.noMargin
  extract_lets e
  have hrec : ∀ x : Reg, x.blk = .age → ∀ c u b, (e.slagB .age c u b).rd x = e.rd x := fun x hx c u b =>
    e.slag_rd _ _ _ _ _ (by rw [hx]; decide)
  refine ⟨fun r hr => ?_, ?_, d.age.trimDue, ?_⟩
  · exact (hrec _ rfl _ _ _).trans ((Device.rd_wfld_ne _ _ _ _ (agePred_ne_stat r)).trans
      (d.rd_raise_ne _ (agePred_ne_intStat hr)))
  · have hstat : e.rd AGE_INT_STAT = (d.raise AGE_INT_STAT 2).rd AGE_INT_STAT := Device.rd_wfld_ne _ _ _ _ (by decide)
    rw [Device.bit_of_rd_eq ((hrec _ rfl _ _ _).trans hstat), Device.raise, Device.bit_wbit _ _ _ _ (by decide),
      if_neg (by decide)]
  · obtain ⟨g, l, h⟩ := e.slag_only (blkNum .age) 0x0101 e.rung 0
      (leBytes 2 (e.fld (AGE_PRED e.rung) 0 16) ++ leBytes 2 (e.rdN FAB_MARGIN_REQ))
    exact (congrArg Device.age h :)

theorem Device.admitStart_rd {x : Reg} (hx : x.blk ≠ .fab) (tries : List Nat) (down : Bool) :
    (d.admitStart tries down).rd x = d.rd x :=
  (Device.rd_wfld_ne _ _ _ _ (Reg.ne_of_blk hx)).trans (Device.rd_wfld_ne _ _ _ _ (Reg.ne_of_blk hx))

/-- What a prediction leads to (R502, R503). -/
theorem Device.decideTrim_decidesTrim : d.DecidesTrim d.decideTrim := by
  unfold Device.decideTrim
  dsimp only
  split
  · exact d.wbit_decidesTrim false
  split
  · exact ⟨fun r _ => Device.rd_wfld_ne _ _ _ _ (agePred_ne_stat r),
      Device.bit_of_rd_eq (Device.rd_wfld_ne _ _ _ _ (by decide)) 0, true, rfl⟩
  split
  · exact d.noMargin_decidesTrim
  · obtain ⟨hpred, hint, due, hage⟩ := d.wbit_decidesTrim false
    have hblk : ∀ r, (AGE_PRED r).blk ≠ .fab := fun _ h => by cases h
    exact ⟨fun r hr => (Device.admitStart_rd _ (hblk r) _ _).trans (hpred r hr),
      (Device.bit_of_rd_eq (Device.admitStart_rd _ (by decide) _ _) 0).trans hint, due, hage⟩

theorem Device.fitDrift_rd {x : Reg} (hdrift : x ≠ AGE_REF_DRIFT) (hstat : x ≠ AGE_STAT) : d.fitDrift.rd x = d.rd x := by
  unfold Device.fitDrift
  dsimp only
  split
  · rfl
  · rw [Device.wbit, Device.rd_wfld_ne _ _ _ _ hstat, Device.rd_wrN_ne _ _ hdrift]

theorem Device.fitDrift_age : d.fitDrift.age = d.age := by
  unfold Device.fitDrift
  dsimp only
  split <;> rfl

/-- The monitors with their new predictions (R501). -/
def Device.predicted : Tab Monitor := d.age.mons.map fun e =>
  (e.1, if d.monitorOn e.1 then { e.2 with pred := (d.predict e.2).getD e.2.pred } else e.2)

/-- The device as a trend begins: its monitors predicted and saved (R501). -/
def Device.trendBegun : Device :=
  { d with age := { d.age with
    mons := d.predicted, saved := d.predicted, ran := some d.heatAbs, alarm := false, settle := none, trimDue := false } }

theorem Device.trend_eq : d.trend = (((d.trendBegun.setPreds.fitDrift).wfld AGE_STAT 2 7
    (d.predicted.foldl (fun a e => Nat.max a e.2.days.length) 0)).raise AGE_INT_STAT 0).decideTrim := rfl

/-- A trend saves the monitors, and AGE_PRED of each rung is no more than what any of them predicts (R501). -/
theorem Device.trend_leaves {r : Nat} (hr : r < 4) :
    d.trend.bit AGE_INT_STAT 0 = true ∧ (∃ due, d.trend.age = { d.trendBegun.age with trimDue := due }) ∧
      d.trend.fld (AGE_PRED r) 0 16 = d.trendBegun.setPreds.fld (AGE_PRED r) 0 16 := by
  rw [d.trend_eq]
  generalize hf : (d.trendBegun.setPreds.fitDrift).wfld AGE_STAT 2 7
    (d.predicted.foldl (fun a e => Nat.max a e.2.days.length) 0) = f
  obtain ⟨hpred, hint, due, hage⟩ := (f.raise AGE_INT_STAT 0).decideTrim_decidesTrim
  refine ⟨hint.trans (f.bit_raise_same _ (by decide)), ⟨due, hage.trans ?_⟩, ?_⟩
  · rw [← hf, Device.raise_age, Device.wfld_age, Device.fitDrift_age, Device.setPreds_age]
  · refine Device.fld_of_rd_eq ((hpred r hr).trans ?_) 0 16
    rw [Device.rd_raise_ne _ _ (agePred_ne_intStat hr), ← hf, Device.rd_wfld_ne _ _ _ _ (agePred_ne_stat r),
      Device.fitDrift_rd _ (by simp [AGE_PRED, AGE_REF_DRIFT]; omega) (agePred_ne_stat r)]

theorem Device.predAt_rung (m : Nat) (s : Int) : d.predAt m s d.rung = s := if_pos rfl

end

/-! ## The trim -/

theorem Device.setVcore_rdN (d : Device) :
    d.setVcore.rdN PWR_VCORE = Nat.min 800 (rungMv d.rung + 5 * d.fld (AGE_TRIM d.rung) 0 4) := by
  rw [Device.setVcore, Device.rdN_wrN_same, holdAt_eq_min]
  exact Nat.mod_eq_of_lt ((Nat.min_le_left _ _).trans_lt (by decide))

theorem Device.trimClear_rd_other (d : Device) {r : Nat} (hr : r < 4) (hne : r ≠ d.rung) :
    d.trimClear.rd (AGE_TRIM r) = 0 := by
  refine Device.forEach_rd_of_mem _ (a := r) (by simp; omega) (fun e => ?_) (fun k _ hk e => ?_) d
  · rw [if_neg hne]
    exact e.rd_wr_same _ _
  · split
    · rfl
    · exact e.rd_wrN_ne _ (by simp [AGE_TRIM]; omega)

theorem Device.trimClear_rd_running (d : Device) : d.trimClear.rd (AGE_TRIM d.rung) = d.rd (AGE_TRIM d.rung) := by
  refine Device.forEach_keeps (fun e => e.rd (AGE_TRIM d.rung)) _ (fun k e => ?_) _ d
  split
  · rfl
  · exact e.rd_wrN_ne _ (by simp [AGE_TRIM]; omega)

theorem Device.trimClear_age (d : Device) : d.trimClear.age = d.age :=
  Device.forEach_keeps Device.age _ (fun k e => by split <;> rfl) _ d

/-! ## The commands -/

section
variable {s : State}

/-- One monitor's reading is taken at the next whole second (R500). -/
theorem exec_marginReading_of_on {m : Nat} {v : Int} (hage : s.dev.bit AGE_CTRL 0 = true)
    (hon : s.dev.monitorOn m = true) : exec (.marginReading [(m, v)]) s = .next { s with
      dev := (s.dev.advanceUp ((s.dev.upNs / 1000000000 + 1) * 1000000000)).readMonitor m v } := by
  obtain ⟨t, ht⟩ := s.dev.advanceUp_only ((s.dev.upNs / 1000000000 + 1) * 1000000000)
  have hon' : (s.dev.advanceUp ((s.dev.upNs / 1000000000 + 1) * 1000000000)).monitorOn m = true := by
    rw [ht]
    exact hon
  exact next_of_dev_eq
    ((if_neg (not_not_intro hage)).trans (if_pos hon'))

theorem Device.readMonitor_leaves (d : Device) (m : Nat) (v : Int) :
    (Tab.find (d.readMonitor m v).age.mons m).map (·.last) = some v ∧ (d.readMonitor m v).tim = d.tim := by
  unfold Device.readMonitor
  extract_lets x hour lim hs low y ring src f
  have hf : Tab.find f.age.mons m = some y := Tab.find_put_self ..
  rw [Device.raiseIf_age, Device.raiseIf_tim, hf]
  exact ⟨rfl, rfl⟩

theorem exec_trend_of_due {c : Instr}
    (h : c = .trend ∧ s.dev.trendDue = true ∨ c = .trendNow ∧ s.dev.bit AGE_CTRL 0 = true) :
    exec c s = .next { s with dev := s.dev.trend } := by
  rcases h with ⟨rfl, hdue⟩ | ⟨rfl, hon⟩
  · exact next_of_dev_eq (if_pos hdue)
  · exact next_of_dev_eq (if_pos hon)

theorem exec_trimClear (s : State) : exec .trimClear s = .next { s with dev := s.dev.trimClear } := rfl

/-- The device with the running rung's trim one higher, up to the cap (R502). -/
def Device.trimmed (d : Device) : Device :=
  d.wfld (AGE_TRIM d.rung) 0 4 (holdAt (d.fld AGE_CFG 14 4) (d.fld (AGE_TRIM d.rung) 0 4 + 1))

/-- The device after a trim step at its stroke start (R502). -/
def Device.trimStepped (d : Device) : Device :=
  let e := d.trimmed.setVcore
  ({ e with age := { e.age with
      trimDue := false, settle := some (e.heatAbs, e.age.mons.map fun x : Nat × Monitor => (x.1, x.2.last)) } }).raise
    AGE_INT_STAT 1

theorem exec_trimStep_of_due (h : s.dev.age.trimDue = true) :
    exec .trimStep s = .next { s with dev := (s.dev.advanceTo (ceilDiv s.dev.tb0 10000000 * 10000000)).trimStepped } :=
  next_of_dev_eq (if_neg (not_not_intro h))

theorem Device.trimmed_leaves (d : Device) :
    d.trimmed.fld (AGE_TRIM d.rung) 0 4 = Nat.min (d.fld AGE_CFG 14 4) (d.fld (AGE_TRIM d.rung) 0 4 + 1) ∧
      d.trimmed.rung = d.rung := by
  refine ⟨?_, Device.fld_of_rd_eq (d.rd_wfld_ne _ _ _ (fun h => by cases h)) 0 2⟩
  rw [Device.trimmed, Device.fld_wfld_same _ _ _ (by decide), holdAt_eq_min]
  exact Nat.mod_eq_of_lt ((Nat.min_le_left _ _).trans_lt (bitsOf_lt _ _ 4))

/-- The set point follows the trim, and a step shows on the interrupt status (R499, R502). -/
theorem Device.trimStepped_leaves {d : Device} (hrung : d.rung < 4) :
    let t := Nat.min (d.fld AGE_CFG 14 4) (d.fld (AGE_TRIM d.rung) 0 4 + 1)
    d.trimStepped.fld (AGE_TRIM d.rung) 0 4 = t ∧ d.trimStepped.rdN PWR_VCORE = Nat.min 800 (rungMv d.rung + 5 * t) ∧
      d.trimStepped.age.trimDue = false ∧ d.trimStepped.bit AGE_INT_STAT 1 = true := by
  obtain ⟨htrim, hrun⟩ := d.trimmed_leaves
  have hint : AGE_TRIM d.rung ≠ AGE_INT_STAT := by simp [AGE_TRIM, AGE_INT_STAT]; omega
  refine ⟨?_, ?_, rfl, Device.bit_raise_same _ _ (by decide)⟩
  · rw [← htrim]
    exact Device.fld_of_rd_eq ((Device.rd_raise_ne _ _ hint).trans (Device.rd_wrN_ne _ _ (fun h => by cases h))) 0 4
  · rw [← htrim, ← hrun, ← d.trimmed.setVcore_rdN]
    exact Device.rdN_of_rd_eq (Device.rd_raise_ne _ _ (by decide))

end

/-- Settles O41: a trend's predictions are the lowest of the monitors', and nothing after it writes them; the set point
follows the trim. -/
theorem ageingCommandsTrimTheRunningRung : Obligations.AgeingCommandsTrimTheRunningRung := by
  unfold Obligations.AgeingCommandsTrimTheRunningRung
  refine fun s => ⟨?reading, ?trend, ?step, ?clear⟩
  case reading =>
    intro m v hage hon
    obtain ⟨hlast, htim⟩ := Device.readMonitor_leaves (s.dev.advanceUp ((s.dev.upNs / 1000000000 + 1) * 1000000000)) m v
    exact ⟨_, exec_marginReading_of_on hage hon, rfl, hlast,
      (Device.le_upNs_advanceUp _ _).trans (Device.upNs_of_tim_eq htim).ge⟩
  case trend =>
    intro c hc hrung
    obtain ⟨hint, ⟨due, hage⟩, hpred⟩ := s.dev.trend_leaves hrung
    refine ⟨_, exec_trend_of_due hc, rfl, hint, by rw [hage]; rfl, by rw [hage]; rfl, by rw [hage]; rfl, ?_⟩
    intro x hx hon hours
    rw [hage] at hx
    rw [hpred]
    have hle := s.dev.trendBegun.setPreds_fld hrung hx hon hours
    rwa [show s.dev.rung = s.dev.trendBegun.rung from rfl, Device.predAt_rung] at hle
  case step =>
    intro hdue hrung
    obtain ⟨t, ht⟩ := s.dev.advanceTo_only (ceilDiv s.dev.tb0 10000000 * 10000000)
    have he := exec_trimStep_of_due hdue
    rw [ht] at he
    exact ⟨_, he, rfl, Device.trimStepped_leaves (d := { s.dev with tim := t }) hrung⟩
  case clear =>
    refine ⟨_, exec_trimClear s, rfl, fun r hr hne => ?_, s.dev.trimClear_rd_running, s.dev.trimClear_age⟩
    rw [Device.rdN, s.dev.trimClear_rd_other hr hne]
    rfl

end Sys2Proof.Machine
end

section
/-!
PROOFS. What a latched stop cause changes (R195).
-/
namespace Sys2Proof.Machine

theorem Device.beginStopping_only (d : Device) :
    ∃ r s p o, d.beginStopping = { d with regs := r, stp := s, pins := p, out := o } := by
  have hraise : ∀ (e : Device) (b : Bool), ∃ r, e.raiseIf b STP_INT_STAT 0 = { e with regs := r } := by
    rintro e (_ | _) <;> exact ⟨_, rfl⟩
  unfold Device.beginStopping
  extract_lets was _ e
  obtain ⟨r, hr⟩ := hraise e (!was)
  obtain ⟨p, o, hp⟩ := (e.raiseIf (!was) STP_INT_STAT 0).setPin_only pinPermitOut 0
  obtain ⟨p', o', hp'⟩ := ((e.raiseIf (!was) STP_INT_STAT 0).setPin pinPermitOut 0).setPin_only pinStopOut 0
  rw [hp', hp, hr]
  exact ⟨_, _, _, _, rfl⟩

/-- A latched cause changes the stop sequencer, its registers and its pins alone. -/
theorem Device.latchCause_only (d : Device) (c : Nat) :
    ∃ r s p o, d.latchCause c = { d with regs := r, stp := s, pins := p, out := o } := by
  unfold Device.latchCause
  extract_lets new _ latched _ source arisen was stopping
  have hsource : ∃ s, source = { d with stp := s } := by
    unfold source
    split <;> exact ⟨_, rfl⟩
  have harisen : ∃ r s, arisen = { d with regs := r, stp := s } := by
    obtain ⟨s, hs⟩ := hsource
    unfold arisen
    rw [hs]
    split <;> exact ⟨_, _, rfl⟩
  obtain ⟨r, s, hr⟩ := harisen
  split
  · obtain ⟨r', s', p, o, hstop⟩ := arisen.beginStopping_only
    unfold stopping
    rw [hstop, hr]
    cases !was <;> exact ⟨_, _, _, _, rfl⟩
  · exact ⟨r, s, d.pins, d.out, hr⟩

end Sys2Proof.Machine
end

section
/-!
PROOFS. Resets, supplies, device states and wake sources (R490 to R498, R513, R535, R545).
-/
namespace Sys2Proof.Machine

/-! ## A reset of the device -/

section
variable (d : Device)

theorem Device.pinsReset_only (old : Tab Nat) : ∃ p o, d.pinsReset old = { d with pins := p, out := o } :=
  Device.forEach_invariant (fun e => ∃ p o, e = { d with pins := p, out := o }) _ (fun x _ e he => by
    obtain ⟨p, o, rfl⟩ := he
    split
    · exact ⟨_, _, rfl⟩
    · obtain ⟨q, l, h⟩ := ({ d with pins := p, out := o } : Device).setPin_only x.1 (if x.1 = pinHsIrq then 1 else 0)
      exact ⟨q, _, h⟩) ⟨old, d.out, rfl⟩

theorem Device.pinsReset_eq (old : Tab Nat) :
    d.pinsReset old = { d with pins := (d.pinsReset old).pins, out := (d.pinsReset old).out } := by
  obtain ⟨p, o, h⟩ := d.pinsReset_only old
  rw [h]

/-- What every reset leaves, whatever keeps its supply (R490, R545). -/
theorem Device.reboot_leaves (pd1 scratch : Bool) {cause : Nat} (hcause : cause < 8) :
    let e := d.reboot cause pd1 scratch
    e.fld PWR_CAUSE 0 3 = cause ∧ e.log = (if pd1 then { d.log with picks := [] } else Device.reset.log) ∧
      e.pwr = { Power.reset with off := d.pwr.off, held := d.pwr.held, wakeIn := d.pwr.wakeIn } ∧ e.tmp = d.tmp ∧
      e.boot.otp = d.boot.otp ∧ e.boot.failed = d.boot.failed ∧ e.mem = Device.reset.mem ∧
      e.stp.latch = 0x100 := by
  unfold Device.reboot
  refine ⟨?_, ?_⟩
  · exact (Device.fld_wfld_same _ _ _ (by decide)).trans (Nat.mod_eq_of_lt hcause)
  · dsimp only
    rw [Device.pinsReset_eq]
    exact ⟨rfl, rfl, rfl, rfl, rfl, rfl, rfl⟩

/-- What a reset of a supplied device leaves (R490, R513, R545). -/
theorem Device.reboot_resetLeaves (scratch : Bool) {cause : Nat} (hcause : cause < 8) :
    Claims.ResetLeaves cause d (d.reboot cause true scratch) := by
  refine ⟨(d.reboot_leaves true scratch hcause).1, ?_⟩
  unfold Device.reboot
  dsimp only
  rw [Device.pinsReset_eq]
  exact ⟨rfl, rfl, rfl, rfl, rfl, rfl, rfl, rfl, fun _ => rfl, fun _ => rfl, fun _ => rfl, rfl, rfl, rfl, rfl, rfl⟩

end

/-- The newest record is known by the ring and the sequence. -/
theorem newestIs_of_log {d e : Device} {b c u : Nat} (hring : e.log.ring = d.log.ring) (hseq : e.log.seq = d.log.seq)
    (h : Claims.NewestIs d b c u) : Claims.NewestIs e b c u := by
  obtain ⟨r, hr, hnames⟩ := h
  exact ⟨r, newestRec_eq_some.mpr (by rw [hring, hseq]; exact newestRec_eq_some.mp hr), hnames⟩

/-- A reset after a fault record keeps the record as the newest (R490, R498, R545). -/
theorem Device.reset5_slag_newest (d : Device) (block code unit : Nat) (ctx : Bytes) :
    Claims.NewestIs (d.slag block code unit 0 ctx).reset5 block code unit := by
  obtain ⟨-, hring, hseq, -⟩ := (d.slag block code unit 0 ctx).reboot_resetLeaves true (cause := 5) (by decide)
  exact newestIs_of_log hring hseq (d.slag_newest ..)

/-! ## Device states -/

section
variable (d : Device) {t : Nat}

/-- A request waits as TARGET, CHANGING where it names another state (R493). -/
theorem Device.request_leaves (ht : t < 8) :
    let e := d.request t
    e.fld PWR_STATE 0 3 = t ∧ e.bit PWR_STATE 7 = decide (t ≠ d.pstate) ∧ e.pstate = d.pstate ∧
      (∀ x, x ≠ PWR_STATE → e.rd x = d.rd x) ∧ e.mem = d.mem := by
  have hregs : ∀ x, (d.request t).rd x = ((d.wfld PWR_STATE 0 3 t).wbit PWR_STATE 7 (t ≠ d.pstate)).rd x := fun _ => rfl
  have hfld : ∀ lo w, lo + w ≤ 7 →
      (d.request t).fld PWR_STATE lo w = (d.wfld PWR_STATE 0 3 t).fld PWR_STATE lo w := fun lo w h => by
    rw [Device.fld_of_rd_eq (hregs _), Device.wbit, Device.fld_wfld_apart _ _ _ (by omega) (.inr h)]
  refine ⟨?_, ?_, ?_, fun x hx => ?_, rfl⟩
  · rw [hfld 0 3 (by decide), Device.fld_wfld_same _ _ _ (by decide)]
    exact Nat.mod_eq_of_lt ht
  · rw [Device.bit_of_rd_eq (hregs _), Device.bit_wbit _ _ _ _ (by decide), if_pos rfl]
  · rw [Device.pstate, hfld 4 3 (by decide), Device.fld_wfld_apart _ _ _ (by decide) (.inl (by decide)), Device.pstate]
  · rw [hregs, Device.wbit, Device.rd_wfld_ne _ _ _ _ hx, Device.rd_wfld_ne _ _ _ _ hx]

/-- The device as it enters a state that it is powered for (R492, R493). -/
def Device.stateTaken (t : Nat) : Device :=
  let e := ((d.wfld PWR_STATE 0 3 t).wfld PWR_STATE 4 3 t).wbit PWR_STATE 7 false
  ((e.wrN PWR_DOM (domains t)).hearthPower).raise PWR_INT_STAT 2

theorem Device.hearthPower_rd {x : Reg} (hfab : x ≠ FAB_STAT) (hdom : x ≠ PWR_DOM) : d.hearthPower.rd x = d.rd x :=
  (Device.rd_wfld_ne _ _ _ _ hdom).trans (Device.rd_wfld_ne _ _ _ _ hfab)

theorem Device.stateTaken_leaves (ht : t < 8) :
    let e := d.stateTaken t
    e.pstate = t ∧ e.bit PWR_STATE 7 = false ∧ e.bit PWR_INT_STAT 2 = true ∧ e.stp = d.stp := by
  intro e
  have hstate : e.rd PWR_STATE = (((d.wfld PWR_STATE 0 3 t).wfld PWR_STATE 4 3 t).wbit PWR_STATE 7 false).rd PWR_STATE :=
    (Device.rd_raise_ne _ _ (by decide)).trans ((Device.hearthPower_rd _ (by decide) (by decide)).trans
      (Device.rd_wrN_ne _ _ (by decide)))
  refine ⟨?_, ?_, Device.bit_raise_same _ _ (by decide), rfl⟩
  · rw [Device.pstate, Device.fld_of_rd_eq hstate, Device.wbit, Device.fld_wfld_apart _ _ _ (by decide) (.inr (by decide)),
      Device.fld_wfld_same _ _ _ (by decide)]
    exact Nat.mod_eq_of_lt ht
  · rw [Device.bit_of_rd_eq hstate, Device.bit_wbit _ _ _ _ (by decide), if_pos rfl]

/-- A state that loses power keeps a latched BOOT, which a reset latches again (R195, R492). -/
theorem Device.powerDown_boot (h : bitOf d.stp.latch 8 = true) : bitOf (d.powerDown t).stp.latch 8 = true := by
  unfold Device.powerDown
  split
  · exact h
  split
  · obtain ⟨-, -, -, -, -, -, -, hlatch⟩ := d.reboot_leaves true false (cause := d.fld PWR_CAUSE 0 3) (bitsOf_lt _ _ _)
    rw [hlatch]
    decide
  · exact h

/-- A latched cause leaves the wake sources as they were (R494). -/
theorem Device.wakeActive_latchCause (c : Nat) : (d.latchCause c).wakeActive t = d.wakeActive t := by
  have hrd := (d.latchCause_move c).rd
  have hbit : ∀ i, (d.latchCause c).bit PWR_WAKE i = d.bit PWR_WAKE i := Device.bit_of_rd_eq (hrd _ (by decide))
  have halarm : (d.latchCause c).rdN PWR_ALARM = d.rdN PWR_ALARM := Device.rdN_of_rd_eq (hrd _ (by decide))
  obtain ⟨r, s, p, o, h⟩ := d.latchCause_only c
  have hrtc : (d.latchCause c).rtcNow = d.rtcNow := by
    rw [h]
    rfl
  have hwake : (d.latchCause c).pwr = d.pwr := by rw [h]
  rw [Device.wakeActive, hbit, hbit, halarm, hrtc, hwake, Device.wakeActive]

/-- The device as BOOT is latched on the way out of RUN (R495). -/
def Device.leavesRun : Device := if d.pstate = 0 then d.latchCause 8 else d

theorem Device.leavesRun_boot (h : d.pstate = 0) : bitOf d.leavesRun.stp.latch 8 = true := by
  rw [Device.leavesRun, if_pos h]
  exact d.bitOf_latch_latchCause 8

theorem Device.wakeActive_leavesRun : d.leavesRun.wakeActive t = d.wakeActive t := by
  unfold Device.leavesRun
  split
  · exact d.wakeActive_latchCause 8
  · rfl

/-- The device as it loses what a lower state does not power (R492). -/
def Device.powered (t : Nat) : Device := if d.pstate < t then d.leavesRun.powerDown t else d.leavesRun

theorem Device.stateChange_of_due (hchanging : d.bit PWR_STATE 7 = true)
    (hheat : d.tim.heats = true → d.pwr.reqHeat < d.heatAbs)
    (hwake : d.pstate < d.fld PWR_STATE 0 3 → d.wakeActive (d.fld PWR_STATE 0 3) = false) :
    let e := (d.powered (d.fld PWR_STATE 0 3)).stateTaken (d.fld PWR_STATE 0 3)
    d.stateChange = if d.fld PWR_STATE 0 3 = 0 ∧ d.pstate = 2 then e.admitStart [0, 1, 2, 3] false else e := by
  have hdue : ¬ (¬ d.bit PWR_STATE 7 = true ∨ d.tim.heats = true ∧ d.heatAbs ≤ d.pwr.reqHeat) := by
    rintro (h | ⟨hheats, hle⟩)
    · exact h hchanging
    · exact Nat.not_le.mpr (hheat hheats) hle
  have hstays : ¬ (d.pstate < d.fld PWR_STATE 0 3 ∧ d.leavesRun.wakeActive (d.fld PWR_STATE 0 3) = true) := by
    rintro ⟨hlt, hactive⟩
    rw [Device.wakeActive_leavesRun, hwake hlt] at hactive
    cases hactive
  exact (if_neg hdue).trans (if_neg hstays)

theorem Device.stateChange_leaves (ht : d.fld PWR_STATE 0 3 < 4) (hchanging : d.bit PWR_STATE 7 = true)
    (hheat : d.tim.heats = true → d.pwr.reqHeat < d.heatAbs)
    (hwake : d.pstate < d.fld PWR_STATE 0 3 → d.wakeActive (d.fld PWR_STATE 0 3) = false) :
    let e := d.stateChange
    e.pstate = d.fld PWR_STATE 0 3 ∧ e.bit PWR_STATE 7 = false ∧ e.bit PWR_INT_STAT 2 = true ∧
      (d.pstate = 0 → bitOf e.stp.latch 8 = true) := by
  obtain ⟨hstate, hdone, hint, hstp⟩ :=
    (d.powered (d.fld PWR_STATE 0 3)).stateTaken_leaves (Nat.lt_trans ht (by decide : 4 < 8))
  have hboot : d.pstate = 0 → bitOf (d.powered (d.fld PWR_STATE 0 3)).stp.latch 8 = true := fun hrun => by
    unfold Device.powered
    split
    · exact Device.powerDown_boot _ (d.leavesRun_boot hrun)
    · exact d.leavesRun_boot hrun
  rw [← hstp] at hboot
  rw [d.stateChange_of_due hchanging hheat hwake]
  split
  · have hrd : ∀ x : Reg, x.blk ≠ .fab → _ := fun x hx => Device.admitStart_rd
      ((d.powered (d.fld PWR_STATE 0 3)).stateTaken (d.fld PWR_STATE 0 3)) hx [0, 1, 2, 3] false
    exact ⟨(Device.fld_of_rd_eq (hrd _ (by decide)) 4 3).trans hstate,
      (Device.bit_of_rd_eq (hrd _ (by decide)) 7).trans hdone,
      (Device.bit_of_rd_eq (hrd _ (by decide)) 2).trans hint, hboot⟩
  · exact ⟨hstate, hdone, hint, hboot⟩

/-- A wake from HIBERNATE leads to a start in RUN with its cause (R476, R494). -/
theorem Device.wakeStart_leaves {cause : Nat} (hcause : cause < 8) :
    let e := d.wakeStart cause
    e.fld PWR_CAUSE 0 3 = cause ∧ e.pstate = 0 ∧ e.pwr.starting = true ∧ e.pwr.started = false := by
  have hregs : ∀ x, (d.wakeStart cause).rd x =
      (((d.wfld PWR_STATE 0 8 0).wfld PWR_CAUSE 0 3 cause).wrN PWR_DOM 0x3FFFF).rd x := fun _ => rfl
  refine ⟨?_, ?_, rfl, rfl⟩
  · rw [Device.fld_of_rd_eq ((hregs _).trans (Device.rd_wrN_ne _ _ (by decide))), Device.fld_wfld_same _ _ _ (by decide)]
    exact Nat.mod_eq_of_lt hcause
  · have hzero : (d.wfld PWR_STATE 0 8 0).fld PWR_STATE 0 8 = 0 := Device.fld_wfld_same _ _ _ (by decide)
    rw [Device.pstate, Device.fld_of_rd_eq ((hregs _).trans ((Device.rd_wrN_ne _ _ (by decide)).trans
      (Device.rd_wfld_ne _ _ _ _ (by decide))))]
    simp only [Device.fld, bitsOf] at hzero ⊢
    omega

/-- The device with the level of WAKE_IN (R494). -/
def Device.wakePin (level : Bool) : Device := { d with pwr := { d.pwr with wakeIn := level } }

theorem Device.wake_low : d.wake false = d.wakePin false := by
  simp only [Device.wake, Bool.false_eq_true, not_false_eq_true, true_or, if_true]
  rfl

/-- WAKE_IN asks for RUN from IDLE and DOZE (R494). -/
theorem Device.wake_of_idle (hen : d.bit PWR_WAKE 0 = true) (hstate : d.pstate = 1 ∨ d.pstate = 2) :
    d.wake true = ((d.wakePin true).wfld PWR_CAUSE 0 3 2).request 0 := by
  have htakes : ¬ (¬ true = true ∨ ¬ (d.wakePin true).bit PWR_WAKE 0 = true) := by
    rintro (h | h)
    · exact h rfl
    · exact h hen
  have hawake : ¬ (d.wakePin true).pstate = 3 := fun h => by
    have hthree : d.pstate = 3 := h
    omega
  have hidle : ¬ (d.wakePin true).pstate = 0 := fun h => by
    have hzero : d.pstate = 0 := h
    omega
  exact (if_neg htakes).trans ((if_neg hawake).trans (if_neg hidle))

theorem Device.wake_of_hibernate (hen : d.bit PWR_WAKE 0 = true) (hstate : d.pstate = 3) :
    d.wake true = (d.wakePin true).wakeStart 2 := by
  have htakes : ¬ (¬ true = true ∨ ¬ (d.wakePin true).bit PWR_WAKE 0 = true) := by
    rintro (h | h)
    · exact h rfl
    · exact h hen
  exact (if_neg htakes).trans (if_pos hstate)

/-- A request of a state names the cause first where it wakes the device (R493, R494). -/
theorem Device.stateRequest_leaves {value : Nat} (h : bitsOf value 0 3 < 4) :
    let e := d.stateRequest value
    e.fld PWR_STATE 0 3 = bitsOf value 0 3 ∧ e.bit PWR_STATE 7 = decide (bitsOf value 0 3 ≠ d.pstate) ∧
      e.pstate = d.pstate ∧ e.mem = d.mem := by
  have hreq : ∀ e : Device, e.pstate = d.pstate → e.mem = d.mem →
      let f := e.request (bitsOf value 0 3)
      f.fld PWR_STATE 0 3 = bitsOf value 0 3 ∧ f.bit PWR_STATE 7 = decide (bitsOf value 0 3 ≠ d.pstate) ∧
        f.pstate = d.pstate ∧ f.mem = d.mem := fun e hstate hmem => by
    obtain ⟨htarget, hchanging, hkept, -, hmem'⟩ := e.request_leaves (t := bitsOf value 0 3) (by omega)
    exact ⟨htarget, hchanging.trans (by rw [hstate]), hkept.trans hstate, hmem'.trans hmem⟩
  have he : d.stateRequest value = Device.request
      (if bitsOf value 0 3 = 0 ∧ d.pstate ≠ 0 then d.wfld PWR_CAUSE 0 3 4 else d) (bitsOf value 0 3) :=
    if_neg (Nat.not_le.mpr h)
  rw [he]
  split
  · exact hreq _ (Device.fld_of_rd_eq (d.rd_wfld_ne _ _ _ (by decide)) 4 3) rfl
  · exact hreq d rfl rfl

end

/-! ## The commands -/

section
variable {s : State}

theorem exec_resetN_of_low (h : s.dev.pwr.off = false) : exec (.resetN false) s = .next { s with
    dev := { s.dev.reboot 1 true true with pwr := { (s.dev.reboot 1 true true).pwr with held := true } } } :=
  next_of_dev_eq ((if_neg (by decide)).trans (if_neg (by simp [h])))

theorem exec_resetN_high (s : State) :
    exec (.resetN true) s = .next { s with dev := { s.dev with pwr := { s.dev.pwr with held := false } } } := rfl

theorem exec_powerOn_of_off (h : s.dev.pwr.off = true) : exec .powerOn s = .next { s with
    dev := (({ s.dev with pwr := { s.dev.pwr with off := false } } : Device).wrN PWR_DOM 0x3FFFF).setPin pinPwrOk 1 } :=
  next_of_dev_eq (if_neg (not_not_intro h))

/-- The device without VIN, reset (R535). -/
def Device.vinLost (d : Device) : Device :=
  ({ d with pwr := { d.pwr with off := true } } : Device).reboot 0 false false

theorem exec_vinLoss (s : State) :
    exec .vinLoss s = .next { s with dev := (s.dev.vinLost.wrN PWR_DOM 1).setPin pinPwrOk 0 } := rfl

theorem exec_sysReset (value : Nat) (s : State) : exec (.sysReset value) s =
    .next { s with dev := if value % 65536 = 0xA5A5 then s.dev.reset5 else s.dev } := rfl

theorem exec_sysWdog (value : Nat) (s : State) : exec (.sysWdog value) s = .next { s with dev :=
    if value % 65536 = 0x5A5A then { s.dev with pwr := { s.dev.pwr with served := s.dev.upNs } } else s.dev } := rfl

/-- An armed watchdog expires 2,000 ms after its last service, and leaves a record and a reset (R545). -/
theorem exec_watchdogExpiry_of_armed (harmed : s.dev.pwr.armed = true) (hstate : s.dev.pstate ≠ 3) :
    ∃ t ctx, exec .watchdogExpiry s = .next { s with
      dev := (({ s.dev with tim := t } : Device).slag 0x00 0x0101 noUnit 0 ctx).reset5 } := by
  obtain ⟨t, ht⟩ := s.dev.advanceUp_only (s.dev.pwr.served + 2000000000)
  have hruns : ¬ (¬ s.dev.pwr.armed = true ∨ s.dev.pstate = 3) := by
    rintro (h | h)
    · exact h harmed
    · exact hstate h
  refine ⟨t, leBytes 4 ((({ s.dev with tim := t } : Device).upNs - s.dev.pwr.served) / 1000000), ?_⟩
  refine next_of_dev_eq ((if_neg hruns).trans ?_)
  rw [ht]
  rfl

theorem exec_stateRequest (value : Nat) (s : State) :
    exec (.stateRequest value) s = .next { s with dev := s.dev.stateRequest value } := rfl

theorem exec_stateChange (s : State) : exec .stateChange s = .next { s with dev := s.dev.stateChange } := rfl

theorem exec_wakeIn (level : Bool) (s : State) : exec (.wakeIn level) s = .next { s with dev := s.dev.wake level } := rfl

theorem exec_rtcAlarm_of_armed (hstate : s.dev.pstate = 3) (hen : s.dev.bit PWR_WAKE 1 = true) :
    ∃ t, exec .rtcAlarm s = .next { s with dev := ({ s.dev with tim := t } : Device).wakeStart 3 } := by
  obtain ⟨t, ht⟩ := s.dev.advanceUp_only
    (s.dev.upNs + ceilDiv ((s.dev.rdN PWR_ALARM * 32768 - s.dev.rtcNow) * 1000000000) 32768)
  have hruns : ¬ (s.dev.pstate ≠ 3 ∨ ¬ s.dev.bit PWR_WAKE 1 = true) := by
    rintro (h | h)
    · exact h hstate
    · exact h hen
  exact ⟨t, next_of_dev_eq ((if_neg hruns).trans (congrArg (Device.wakeStart · 3) ht))⟩

theorem exec_pllUnlock_of_pll {pll : Nat} (hlo : 3 ≤ pll) (hhi : pll ≤ 9) : exec (.pllUnlock pll) s = .next { s with
    dev := ((((s.dev.wbit CLK_STAT pll false).raise CLK_INT_STAT 0)).slag 0x02 0x0101 pll 0 []).reset5 } :=
  next_of_dev_eq (if_neg (by omega))

end

/-- Settles O40: each reset is `reboot` with its cause, and the states go through the fields of PWR_STATE that a request
and a change write. -/
theorem resetsAndDeviceStatesFollowTheirCommands : Obligations.ResetsAndDeviceStatesFollowTheirCommands := by
  unfold Obligations.ResetsAndDeviceStatesFollowTheirCommands
  refine fun s => ⟨?low, ?high, ?on, ?loss, ?reset, ?serve, ?expiry, ?unlock, ?request, ?change, ?wake, ?rests, ?alarm⟩
  case low =>
    exact fun hoff => ⟨_, exec_resetN_of_low hoff, rfl, s.dev.reboot_resetLeaves true (cause := 1) (by decide), rfl⟩
  case high => exact ⟨_, exec_resetN_high s, rfl, rfl⟩
  case on =>
    intro hoff
    have hpin := Device.pin_setPin_same
      (({ s.dev with pwr := { s.dev.pwr with off := false } } : Device).wrN PWR_DOM 0x3FFFF) pinPwrOk 1
    have hdom := Device.rdN_wrN_same ({ s.dev with pwr := { s.dev.pwr with off := false } } : Device) PWR_DOM 0x3FFFF
    refine ⟨_, exec_powerOn_of_off hoff, rfl, ?_⟩
    obtain ⟨p, o, h⟩ := Device.setPin_only
      (({ s.dev with pwr := { s.dev.pwr with off := false } } : Device).wrN PWR_DOM 0x3FFFF) pinPwrOk 1
    rw [h] at hpin ⊢
    exact ⟨rfl, hdom, hpin, rfl⟩
  case loss =>
    have hpin := (s.dev.vinLost.wrN PWR_DOM 1).pin_setPin_same pinPwrOk 0
    have hdom := s.dev.vinLost.rdN_wrN_same PWR_DOM 1
    obtain ⟨-, hlog, hpwr, htmp, hotp, -, hmem, -⟩ :=
      ({ s.dev with pwr := { s.dev.pwr with off := true } } : Device).reboot_leaves false false (cause := 0) (by decide)
    refine ⟨_, exec_vinLoss s, rfl, ?_⟩
    obtain ⟨p, o, h⟩ := (s.dev.vinLost.wrN PWR_DOM 1).setPin_only pinPwrOk 0
    rw [h] at hpin ⊢
    exact ⟨congrArg Power.off hpwr, hpin, congrArg ErrLog.ring hlog, hdom, htmp, hotp, hmem⟩
  case reset =>
    refine fun value => ⟨fun h => ⟨_, exec_sysReset value s, rfl, ?_⟩, fun h => ⟨_, exec_sysReset value s, rfl, if_neg h⟩⟩
    dsimp only
    rw [if_pos h]
    exact s.dev.reboot_resetLeaves true (cause := 5) (by decide)
  case serve =>
    exact fun value => ⟨fun h => ⟨_, exec_sysWdog value s, rfl, if_pos h⟩, fun h => ⟨_, exec_sysWdog value s, rfl, if_neg h⟩⟩
  case expiry =>
    intro harmed hstate
    obtain ⟨t, ctx, he⟩ := exec_watchdogExpiry_of_armed harmed hstate
    obtain ⟨hcause, -, hpwr, -, -, hfailed, -⟩ :=
      (({ s.dev with tim := t } : Device).slag 0x00 0x0101 noUnit 0 ctx).reboot_leaves true true (cause := 5) (by decide)
    obtain ⟨g, l, hslag⟩ := ({ s.dev with tim := t } : Device).slag_only 0x00 0x0101 noUnit 0 ctx
    refine ⟨_, he, rfl, Device.reset5_slag_newest .., hcause, congrArg Power.armed hpwr, congrArg Power.started hpwr, ?_⟩
    exact hfailed.trans (by rw [hslag])
  case unlock =>
    intro pll hlo hhi
    obtain ⟨hcause, -, hpwr, -⟩ := (((s.dev.wbit CLK_STAT pll false).raise CLK_INT_STAT 0).slag 0x02 0x0101 pll 0 []).reboot_leaves
      true true (cause := 5) (by decide)
    exact ⟨_, exec_pllUnlock_of_pll hlo hhi, rfl, Device.reset5_slag_newest .., hcause, congrArg Power.started hpwr⟩
  case request =>
    refine fun value => ⟨fun h => ⟨_, exec_stateRequest value s, rfl, s.dev.stateRequest_leaves h⟩, fun h => ?_⟩
    refine ⟨_, exec_stateRequest value s, rfl, ?_⟩
    have he : s.dev.stateRequest value = s.dev.reservedEnc PWR_STATE value := if_pos h
    dsimp only
    rw [he]
    exact ⟨s.dev.slag_rd _ _ _ _ _ (by decide), s.dev.slag_newest ..⟩
  case change =>
    exact fun hchanging ht hheat hwake =>
      ⟨_, exec_stateChange s, rfl, s.dev.stateChange_leaves ht hchanging hheat hwake⟩
  case wake =>
    refine fun hen => ⟨fun hstate => ⟨_, exec_wakeIn true s, rfl, ?_⟩, fun hstate => ⟨_, exec_wakeIn true s, rfl, ?_⟩⟩
    · obtain ⟨htarget, hchanging, hkept, hrd, -⟩ := ((s.dev.wakePin true).wfld PWR_CAUSE 0 3 2).request_leaves (t := 0) (by decide)
      have hstay : ((s.dev.wakePin true).wfld PWR_CAUSE 0 3 2).pstate = s.dev.pstate :=
        Device.fld_of_rd_eq (Device.rd_wfld_ne _ _ _ _ (by decide)) 4 3
      rw [← s.dev.wake_of_idle hen hstate] at htarget hchanging hkept hrd
      refine ⟨?_, htarget, hchanging.trans ?_, hkept.trans hstay⟩
      · exact (Device.fld_of_rd_eq (hrd _ (by decide)) 0 3).trans (Device.fld_wfld_same _ _ _ (by decide))
      · rw [hstay]
        exact decide_eq_true (by omega)
    · dsimp only
      rw [s.dev.wake_of_hibernate hen hstate]
      exact Device.wakeStart_leaves _ (by decide)
  case rests => exact ⟨_, exec_wakeIn false s, rfl, s.dev.wake_low⟩
  case alarm =>
    intro hstate hen
    obtain ⟨t, he⟩ := exec_rtcAlarm_of_armed hstate hen
    exact ⟨_, he, rfl, Device.wakeStart_leaves _ (by decide)⟩

end Sys2Proof.Machine
end

section
/-!
PROOFS. Little-endian fields of concatenated bytes (R7).
-/
namespace Sys2Proof

@[simp] theorem length_leBytes (n x : Nat) : (leBytes n x).length = n := by
  induction n generalizing x with
  | zero => rfl
  | succ n ih => rw [leBytes, List.length_cons, ih]

@[simp] theorem length_zeros (n : Nat) : (zeros n).length = n := List.length_replicate

theorem leNat_leBytes (n x : Nat) : leNat (leBytes n x) = x % 256 ^ n := by
  induction n generalizing x with
  | zero => simp [leBytes, leNat, Nat.mod_one]
  | succ n ih =>
    rw [leBytes, leNat, ih, BitVec.toNat_ofNat, show 256 ^ (n + 1) = 256 * 256 ^ n by ring, Nat.mod_mul]

/-- A field that lies in the second of two parts. -/
theorem uAt_append_right {a b : Bytes} {off n k : Nat} (h : a.length + k = off) : uAt (a ++ b) off n = uAt b k n := by
  rw [uAt, uAt, sliceB, sliceB, ← h, ← List.drop_drop, List.drop_left]

/-- A field that lies in the first of two parts. -/
theorem uAt_append_left {a b : Bytes} {off n : Nat} (h : off + n ≤ a.length) : uAt (a ++ b) off n = uAt a off n := by
  rw [uAt, uAt, sliceB, sliceB, List.drop_append_of_le_length (by omega),
    List.take_append_of_le_length (by rw [List.length_drop]; omega)]

theorem uAt_leBytes (n x : Nat) : uAt (leBytes n x) 0 n = x % 256 ^ n := by
  have htake : (leBytes n x).take n = leBytes n x := List.take_of_length_le (length_leBytes n x).le
  rw [uAt, sliceB, List.drop_zero, htake, leNat_leBytes]

/-- The field that a part of the bytes begins with. -/
theorem uAt_leBytes_append (n x : Nat) (b : Bytes) : uAt (leBytes n x ++ b) 0 n = x % 256 ^ n := by
  rw [uAt_append_left (by simp), uAt_leBytes]

end Sys2Proof
end

section
/-!
PROOFS. The tamper response (R442): what it changes, and what it leaves of the slots, the root key and the sessions.
-/
namespace Sys2Proof.Machine

/-! ## Sessions that close -/

section
variable (d : Device)

@[simp] theorem Device.sess_setSess_same (p : Nat) (x : Session) : (d.setSess p x).sess p = x := by
  simp [Device.sess, Device.setSess]

theorem Device.sess_setSess_ne {p q : Nat} (h : q ≠ p) (x : Session) : (d.setSess p x).sess q = d.sess q := by
  simp [Device.sess, Device.setSess, Tab.getD_put_ne _ h]

/-- A session closes and drops the one that waits for it (R376, R442). -/
def Device.closeDrop (p : Nat) : Device := (d.closeSess p).setSess p { (d.closeSess p).sess p with waiting := none }

theorem Device.closeAll_eq : d.closeAll = d.forEach [0, 1, 2, 3] fun p e => e.closeDrop p := rfl

theorem Device.closeDrop_only (p : Nat) : ∃ r k h, d.closeDrop p = { d with regs := r, keys := k, hst := h } := by
  unfold Device.closeDrop Device.closeSess
  split <;> exact ⟨_, _, _, rfl⟩

theorem Device.closeAll_only : ∃ r k h, d.closeAll = { d with regs := r, keys := k, hst := h } :=
  Device.forEach_invariant (fun e => ∃ r k h, e = { d with regs := r, keys := k, hst := h }) _ (fun p _ e he => by
    obtain ⟨r, k, h, rfl⟩ := he
    exact Device.closeDrop_only _ p) ⟨_, _, _, rfl⟩

theorem Device.closeDrop_open (p q : Nat) :
    ((d.closeDrop p).sess q).open_ = (if q = p then false else (d.sess q).open_) := by
  have hclosed : ((d.closeSess p).sess p).open_ = false := by
    unfold Device.closeSess
    split
    · exact congrArg Session.open_ (d.sess_setSess_same p _)
    · simpa using ‹¬ (d.sess p).open_ = true›
  have hother : q ≠ p → (d.closeSess p).sess q = d.sess q := fun hq => by
    unfold Device.closeSess
    split
    · exact d.sess_setSess_ne hq _
    · rfl
  unfold Device.closeDrop
  split
  · subst ‹q = p›
    rw [Device.sess_setSess_same]
    exact hclosed
  · rw [Device.sess_setSess_ne _ ‹¬ q = p›, hother ‹¬ q = p›]

/-- Every session of the four partitions is closed (R442). -/
theorem Device.closeAll_open {p : Nat} (hp : p < 4) : (d.closeAll.sess p).open_ = false := by
  rw [Device.closeAll_eq, Device.forEach]
  simp only [List.foldl_cons, List.foldl_nil, Device.closeDrop_open]
  split_ifs <;> first | rfl | omega

/-- Slots that are empty stay empty as sessions close, and the root key stays as it is (R376). -/
theorem Device.closeAll_keys (h : ∀ n, d.slot n = slotEmpty) :
    (∀ n, d.closeAll.slot n = slotEmpty) ∧ d.closeAll.keys.rootOk = d.keys.rootOk := by
  refine Device.forEach_invariant (fun e => (∀ n, e.slot n = slotEmpty) ∧ e.keys.rootOk = d.keys.rootOk) _
    (fun p _ e he => ?_) ⟨h, rfl⟩
  obtain ⟨hslots, hroot⟩ := he
  have hset : ∀ (f : Device) m, (∀ n, f.slot n = slotEmpty) → ∀ n, (f.setSlot m slotEmpty).slot n = slotEmpty :=
    fun f m hf n => by
      by_cases hn : n = m
      · rw [hn, Device.slot_setSlot_same]
      · rw [Device.slot_setSlot_ne _ hn, hf]
  unfold Device.closeSess
  split
  · exact ⟨hset _ _ (hset _ _ hslots), hroot⟩
  · exact ⟨hslots, hroot⟩

end

/-! ## The response to one source -/

section
variable (d : Device) (src detail : Nat) (op : Bool)

/-- The device with the slots and the root key gone and the source in the tamper log (R442). -/
def Device.emptied : Device :=
  let flags := b2n (op && !d.tmp.cinder) + 2 * b2n (!d.tmp.rtcValid) + 4 * b2n d.keys.rootOk
  ((({ d with keys := { d.keys with rootOk := false } }).clearSlots).tamperLog src detail flags).raise TMP_INT_STAT 0

/-- The emptied device, with VIN after its fault record (R442). -/
def Device.scrubbed (vin : Bool) : Device :=
  if vin then (d.emptied src detail op).slagB .tmp 0x0101 src (leBytes 4 (d.emptied src detail op).tmp.count)
  else d.emptied src detail op

/-- The cinder state begins: a start that runs ends in recovery ROM mode (R442, R476). -/
def Device.cindered (e : Device) (starting : Bool) : Device :=
  { e with
    tmp := { e.tmp with cinder := true }
    boot := { e.boot with recovery := e.boot.recovery || starting, warden := e.boot.warden && !starting } }

theorem Device.tamper_eq (vin : Bool) : d.tamper src detail op vin =
    if d.tmp.cinder then d.scrubbed src detail op vin
    else if vin then (((d.scrubbed src detail op vin).cindered (d.pwr.starting && vin)).latchCause 7).closeAll
    else (d.scrubbed src detail op vin).cindered (d.pwr.starting && vin) :=
  rfl

/-- Scrubbing changes the keys, the tamper log and the fault record alone. -/
theorem Device.scrubbed_only (vin : Bool) : ∃ r l, d.scrubbed src detail op vin =
    { d with regs := r, keys := (d.emptied src detail op).keys, tmp := (d.emptied src detail op).tmp, log := l } := by
  unfold Device.scrubbed
  split
  · exact Device.slag_only ..
  · exact ⟨_, _, rfl⟩

theorem Device.scrubbed_leaves (vin : Bool) :
    let e := d.scrubbed src detail op vin
    (∀ n, e.slot n = slotEmpty) ∧ e.keys.rootOk = false ∧ e.tmp.cinder = d.tmp.cinder ∧
      (e.tmp.log.head?).map (·.source) = some src := by
  obtain ⟨r, l, h⟩ := d.scrubbed_only src detail op vin
  rw [h]
  exact ⟨fun _ => rfl, rfl, rfl, rfl⟩

/-- The tamper response leaves the boot record but RECOVERY and the warden, and the power state (R442). -/
theorem Device.tamper_only (vin : Bool) : ∃ r k t l h p m o rec_ ward, d.tamper src detail op vin = { d with
    regs := r, keys := k, tmp := t, log := l, hst := h, stp := p, pins := m, out := o,
    boot := { d.boot with recovery := rec_, warden := ward } } := by
  obtain ⟨r, l, hscrub⟩ := d.scrubbed_only src detail op vin
  rw [Device.tamper_eq]
  split
  · exact ⟨r, _, _, l, d.hst, d.stp, d.pins, d.out, d.boot.recovery, d.boot.warden, hscrub⟩
  split
  · obtain ⟨r', p, m, o, hlatch⟩ :=
      ((d.scrubbed src detail op vin).cindered (d.pwr.starting && vin)).latchCause_only 7
    obtain ⟨r'', k'', h, hclose⟩ :=
      (((d.scrubbed src detail op vin).cindered (d.pwr.starting && vin)).latchCause 7).closeAll_only
    rw [hclose, hlatch, hscrub]
    exact ⟨_, _, _, _, _, _, _, _, _, _, rfl⟩
  · rw [hscrub]
    exact ⟨_, _, _, _, _, _, _, _, _, _, rfl⟩

/-- With VIN the response empties every slot, drops the root key, logs the source and enters the cinder state; a device
that was not in it latches TAMPER and closes every session (R442). -/
theorem Device.tamper_leaves :
    let e := d.tamper src detail op true
    (∀ n, e.slot n = slotEmpty) ∧ e.keys.rootOk = false ∧ e.tmp.cinder = true ∧
      (e.tmp.log.head?).map (·.source) = some src ∧
      (d.tmp.cinder = false → bitOf e.stp.latch 7 = true ∧ ∀ p, p < 4 → (e.sess p).open_ = false) := by
  obtain ⟨hslots, hroot, hcinder, hlog⟩ := d.scrubbed_leaves src detail op true
  rw [Device.tamper_eq]
  split
  · exact ⟨hslots, hroot, hcinder.trans ‹_›, hlog, fun h => absurd (h.symm.trans ‹_›) Bool.false_ne_true⟩
  · rw [if_pos rfl]
    generalize hf : (d.scrubbed src detail op true).cindered (d.pwr.starting && true) = f
    have hlatched := f.bitOf_latch_latchCause 7
    obtain ⟨r', p, m, o, hlatch⟩ := f.latchCause_only 7
    have hkeys : (f.latchCause 7).keys = (d.scrubbed src detail op true).keys := by rw [hlatch, ← hf]; rfl
    obtain ⟨hempty, hkept⟩ := (f.latchCause 7).closeAll_keys fun n => by
      rw [Device.slot, hkeys]
      exact hslots n
    obtain ⟨r, k, h, hclose⟩ := (f.latchCause 7).closeAll_only
    have htmp : (f.latchCause 7).closeAll.tmp = f.tmp := by rw [hclose, hlatch]
    have hstp : (f.latchCause 7).closeAll.stp = (f.latchCause 7).stp := by rw [hclose]
    refine ⟨hempty, hkept.trans ((congrArg Keys.rootOk hkeys).trans hroot), ?_, ?_, fun _ => ⟨?_, fun p hp => ?_⟩⟩
    · rw [htmp, ← hf]
      rfl
    · rw [htmp, ← hf]
      exact hlog
    · rw [hstp]
      exact hlatched
    · exact Device.closeAll_open _ hp

end

end Sys2Proof.Machine
end

section
/-!
PROOFS. The staging lock, the update commands and START_OK (R476, R478 to R480).
-/
namespace Sys2Proof.Machine

/-! ## Update commands from a host or the service port -/

theorem Device.answer_rd (d : Device) (c : Cmd) (st : Nat) (b : Bytes) {x : Reg} (hx : x.blk ≠ .que) :
    (d.answer c st b).rd x = d.rd x := by
  have hnote : (d.noteCfg c st).rd x = d.rd x := by
    unfold Device.noteCfg
    split <;> rfl
  exact (Device.hwPush_rd _ _ hx _).trans hnote

theorem Device.answer_running (d : Device) (c : Cmd) (st : Nat) (b : Bytes) :
    (d.answer c st b).running = d.running := by
  rw [Device.running, Device.fld_of_rd_eq (d.answer_rd c st b (by decide))]
  obtain ⟨r, q, h, p, he⟩ := d.answer_only c st b
  rw [he]
  rfl

theorem Device.answer_boot (d : Device) (c : Cmd) (st : Nat) (b : Bytes) : (d.answer c st b).boot = d.boot := by
  obtain ⟨r, q, h, p, he⟩ := d.answer_only c st b
  rw [he]

/-- No restart follows a command after which none waits, or after which heats run (R479). -/
theorem Device.restartNow_of_stays {d : Device} (h : d.boot.restart = false ∨ d.running = true) : d.restartNow = d := by
  refine if_neg ?_
  rcases h with h | h <;> simp [h]

/-- The commands of a service session are taken and answered (R482, R483). -/
theorem Device.svcCmd_of_right {d : Device} (code req : Nat) (f : Device → Ans) (hup : d.svcUp = true)
    (hright : bitOf d.svcRights 0 = true) :
    d.svcCmd code req (some 0) f =
      (f (Claims.svcTook d)).2.2.svcAnswer code req (f (Claims.svcTook d)).1 (f (Claims.svcTook d)).2.1 := by
  have hrights : (Claims.svcTook d).svcRights = d.svcRights := by
    unfold Device.svcRights
    have hsess : (Claims.svcTook d).boot.sess = d.boot.sess.map fun x => { x with last := (d.count SVC_FRAMES).upNs } := rfl
    rw [hsess]
    cases d.boot.sess <;> rfl
  have hmay : ¬ ¬ bitOf (Claims.svcTook d).svcRights 0 = true := by
    rw [hrights]
    exact not_not_intro hright
  exact (if_neg (not_not_intro hup)).trans (if_neg hmay)

/-- An update command that comes to the staging hardware answers what the hardware says, and no restart follows where
none waits or heats run (R478, R479). -/
theorem Device.updCmd_of_comes {s : State} {code : Nat} {u : UpdFrom} {src : Nat} {b : Bytes} {d : Device}
    {reply : Nat → Bytes → Device → Device} (f : Device → Nat → Bytes → Ans)
    (h : Claims.UpdComes s code u src b d reply)
    (hstays : (f d src b).2.2.boot.restart = false ∨ (f d src b).2.2.running = true) :
    s.dev.updCmd code u f = reply (f d src b).1 (f d src b).2.1 (f d src b).2.2 := by
  cases u with
  | host p =>
    obtain ⟨c, htakes, rfl, hlen, hright, rfl, rfl, rfl⟩ := h
    refine (s.dev.hostCmd_takes d c.code p c _ htakes).trans ((if_neg (not_not_intro hlen)).trans ((if_pos hright).trans ?_))
    exact Device.restartNow_of_stays (by rwa [Device.answer_boot, Device.answer_running])
  | svc req body =>
    obtain ⟨hup, hright, rfl, rfl, rfl, rfl⟩ := h
    have he := s.dev.svcCmd_of_right code req (fun e => f e 5 b) hup hright
    exact (congrArg Device.restartNow he).trans (Device.restartNow_of_stays hstays)

/-! ## What the staging hardware says (R478 to R480) -/

section
variable {d : Device} {src : Nat} {b : Bytes}

theorem not_nil_ne_nil : ¬ ([] : Bytes) ≠ [] := not_not_intro rfl

/-- The lock with a source that takes it (R478). -/
def Device.lockTaken (d : Device) (src : Nat) : Device :=
  { d with boot := { d.boot with stage := [], holder := src, holderAt := d.upNs, committer := 0 } }

theorem Device.updClaim_empty : d.updClaim src [] =
    if d.boot.holder = 0 ∨ d.boot.holder = src then ans stDone (d.lockTaken src)
    else if src = 5 then ans stDone (((d.updDrop.raise UPD_INT_STAT 1).raise SVC_INT_STAT 3).lockTaken src)
    else ans stBusy d :=
  rfl

theorem Device.updClaim_of_free (h : d.boot.holder = 0 ∨ d.boot.holder = src) :
    d.updClaim src [] = ans stDone (d.lockTaken src) := by
  rw [Device.updClaim_empty, if_pos h]

theorem Device.updClaim_of_held (hheld : d.boot.holder ≠ 0) (hother : d.boot.holder ≠ src) (hhost : src ≠ 5) :
    d.updClaim src [] = ans stBusy d := by
  rw [Device.updClaim_empty, if_neg (not_or_intro hheld hother), if_neg hhost]

/-- The service port takes the lock from a partition (R480). -/
theorem Device.updClaim_of_service (hheld : d.boot.holder ≠ 0) :
    ∃ e : Device, d.updClaim 5 [] = ans stDone (e.lockTaken 5) ∧ e.boot.restart = d.boot.restart := by
  by_cases hmine : d.boot.holder = 5
  · exact ⟨d, Device.updClaim_of_free (.inr hmine), rfl⟩
  · exact ⟨(d.updDrop.raise UPD_INT_STAT 1).raise SVC_INT_STAT 3,
      by rw [Device.updClaim_empty, if_neg (not_or_intro hheld hmine), if_pos rfl], rfl⟩

/-- Bytes at the next offset of a kind are appended to what it staged (R478). -/
theorem Device.updData_of_next (hlo : 9 ≤ b.length) (hhi : b.length ≤ 1032) (hmine : d.boot.holder = src)
    (hkind : 1 ≤ uAt b 0 1) (hkinds : uAt b 0 1 ≤ 5) (hzero : uAt b 1 3 = 0)
    (hnext : uAt b 4 4 = (d.staged (uAt b 0 1)).length)
    (hroom : d.boot.stage.foldl (fun a x => a + x.2.length) 0 + (b.length - 8) ≤ 7 * 1048576) :
    d.updData src b = ans stDone { d with boot := { d.boot with
      holderAt := d.upNs, stage := Tab.put d.boot.stage (uAt b 0 1) (d.staged (uAt b 0 1) ++ b.drop 8) } } := by
  have htouch : d.updTouch src = { d with boot := { d.boot with holderAt := d.upNs } } := if_pos hmine
  have hlen : ¬ (b.length < 9 ∨ 1032 < b.length) := by omega
  have hshape : ¬ (uAt b 0 1 = 0 ∨ 5 < uAt b 0 1 ∨ uAt b 1 3 ≠ 0 ∨ uAt b 4 4 ≠ (d.staged (uAt b 0 1)).length) := by
    omega
  have hfits : ¬ 7 * 1048576 < d.boot.stage.foldl (fun a x => a + x.2.length) 0 + (b.drop 8).length := by
    rw [List.length_drop]
    omega
  refine (if_neg hlen).trans ((if_neg (not_not_intro hmine)).trans ?_)
  rw [htouch]
  exact (if_neg hshape).trans (if_neg hfits)

theorem Device.updCommit_of_mine (good : List Nat) (hlen : b.length = 4) (hflag : uAt b 0 1 ≤ 1) (hzero : uAt b 1 3 = 0)
    (hmine : d.boot.holder = src) : d.updCommit src b good = d.commit src (bitOf (uAt b 0 1) 0) good := by
  have hshape : ¬ (b.length ≠ 4 ∨ 1 < uAt b 0 1 ∨ uAt b 1 3 ≠ 0) := by omega
  exact (if_neg hshape).trans (if_neg (not_not_intro hmine))

/-- The device with its candidate set committed (R479). -/
def Device.committed (d : Device) (src : Nat) (restart : Bool) : Device :=
  ({ d with boot := { d.boot with
      staged := true, cand := d.candidateSet, seq := d.boot.seq + 1,
      failed := if d.boot.recovery then 0 else d.boot.failed, stage := [], holder := 0, committer := src,
      restart := d.boot.restart || restart } } : Device).raise UPD_INT_STAT 0

theorem Device.commit_of_passing {good : List Nat} (restart : Bool) (h : d.setOk d.candidateSet good = true) :
    d.commit src restart good = ans stDone (d.committed src restart) :=
  if_neg (not_not_intro h)

theorem Device.commit_of_failing {good : List Nat} (restart : Bool) (h : d.setOk d.candidateSet good = false) :
    d.commit src restart good = ans stRejected d.updDrop :=
  if_pos (by simp [h])

theorem Device.committed_running (restart : Bool) : (d.committed src restart).running = d.running := by
  have hrd : (d.committed src restart).rd PWR_STATE = d.rd PWR_STATE := Device.rd_raise_ne _ _ (by decide)
  rw [Device.running, Device.fld_of_rd_eq hrd]
  rfl

theorem Device.updAbort_of_mine (hmine : d.boot.holder = src) :
    d.updAbort src [] = ans stAborted (d.updDrop.raise UPD_INT_STAT 1) :=
  (if_neg not_nil_ne_nil).trans (if_pos hmine)

/-- The body that UPD_STATUS answers (R478). -/
def Device.updStatusBody (d : Device) : Bytes :=
  leBytes 1 d.boot.holder ++ ([1, 2, 3, 4, 5].map fun k => leBytes 2 (ceilDiv (d.staged k).length 1024)).flatten ++
    leBytes 1 (b2n d.boot.staged) ++ leBytes 1 d.boot.failed ++ zeros 3

theorem Device.updStatus_empty : d.updStatus src [] = (stDone, d.updStatusBody, d.updTouch src) :=
  if_neg (not_not_intro rfl)

theorem Device.updTouch_only : ∃ t, d.updTouch src = { d with boot := { d.boot with holderAt := t } } := by
  unfold Device.updTouch
  split <;> exact ⟨_, rfl⟩

/-- UPD_STATUS names the holder at byte 0 and whether a set is staged at byte 11 (log entry 30). -/
theorem Device.updStatusBody_fields (hholder : d.boot.holder < 6) :
    d.updStatusBody.length = 16 ∧ uAt d.updStatusBody 0 1 = d.boot.holder ∧
      uAt d.updStatusBody 11 1 = b2n d.boot.staged := by
  have hstaged : b2n d.boot.staged < 256 := by cases d.boot.staged <;> decide
  refine ⟨by simp [Device.updStatusBody], ?_, ?_⟩
  · rw [Device.updStatusBody, List.append_assoc, List.append_assoc, List.append_assoc, uAt_leBytes_append]
    exact Nat.mod_eq_of_lt (by omega)
  · rw [Device.updStatusBody, List.append_assoc, List.append_assoc, uAt_append_right (k := 0) (by simp),
      uAt_leBytes_append]
    exact Nat.mod_eq_of_lt hstaged

theorem Device.lockIdle_leaves (hheld : d.boot.holder ≠ 0) :
    let e := d.lockIdle
    e.boot.holder = 0 ∧ e.boot.stage = [] ∧ e.bit UPD_INT_STAT 2 = true ∧
      Claims.NewestIs e 0x05 0x0101 d.boot.holder ∧ d.boot.holderAt + 60000000000 ≤ e.upNs := by
  have he : d.lockIdle = (((d.advanceUp (d.boot.holderAt + 60000000000)).slagB .upd 0x0101
      (d.advanceUp (d.boot.holderAt + 60000000000)).boot.holder []).updDrop).raise UPD_INT_STAT 2 := if_neg hheld
  have hup := d.le_upNs_advanceUp (d.boot.holderAt + 60000000000)
  obtain ⟨t, ht⟩ := d.advanceUp_only (d.boot.holderAt + 60000000000)
  rw [ht] at he hup
  rw [he]
  have hnew := Device.slag_newest ({ d with tim := t } : Device) (blkNum .upd) 0x0101 d.boot.holder 0 []
  obtain ⟨g, l, hslag⟩ := Device.slag_only ({ d with tim := t } : Device) (blkNum .upd) 0x0101 d.boot.holder 0 []
  refine ⟨rfl, rfl, Device.bit_raise_same _ _ (by decide), newestIs_of_log rfl rfl hnew, hup.trans ?_⟩
  refine (Device.upNs_of_tim_eq ?_).ge
  exact (congrArg Device.tim hslag :)

end

/-! ## START_OK -/

/-- START_OK clears the count of failed starts, names the set that ran and arms the watchdog (R476, R545). -/
theorem Device.startOk_leaves {d : Device} (hwarden : d.boot.warden = true) (hstarting : d.pwr.starting = true) :
    let e := d.startOk
    e.boot.failed = 0 ∧ e.boot.lastKg = d.boot.runKg ∧ e.pwr.armed = true ∧ e.pwr.served = d.upNs ∧
      e.pwr.starting = false ∧ e.bit UPD_CTRL 0 = true := by
  have hruns : ¬ (¬ d.boot.warden = true ∨ ¬ d.pwr.starting = true) := by
    rintro (h | h)
    · exact h hwarden
    · exact h hstarting
  have hbit : ∀ e : Device, (e.raise UPD_CTRL 0).bit UPD_CTRL 0 = true := fun e => e.bit_raise_same _ (by decide)
  unfold Device.startOk
  rw [if_neg hruns]
  dsimp only
  split
  · exact ⟨rfl, rfl, rfl, rfl, rfl, (Device.bit_of_rd_eq (Device.admitStart_rd _ (by decide) _ _) 0).trans (hbit _)⟩
  · exact ⟨rfl, rfl, rfl, rfl, rfl, hbit _⟩

end Sys2Proof.Machine
end

section
/-!
PROOFS. The start of the device (R476, R481, R497) and the update commands as commands.
-/
namespace Sys2Proof.Machine

/-! ## The checks of a start -/

section
variable {d e : Device}

/-- The images that pass are known by the OTP registers and the active generation (R474). -/
theorem Device.imageOk_congr (hrd : ∀ x : Reg, x.blk = .otp → e.rd x = d.rd x) (hrec : e.boot.rec_ = d.boot.rec_)
    (kind : Nat) (b : Bytes) (good : List Nat) : e.imageOk kind b good = d.imageOk kind b good := by
  have hflag : ∀ i, e.boot.flag i = d.boot.flag i := fun i => by rw [Boot.flag, hrec, Boot.flag]
  unfold Device.imageOk
  rw [Device.fld_of_rd_eq (hrd OTP_STEPPING rfl), Device.rdN_of_rd_eq (hrd OTP_FAMILY rfl),
    Device.rdN_of_rd_eq (hrd OTP_UNIT_ID0 rfl), Device.rdN_of_rd_eq (hrd OTP_UNIT_ID1 rfl),
    Device.rdN_of_rd_eq (hrd OTP_UNIT_ID2 rfl), hflag, hflag]

theorem Device.setOk_congr (hrd : ∀ x : Reg, x.blk = .otp → e.rd x = d.rd x) (hrec : e.boot.rec_ = d.boot.rec_)
    (s : Tab Bytes) (good : List Nat) : e.setOk s good = d.setOk s good := by
  simp only [Device.setOk, Device.imageOk_congr hrd hrec]

/-- A set in use that passes runs, and leaves recovery ROM mode alone (R476). -/
theorem Device.selectSet_of_active {failed : Nat} {x : StartIn} (hfailed : failed ≤ 1)
    (hgood : d.boot.activeBad = false) (hok : d.setOk d.boot.active x.active = true) : d.selectSet failed x =
      { d with boot := { d.boot with activeBad := false, runKg := false, warden := true, recovery := false } } := by
  simp [Device.selectSet, hfailed, hgood, hok, Device.raiseIf]

theorem Device.copySets_of_none (h : d.boot.staged = false) : d.copySets = d := if_pos (by simp [h])

end

section
variable (d : Device) (x : StartIn)

/-- The device as a start of it begins (R476). -/
def Device.startBegun : Device :=
  { d with
    pwr := { d.pwr with started := true, starting := true }
    pair := { d.pair with away := x.away }
    boot := { d.boot with svcBoot := x.svcBoot, gen := d.boot.highest } }

/-- The device after the first checks of a start: VBAT, the reference and the root key (R442, R476, R497). -/
def Device.startChecked : Device :=
  ((if x.vbat then d.startBegun x else (d.startBegun x).vbatLost).refSelect x.ref).rootCheck x.rootBad

/-- One more start that has not yet succeeded (R476). -/
def Device.counted : Device := { d with boot := { d.boot with failed := d.boot.failed + 1, seq := d.boot.seq + 1 } }

/-- The start goes on to a set, after the checks (R476). -/
def Device.startSet : Device :=
  let e := d.startChecked x
  let f := e.counted.copySets.selectSet e.boot.failed x
  if f.boot.warden then f.handOver7 x.failing else f

theorem Device.start_eq (hstarted : d.pwr.started = false) (hoff : d.pwr.off = false) (hheld : d.pwr.held = false) :
    d.start x =
      if (d.startChecked x).boot.recovery ∨ x.svcBoot ∨ (d.startChecked x).boot.source = 2 ∨
          (d.startChecked x).boot.failed = 3 then
        { d.startChecked x with boot := { (d.startChecked x).boot with recovery := true } }
      else d.startSet x :=
  if_neg (by simp [hstarted, hoff, hheld])

theorem Device.refSelect_only (ref : Option Nat) :
    ∃ r rec_, d.refSelect ref = { d with regs := r, boot := { d.boot with recovery := rec_ } } := by
  cases ref <;> exact ⟨_, _, rfl⟩

theorem Device.rootCheck_boot (bad : Bool) : (d.rootCheck bad).pwr = d.pwr ∧
    ∃ rec_ ward, (d.rootCheck bad).boot = { d.boot with recovery := rec_, warden := ward } := by
  unfold Device.rootCheck
  extract_lets _ e _
  split
  · exact ⟨rfl, _, _, rfl⟩
  · obtain ⟨r, k, t, l, h, p, m, o, rec_, ward, htamper⟩ :=
      (({ e with tmp := { e.tmp with rtcValid := false } } : Device).raise TMP_INT_STAT 1).tamper_only 4 0 false true
    rw [htamper]
    exact ⟨rfl, rec_, ward, rfl⟩

/-- The checks of a start change RECOVERY and the warden of the boot record alone. -/
theorem Device.startChecked_boot : (d.startChecked x).pwr = (d.startBegun x).pwr ∧
    ∃ rec_ ward, (d.startChecked x).boot = { (d.startBegun x).boot with recovery := rec_, warden := ward } := by
  have hvbat : (if x.vbat then d.startBegun x else (d.startBegun x).vbatLost).boot = (d.startBegun x).boot ∧
      (if x.vbat then d.startBegun x else (d.startBegun x).vbatLost).pwr = (d.startBegun x).pwr := by
    split <;> exact ⟨rfl, rfl⟩
  obtain ⟨hboot, hpwr⟩ := hvbat
  unfold Device.startChecked
  generalize (if x.vbat then d.startBegun x else (d.startBegun x).vbatLost) = e at hboot hpwr
  obtain ⟨r, rec_, href⟩ := e.refSelect_only x.ref
  obtain ⟨hpwr', rec', ward, hroot⟩ := (e.refSelect x.ref).rootCheck_boot x.rootBad
  rw [href] at hpwr' hroot
  rw [href]
  exact ⟨hpwr'.trans hpwr, rec', ward, hroot.trans (by rw [hboot])⟩

/-- With VBAT, a reference and a root key that matches, the checks select the reference clock alone. -/
theorem Device.startChecked_of_passing (hvbat : x.vbat = true) (href : x.ref.isSome = true) (hbad : x.rootBad = false)
    (hroot : d.keys.rootOk = true) : ∃ v, d.startChecked x = (d.startBegun x).wrN CLK_STAT v := by
  obtain ⟨f, hf⟩ := Option.isSome_iff_exists.mp href
  refine ⟨Nat.min f 2 + 4 + 0x3F8, ?_⟩
  unfold Device.startChecked
  rw [if_pos hvbat, hf, hbad]
  have hkeys : ({ (d.startBegun x).wrN CLK_STAT (Nat.min f 2 + 4 + 0x3F8) with
      keys := { d.keys with rootOk := d.keys.rootOk && !false } } : Device) =
      (d.startBegun x).wrN CLK_STAT (Nat.min f 2 + 4 + 0x3F8) := by
    rw [Bool.not_false, Bool.and_true]
    rfl
  exact (if_pos (.inl (show (d.keys.rootOk && !false) = true by rw [hroot]; rfl))).trans hkeys

theorem Device.applyCfg_of_none (h : d.boot.cfg = none) : d.applyCfg = d := by
  rw [Device.applyCfg, h]

/-- The boot record and the power state. -/
def Device.bootView : Boot × Power := (d.boot, d.pwr)

theorem Device.loadPair_bootView : d.loadPair.bootView = d.bootView := by
  unfold Device.loadPair
  split
  · rfl
  · dsimp only
    split <;> rfl

/-- A set that runs with every anvil passing leaves the boot record and the power state, where no block configuration
record is stored (R476, R544). -/
theorem Device.handOver7_bootView (h : d.boot.cfg = none) : (d.handOver7 []).bootView = d.bootView := by
  unfold Device.handOver7
  extract_lets set body ver versioned _ loaded powered code regioned _ gns placed keyed mons _ paired
  have hversioned : versioned.bootView = d.bootView := 
    Device.forEach_keeps Device.bootView (fun k x => x.wrN (UPD_VER (k - 1)) (ver k)) (fun _ _ => rfl) _ _
  clear_value versioned
  have hpowered : powered.bootView = versioned.bootView := rfl
  clear_value powered
  have hregioned : regioned.bootView = powered.bootView := Device.forEach_keeps Device.bootView
    (fun p x => x.wrN (MAC_REGION p) (code + 16 * b2n (code = 2))) (fun _ _ => rfl) _ powered
  clear_value regioned
  have hplaced : placed.bootView = regioned.bootView := rfl
  clear_value placed
  have hkeyed : keyed.bootView = placed.bootView := by
    unfold keyed
    split <;> rfl
  clear_value keyed
  have hpaired : paired.bootView = d.bootView :=
    (Device.loadPair_bootView _).trans (hkeyed.trans (hplaced.trans (hregioned.trans (hpowered.trans hversioned))))
  have hcfg : paired.boot.cfg = none := (congrArg (fun v : Boot × Power => v.1.cfg) hpaired).trans h
  rw [paired.applyCfg_of_none hcfg, hpaired]

/-- The boot record of a start that runs the set in use (R476). -/
def Boot.ranActive (b : Boot) : Boot :=
  { b with failed := b.failed + 1, seq := b.seq + 1, activeBad := false, runKg := false, warden := true, recovery := false }

/-- A start whose set in use passes runs it (R475, R476). -/
theorem Device.startSet_of_active {v : Nat} (hchecked : d.startChecked x = (d.startBegun x).wrN CLK_STAT v)
    (hfailed : d.boot.failed ≤ 1) (hstaged : d.boot.staged = false) (hgood : d.boot.activeBad = false)
    (hok : (d.startBegun x).setOk d.boot.active x.active = true) (hcfg : d.boot.cfg = none) (hfailing : x.failing = []) :
    (d.startSet x).bootView = ((d.startBegun x).boot.ranActive, (d.startBegun x).pwr) := by
  have hok' : ((d.startBegun x).wrN CLK_STAT v).counted.setOk d.boot.active x.active = true := by
    rw [← hok]
    exact Device.setOk_congr (fun y hy => (d.startBegun x).rd_wrN_ne v (Reg.ne_of_blk (by rw [hy]; decide))) rfl _ _
  have hcopy := Device.copySets_of_none (d := ((d.startBegun x).wrN CLK_STAT v).counted) hstaged
  have hselect := Device.selectSet_of_active (d := ((d.startBegun x).wrN CLK_STAT v).counted)
    (failed := ((d.startBegun x).wrN CLK_STAT v).boot.failed) hfailed hgood hok'
  rw [Device.startSet, hchecked, hfailing, hcopy, hselect]
  exact (congrArg Device.bootView (if_pos rfl)).trans (Device.handOver7_bootView _ hcfg)

end

/-! ## The commands -/

section
variable {s : State}

theorem exec_start (x : StartIn) (s : State) : exec (.start x) s = .next { s with dev := s.dev.start x } := rfl

theorem exec_startOk (s : State) : exec .startOk s =
    .next { s with dev := if s.dev.stockPasses then s.dev.startOk else s.dev } := rfl

theorem exec_updClaim (u : UpdFrom) (s : State) :
    exec (.updClaim u) s = .next { s with dev := s.dev.updCmd 0x0A00 u Device.updClaim } := rfl

theorem exec_updData (u : UpdFrom) (s : State) :
    exec (.updData u) s = .next { s with dev := s.dev.updCmd 0x0A01 u Device.updData } := rfl

theorem exec_updCommit (u : UpdFrom) (good : List Nat) (s : State) : exec (.updCommit u good) s =
    .next { s with dev := s.dev.updCmd 0x0A02 u fun d src b => d.updCommit src b good } := rfl

theorem exec_updAbort (u : UpdFrom) (s : State) :
    exec (.updAbort u) s = .next { s with dev := s.dev.updCmd 0x0A03 u Device.updAbort } := rfl

theorem exec_updStatus (u : UpdFrom) (s : State) :
    exec (.updStatus u) s = .next { s with dev := s.dev.updCmd 0x0A04 u Device.updStatus } := rfl

theorem exec_lockIdle (s : State) : exec .lockIdle s = .next { s with dev := s.dev.lockIdle } := rfl

/-- An update command completes with what the staging hardware answers. -/
theorem Completes.updCmd {cmd : Instr} {code : Nat} {u : UpdFrom} {src : Nat} {b : Bytes} {d x : Device}
    {reply : Nat → Bytes → Device → Device} {f : Device → Nat → Bytes → Ans} {st : Nat} {body : Bytes}
    (hexec : exec cmd s = .next { s with dev := s.dev.updCmd code u f }) (h : Claims.UpdComes s code u src b d reply)
    (hf : f d src b = (st, body, x)) (hstays : x.boot.restart = false ∨ x.running = true) :
    Completes cmd s (· = reply st body x) := by
  refine ⟨_, hexec, rfl, ?_⟩
  have he := Device.updCmd_of_comes f h (by rwa [hf])
  rwa [hf] at he

end

/-- What holds of the one device of a completion holds of a completion. -/
theorem Completes.mono {c : Instr} {s : State} {P Q : Device → Prop} (h : Completes c s P) (hPQ : ∀ d, P d → Q d) :
    Completes c s Q := by
  obtain ⟨t, ht, hpend, hP⟩ := h
  exact ⟨t, ht, hpend, hPQ _ hP⟩

/-- Settles O42: the update commands are the staging hardware's operations behind one arrival, and a start is its checks
and the set that they let run. -/
theorem startAndStagingFollowTheirCommands : Obligations.StartAndStagingFollowTheirCommands := by
  unfold Obligations.StartAndStagingFollowTheirCommands
  refine fun s u src b d reply => ⟨?start, ?ok, ?claim, ?data, ?commit, ?abort, ?status, ?idle⟩
  case start =>
    intro x hstarted hoff hheld bt
    obtain ⟨hpwr, rec_, ward, hboot⟩ := s.dev.startChecked_boot x
    have hstart := s.dev.start_eq x hstarted hoff hheld
    refine ⟨fun hrecovers => ⟨_, exec_start x s, rfl, ?_⟩, ?_⟩
    · have hrecovery : (s.dev.startChecked x).boot.recovery = true ∨ x.svcBoot = true ∨
          (s.dev.startChecked x).boot.source = 2 ∨ (s.dev.startChecked x).boot.failed = 3 := by
        rw [hboot]
        exact .inr hrecovers
      dsimp only
      rw [hstart, if_pos hrecovery]
      exact ⟨rfl, congrArg Power.started hpwr, (congrArg Boot.failed hboot :)⟩
    · intro hsvc hsource hfailed hrecovery hvbat href hbad hroot hstaged hgood hok hfailing hcfg
      obtain ⟨v, hchecked⟩ := s.dev.startChecked_of_passing x hvbat href hbad hroot
      have hruns : ¬ ((s.dev.startChecked x).boot.recovery = true ∨ x.svcBoot = true ∨
          (s.dev.startChecked x).boot.source = 2 ∨ (s.dev.startChecked x).boot.failed = 3) := by
        rw [hchecked]
        rintro (h | h | h | h)
        · exact Bool.false_ne_true (hrecovery.symm.trans h)
        · exact Bool.false_ne_true (hsvc.symm.trans h)
        · exact hsource h
        · have hthree : bt.failed = 3 := h
          omega
      have hok' : (s.dev.startBegun x).setOk s.dev.boot.active x.active = true := by
        rw [← hok]
        exact Device.setOk_congr (fun _ _ => rfl) rfl _ _
      have hview := s.dev.startSet_of_active x hchecked hfailed hstaged hgood hok' hcfg hfailing
      obtain ⟨hboot', hpwr'⟩ := Prod.mk.inj hview
      refine ⟨_, exec_start x s, rfl, ?_⟩
      dsimp only
      rw [hstart, if_neg hruns, hboot', hpwr']
      exact ⟨rfl, rfl, rfl, rfl, rfl, rfl⟩
  case ok =>
    intro hwarden hstarting
    refine ⟨_, exec_startOk s, rfl, fun hpass => ?_, fun hfail => ?_⟩
    · dsimp only
      rw [if_pos hpass]
      exact Device.startOk_leaves hwarden hstarting
    · exact if_neg (by simp [hfail])
  case claim =>
    rintro hcomes rfl hrestart
    refine ⟨fun hfree => ?_, fun hheld hother hhost => ?_, fun hheld hsvc => ?_⟩
    · exact (Completes.updCmd (exec_updClaim u s) hcomes (Device.updClaim_of_free hfree) (.inl hrestart)).mono
        fun t ht => ⟨_, ht, rfl, rfl, rfl, rfl⟩
    · exact Completes.updCmd (exec_updClaim u s) hcomes (Device.updClaim_of_held hheld hother hhost) (.inl hrestart)
    · subst hsvc
      obtain ⟨e, he, hkept⟩ := Device.updClaim_of_service hheld
      exact (Completes.updCmd (exec_updClaim u s) hcomes he (.inl (hkept.trans hrestart))).mono
        fun t ht => ⟨_, ht, rfl, rfl⟩
  case data =>
    rintro k hcomes hlo hhi hrestart hmine rfl hkind hkinds hzero hnext hroom
    have hdata := Device.updData_of_next hlo hhi hmine hkind hkinds hzero hnext hroom
    refine (Completes.updCmd (exec_updData u s) hcomes hdata (.inl hrestart)).mono
      fun t ht => ⟨_, ht, Tab.getD_put_self .., fun j hj => Tab.getD_put_ne _ hj _ _⟩
  case commit =>
    intro good hcomes hlen hflag hzero hrestart hmine hruns
    have hcommit := Device.updCommit_of_mine good hlen hflag hzero hmine
    refine ⟨fun hok => ?_, fun hok => ?_⟩
    · have hstays : (d.committed src (bitOf (uAt b 0 1) 0)).boot.restart = false ∨
          (d.committed src (bitOf (uAt b 0 1) 0)).running = true := by
        rcases hruns with h | h
        · left
          change (d.boot.restart || bitOf (uAt b 0 1) 0) = false
          rw [hrestart, h]
          decide
        · exact .inr ((d.committed_running _).trans h)
      exact (Completes.updCmd (exec_updCommit u good s) hcomes (hcommit.trans (Device.commit_of_passing _ hok)) hstays).mono
        fun t ht => ⟨_, ht, rfl, rfl, rfl, rfl, Device.bit_raise_same _ _ (by decide)⟩
    · exact (Completes.updCmd (exec_updCommit u good s) hcomes (hcommit.trans (Device.commit_of_failing _ hok))
        (.inl hrestart)).mono fun t ht => ⟨_, ht, rfl, rfl, rfl⟩
  case abort =>
    rintro hcomes rfl hrestart hmine
    exact (Completes.updCmd (exec_updAbort u s) hcomes (Device.updAbort_of_mine hmine) (.inl hrestart)).mono
      fun t ht => ⟨_, ht, rfl, rfl, Device.bit_raise_same _ _ (by decide)⟩
  case status =>
    rintro hcomes rfl hrestart hholder
    obtain ⟨a, htouch⟩ := d.updTouch_only (src := src)
    obtain ⟨hlen, hnames, hstaged⟩ := Device.updStatusBody_fields hholder
    have hstays : (d.updTouch src).boot.restart = false := by
      rw [htouch]
      exact hrestart
    exact (Completes.updCmd (exec_updStatus u s) hcomes Device.updStatus_empty (.inl hstays)).mono
      fun t ht => ⟨_, _, ht, hlen, hnames, hstaged, by rw [htouch]⟩
  case idle => exact fun hheld => ⟨_, exec_lockIdle s, rfl, Device.lockIdle_leaves hheld⟩

end Sys2Proof.Machine
end

section
/-!
PROOFS. Key slots, the key commands, the tamper events and the RTC (R429 to R447).
-/
namespace Sys2Proof.Machine

/-! ## Slots -/

section
variable (d : Device)

theorem Device.slot_loadSlot_same (n : Nat) (k : KeySlot) : (d.loadSlot n k).slot n = k := d.slot_setSlot_same n k

theorem Device.slot_loadSlot_ne {n m : Nat} (h : m ≠ n) (k : KeySlot) : (d.loadSlot n k).slot m = d.slot m :=
  d.slot_setSlot_ne h k

/-- A key's first slot holds it, a twin's with ENCRYPT (R433). -/
theorem Device.slot_loadKey_same (n : Nat) (k : KeySlot) :
    (d.loadKey n k).slot n = if k.twin then { k with attr := 0 } else k := by
  unfold Device.loadKey
  split
  · rw [Device.slot_loadSlot_ne _ (by omega), Device.slot_loadSlot_same]
  · exact d.slot_loadSlot_same n k

theorem Device.slot_loadKey_ne {n m : Nat} (h : m ≠ n) {k : KeySlot} (hk : k.twin = false) :
    (d.loadKey n k).slot m = d.slot m := by
  rw [Device.loadKey, if_neg (by simp [hk]), Device.slot_loadSlot_ne _ h]

/-- A cleared slot is empty, and so is a twin's partner (R433). -/
theorem Device.slot_clearSlot_same (n : Nat) : (d.clearSlot n).slot n = slotEmpty := by
  unfold Device.clearSlot
  dsimp only
  split
  · rw [Device.slot_setSlot_ne _ (by omega), Device.slot_setSlot_same]
  · exact d.slot_setSlot_same n _

theorem Device.slot_clearSlot_ne {n m : Nat} (h : m ≠ n) (hn : (d.slot n).twin = false) :
    (d.clearSlot n).slot m = d.slot m := by
  rw [Device.clearSlot, if_neg (by simp [hn]), Device.slot_setSlot_ne _ h]

/-- Clearing leaves each slot as it was or empty. -/
theorem Device.slot_clearSlot_cases (n m : Nat) :
    (d.clearSlot n).slot m = d.slot m ∨ (d.clearSlot n).slot m = slotEmpty := by
  have hset : ∀ (e : Device) i, (e.setSlot i slotEmpty).slot m = e.slot m ∨ (e.setSlot i slotEmpty).slot m = slotEmpty :=
    fun e i => by
      by_cases hm : m = i
      · rw [hm]
        exact .inr (e.slot_setSlot_same i _)
      · exact .inl (e.slot_setSlot_ne hm _)
  unfold Device.clearSlot
  dsimp only
  split
  · rcases hset (d.setSlot n slotEmpty) (n / 2 * 2 + (1 - n % 2)) with h | h
    · rw [h]
      exact hset d n
    · exact .inr h
  · exact hset d n

theorem Device.clearSlot_gens (n : Nat) : (d.clearSlot n).keys.gens = d.keys.gens := by
  unfold Device.clearSlot
  dsimp only
  split <;> rfl

/-- A key put into a slot (R436). -/
theorem Device.slot_placeKey_same (n : Nat) {k : KeySlot} (h : k.twin = true → k.attr = 0) :
    (d.placeKey n k).slot n = k := by
  rw [Device.placeKey, Device.slot_loadKey_same]
  split
  · rw [← h ‹_›]
  · rfl

theorem Device.slot_placeKey_ne {n m : Nat} (h : m ≠ n) {k : KeySlot} (hk : k.twin = false)
    (hn : (d.slot n).twin = false) : (d.placeKey n k).slot m = d.slot m := by
  rw [Device.placeKey, Device.slot_loadKey_ne _ h hk, Device.slot_clearSlot_ne _ h hn]

end

/-- A twin's blob has attribute ENCRYPT (R433). -/
theorem keyShapeOk_twin {n fl attr alg own : Nat} (h : keyShapeOk n fl attr alg own = true) (htwin : fl = 1) : attr = 0 := by
  simp only [keyShapeOk, htwin, Bool.and_eq_true, Bool.or_eq_true, decide_eq_true_eq] at h
  omega

/-! ## Commands that put a key into a slot, or take it out -/

section
variable {c : Cmd} {d : Device}

theorem uAt_one_lt (b : Bytes) (k : Nat) : uAt b k 1 < 256 := by
  rw [uAt, sliceB]
  cases b.drop k with
  | nil => decide
  | cons x t =>
    have hx : x.toNat < 256 := x.isLt
    simpa [leNat] using hx

/-- The key that a blob loads (R430, R436). -/
def blobKey (c : Cmd) (gen : Nat) : KeySlot :=
  ⟨1, uAt (c.body.drop 4) 3 1, uAt (c.body.drop 4) 6 1, uAt (c.body.drop 4) 8 1, uAt c.body 1 1 = 1,
    uAt (c.body.drop 4) 2 1, gen, uAt (c.body.drop 4) 7 1⟩

/-- KEY_LOAD of a blob whose fixed checks pass turns on its tag (R436). -/
theorem Device.keyLoad_of_checked (tagOk : Bool) (hslot : uAt c.body 0 1 < 128) (hflags : uAt c.body 1 1 < 2)
    (hzero : uAt c.body 2 2 = 0) (hmay : d.maySlot c.part (uAt c.body 0 1) = true)
    (htwin : uAt c.body 1 1 = 1 → d.maySlot c.part (uAt c.body 0 1 + 1) = true)
    (hblob : blobOk (c.body.drop 4) = true)
    (hshape : keyShapeOk (uAt c.body 0 1) (uAt c.body 1 1) (uAt (c.body.drop 4) 3 1) (uAt (c.body.drop 4) 6 1)
      (uAt (c.body.drop 4) 7 1) = true)
    (hparent : d.mayParent c.part (uAt (c.body.drop 4) 2 1) = true)
    (hloaded : d.parentLoaded (uAt (c.body.drop 4) 2 1) = true)
    (hgen : uAt (c.body.drop 4) 4 2 = d.gen (uAt (c.body.drop 4) 2 1)) :
    d.keyLoad tagOk c = if tagOk then
        (d.placeKey (uAt c.body 0 1) (blobKey c (d.gen (uAt (c.body.drop 4) 2 1)))).answer c stDone (leBytes 1 0)
      else d.answer c stRejected (leBytes 1 4) := by
  have hhead : ¬ (128 ≤ uAt c.body 0 1 ∨ 2 ≤ uAt c.body 1 1 ∨ uAt c.body 2 2 ≠ 0) := by omega
  unfold Device.keyLoad
  dsimp only
  rw [if_neg hhead, if_neg (by simpa [hmay] using htwin), if_neg (by simp [hblob, hshape]), if_neg (by simp [hparent]),
    if_neg (by simp [hloaded]), if_neg (by simp [hgen])]
  cases tagOk <;> rfl

/-- The blob of a key that the device made (R430). -/
def keyBlob (c : Cmd) (gen : Nat) (rnd : Bytes) : Bytes :=
  leBytes 1 0xD1 ++ leBytes 1 1 ++ leBytes 1 (uAt c.body 2 1) ++ leBytes 1 (uAt c.body 3 1) ++ leBytes 2 gen ++
    leBytes 1 (uAt c.body 4 1) ++ leBytes 1 (uAt c.body 5 1) ++ leBytes 1 c.part ++ zeros 7 ++ rnd.take 60 ++ zeros 4 ++
    rnd.drop 60

theorem keyBlob_length (c : Cmd) (gen : Nat) {rnd : Bytes} (h : rnd.length = 76) : (keyBlob c gen rnd).length = 96 := by
  simp [keyBlob, h]

/-- A made key's blob names its parent, attribute and algorithm (R430). -/
theorem keyBlob_fields (c : Cmd) (gen : Nat) (rnd : Bytes) : uAt (keyBlob c gen rnd) 2 1 = uAt c.body 2 1 ∧
    uAt (keyBlob c gen rnd) 3 1 = uAt c.body 3 1 ∧ uAt (keyBlob c gen rnd) 6 1 = uAt c.body 4 1 := by
  have hlt := uAt_one_lt c.body
  simp only [keyBlob, List.append_assoc]
  refine ⟨?_, ?_, ?_⟩
  · rw [uAt_append_right (k := 1) (by rfl), uAt_append_right (k := 0) (by rfl), uAt_leBytes_append]
    exact Nat.mod_eq_of_lt (hlt 2)
  · rw [uAt_append_right (k := 2) (by rfl), uAt_append_right (k := 1) (by rfl), uAt_append_right (k := 0) (by rfl), uAt_leBytes_append]
    exact Nat.mod_eq_of_lt (hlt 3)
  · rw [uAt_append_right (k := 5) (by rfl), uAt_append_right (k := 4) (by rfl), uAt_append_right (k := 3) (by rfl),
      uAt_append_right (k := 2) (by rfl), uAt_append_right (k := 0) (by rfl), uAt_leBytes_append]
    exact Nat.mod_eq_of_lt (hlt 4)

/-- The key that KEY_GENERATE and KEY_IMPORT make (R435). -/
def madeKey (c : Cmd) (gen : Nat) : KeySlot :=
  ⟨1, uAt c.body 3 1, uAt c.body 4 1, c.part, uAt c.body 1 1 = 1, uAt c.body 2 1, gen, uAt c.body 5 1⟩

/-- The device with a made key in its slot and, for a WRAP key, in its register (R429, R435). -/
def Device.keyMade (c : Cmd) (d : Device) : Device :=
  let e := (d.drawBytes 76).2.placeKey (uAt c.body 0 1) (madeKey c (d.gen (uAt c.body 2 1)))
  if uAt c.body 5 1 = 0xFF then e
  else { e with keys := { e.keys with regs := Tab.put e.keys.regs (uAt c.body 5 1) ⟨uAt c.body 2 1, 1 + c.part⟩ } }

theorem Device.keyMake_of_checked (hslot : uAt c.body 0 1 < 128) (hzero : uAt c.body 6 2 = 0)
    (hpar : uAt c.body 2 1 < 64)
    (hshape : keyShapeOk (uAt c.body 0 1) (uAt c.body 1 1) (uAt c.body 3 1) (uAt c.body 4 1) (uAt c.body 5 1) = true)
    (hmay : d.maySlot c.part (uAt c.body 0 1) = true)
    (htwin : uAt c.body 1 1 = 1 → d.maySlot c.part (uAt c.body 0 1 + 1) = true)
    (hparent : d.mayParent c.part (uAt c.body 2 1) = true) (hloaded : d.parentLoaded (uAt c.body 2 1) = true)
    (hfree : uAt c.body 5 1 = 0xFF ∨ Tab.find d.keys.regs (uAt c.body 5 1) = none) :
    d.keyMake c = (d.keyMade c).answer c stDone (keyBlob c (d.gen (uAt c.body 2 1)) (d.drawBytes 76).1) := by
  have hhead : ¬ (128 ≤ uAt c.body 0 1 ∨ uAt c.body 6 2 ≠ 0 ∨ 64 ≤ uAt c.body 2 1 ∨
      ¬ keyShapeOk (uAt c.body 0 1) (uAt c.body 1 1) (uAt c.body 3 1) (uAt c.body 4 1) (uAt c.body 5 1) = true) := by
    rintro (h | h | h | h)
    · omega
    · exact h hzero
    · omega
    · exact h hshape
  have hreg : ¬ (uAt c.body 5 1 ≠ 0xFF ∧ (Tab.find d.keys.regs (uAt c.body 5 1)).isSome = true) := by
    rintro ⟨hown, hsome⟩
    rw [hfree.resolve_left hown] at hsome
    cases hsome
  unfold Device.keyMake
  dsimp only
  rw [if_neg hhead, if_neg (by simpa [hmay] using htwin), if_neg (by simp [hparent]), if_neg (by simp [hloaded]),
    if_neg hreg]
  rfl

theorem Device.keyMade_leaves
    (hshape : keyShapeOk (uAt c.body 0 1) (uAt c.body 1 1) (uAt c.body 3 1) (uAt c.body 4 1) (uAt c.body 5 1) = true) :
    (d.keyMade c).slot (uAt c.body 0 1) = madeKey c (d.gen (uAt c.body 2 1)) ∧
      (uAt c.body 5 1 ≠ 0xFF → (Tab.find (d.keyMade c).keys.regs (uAt c.body 5 1)).isSome = true) := by
  have htwin : (madeKey c (d.gen (uAt c.body 2 1))).twin = true → (madeKey c (d.gen (uAt c.body 2 1))).attr = 0 :=
    fun h => keyShapeOk_twin hshape (of_decide_eq_true h)
  have hslot := (d.drawBytes 76).2.slot_placeKey_same (uAt c.body 0 1) htwin
  unfold Device.keyMade
  dsimp only
  split
  · exact ⟨hslot, fun h => absurd ‹_› h⟩
  · refine ⟨hslot, fun _ => ?_⟩
    rw [Tab.find_put_self]
    rfl

/-- KEY_UNLOAD of a slot that its sender may clear (R435). -/
theorem Device.keyUnload_of_may (hslot : uAt c.body 0 1 < 128) (hzero : uAt c.body 1 3 = 0)
    (hmay : d.maySlot c.part (uAt c.body 0 1) = true) : d.keyUnload c =
      if (d.slot (uAt c.body 0 1)).st = 0 then d.answer c stNotFound []
      else (d.clearSlot (uAt c.body 0 1)).answer c stDone [] := by
  have hhead : ¬ (128 ≤ uAt c.body 0 1 ∨ uAt c.body 1 3 ≠ 0) := by omega
  unfold Device.keyUnload
  dsimp only
  rw [if_neg hhead, if_neg (by simp [hmay])]

end

/-! ## Invalidation (R438) -/

/-- An invalidation reaches its parent once: a round adds only registers that it has not yet reached. -/
theorem count_cascade (regs : Tab ParentReg) (n : Nat) {k : Nat} {l : List Nat} (h : k ∈ l) :
    (cascade regs n l).count k = l.count k := by
  induction n generalizing l with
  | zero => rfl
  | succ n ih =>
    have hnew : k ∉ (regs.filter fun e => l.contains e.2.parent && !l.contains e.1).map (·.1) := by
      simp only [List.mem_map, List.mem_filter, Bool.and_eq_true]
      rintro ⟨e, ⟨-, -, hnot⟩, rfl⟩
      simp [h] at hnot
    rw [cascade, ih (List.mem_append_left _ h), List.count_append, List.count_eq_zero.mpr hnew, Nat.add_zero]

/-- Each parent's generation rises once for each time that it is listed (R438). -/
theorem getD_raised (l : List Nat) (t : Tab Nat) (k : Nat) :
    Tab.getD (l.foldl (fun t x => Tab.put t x (Tab.getD t x 0 + 1)) t) k 0 = Tab.getD t k 0 + l.count k := by
  induction l generalizing t with
  | nil => rfl
  | cons x l ih =>
    rw [List.foldl_cons, ih]
    by_cases hx : k = x
    · subst hx
      rw [Tab.getD_put_self, List.count_cons_self]
      omega
    · rw [Tab.getD_put_ne _ hx, List.count_cons_of_ne (Ne.symm hx)]

section
variable (d : Device)

/-- The device with the generations of an invalidated parent raised and the registers under it free (R438). -/
def Device.raised (k : Nat) : Device :=
  let reached := cascade d.keys.regs 56 [k]
  { d with keys := { d.keys with
      gens := reached.foldl (fun t x => Tab.put t x (Tab.getD t x 0 + 1)) d.keys.gens
      regs := Tab.keep d.keys.regs fun x _ => x = k || !reached.contains x } }

theorem Device.raised_gen (k : Nat) : (d.raised k).gen k = d.gen k + 1 := by
  rw [Device.gen, Device.raised, getD_raised, count_cascade _ _ (List.mem_singleton_self k), List.count_singleton_self]
  rfl

/-- KEY_INVALIDATE of a parent that its sender may name, while no generation is at its top (R438). -/
theorem Device.keyInvalidate_of_may {c : Cmd} (hparent : uAt c.body 0 1 < 64) (hzero : uAt c.body 1 3 = 0)
    (hmay : d.mayParent c.part (uAt c.body 0 1) = true) (hroom : ∀ k, d.gen k < 0xFFFF) : d.keyInvalidate c =
      ((d.raised (uAt c.body 0 1)).sweepSlots (cascade d.keys.regs 56 [uAt c.body 0 1])).answer c stDone
        (leBytes 2 (d.gen (uAt c.body 0 1) + 1)) := by
  have hhead : ¬ (64 ≤ uAt c.body 0 1 ∨ uAt c.body 1 3 ≠ 0) := by omega
  have htop : ¬ ((cascade d.keys.regs 56 [uAt c.body 0 1]).any fun x => d.gen x = 0xFFFF) = true := by
    simp only [List.any_eq_true, decide_eq_true_eq, not_exists, not_and]
    exact fun x _ h => absurd (hroom x) (by omega)
  rw [← d.raised_gen]
  unfold Device.keyInvalidate
  dsimp only
  rw [if_neg hhead, if_neg (by simp [hmay]), if_neg htop]
  rfl

/-- The slots that a sweep clears (R438). -/
def Device.oldSlots (reached : List Nat) : List Nat :=
  (d.keys.slots.filter fun e => e.2.st ≠ 0 ∧ reached.contains e.2.parent ∧ e.2.gen < d.gen e.2.parent).map (·.1)

theorem Device.sweepSlots_eq (reached : List Nat) :
    d.sweepSlots reached = (d.forEach (d.oldSlots reached) fun s e => e.clearSlot s).raise KEY_INT_STAT 2 := rfl

theorem Device.sweepSlots_bit (reached : List Nat) : (d.sweepSlots reached).bit KEY_INT_STAT 2 = true := by
  rw [Device.sweepSlots_eq]
  exact Device.bit_raise_same _ _ (by decide)

theorem Device.sweepSlots_gens (reached : List Nat) : (d.sweepSlots reached).keys.gens = d.keys.gens :=
  Device.forEach_keeps (fun e => e.keys.gens) (fun s e => e.clearSlot s) (fun n e => e.clearSlot_gens n) _ d

/-- A sweep leaves each slot as it was or empty, and the old ones empty (R438). -/
theorem Device.slot_sweepSlots (reached : List Nat) (m : Nat) :
    ((d.sweepSlots reached).slot m = d.slot m ∧ m ∉ d.oldSlots reached) ∨ (d.sweepSlots reached).slot m = slotEmpty := by
  rw [Device.sweepSlots_eq]
  change ((d.forEach (d.oldSlots reached) fun s e => e.clearSlot s).slot m = d.slot m ∧ _) ∨
    (d.forEach (d.oldSlots reached) fun s e => e.clearSlot s).slot m = slotEmpty
  generalize d.oldSlots reached = l
  have hempty : ∀ (l : List Nat) (e : Device), e.slot m = slotEmpty →
      (e.forEach l fun s e => e.clearSlot s).slot m = slotEmpty := fun l e he =>
    Device.forEach_invariant (fun e => e.slot m = slotEmpty) (fun s e => e.clearSlot s)
      (fun n _ e he => (e.slot_clearSlot_cases n m).elim (·.trans he) id) he
  induction l generalizing d with
  | nil => exact .inl ⟨rfl, List.not_mem_nil⟩
  | cons n l ih =>
    by_cases hm : m = n
    · exact .inr (hempty l _ (hm ▸ d.slot_clearSlot_same n))
    · rcases d.slot_clearSlot_cases n m with h | h
      · rcases ih (d.clearSlot n) with ⟨hkept, hnot⟩ | hcleared
        · exact .inl ⟨hkept.trans h, fun h => (List.mem_cons.mp h).elim hm hnot⟩
        · exact .inr hcleared
      · exact .inr (hempty l _ h)

/-- A slot that a sweep leaves loaded was not recorded under an older generation of a parent reached (R438). -/
theorem Device.sweepSlots_young {reached : List Nat} {k m : Nat} (hk : k ∈ reached)
    (hst : ((d.sweepSlots reached).slot m).st ≠ 0) (hpar : ((d.sweepSlots reached).slot m).parent = k) :
    d.gen k ≤ ((d.sweepSlots reached).slot m).gen := by
  subst hpar
  rcases d.slot_sweepSlots reached m with ⟨hkept, hnot⟩ | hempty
  · rw [hkept] at hst hk ⊢
    by_contra hlt
    refine hnot (List.mem_map_of_mem (f := (·.1)) (a := (m, d.slot m)) (List.mem_filter.mpr ⟨?_, ?_⟩))
    · cases hfind : Tab.find d.keys.slots m with
      | none => exact absurd (by rw [Device.slot, Tab.getD, hfind]; rfl) hst
      | some k =>
        have hk : d.slot m = k := by rw [Device.slot, Tab.getD, hfind]; rfl
        rw [hk]
        exact Tab.mem_of_find hfind
    · simpa [hst, hk] using hlt
  · rw [hempty] at hst
    exact absurd rfl hst

theorem mem_cascade_self (regs : Tab ParentReg) (n k : Nat) : k ∈ cascade regs n [k] := by
  rw [← List.count_pos_iff, count_cascade _ _ (List.mem_singleton_self k), List.count_singleton_self]
  exact Nat.one_pos

end

/-! ## Status -/

theorem uAt_one {b : Bytes} {k : Nat} (h : k < b.length) : uAt b k 1 = b[k].toNat := by
  rw [uAt, sliceB, List.drop_eq_getElem_cons h]
  exact Nat.add_zero _

/-- The bytes that KEY_STATUS answers a partition (R435). -/
def Device.keyStatusBody (d : Device) (p : Nat) : Bytes :=
  (List.range 128).map fun s =>
    BitVec.ofNat 8 (if (d.slot s).st ≠ 0 ∧ (d.slot s).owner = p then keySlotWord (d.slot s) % 256 else 0)

theorem Device.keyStatusBody_length (d : Device) (p : Nat) : (d.keyStatusBody p).length = 128 := by
  simp [Device.keyStatusBody]

theorem Device.keyStatusBody_other {d : Device} {p k : Nat} (hk : k < 128) (h : (d.slot k).owner ≠ p) :
    uAt (d.keyStatusBody p) k 1 = 0 := by
  rw [uAt_one (by rwa [Device.keyStatusBody_length])]
  simp [Device.keyStatusBody, h]

/-! ## Tamper events -/

/-- A loop of which one listed step alone acts is that step. -/
theorem Device.forEach_single {α : Type} {f : α → Device → Device} {a : α} {l : List α} (hl : l.Nodup) (ha : a ∈ l)
    (hf : ∀ b, b ≠ a → ∀ e, f b e = e) (d : Device) : d.forEach l f = f a d := by
  have hrest : ∀ (l : List α), a ∉ l → ∀ e : Device, e.forEach l f = e := fun l hnot e =>
    Device.forEach_invariant (· = e) f (fun b hb y hy => (hf b (fun h => hnot (h ▸ hb)) y).trans hy) rfl
  induction l generalizing d with
  | nil => cases ha
  | cons b l ih =>
    obtain ⟨hnot, hnodup⟩ := List.nodup_cons.mp hl
    by_cases hb : b = a
    · subst hb
      exact hrest l hnot (f b d)
    · exact (ih hnodup ((List.mem_cons.mp ha).resolve_left (Ne.symm hb)) (f b d)).trans (by rw [hf b hb])

/-- One source that fires and is armed has its response alone (R440, R442). -/
theorem Device.tamperEvent_of_armed {d : Device} {src : Nat} (detail active : Nat) (op vin : Bool) (hsrc : src < 11)
    (harmed : d.armed src = true) : d.tamperEvent [(src, detail)] active op vin =
      ({ d with tmp := { d.tmp with active := active % 2 ^ 11 } } : Device).tamper src (detail % 256) op vin := by
  have hother : ∀ b, b ≠ src → ∀ e : Device,
      (match [(src, detail)].find? fun f => f.1 = b with
        | some f => if e.armed b then e.tamper b (f.2 % 256) op vin else e
        | none => e) = e := fun b hb e => by
    simp [List.find?, Ne.symm hb]
  refine (Device.forEach_single List.nodup_range (List.mem_range.mpr hsrc) hother _).trans ?_
  simp only [List.find?, decide_true]
  exact if_pos harmed

/-! ## The commands -/

theorem exec_keyLoad (h : HostPkt) (tagOk : Bool) (s : State) : exec (.keyLoad h tagOk) s = .next { s with
    dev := s.dev.hostCmd 0x0900 h (withLen 100 (keyCmd true (Device.keyLoad tagOk))) } := rfl

theorem exec_keyUnload (h : HostPkt) (s : State) : exec (.keyUnload h) s = .next { s with
    dev := s.dev.hostCmd 0x0901 h (withLen 4 (keyCmd true Device.keyUnload)) } := rfl

theorem exec_keyGenerate (h : HostPkt) (s : State) : exec (.keyGenerate h) s = .next { s with
    dev := s.dev.hostCmd 0x0902 h (withLen 8 (keyCmd true Device.keyMake)) } := rfl

theorem exec_keyImport (h : HostPkt) (s : State) : exec (.keyImport h) s = .next { s with
    dev := s.dev.hostCmd 0x0903 h (withLen 56 (keyCmd true Device.keyMake)) } := rfl

theorem exec_keyInvalidate (h : HostPkt) (s : State) : exec (.keyInvalidate h) s = .next { s with
    dev := s.dev.hostCmd 0x0904 h (withLen 4 (keyCmd true Device.keyInvalidate)) } := rfl

theorem exec_keyStatus (h : HostPkt) (s : State) : exec (.keyStatus h) s = .next { s with
    dev := s.dev.hostCmd 0x0905 h (withLen 0 (keyCmd false Device.keyStatus)) } := rfl

theorem exec_clearAll (s : State) : exec .clearAll s = .next { s with dev := s.dev.clearSlots } := rfl

theorem exec_tamperEvent (fired : List (Nat × Nat)) (active : Nat) (op vin : Bool) (s : State) :
    exec (.tamperEvent fired active op vin) s = .next { s with dev := s.dev.tamperEvent fired active op vin } := rfl

theorem exec_rtcSet (secs : Nat) (s : State) : exec (.rtcSet secs) s = .next { s with dev := s.dev.setRtc secs } := rfl

section
variable {s : State} {cmd : Instr} {code n : Nat} {h : HostPkt} {right : Bool} {f : Cmd → Device → Device} {c : Cmd}
  {e : Device}

/-- A key command that the device takes is done where the device is keyed and its right is held (R435). -/
theorem Completes.of_keyCmd (hexec : exec cmd s = .next { s with dev := s.dev.hostCmd code h (withLen n (keyCmd right f)) })
    (htakes : s.dev.takes code h = some (c, e)) (hlen : c.body.length = n) (hkeyed : e.keyed = true)
    (hright : right = true → e.right c.part rPlan = true) : Completes cmd s (· = f c e) := by
  refine ⟨_, hexec, rfl, (s.dev.hostCmd_takes e code h c _ htakes).trans ((if_pos hlen).trans ?_)⟩
  have hmay : ¬ (right = true ∧ ¬ e.right c.part rPlan = true) := fun h => h.2 (hright h.1)
  exact (if_neg (not_not_intro hkeyed)).trans (if_neg hmay)

/-- Without a root key, in the cinder state and without the right a key command is DENIED (R426, R435, R444). -/
theorem Completes.of_keyCmd_denied
    (hexec : exec cmd s = .next { s with dev := s.dev.hostCmd code h (withLen n (keyCmd right f)) })
    (htakes : s.dev.takes code h = some (c, e)) (hlen : c.body.length = n)
    (hbars : e.keyed = false ∨ right = true ∧ e.right c.part rPlan = false) : Claims.OnlyAnswers cmd s c e stDenied [] := by
  refine ⟨_, hexec, rfl, (s.dev.hostCmd_takes e code h c _ htakes).trans ((if_pos hlen).trans ?_)⟩
  unfold Machine.keyCmd
  split
  · rfl
  · refine if_pos ?_
    rcases hbars with hbar | ⟨hright, hnone⟩
    · simp_all
    · exact ⟨hright, by simp [hnone]⟩

end

/-- Settles O44: each command is its operation on the slots, the parents and the tamper log behind one arrival. -/
theorem keyCommandsChangeTheSlots : Obligations.KeyCommandsChangeTheSlots := by
  unfold Obligations.KeyCommandsChangeTheSlots
  refine fun s h c e => ⟨?denied, fun hkeyed hright => ⟨?load, ?make, ?unload, ?invalidate⟩, ?status, ?clear, ?tamper, ?rtc⟩
  case denied =>
    rintro code cmd hcmd htakes hbars
    have hplan : code ≠ 0x0905 → e.keyed = false ∨ true = true ∧ e.right c.part rPlan = false :=
      fun _ => hbars.imp_right fun h => ⟨rfl, h.1⟩
    rcases hcmd with ⟨rfl, ⟨ok, rfl⟩, hlen⟩ | ⟨rfl, rfl, hlen⟩ | ⟨rfl, rfl, hlen⟩ | ⟨rfl, rfl, hlen⟩ | ⟨rfl, rfl, hlen⟩ |
      ⟨rfl, rfl, hlen⟩
    · exact Completes.of_keyCmd_denied (exec_keyLoad h ok s) htakes hlen (hplan (by decide))
    · exact Completes.of_keyCmd_denied (exec_keyUnload h s) htakes hlen (hplan (by decide))
    · exact Completes.of_keyCmd_denied (exec_keyGenerate h s) htakes hlen (hplan (by decide))
    · exact Completes.of_keyCmd_denied (exec_keyImport h s) htakes hlen (hplan (by decide))
    · exact Completes.of_keyCmd_denied (exec_keyInvalidate h s) htakes hlen (hplan (by decide))
    · exact Completes.of_keyCmd_denied (exec_keyStatus h s) htakes hlen (hbars.imp_right fun h => absurd rfl h.2)
  case load =>
    intro htakes hlen b hslot hflags hzero hmay htwin hblob hshape hparent hloaded hgen
    have hload := fun tagOk =>
      Device.keyLoad_of_checked tagOk hslot hflags hzero hmay htwin hblob hshape hparent hloaded hgen
    have hdone := fun tagOk => Completes.of_keyCmd (exec_keyLoad h tagOk s) htakes hlen hkeyed fun _ => hright
    have hgood := hdone true
    have hbad := hdone false
    rw [hload, if_pos rfl] at hgood
    rw [hload, if_neg Bool.false_ne_true] at hbad
    refine ⟨hgood.mono fun t ht => ⟨_, ht, ?_⟩, hbad⟩
    have hkey : ∀ gen, (blobKey c gen).twin = true → (blobKey c gen).attr = 0 := fun gen h =>
      keyShapeOk_twin hshape (of_decide_eq_true h)
    dsimp only
    rw [Device.slot_placeKey_same _ _ (hkey _)]
    refine ⟨rfl, rfl, rfl, rfl, fun hsingle hnot m hm => Device.slot_placeKey_ne _ hm (decide_eq_false ?_) hnot⟩
    omega
  case make =>
    intro code cmd hcmd htakes hslot hzero hpar hshape hmay htwin hparent hloaded hfree
    have hmake := Device.keyMake_of_checked hslot hzero hpar hshape hmay htwin hparent hloaded hfree
    obtain ⟨hkey, hreg⟩ := Device.keyMade_leaves (d := e) hshape
    obtain ⟨hnames, hattr, halg⟩ := keyBlob_fields c (e.gen (uAt c.body 2 1)) (e.drawBytes 76).1
    have hblob := keyBlob_length c (e.gen (uAt c.body 2 1)) (rnd := (e.drawBytes 76).1) (by simp [Device.drawBytes])
    have hdone : Completes cmd s (· = e.keyMake c) := by
      rcases hcmd with ⟨rfl, rfl, hlen⟩ | ⟨rfl, rfl, hlen⟩
      · exact Completes.of_keyCmd (exec_keyGenerate h s) htakes hlen hkeyed fun _ => hright
      · exact Completes.of_keyCmd (exec_keyImport h s) htakes hlen hkeyed fun _ => hright
    refine hdone.mono fun t ht => ⟨_, _, ht.trans hmake, hblob, hnames, hattr, halg, ?_, ?_, ?_, hreg⟩
    all_goals
      rw [hkey]
      rfl
  case unload =>
    intro htakes hlen hslot hzero hmay
    have hdone := Completes.of_keyCmd (exec_keyUnload h s) htakes hlen hkeyed fun _ => hright
    rw [Device.keyUnload_of_may hslot hzero hmay] at hdone
    refine ⟨fun hst => ?_, fun hst => ?_⟩
    · rw [if_neg hst] at hdone
      exact hdone.mono fun t ht => ⟨_, ht, e.slot_clearSlot_same _⟩
    · rwa [if_pos hst] at hdone
  case invalidate =>
    intro htakes hlen hparent hzero hmay hroom
    have hdone := Completes.of_keyCmd (exec_keyInvalidate h s) htakes hlen hkeyed fun _ => hright
    rw [Device.keyInvalidate_of_may e hparent hzero hmay hroom] at hdone
    have hgen := e.raised_gen (uAt c.body 0 1)
    refine hdone.mono fun t ht => ⟨_, ht, ?_, Device.sweepSlots_bit _ _, fun m hst hpar => ?_⟩
    · rw [Device.gen, Device.sweepSlots_gens]
      exact hgen
    · have hyoung := Device.sweepSlots_young _ (mem_cascade_self _ _ _) hst hpar
      rw [hgen] at hyoung
      exact hyoung
  case status =>
    intro hkeyed htakes hempty
    have hdone := Completes.of_keyCmd (exec_keyStatus h s) htakes (by rw [hempty]; rfl) hkeyed nofun
    exact hdone.mono fun t ht => ⟨e.keyStatusBody c.part, ht, e.keyStatusBody_length _,
      fun k hk hother => Device.keyStatusBody_other hk hother⟩
  case clear => exact ⟨_, exec_clearAll s, rfl, rfl⟩
  case tamper =>
    intro src detail active op hsrc harmed
    refine ⟨_, exec_tamperEvent _ _ _ _ s, rfl, ?_⟩
    dsimp only
    rw [Device.tamperEvent_of_armed detail active op true hsrc harmed]
    exact Device.tamper_leaves _ src (detail % 256) op
  case rtc =>
    refine fun secs => ⟨_, exec_rtcSet secs s, rfl, rfl, rfl, ?_⟩
    have hzero : (s.dev.setRtc secs).upNs - (s.dev.setRtc secs).tmp.rtcUp = 0 := Nat.sub_self _
    dsimp only
    rw [Device.rtcNow, hzero]
    simp [Device.setRtc]

end Sys2Proof.Machine
end

section
/-!
PROOFS. Metering records: what writing records leaves of the metering block, and the sequence that it counts (R417 to
R422).
-/
namespace Sys2Proof.Machine

/-! ## Registers that the use of a key leaves -/

section
variable (d : Device) {x : Reg}

theorem Device.transient_rd {r : Reg} (b c u : Nat) (ctx : Bytes) (always : Bool) (hr : x ≠ r) (herr : x.blk ≠ .err) :
    (d.transient (some r) b c u ctx always).rd x = d.rd x := by
  have hcount : ((d.count r).count ERR_TRANSIENT).rd x = d.rd x := by
    rw [Device.rd_count_ne _ (Reg.ne_of_blk herr), Device.rd_count_ne _ hr]
  unfold Device.transient Device.doIf
  dsimp only
  split
  · rw [Device.slag_rd _ _ _ _ _ _ herr, hcount]
  · exact hcount

theorem Device.lasting_rd {r : Reg} (b c u : Nat) (ctx : Bytes) (fenced : Bool) (hr : x ≠ r) (herr : x.blk ≠ .err) :
    (d.lasting (some r) b c u ctx fenced).rd x = d.rd x := by
  unfold Device.lasting
  dsimp only
  rw [Device.slag_rd _ _ _ _ _ _ herr, Device.rd_raise_ne _ _ (Reg.ne_of_blk herr),
    Device.rd_count_ne _ (Reg.ne_of_blk herr), Device.rd_count_ne _ hr]

/-- A quarantine writes registers of KEY and of ERR alone (R434). -/
theorem Device.quarantine_rd (s : Nat) (hkey : x.blk ≠ .key) (herr : x.blk ≠ .err) : (d.quarantine s).rd x = d.rd x := by
  unfold Device.quarantine
  extract_lets _ one _ both
  have hboth : both.regs = d.regs := by
    unfold both
    split <;> rfl
  rw [Device.lasting_rd _ _ _ _ _ _ (Reg.ne_of_blk hkey) herr, Device.rd_raise_ne _ _ (Reg.ne_of_blk hkey),
    Device.rd_of_regs_eq hboth]

/-- The use of a key writes registers of KEY and of ERR alone (R431, R434). -/
theorem Device.useKey_rd (s attr tag : Nat) (hkey : x.blk ≠ .key) (herr : x.blk ≠ .err) :
    (d.useKey s attr tag).2.rd x = d.rd x := by
  unfold Device.useKey
  dsimp only
  split
  · rfl
  split
  · rfl
  split
  · rfl
  split
  · exact (Device.slag_rd _ _ _ _ _ _ herr).trans (Device.rd_raise_ne _ _ (Reg.ne_of_blk hkey))
  split
  · rfl
  split
  · exact (Device.transient_rd _ _ _ _ _ _ (Reg.ne_of_blk hkey) herr).trans (Device.rd_raise_ne _ _ (Reg.ne_of_blk hkey))
  · exact d.quarantine_rd s hkey herr

end

/-! ## Records -/

/-- The metering block and the sequence of the last record. -/
def Device.meterView (d : Device) : Meter × Nat := (d.mtr, d.rdN MTR_SEQ)

theorem Device.meterView_of_eq {d e : Device} (hmtr : e.mtr = d.mtr) (hrd : e.rd MTR_SEQ = d.rd MTR_SEQ) :
    e.meterView = d.meterView := by
  rw [Device.meterView, Device.meterView, hmtr, Device.rdN_of_rd_eq hrd]

section
variable (d : Device)

theorem Device.meterView_raiseIf (b : Bool) (i : Nat) : (d.raiseIf b MTR_INT_STAT i).meterView = d.meterView :=
  Device.meterView_of_eq (by cases b <;> rfl) (d.rd_raiseIf_ne b i (by decide))

theorem Device.memPut_meterView (a : Nat) (w : Bytes) : (d.memPut a w).meterView = d.meterView := by
  unfold Device.memPut
  dsimp only
  repeat' split
  all_goals rfl

theorem Device.memWrite_meterView (a : Nat) (w : Bytes) (bad : Bool) : (d.memWrite a w bad).meterView = d.meterView :=
  Device.memWrite_keeps Device.meterView Device.memPut_meterView (fun _ _ _ _ => rfl) d a w bad

theorem Device.hwPush_meterView (n : Nat) (b : Bytes) : (d.hwPush n b).meterView = d.meterView := by
  obtain ⟨r, q, h⟩ := d.hwPush_only n b
  exact Device.meterView_of_eq (by rw [h]) (Device.hwPush_rd d n (by decide) b)

theorem Device.useKey_meterView (s attr tag : Nat) : (d.useKey s attr tag).2.meterView = d.meterView := by
  obtain ⟨r, l, k, h⟩ := d.useKey_only s attr tag
  exact Device.meterView_of_eq (by rw [h]) (d.useKey_rd s attr tag (by decide) (by decide))

/-- A record takes the next sequence, and leaves the metering block (R418, R420). -/
theorem Device.meterRecord_meterView (flags tag : Nat) (mk : Nat → Nat → Bytes) :
    (d.meterRecord flags tag mk).meterView = (d.mtr, (d.rdN MTR_SEQ + 1) % 2 ^ 32) := by
  unfold Device.meterRecord
  extract_lets seq counted
  have hcounted : counted.meterView = (d.mtr, (d.rdN MTR_SEQ + 1) % 2 ^ 32) := by
    refine Prod.ext rfl ((d.rdN_wrN_same MTR_SEQ seq).trans (Nat.mod_mod _ _))
  have hused := counted.useKey_meterView 10 0 tag
  clear_value counted
  generalize counted.useKey 10 0 tag = used at hused
  obtain ⟨st, used⟩ := used
  dsimp only at hused ⊢
  have hdrawn : ∀ e : Device, (if st = stDone then e.drawBytes 64 else (zeros 64, e)).2.meterView = e.meterView := by
    intro e
    split <;> rfl
  have hpush : ∀ (p : Nat) (e : Device) (b : Bytes),
      (if e.right p rMeter then e.hwPush (16 * p + 5) b else e).meterView = e.meterView := fun p e b => by
    split
    · exact e.hwPush_meterView _ _
    · rfl
  rw [Device.forEach_keeps Device.meterView _ (fun p e => hpush p e _), Device.memWrite_meterView, hdrawn,
    Device.meterView_raiseIf, hused, hcounted]

theorem Device.meterRecord_mtr (flags tag : Nat) (mk : Nat → Nat → Bytes) : (d.meterRecord flags tag mk).mtr = d.mtr :=
  congrArg Prod.fst (d.meterRecord_meterView flags tag mk)

theorem Device.meterRecord_seq (flags tag : Nat) (mk : Nat → Nat → Bytes) :
    (d.meterRecord flags tag mk).rdN MTR_SEQ = (d.rdN MTR_SEQ + 1) % 2 ^ 32 :=
  congrArg Prod.snd (d.meterRecord_meterView flags tag mk)

theorem Device.setFeed_rdN (f : Nat) (v : MeterFeed) (x : Reg) : (d.setFeed f v).rdN x = d.rdN x := rfl

theorem Device.setFeed_feeds (f : Nat) (v : MeterFeed) : (d.setFeed f v).mtr.feeds = Tab.put d.mtr.feeds f v := rfl

end

/-! ## Loops over the feeds -/

section
variable {α : Type} (f : α → Device → Device) (d : Device)

/-- A loop of which each step writes one record counts its steps in the sequence (R418). -/
theorem Device.forEach_seq (hf : ∀ a e, (f a e).rdN MTR_SEQ = (e.rdN MTR_SEQ + 1) % 2 ^ 32) (l : List α) :
    (d.forEach l f).rdN MTR_SEQ = (d.rdN MTR_SEQ + l.length) % 2 ^ 32 := by
  induction l generalizing d with
  | nil => exact (Nat.mod_eq_of_lt (d.rd MTR_SEQ).isLt).symm
  | cons a l ih =>
    refine (ih (f a d)).trans ?_
    rw [hf, Nat.mod_add_mod, List.length_cons, Nat.add_assoc, Nat.add_comm 1]

/-- A loop of which each step changes one feed, each its own, changes the feeds that it names once. -/
theorem Device.forEach_feed (key : α → Nat) (g : MeterFeed → MeterFeed)
    (hf : ∀ a e, (f a e).mtr.feeds = Tab.put e.mtr.feeds (key a) (g (e.feed (key a)))) {l : List α}
    (hl : (l.map key).Nodup) {k : Nat} (hk : k ∈ l.map key) : (d.forEach l f).feed k = g (d.feed k) := by
  have hother : ∀ a e, k ≠ key a → (f a e).feed k = e.feed k := fun a e h => by
    rw [Device.feed, hf, Tab.getD_put_ne _ h, Device.feed]
  induction l generalizing d with
  | nil => cases hk
  | cons a l ih =>
    obtain ⟨hnot, hnodup⟩ := List.nodup_cons.mp hl
    by_cases ha : k = key a
    · refine Device.forEach_invariant (fun e => e.feed k = g (d.feed k)) f (l := l) (fun b hb e he => ?_) ?_
      · exact (hother b e fun h => hnot (ha ▸ h ▸ List.mem_map_of_mem hb)).trans he
      · rw [Device.feed, hf, ha, Tab.getD_put_self]
    · have hstep := hother a d ha
      exact (ih (f a d) hnodup ((List.mem_cons.mp hk).resolve_left ha)).trans (by rw [hstep])

end

theorem Device.feedsOn_nodup (d : Device) : d.feedsOn.Nodup := List.nodup_range.filter _

theorem Device.feedsOn_length_le (d : Device) : d.feedsOn.length ≤ 8 :=
  (List.length_filter_le _ _).trans List.length_range.le

/-- The feeds of a loop over the enabled feeds and their places. -/
theorem Device.feedsOn_zip (d : Device) : (List.zip d.feedsOn (List.range 8)).map Prod.fst = d.feedsOn :=
  List.map_fst_zip (by rw [List.length_range]; exact d.feedsOn_length_le)

theorem Device.feedsOn_zip_length (d : Device) : (List.zip d.feedsOn (List.range 8)).length = d.feedsOn.length := by
  conv_rhs => rw [← d.feedsOn_zip, List.length_map]

/-! ## The close of an interval -/

/-- A feed as a close leaves it (R417). -/
def MeterFeed.atClose (v : MeterFeed) : MeterFeed := { v with closed := v.total, reversals := 0, switches := 0, flags := 0 }

/-- The close of one feed: its record, and its fresh interval (R417, R418). -/
def Device.closeFeed (t span common : Nat) (tags : List Nat) (fi : Nat × Nat) (x : Device) : Device :=
  let v := x.feed fi.1
  let flags := Nat.lor (Nat.lor v.flags common) (b2n (v.reversals ≠ 0))
  (x.meterRecord flags (tags.getD fi.2 0) (intervalBytes fi.1 t span v)).setFeed fi.1 v.atClose

section
variable (d : Device) (t span common : Nat) (tags : List Nat)

theorem Device.closeFeed_seq (fi : Nat × Nat) :
    (d.closeFeed t span common tags fi).rdN MTR_SEQ = (d.rdN MTR_SEQ + 1) % 2 ^ 32 := by
  unfold Device.closeFeed
  dsimp only
  rw [Device.setFeed_rdN, Device.meterRecord_seq]

theorem Device.closeFeed_feeds (fi : Nat × Nat) :
    (d.closeFeed t span common tags fi).mtr.feeds = Tab.put d.mtr.feeds fi.1 (d.feed fi.1).atClose := by
  unfold Device.closeFeed
  dsimp only
  rw [Device.setFeed_feeds, Device.meterRecord_mtr]

/-- The closes of the enabled feeds. -/
def Device.closeFeeds : Device :=
  d.forEach (List.zip d.feedsOn (List.range 8)) fun fi x => x.closeFeed t span common tags fi

theorem Device.closeFeeds_seq :
    (d.closeFeeds t span common tags).rdN MTR_SEQ = (d.rdN MTR_SEQ + d.feedsOn.length) % 2 ^ 32 := by
  rw [← d.feedsOn_zip_length]
  exact d.forEach_seq _ (fun fi e => e.closeFeed_seq t span common tags fi) _

theorem Device.closeFeeds_feed {k : Nat} (hk : k ∈ d.feedsOn) :
    (d.closeFeeds t span common tags).feed k = (d.feed k).atClose := by
  rw [← d.feedsOn_zip] at hk
  exact d.forEach_feed _ Prod.fst MeterFeed.atClose (fun fi e => e.closeFeed_feeds t span common tags fi)
    (by rw [d.feedsOn_zip]; exact d.feedsOn_nodup) hk

/-- What INTERVAL_CLOSE does while metering runs with TB6 valid (R417, R418, R421). -/
theorem Device.intervalClose_of_runs {d : Device} (hvalid : d.baseValid 6 = true) (hon : d.mtr.on = true)
    (hrun : d.bit MTR_CTRL 0 = true) : ∃ x span common len align part,
      let at_ := closeFrom d.mtr.len d.mtr.align (Nat.max (d.mtr.lastClose.getD 0 + 1) d.tb6Sec)
      let e := ({ d with tim := x } : Device).closeFeeds at_ span common tags
      d.intervalClose tags = (({ e with mtr := { e.mtr with
        lastClose := some at_, len := len, align := align, partial_ := part } } : Device).meterSave).raise MTR_INT_STAT 0 := by
  generalize hat : closeFrom d.mtr.len d.mtr.align (Nat.max (d.mtr.lastClose.getD 0 + 1) d.tb6Sec) = at_
  obtain ⟨x, hx⟩ := d.advanceTo_only (d.tb0 + (at_ * 1000000000 - d.tb6Ns))
  have hclose : d.intervalClose tags = _ := if_neg (by simp [hvalid, hon, hrun])
  dsimp only at hclose
  rw [hat, Device.advanceTb6, hx] at hclose
  exact ⟨x, _, _, _, _, _, hclose⟩

/-- A close is aligned (R417). -/
theorem closeFrom_aligned (len : Nat) (align : Int) (a : Nat) :
    ((closeFrom len align a : Int) + align) % (60 * (if len = 0 then 1 else len) : Nat) = 0 := by
  have hpos : 0 < 60 * (if len = 0 then 1 else len) := by split <;> omega
  unfold closeFrom
  extract_lets l r
  change 0 < l at hpos
  change _ % (l : Int) = 0
  clear_value l
  have hr : ((a : Int) + align) % (l : Int) = r := (Int.toNat_of_nonneg (Int.emod_nonneg _ (by omega))).symm
  have hlt : ((a : Int) + align) % (l : Int) < l := Int.emod_lt_of_pos _ (by omega)
  have hdiv := Int.emod_add_mul_ediv ((a : Int) + align) l
  split
  · omega
  · rw [show ((a + (l - r) : Nat) : Int) + align = l * (((a : Int) + align) / l + 1) by rw [mul_add, mul_one]; omega]
    exact Int.mul_emod_right _ _

end

/-! ## The power summary -/

/-- A feed as a summary leaves it: a second starts (R423). -/
def MeterFeed.atSummary (v : MeterFeed) : MeterFeed :=
  { v with count := 0, phases := v.phases.map fun p => { p with sum := 0 } }

theorem MeterFeed.total_atSummary (v : MeterFeed) : v.atSummary.total = v.total := List.foldl_map ..

/-- The mean power of a phase over the second, W (R423). -/
def Device.meanPower (e : Device) (f i : Nat) : Int :=
  let x := e.feed f
  if x.count = 0 then 0 else roundDiv (x.phases.getD i phaseZero).sum (x.count * 1000000)

/-- The bytes of a feed in a summary (R423). -/
def Device.summaryBody (d : Device) (f : Nat) : Bytes :=
  let x := d.feed f
  let nl := (List.range 3).foldl (fun a i => a + b2n (x.phases.getD i phaseZero).noLoad * 2 ^ (1 + i)) 0
  let cf := (List.range 3).foldl (fun a i => a + b2n (d.phaseFault f i) * 2 ^ (4 + i)) 0
  leBytes 1 f ++ leBytes 1 (b2n x.fine + nl + cf) ++ zeros 2 ++
    ((List.range 3).map fun i => leBytes 4 (ofSigned 32 (d.meanPower f i))).flatten

theorem Device.summaryBody_length (d : Device) (f : Nat) : (d.summaryBody f).length = 16 := by
  have hwords : ((List.range 3).map fun i => leBytes 4 (ofSigned 32 (d.meanPower f i))).flatten.length = 12 := by
    simp [List.length_flatten, Function.comp_def]
  simp [Device.summaryBody, hwords]

/-- The packet of a summary (R423). -/
def Device.summaryPacket (d : Device) (t : Nat) : Bytes :=
  leBytes 1 0xB2 ++ leBytes 1 d.feedsOn.length ++ zeros 2 ++ leBytes 4 t ++ (d.feedsOn.map d.summaryBody).flatten

theorem Device.summaryPacket_fields (d : Device) (t : Nat) :
    (d.summaryPacket t).length = 8 + 16 * d.feedsOn.length ∧ uAt (d.summaryPacket t) 0 1 = 0xB2 ∧
      uAt (d.summaryPacket t) 1 1 = d.feedsOn.length := by
  have hle := d.feedsOn_length_le
  unfold Device.summaryPacket
  refine ⟨?_, ?_, ?_⟩
  · have hbodies : (d.feedsOn.map d.summaryBody).flatten.length = 16 * d.feedsOn.length := by
      simp [List.length_flatten, Device.summaryBody_length, Function.comp_def, Nat.mul_comm]
    simp [hbodies]
    omega
  · simp only [List.append_assoc]
    exact uAt_leBytes_append _ _ _
  · simp only [List.append_assoc]
    rw [uAt_append_right (k := 0) (by simp), uAt_leBytes_append]
    omega

/-- The step of a summary at one feed: its power registers, and the fresh second (R423). -/
def Device.summaryStep (f : Nat) (x : Device) : Device :=
  (x.forEach [0, 1, 2] fun i z => z.wrN (MTR_P1S f i) (ofSigned 32 (x.meanPower f i))).setFeed f (x.feed f).atSummary

/-- What POWER_SUMMARY does while metering runs with TB6 valid (R423). -/
theorem Device.powerSummary_of_runs {d : Device} (hvalid : d.baseValid 6 = true) (hon : d.mtr.on = true)
    (hrun : d.bit MTR_CTRL 0 = true) : ∃ tim,
      let t := Nat.max (d.mtr.lastSum + 1) d.tb6Sec
      let a : Device := { d with tim := tim }
      let e := a.forEach d.feedsOn Device.summaryStep
      let x : Device := { e with mtr := { e.mtr with lastSum := t } }
      d.powerSummary =
        (x.hwPush 69 (a.summaryPacket t)).raiseIf (!x.canPush 69 (a.summaryPacket t)) MTR_INT_STAT 5 := by
  generalize ht : Nat.max (d.mtr.lastSum + 1) d.tb6Sec = t
  obtain ⟨x, hx⟩ := d.advanceTo_only (d.tb0 + (t * 1000000000 - d.tb6Ns))
  have hsum : d.powerSummary = _ := if_neg (by simp [hvalid, hon, hrun])
  dsimp only at hsum
  rw [ht, Device.advanceTb6, hx] at hsum
  exact ⟨x, hsum⟩

/-! ## The start of metering -/

/-- A feed as a start leaves it: its energies stay (R422). -/
def MeterFeed.atStart (x : MeterFeed) : MeterFeed :=
  { x with
    fine := false, blank := 0, due := none, low := 0, irms := [], count := 0, flags := setBits x.flags 3 1 1
    phases := x.phases.map fun p => { p with window := [], sum := 0, noLoad := false } }

theorem MeterFeed.total_atStart (x : MeterFeed) : x.atStart.total = x.total := List.foldl_map ..

section
variable (d : Device) (tags : List Nat)

/-- The feeds that a start continues from (R422). -/
def Device.keptFeeds (vbat flash : Bool) : Tab MeterFeed :=
  if vbat then d.mtr.feeds else if flash then (d.mtr.saved.getD (0, [])).2 else []

/-- A start is its fresh feeds and the GAP records that TB6 lets it write (R422). -/
theorem Device.meteringStart_eq (vbat flash : Bool) : ∃ last bounded len align close,
    d.meteringStart vbat flash tags = ({ d with mtr := { d.mtr with
      on := true, faults := [], gap := some (d.upNs, last, vbat, bounded), retained := vbat
      feeds := (List.range 8).map fun f => (f, (Tab.getD (d.keptFeeds vbat flash) f feedZero).atStart)
      len := len, align := align, lastClose := close } } : Device).gapRecords tags := by
  unfold Device.meteringStart Device.keptFeeds
  cases vbat with
  | true => exact ⟨_, _, _, _, _, rfl⟩
  | false =>
    cases flash with
    | false => exact ⟨_, _, _, _, _, rfl⟩
    | true => cases hsaved : d.mtr.saved <;> exact ⟨_, _, _, _, _, rfl⟩

theorem Device.gapRecords_of_invalid {g : Nat × Nat × Bool × Bool} (hgap : d.mtr.gap = some g)
    (hvalid : d.baseValid 6 = false) : d.gapRecords tags = d := by
  obtain ⟨startUp, lastSave, kept, bounded⟩ := g
  unfold Device.gapRecords
  rw [hgap]
  exact if_pos (by simp [hvalid])

/-- With TB6 valid every enabled feed has its GAP record, and the gap is closed (R422). -/
theorem Device.gapRecords_of_valid {g : Nat × Nat × Bool × Bool} (hgap : d.mtr.gap = some g)
    (hvalid : d.baseValid 6 = true) : ∃ (e : Device) (close : Option Nat) (part : Bool),
      e.meterView = (d.mtr, (d.rdN MTR_SEQ + d.feedsOn.length) % 2 ^ 32) ∧ d.gapRecords tags =
        ({ e with mtr := { e.mtr with gap := none, lastClose := close, partial_ := part } } : Device).raise MTR_INT_STAT 1 := by
  obtain ⟨startUp, lastSave, kept, bounded⟩ := g
  unfold Device.gapRecords
  rw [hgap]
  refine ⟨_, _, _, Prod.ext ?_ ?_, if_neg (by simp [hvalid])⟩
  · exact Device.forEach_keeps Device.mtr _ (fun fi e => e.meterRecord_mtr _ _ _) _ d
  · rw [← d.feedsOn_zip_length]
    exact d.forEach_seq _ (fun fi e => e.meterRecord_seq _ _ _) _

end

end Sys2Proof.Machine
end

section
/-!
PROOFS. Metering samples (R412 to R416) and the meter commands (R408, R421 to R424).
-/
namespace Sys2Proof.Machine

/-! ## Places of a list of accumulators -/

@[simp] theorem length_addAt (l : List Nat) (k v : Nat) : (addAt l k v).length = l.length := List.length_set

theorem getD_addAt (l : List Nat) {k : Nat} (v j : Nat) (hk : k < l.length) :
    (addAt l k v).getD j 0 = l.getD j 0 + if j = k then v else 0 := by
  rw [addAt, List.getD_eq_getElem?_getD, List.getElem?_set, List.getD_eq_getElem?_getD, List.getD_eq_getElem?_getD]
  by_cases hj : j = k
  · subst hj
    simp [hk]
  · simp [hj, Ne.symm hj]

theorem addAt_zero (l : List Nat) (k : Nat) : addAt l k 0 = l := by
  rw [addAt, Nat.add_zero, List.getD_eq_getElem?_getD]
  by_cases hk : k < l.length
  · simp [hk]
  · exact List.set_eq_of_length_le (by omega)

/-! ## A sample of a phase -/

section
variable (x : MeterPhase) (p q : Int) (s limit : Nat) (hold : Bool)

/-- The places that a sample's energies are added to, by the signs of P and Q (R412). -/
theorem phaseSample_acc : (phaseSample x p q s false limit hold).1.acc =
    addAt (addAt (addAt x.acc (if 0 ≤ p then 0 else 1) (sampleEnergy p.natAbs)) (quadrant p q) (sampleEnergy q.natAbs))
      (if 0 ≤ p then 6 else 7) (sampleEnergy s) := by
  simp [phaseSample]

/-- A sample without power adds nothing. -/
theorem phaseSample_acc_zero : (phaseSample x 0 0 0 false limit hold).1.acc = x.acc := by
  rw [phaseSample_acc]
  simp only [show sampleEnergy (Int.natAbs 0) = 0 from rfl, show sampleEnergy 0 = 0 from rfl, addAt_zero]

/-- What a sample adds to the accumulator of a place (R412). -/
def sampleAt (p q : Int) (s k : Nat) : Nat :=
  (if k = (if 0 ≤ p then 0 else 1) then sampleEnergy p.natAbs else 0) +
    (if k = quadrant p q then sampleEnergy q.natAbs else 0) + (if k = (if 0 ≤ p then 6 else 7) then sampleEnergy s else 0)

theorem getD_phaseSample_acc (hlen : x.acc.length = 8) (k : Nat) :
    (phaseSample x p q s false limit hold).1.acc.getD k 0 = x.acc.getD k 0 + sampleAt p q s k := by
  have hquad : quadrant p q < 8 := by
    unfold quadrant
    split <;> split <;> decide
  rw [phaseSample_acc, getD_addAt, getD_addAt, getD_addAt, sampleAt, Nat.add_assoc, Nat.add_assoc, Nat.add_assoc]
  · split <;> omega
  · rwa [length_addAt, hlen]
  · rw [length_addAt, length_addAt, hlen]
    split <;> decide

variable {p q}

/-- Imported energies go to places 0 and 6, and to the quadrants 2 and 5 (R412). -/
theorem sampleAt_import (hp : 0 ≤ p) : sampleAt p q s 0 = sampleEnergy p.natAbs ∧ sampleAt p q s 1 = 0 ∧
    sampleAt p q s 6 = sampleEnergy s ∧ sampleAt p q s 7 = 0 ∧
    (0 ≤ q → sampleAt p q s 2 = sampleEnergy q.natAbs ∧ sampleAt p q s 5 = 0) ∧
    (q < 0 → sampleAt p q s 5 = sampleEnergy q.natAbs ∧ sampleAt p q s 2 = 0) := by
  unfold sampleAt quadrant
  rcases lt_or_ge q 0 with hq | hq
  · simp [hp, hq, hq.not_ge]
  · simp [hp, hq]

/-- Exported energies go to places 1 and 7, and to the quadrants 3 and 4 (R412). -/
theorem sampleAt_export (hp : p < 0) : sampleAt p q s 1 = sampleEnergy p.natAbs ∧ sampleAt p q s 0 = 0 ∧
    sampleAt p q s 7 = sampleEnergy s ∧ sampleAt p q s 6 = 0 ∧
    (0 ≤ q → sampleAt p q s 3 = sampleEnergy q.natAbs ∧ sampleAt p q s 4 = 0) ∧
    (q < 0 → sampleAt p q s 4 = sampleEnergy q.natAbs ∧ sampleAt p q s 3 = 0) := by
  unfold sampleAt quadrant
  rcases lt_or_ge q 0 with hq | hq
  · simp [hp.not_ge, hq, hq.not_ge]
  · simp [hp.not_ge, hq]

end

/-! ## A sample of a feed -/

section
variable (d : Device) (f : Nat)

/-- The range logic leaves the phases, the count and the flags (R416). -/
theorem Device.rangeLogic_keeps (x : MeterFeed) (irms peak : Nat) :
    (d.rangeLogic f x irms peak).phases = x.phases ∧ (d.rangeLogic f x irms peak).count = x.count ∧
      (d.rangeLogic f x irms peak).flags = x.flags := by
  unfold Device.rangeLogic
  extract_lets
  split
  · exact ⟨rfl, rfl, rfl⟩
  split
  · exact ⟨rfl, rfl, rfl⟩
  split <;> exact ⟨rfl, rfl, rfl⟩

/-- What a sample makes of a phase of a feed (R412). -/
def Device.sampledPhase (ph : List MeterSample) (i : Nat) : MeterPhase × Bool :=
  let y := (d.feed f).phases.getD i phaseZero
  let blank := decide (0 < (d.feed f).blank)
  let v := d.phaseIn f i y (ph.getD i ⟨0, 0, 0, 0, 0⟩) blank
  phaseSample y v.1 v.2.1 v.2.2 (d.bit (MTR_FEED_CFG f) 4) (d.fld (MTR_FEED_CFG f) 8 8 * d.rdN (MTR_FEED_NOM f) * 100) blank

/-- A sample of a metered feed: its phases, its count and its flags (R412 to R416). -/
theorem Device.meterSample_of_metered (ph : List MeterSample) (h : d.metered f = true) :
    ∃ x rtc, d.meterSample f ph = { d with mtr := { d.mtr with feeds := Tab.put d.mtr.feeds f x, lastRtc := rtc } } ∧
      x.phases = ((List.range 3).map (d.sampledPhase f ph)).map (·.1) ∧ x.count = (d.feed f).count + 1 ∧
      ((List.range 3).any (fun i => d.phaseFault f i) = true → bitOf x.flags 8 = true) := by
  have hsample : d.meterSample f ph = _ := if_neg (by simp [h])
  dsimp only at hsample
  refine ⟨_, _, hsample, ?_⟩
  have hkeeps := fun (x : MeterFeed) i p => d.rangeLogic_keeps f x i p
  refine ⟨(hkeeps _ _ _).1, (hkeeps _ _ _).2.1, fun hfault => ?_⟩
  rw [(hkeeps _ _ _).2.2]
  exact (congrArg (bitOf · 8) (if_pos hfault)).trans (bitOf_setBits_one _ 8)

theorem getD_map_range_three {α : Type} (g : Nat → MeterPhase × α) {i : Nat} (hi : i < 3) (v : MeterPhase) :
    (((List.range 3).map g).map (·.1)).getD i v = (g i).1 := by
  simp [List.getD_eq_getElem?_getD, hi]

/-- A sample of a metered feed as its phases, its count and its flags, and the other feeds, read after it. -/
theorem Device.feed_meterSample (ph : List MeterSample) (h : d.metered f = true) :
    (∀ i v, i < 3 → ((d.meterSample f ph).feed f).phases.getD i v = (d.sampledPhase f ph i).1) ∧
      ((d.meterSample f ph).feed f).count = (d.feed f).count + 1 ∧
      (∀ i, i < 3 → d.phaseFault f i = true → bitOf ((d.meterSample f ph).feed f).flags 8 = true) ∧
      ∀ k, k ≠ f → (d.meterSample f ph).feed k = d.feed k := by
  obtain ⟨x, rtc, hsample, hphases, hcount, hflags⟩ := d.meterSample_of_metered f ph h
  have hown : (d.meterSample f ph).feed f = x := by
    rw [hsample]
    exact Tab.getD_put_self _ _ _ _
  rw [hown, hphases]
  refine ⟨fun i v hi => getD_map_range_three _ hi v, hcount, fun i hi hfault => hflags ?_, fun k hk => ?_⟩
  · exact List.any_eq_true.mpr ⟨i, List.mem_range.mpr hi, hfault⟩
  · rw [hsample]
    exact Tab.getD_put_ne _ hk _ _

end

/-! ## Faulted inputs and ranges -/

section
variable (d : Device)

theorem Device.chFault_of_held {n : Nat} (level : Bool) (hn : n < 36) (hon : d.mtr.on = true)
    (hnew : d.mtr.faults.contains n = false) : d.chFault n level true =
      (({ d with mtr := { d.mtr with faults := n :: d.mtr.faults } } : Device).raise MTR_INT_STAT 3).slagB .mtr 0x0101 n
        (leBytes 1 (b2n level)) := by
  refine (if_neg (by simp [hon]; omega)).trans ((if_pos rfl).trans (if_neg ?_))
  rw [hnew]
  exact Bool.false_ne_true

theorem Device.chFault_of_toggled {n : Nat} (level : Bool) (hn : n < 36) (hon : d.mtr.on = true) :
    d.chFault n level false = { d with mtr := { d.mtr with faults := d.mtr.faults.filter (· ≠ n) } } :=
  (if_neg (by simp [hon]; omega)).trans (if_neg Bool.false_ne_true)

/-- A feed as a range switch leaves it (R416). -/
def MeterFeed.switched (x : MeterFeed) (fine : Bool) : MeterFeed :=
  { x with
    fine := fine, blank := 32, due := none, low := 0, switches := x.switches + 1, flags := setBits x.flags 4 1 1 }

theorem Device.rangeSwitch_of_wanted {f : Nat} {b : Bool} (hmetered : d.metered f = true)
    (hwant : d.bit (MTR_FEED_CFG f) 3 = true ∧ (d.feed f).due = some b ∨
      d.bit (MTR_FEED_CFG f) 3 = false ∧ (d.feed f).fine ≠ b ∧ d.bit (MTR_FEED_CFG f) 5 = b)
    (hblank : b = true → (d.feed f).blank = 0) : d.rangeSwitch f =
      ((d.setFeed f ((d.feed f).switched b)).raise MTR_INT_STAT 4).setPin (pinRange f) (b2n b) := by
  have hwanted : (if d.bit (MTR_FEED_CFG f) 3 then (d.feed f).due
      else if (d.feed f).fine = d.bit (MTR_FEED_CFG f) 5 then none else some (d.bit (MTR_FEED_CFG f) 5)) = some b := by
    rcases hwant with ⟨hauto, hdue⟩ | ⟨hauto, hne, hcfg⟩
    · rw [if_pos hauto, hdue]
    · rw [if_neg (by simp [hauto]), hcfg, if_neg hne]
  unfold Device.rangeSwitch
  dsimp only
  rw [hwanted]
  refine if_neg ?_
  rintro (hnot | ⟨hfine, hpos⟩)
  · exact hnot hmetered
  · exact absurd (hblank hfine) (by omega)

theorem Device.rangeSwitch_leaves (f : Nat) (b : Bool) :
    let t := ((d.setFeed f ((d.feed f).switched b)).raise MTR_INT_STAT 4).setPin (pinRange f) (b2n b)
    t.feed f = (d.feed f).switched b ∧ t.bit MTR_INT_STAT 4 = true ∧ t.pin (pinRange f) = b2n b := by
  have hbit := (d.setFeed f ((d.feed f).switched b)).bit_raise_same MTR_INT_STAT (i := 4) (by decide)
  have hfeed : ((d.setFeed f ((d.feed f).switched b)).raise MTR_INT_STAT 4).feed f = (d.feed f).switched b :=
    Tab.getD_put_self _ _ _ _
  generalize (d.setFeed f ((d.feed f).switched b)).raise MTR_INT_STAT 4 = e at hbit hfeed
  obtain ⟨q, l, hpin⟩ := e.setPin_only (pinRange f) (b2n b)
  refine ⟨?_, ?_, e.pin_setPin_same _ _⟩
  · rw [hpin]
    exact hfeed
  · rw [hpin]
    exact hbit

/-! ## Saves -/

theorem Device.meterSave_rd {x : Reg} (hx : x ≠ MTR_SAVE_S) : d.meterSave.rd x = d.rd x := by
  unfold Device.meterSave
  rw [Device.rd_wrN_ne _ _ hx]
  rfl

theorem Device.meterSave_time : d.meterSave.rdN MTR_SAVE_S = d.tb6Sec % 2 ^ 32 := by
  unfold Device.meterSave
  exact Device.rdN_wrN_same _ _ _

/-- The end of a close: the save, and its interrupt (R421). -/
theorem Device.saved_leaves : (d.meterSave.raise MTR_INT_STAT 0).rdN MTR_SEQ = d.rdN MTR_SEQ ∧
    (d.meterSave.raise MTR_INT_STAT 0).bit MTR_INT_STAT 0 = true ∧
    (d.meterSave.raise MTR_INT_STAT 0).mtr = { d.mtr with saved := some (d.tb6Sec, d.mtr.feeds) } := by
  refine ⟨Device.rdN_of_rd_eq ?_, Device.bit_raise_same _ _ (by decide), rfl⟩
  rw [Device.rd_raise_ne _ _ (by decide), Device.meterSave_rd _ (by decide)]

/-- What INTERVAL_CLOSE leaves while metering runs with TB6 valid (R417, R418, R421). -/
theorem Device.intervalClose_leaves {d : Device} (tags : List Nat) (hvalid : d.baseValid 6 = true) (hon : d.mtr.on = true)
    (hrun : d.bit MTR_CTRL 0 = true) :
    let t := d.intervalClose tags
    t.mtr.lastClose = some (closeFrom d.mtr.len d.mtr.align (Nat.max (d.mtr.lastClose.getD 0 + 1) d.tb6Sec)) ∧
      t.rdN MTR_SEQ = (d.rdN MTR_SEQ + d.feedsOn.length) % 2 ^ 32 ∧ t.bit MTR_INT_STAT 0 = true ∧
      (∀ k ∈ d.feedsOn, t.feed k = (d.feed k).atClose) ∧ ∃ at', t.mtr.saved = some (at', t.mtr.feeds) := by
  obtain ⟨tim, span, common, len, align, part, hclose⟩ := Device.intervalClose_of_runs tags hvalid hon hrun
  generalize closeFrom d.mtr.len d.mtr.align (Nat.max (d.mtr.lastClose.getD 0 + 1) d.tb6Sec) = at_ at hclose
  have hseq := ({ d with tim := tim } : Device).closeFeeds_seq at_ span common tags
  have hfeed := fun k => ({ d with tim := tim } : Device).closeFeeds_feed at_ span common tags (k := k)
  dsimp only at hclose
  rw [hclose]
  generalize ({ d with tim := tim } : Device).closeFeeds at_ span common tags = a at hseq hfeed
  obtain ⟨hseq', hbit, hmtr⟩ := ({ a with mtr := { a.mtr with
    lastClose := some at_, len := len, align := align, partial_ := part } } : Device).saved_leaves
  exact ⟨congrArg Meter.lastClose hmtr, hseq'.trans hseq, hbit,
    fun k hk => (congrArg (fun m : Meter => Tab.getD m.feeds k feedZero) hmtr).trans (hfeed k hk), _, rfl⟩

end

/-! ## The summary -/

/-- The steps of a summary start a second at each feed that they name (R423). -/
theorem Device.summarySteps_feed (d : Device) {k : Nat} (hk : k ∈ d.feedsOn) :
    (d.forEach d.feedsOn Device.summaryStep).feed k = (d.feed k).atSummary := by
  have hstep : ∀ f (e : Device), (Device.summaryStep f e).mtr.feeds = Tab.put e.mtr.feeds f (e.feed f).atSummary :=
    fun f e => rfl
  refine Device.forEach_feed Device.summaryStep d id MeterFeed.atSummary hstep ?_ ?_
  · rw [List.map_id]
    exact d.feedsOn_nodup
  · rwa [List.map_id]

/-! ## The start -/

/-- A table of a function's values holds the value of each key that it lists. -/
theorem Tab.find_map_of_mem {α : Type} (g : Nat → α) {l : List Nat} {k : Nat} (hk : k ∈ l) :
    Tab.find (l.map fun i => (i, g i)) k = some (g k) := by
  induction l with
  | nil => cases hk
  | cons i l ih =>
    rw [List.map_cons, Tab.find]
    split
    · next h => rw [h]
    · next h => exact ih ((List.mem_cons.mp hk).resolve_left h)

/-- What a start leaves (R422). -/
theorem Device.meteringStart_leaves (d : Device) (vbat flash : Bool) (tags : List Nat) :
    let t := d.meteringStart vbat flash tags
    t.mtr.on = true ∧ t.mtr.faults = [] ∧ t.mtr.retained = vbat ∧
      t.mtr.feeds = ((List.range 8).map fun f => (f, (Tab.getD (d.keptFeeds vbat flash) f feedZero).atStart)) ∧
      (d.baseValid 6 = false → t.mtr.gap.isSome = true ∧ t.regs = d.regs) ∧
      (d.baseValid 6 = true → t.mtr.gap = none ∧ t.bit MTR_INT_STAT 1 = true ∧
        t.rdN MTR_SEQ = (d.rdN MTR_SEQ + d.feedsOn.length) % 2 ^ 32) := by
  obtain ⟨last, bounded, len, align, close, hstart⟩ := d.meteringStart_eq tags vbat flash
  rw [hstart]
  generalize hbegun : ({ d with mtr := _ } : Device) = a
  cases hvalid : d.baseValid 6 with
  | false =>
    rw [a.gapRecords_of_invalid tags (g := (d.upNs, last, vbat, bounded)) (by rw [← hbegun]) (by rw [← hbegun]; exact hvalid),
      ← hbegun]
    exact ⟨rfl, rfl, rfl, rfl, fun _ => ⟨rfl, rfl⟩, nofun⟩
  | true =>
    obtain ⟨e, close', part, hview, hgap⟩ := a.gapRecords_of_valid tags (g := (d.upNs, last, vbat, bounded))
      (by rw [← hbegun]) (by rw [← hbegun]; exact hvalid)
    obtain ⟨hmtr, hseq⟩ := Prod.ext_iff.mp hview
    rw [hgap]
    have hbit := ({ e with mtr := { e.mtr with gap := none, lastClose := close', partial_ := part } } : Device).bit_raise_same
      MTR_INT_STAT (i := 1) (by decide)
    have hseq' : e.rdN MTR_SEQ = (d.rdN MTR_SEQ + d.feedsOn.length) % 2 ^ 32 := hseq.trans (by rw [← hbegun]; rfl)
    have hmtr' : e.mtr = a.mtr := hmtr
    refine ⟨?_, ?_, ?_, ?_, nofun, fun _ => ⟨rfl, hbit, ?_⟩⟩
    · exact (congrArg Meter.on hmtr').trans (by rw [← hbegun])
    · exact (congrArg Meter.faults hmtr').trans (by rw [← hbegun])
    · exact (congrArg Meter.retained hmtr').trans (by rw [← hbegun])
    · exact (congrArg Meter.feeds hmtr').trans (by rw [← hbegun])
    · rw [Device.rdN_of_rd_eq (Device.rd_raise_ne _ _ (by decide)), ← hseq']
      rfl

/-! ## Answers -/

theorem length_padTo (n : Nat) (b : Bytes) : (padTo n b).length = n := by
  rw [padTo, List.length_take, List.length_append, length_zeros]
  omega

/-- The accumulators of METER_NOW (R424). -/
def Device.nowBody (d : Device) (f : Nat) : Bytes :=
  leBytes 4 d.tb6Sec ++ ((List.range 32).map fun i => leBytes 8 (d.mtrAcc f (i / 8) (i % 8))).flatten

theorem Device.nowBody_length (d : Device) (f : Nat) : (d.nowBody f).length = 260 := by
  simp [Device.nowBody, List.length_flatten, Function.comp_def]

/-- A field of the concatenation of parts of one width. -/
theorem uAt_flatten_map {w : Nat} (g : Nat → Nat) {n k : Nat} (hk : k < n) :
    uAt ((List.range n).map fun i => leBytes w (g i)).flatten (w * k) w = g k % 256 ^ w := by
  obtain ⟨m, rfl⟩ : ∃ m, n = k + (m + 1) := ⟨n - k - 1, by omega⟩
  have hlen : ((List.range k).map fun i => leBytes w (g i)).flatten.length + 0 = w * k := by
    simp [List.length_flatten, Function.comp_def, Nat.mul_comm]
  rw [List.range_add, List.map_append, List.flatten_append, uAt_append_right hlen, List.range_succ_eq_map, List.map_cons,
    List.map_cons, List.flatten_cons, uAt_leBytes_append]
  rfl

theorem Device.nowBody_fields (d : Device) (f : Nat) : uAt (d.nowBody f) 0 4 = d.tb6Sec % 2 ^ 32 ∧
    ∀ k, k < 8 → uAt (d.nowBody f) (4 + 64 * 3 + 8 * k) 8 = (d.feed f).total.getD k 0 / 2 ^ 32 % 2 ^ 64 := by
  refine ⟨uAt_leBytes_append _ _ _, fun k hk => ?_⟩
  have hoff : (leBytes 4 d.tb6Sec).length + 8 * (24 + k) = 4 + 64 * 3 + 8 * k := by
    rw [length_leBytes]
    omega
  rw [Device.nowBody, uAt_append_right hoff, uAt_flatten_map _ (by omega), Device.mtrAcc, show (24 + k) / 8 = 3 by omega,
    show (24 + k) % 8 = k by omega, if_pos rfl]
  exact Nat.mod_mod_of_dvd _ (dvd_refl _)

/-! ## The commands -/

section
variable (s : State)

theorem exec_meterSample (f : Nat) (ph : List MeterSample) :
    exec (.meterSample f ph) s = .next { s with dev := s.dev.meterSample f ph } := rfl

theorem exec_chFault (n : Nat) (level held : Bool) :
    exec (.chFault n level held) s = .next { s with dev := s.dev.chFault n level held } := rfl

theorem exec_rangeSwitch (f : Nat) : exec (.rangeSwitch f) s = .next { s with dev := s.dev.rangeSwitch f } := rfl

theorem exec_intervalClose (tags : List Nat) :
    exec (.intervalClose tags) s = .next { s with dev := s.dev.intervalClose tags } := rfl

theorem exec_powerSummary : exec .powerSummary s = .next { s with dev := s.dev.powerSummary } := rfl

theorem exec_meteringStart (vbat flash : Bool) (tags : List Nat) :
    exec (.meteringStart vbat flash tags) s = .next { s with dev := s.dev.meteringStart vbat flash tags } := rfl

theorem exec_meterRead (h : HostPkt) : exec (.meterRead h) s =
    .next { s with dev := s.dev.hostCmd 0x0800 h (withLen 8 (withRight rMeter Device.meterRead)) } := rfl

theorem exec_meterPubkey (h : HostPkt) : exec (.meterPubkey h) s =
    .next { s with dev := s.dev.hostCmd 0x0801 h (withLen 0 (withRight rMeter Device.meterPubkey)) } := rfl

theorem exec_meterNow (h : HostPkt) : exec (.meterNow h) s =
    .next { s with dev := s.dev.hostCmd 0x0802 h (withLen 4 (withRight rMeter Device.meterNow)) } := rfl

theorem exec_pfailN : exec .pfailN s = .next { s with
    dev := if (s.dev.raise PWR_INT_STAT 0).mtr.on then (s.dev.raise PWR_INT_STAT 0).meterSave
      else s.dev.raise PWR_INT_STAT 0 } := rfl

end

/-- A meter command that the device takes from a holder of the meter-read right is done (R424). -/
theorem Completes.of_meterCmd {s : State} {cmd : Instr} {code n : Nat} {h : HostPkt} {f : Cmd → Device → Device} {c : Cmd}
    {e : Device} (hexec : exec cmd s = .next { s with dev := s.dev.hostCmd code h (withLen n (withRight rMeter f)) })
    (htakes : s.dev.takes code h = some (c, e)) (hlen : c.body.length = n) (hright : e.right c.part rMeter = true) :
    Completes cmd s (· = f c e) :=
  ⟨_, hexec, rfl, (s.dev.hostCmd_takes e code h c _ htakes).trans ((if_pos hlen).trans (if_pos hright))⟩

/-- Settles O59: each command is its operation on the feeds, with the records written one by one. -/
theorem meteringFollowsItsCommands : Obligations.MeteringFollowsItsCommands := by
  unfold Obligations.MeteringFollowsItsCommands
  refine fun s e h c f i => ⟨?sample, ?fault, ?switch, ?close, ?summary, ?start, ?read, ?pubkey, ?now, ?pfail⟩
  case sample =>
    intro ph x m
    refine ⟨fun hoff => ⟨_, exec_meterSample s f ph, rfl, if_pos (by simp [hoff])⟩, ?_⟩
    intro hmetered hi hlen hload hblank
    obtain ⟨hphase, hcount, hflags, hother⟩ := s.dev.feed_meterSample f ph hmetered
    have hhold : decide (0 < (s.dev.feed f).blank) = false := decide_eq_false (by omega)
    have hown := hphase i phaseZero hi
    unfold Device.sampledPhase Device.phaseIn at hown
    rw [hload, hhold] at hown
    refine ⟨fun hclean => ⟨_, exec_meterSample s f ph, rfl, ?_⟩, fun hfault => ⟨_, exec_meterSample s f ph, rfl, ?_⟩⟩
    · rw [hclean] at hown
      have hup : ∀ k, (((s.dev.meterSample f ph).feed f).phases.getD i phaseZero).acc.getD k 0 =
          x.acc.getD k 0 + sampleAt m.p m.q m.s k := fun k =>
        (congrArg (fun y : MeterPhase => y.acc.getD k 0) hown).trans (getD_phaseSample_acc x m.p m.q m.s _ _ hlen k)
      simp only [hup, Nat.add_left_cancel_iff]
      exact ⟨sampleAt_import m.s, sampleAt_export m.s, hcount, hother⟩
    · rw [hfault] at hown
      refine ⟨?_, hflags i hi hfault⟩
      exact (congrArg MeterPhase.acc hown).trans (phaseSample_acc_zero _ _ _)
  case fault =>
    intro n level hn hon
    refine ⟨fun hnew => ?_, ⟨_, exec_chFault s n level false, rfl, ?_⟩⟩
    · refine ⟨_, exec_chFault s n level true, rfl, ?_⟩
      dsimp only
      rw [s.dev.chFault_of_held level hn hon hnew]
      have hbit := ({ s.dev with mtr := { s.dev.mtr with faults := n :: s.dev.mtr.faults } } : Device).bit_raise_same
        MTR_INT_STAT (i := 3) (by decide)
      have hfaults : (({ s.dev with mtr := { s.dev.mtr with faults := n :: s.dev.mtr.faults } } : Device).raise
        MTR_INT_STAT 3).mtr.faults = n :: s.dev.mtr.faults := rfl
      generalize ({ s.dev with mtr := { s.dev.mtr with faults := n :: s.dev.mtr.faults } } : Device).raise MTR_INT_STAT 3 = a
        at hbit hfaults
      obtain ⟨r, l, hslag⟩ := a.slag_only (blkNum .mtr) 0x0101 n 0 (leBytes 1 (b2n level))
      refine ⟨?_, (Device.bit_of_rd_eq (a.slag_rd _ _ _ _ _ (by decide)) 3).trans hbit, a.slag_newest _ _ _ _ _⟩
      rw [Device.slagB, hslag]
      exact (congrArg (List.contains · n) hfaults).trans (by simp)
    · dsimp only
      rw [s.dev.chFault_of_toggled level hn hon]
      exact ⟨by simp, rfl⟩
  case switch =>
    intro b hmetered hwant hblank
    refine ⟨_, exec_rangeSwitch s f, rfl, ?_⟩
    obtain ⟨hfeed, hbit, hpin⟩ := s.dev.rangeSwitch_leaves f b
    dsimp only
    rw [s.dev.rangeSwitch_of_wanted hmetered hwant hblank, hfeed]
    exact ⟨rfl, rfl, rfl, rfl, hbit, hpin, rfl⟩
  case close =>
    rintro tags ⟨hvalid, hon, hrun⟩
    obtain ⟨hlast, hseq, hbit, hfeed, hsaved⟩ := Device.intervalClose_leaves tags hvalid hon hrun
    refine ⟨_, exec_intervalClose s tags, rfl, hlast, closeFrom_aligned _ _ _, hseq, hbit, fun k hk => ?_, hsaved⟩
    dsimp only
    rw [hfeed k hk]
    exact ⟨rfl, rfl, rfl, rfl⟩
  case summary =>
    rintro ⟨hvalid, hon, hrun⟩
    obtain ⟨tim, hsum⟩ := Device.powerSummary_of_runs hvalid hon hrun
    have hfeed := fun k => ({ s.dev with tim := tim } : Device).summarySteps_feed (k := k)
    obtain ⟨hlength, htype, hcount⟩ := ({ s.dev with tim := tim } : Device).summaryPacket_fields
      (Nat.max (s.dev.mtr.lastSum + 1) s.dev.tb6Sec)
    refine ⟨_, exec_powerSummary s, rfl, _, _, hsum, hlength, htype, hcount, Nat.le_max_left _ _, fun k hk => ?_⟩
    have hk' := hfeed k hk
    exact ⟨congrArg MeterFeed.count hk', (congrArg MeterFeed.total hk').trans (s.dev.feed k).total_atSummary⟩
  case start =>
    intro vbat flash tags hf
    obtain ⟨hon, hfaults, hretained, hfeeds, hinvalid, hvalid⟩ := s.dev.meteringStart_leaves vbat flash tags
    refine ⟨_, exec_meteringStart s vbat flash tags, rfl, ?_⟩
    have hfeed : (s.dev.meteringStart vbat flash tags).feed f =
        (Tab.getD (s.dev.keptFeeds vbat flash) f feedZero).atStart := by
      rw [Device.feed, hfeeds, Tab.getD, Tab.find_map_of_mem _ (List.mem_range.mpr hf)]
      rfl
    refine ⟨hon, hfaults, hretained, ?_, ?_, hinvalid, hvalid⟩
    · rw [hfeed, MeterFeed.total_atStart]
      rfl
    · rw [hfeed]
      rfl
  case read =>
    intro htakes hlen hright hzero q n hone height
    have hdone := Completes.of_meterCmd (exec_meterRead s h) htakes hlen hright
    have hform : ¬ (uAt c.body 4 1 = 0 ∨ 8 < uAt c.body 4 1 ∨ uAt c.body 5 3 ≠ 0) := by omega
    refine ⟨fun hring => hdone.mono fun t ht => ht.trans ?_, fun hring => hdone.mono fun t ht => ht.trans ?_⟩
    · exact (if_neg hform).trans (if_pos (by simpa using hring))
    · exact (if_neg hform).trans (if_neg (by simpa using hring))
  case pubkey =>
    intro htakes hempty hright
    have hdone := Completes.of_meterCmd (exec_meterPubkey s h) htakes (by rw [hempty]; rfl) hright
    refine ⟨fun hnone => hdone.mono fun t ht => ht.trans (if_pos (by simpa using hnone)), fun hkeyed hkey => ?_⟩
    exact ⟨_, length_padTo 64 _, hdone.mono fun t ht => ht.trans (if_neg (by simp [hkeyed, hkey]))⟩
  case now =>
    intro htakes hlen hright
    have hdone := Completes.of_meterCmd (exec_meterNow s h) htakes hlen hright
    refine ⟨fun hf hzero => ?_, fun hbad => hdone.mono fun t ht => ht.trans (if_pos hbad)⟩
    obtain ⟨htime, haccs⟩ := e.nowBody_fields (uAt c.body 0 1)
    exact ⟨e.nowBody (uAt c.body 0 1), hdone.mono fun t ht => ht.trans (if_neg (by omega)), e.nowBody_length _, htime, haccs⟩
  case pfail =>
    refine ⟨_, exec_pfailN s, rfl, ?_⟩
    have hbit := s.dev.bit_raise_same PWR_INT_STAT (i := 0) (by decide)
    have hon : (s.dev.raise PWR_INT_STAT 0).mtr.on = s.dev.mtr.on := rfl
    dsimp only
    rw [hon]
    cases s.dev.mtr.on with
    | false => exact ⟨hbit, nofun, fun _ => rfl⟩
    | true =>
      refine ⟨(Device.bit_of_rd_eq (Device.meterSave_rd _ (by decide)) 0).trans hbit, fun _ => ⟨rfl, ?_⟩, nofun⟩
      exact Device.meterSave_time _

end Sys2Proof.Machine
end
